-- ==== Sys2Proof/Word.lean ====
section
/-! DEFINITION. The two bit-vector types of the part: the byte that crosses the link and fills the flash array, and the
32-bit counters E and N, which wrap (R140, R145). Every other quantity of the manual is an integer within a stated range
("All quantities are integers", 00_scope) and is a `Nat` or an `Int`. -/

namespace Sys2Proof

/-- One byte of a frame (R196) or of the flash array (chapter 10). -/
abbrev Byte := BitVec 8

/-- The elapsed-seconds counter E and the generator cycle counter N go from 4,294,967,295 to 0 (R140, R145). -/
abbrev Counter32 := BitVec 32

end Sys2Proof
end

