-- ==== Sys2Proof/Machine/Bytes.lean ====
section
/-! DEFINITION. Byte layouts (R196): little-endian fields of one, two and four bytes, signed ones in two's complement, flags of
one byte, and the CRC-16 of R185. -/

namespace Sys2Proof.Machine

/-- A u8 field. -/
def u8 (n : Nat) : List Byte := [BitVec.ofNat 8 n]

/-- A u16 field, little-endian. -/
def u16 (n : Nat) : List Byte := [BitVec.ofNat 8 n, BitVec.ofNat 8 (n / 256)]

/-- A u32 field, little-endian. -/
def u32 (n : Nat) : List Byte :=
  [BitVec.ofNat 8 n, BitVec.ofNat 8 (n / 256), BitVec.ofNat 8 (n / 65536), BitVec.ofNat 8 (n / 16777216)]

/-- An i8 field in two's complement. -/
def i8 (z : Int) : List Byte := u8 (BitVec.ofInt 8 z).toNat

/-- An i16 field in two's complement, little-endian. -/
def i16 (z : Int) : List Byte := u16 (BitVec.ofInt 16 z).toNat

/-- An i32 field in two's complement, little-endian. -/
def i32 (z : Int) : List Byte := u32 (BitVec.ofInt 32 z).toNat

/-- R196: a flag takes one byte, 0 for clear and 1 for set. -/
def flagByte (b : Bool) : List Byte := [if b then 1 else 0]

/-- The u8 field at an offset; 0 past the end. -/
def u8At (body : List Byte) (i : Nat) : Nat := (body.getD i 0).toNat

/-- The u16 field at an offset. -/
def u16At (body : List Byte) (i : Nat) : Nat := u8At body i + 256 * u8At body (i + 1)

/-- The u32 field at an offset. -/
def u32At (body : List Byte) (i : Nat) : Nat := u16At body i + 65536 * u16At body (i + 2)

/-- The i8 field at an offset. -/
def i8At (body : List Byte) (i : Nat) : Int := (BitVec.ofNat 8 (u8At body i)).toInt

/-- The i16 field at an offset. -/
def i16At (body : List Byte) (i : Nat) : Int := (BitVec.ofNat 16 (u16At body i)).toInt

/-- R196: a flag byte of a command body; a value other than 0 or 1 is no flag. -/
def flagAt (body : List Byte) (i : Nat) : Option Bool :=
  match u8At body i with
  | 0 => some false
  | 1 => some true
  | _ => none

/-- One bit of the CRC-16 (R185): the register moves left, and the polynomial 0x1021 enters when a one leaves it. -/
def crcShift (crc : BitVec 16) : BitVec 16 :=
  if crc.msb then (crc <<< 1) ^^^ 0x1021#16 else crc <<< 1

/-- One byte of the CRC-16 (R185), most significant bit first. -/
def crcByte (crc : BitVec 16) (b : Byte) : BitVec 16 :=
  let r := crc ^^^ (b.zeroExtend 16 <<< 8)
  crcShift (crcShift (crcShift (crcShift (crcShift (crcShift (crcShift (crcShift r)))))))

/-- The CRC-16 of R185: polynomial 0x1021, start value 0xFFFF, not reflected, not inverted. -/
def crc16 (bytes : List Byte) : BitVec 16 := bytes.foldl crcByte 0xFFFF#16

/-- A CRC-16 stored in a record, little-endian (R198, R200). -/
def crcField (bytes : List Byte) : List Byte := u16 (crc16 bytes).toNat

/-- The nearer limit of a range for a value outside it (00_scope, R187). -/
def clampTo (lo hi n : Nat) : Nat := max lo (min hi n)

/-- The same for a signed value. -/
def clampInt (lo hi z : Int) : Int := max lo (min hi z)

/-- A count that stays at its greatest value once it reaches it. -/
def saturate (top n : Nat) : Nat := min top (n + 1)

/-- A number of bytes, padded with erased bytes (0xFF) to a length. -/
def padTo (len : Nat) (bytes : List Byte) : List Byte := bytes ++ List.replicate (len - bytes.length) 0xFF

/-- A duration in milliseconds as whole seconds rounded up (R79, R112). -/
def secondsUp (ms : Nat) : Nat := (ms + 999) / 1000

end Sys2Proof.Machine
end

