-- ==== Sys2Proof/Machine/Params.lean ====
section
/-! DEFINITION. The parameter groups of the part: their fields in command order, each field's size on the link (R196) and range,
their defaults, and the one way their values are read from a body, clamped (R187) and written to a reply or to the
configuration image (R200). -/

namespace Sys2Proof.Machine

/-- One numeric field of a parameter group: its size in bytes (R196) and its range. -/
structure Field where
  size : Nat
  lo : Nat
  hi : Nat
  deriving DecidableEq, Repr

/-- The bytes of a value in a field of a given size. -/
def fieldBytes (size n : Nat) : List Byte :=
  match size with
  | 1 => u8 n
  | 2 => u16 n
  | _ => u32 n

/-- The value at the head of a body, for a field of a given size. -/
def fieldValue (size : Nat) (body : List Byte) : Nat :=
  match size with
  | 1 => u8At body 0
  | 2 => u16At body 0
  | _ => u32At body 0

/-- How many bytes a list of fields takes (R196: the sum of its fields' sizes). -/
def fieldsSize (fs : List Field) : Nat := (fs.map Field.size).sum

/-- The values of a list of fields laid end to end in a body. -/
def decodeFields : List Field → List Byte → List Nat
  | [], _ => []
  | f :: fs, body => fieldValue f.size body :: decodeFields fs (body.drop f.size)

/-- The bytes of a list of fields laid end to end. -/
def encodeFields : List Field → List Nat → List Byte
  | f :: fs, v :: vs => fieldBytes f.size v ++ encodeFields fs vs
  | _, _ => []

/-- R187: each number outside its range is clamped to the nearer limit. -/
def clampFields : List Field → List Nat → List Nat
  | f :: fs, v :: vs => clampTo f.lo f.hi v :: clampFields fs vs
  | _, _ => []

/-- Every value lies in its field's range. -/
def fieldsInRange : List Field → List Nat → Bool
  | f :: fs, v :: vs => decide (f.lo ≤ v) && decide (v ≤ f.hi) && fieldsInRange fs vs
  | [], [] => true
  | _, _ => false

/-- The ten governor parameters, in the order of the table of section 1.6 (R19). -/
structure GovParams where
  /-- integral gain, mgu per mHz per step -/
  ki : Nat
  /-- proportional gain, gu per Hz -/
  kp : Nat
  /-- gu per step -/
  openRate : Nat
  /-- gu per step -/
  closeRate : Nat
  /-- gu per step -/
  tripRate : Nat
  /-- minimum gate, gu -/
  gMin : Nat
  /-- maximum gate, gu -/
  gMax : Nat
  /-- standing gate limit, gu -/
  standingLimit : Nat
  /-- start gate, gu -/
  gStart : Nat
  /-- full power, W -/
  pFull : Nat
  deriving DecidableEq, Repr

/-- Sizes and ranges, table of chapter 1, section 1.6. -/
def GovParams.fields : List Field :=
  [⟨1, 0, 100⟩, ⟨2, 0, 20000⟩, ⟨2, 1, 500⟩, ⟨2, 1, 1000⟩, ⟨2, 1, 2000⟩, ⟨2, 0, 2000⟩, ⟨2, 1000, 10000⟩, ⟨2, 1000, 10000⟩, ⟨2, 0, 5000⟩, ⟨2, 1000, 60000⟩]

/-- The defaults of chapter 1, section 1.6. -/
def GovParams.default : GovParams where
  ki := 5
  kp := 2000
  openRate := 50
  closeRate := 100
  tripRate := 1000
  gMin := 500
  gMax := 10000
  standingLimit := 4000
  gStart := 3000
  pFull := 24000

/-- The values in the order of the table. -/
def GovParams.toList (p : GovParams) : List Nat :=
  [p.ki, p.kp, p.openRate, p.closeRate, p.tripRate, p.gMin, p.gMax, p.standingLimit, p.gStart, p.pFull]

/-- The group with the values of a list in the order of the table; a list of another length gives the defaults. -/
def GovParams.ofList : List Nat → GovParams
  | [v0, v1, v2, v3, v4, v5, v6, v7, v8, v9] =>
    { ki := v0, kp := v1, openRate := v2, closeRate := v3, tripRate := v4, gMin := v5, gMax := v6, standingLimit := v7, gStart := v8, pFull := v9 }
  | _ => GovParams.default

/-- The eight level parameters, in the order of the table of section 3.3 (R46). -/
structure LevelParams where
  /-- POND scale low, mm at raw 0 -/
  pondLow : Nat
  /-- POND scale high, mm at raw 4095 -/
  pondHigh : Nat
  /-- FOREBAY scale low, mm at raw 0 -/
  forebayLow : Nat
  /-- FOREBAY scale high, mm at raw 4095 -/
  forebayHigh : Nat
  /-- full-gate level, mm -/
  lLow : Nat
  /-- closed-gate level, mm -/
  lMin : Nat
  /-- drive-pause level, mm -/
  lPause : Nat
  /-- mm -/
  rackThreshold : Nat
  deriving DecidableEq, Repr

/-- Sizes and ranges, table of section 3.3. -/
def LevelParams.fields : List Field :=
  [⟨2, 0, 10000⟩, ⟨2, 0, 10000⟩, ⟨2, 0, 10000⟩, ⟨2, 0, 10000⟩, ⟨2, 1, 10000⟩, ⟨2, 0, 9999⟩, ⟨2, 0, 9900⟩, ⟨2, 10, 2000⟩]

/-- The defaults of section 3.3. -/
def LevelParams.default : LevelParams where
  pondLow := 0
  pondHigh := 4095
  forebayLow := 0
  forebayHigh := 4095
  lLow := 1200
  lMin := 800
  lPause := 1000
  rackThreshold := 150

/-- The values in the order of the table. -/
def LevelParams.toList (p : LevelParams) : List Nat :=
  [p.pondLow, p.pondHigh, p.forebayLow, p.forebayHigh, p.lLow, p.lMin, p.lPause, p.rackThreshold]

/-- The group with the values of a list in the order of the table; a list of another length gives the defaults. -/
def LevelParams.ofList : List Nat → LevelParams
  | [v0, v1, v2, v3, v4, v5, v6, v7] =>
    { pondLow := v0, pondHigh := v1, forebayLow := v2, forebayHigh := v3, lLow := v4, lMin := v5, lPause := v6, rackThreshold := v7 }
  | _ => LevelParams.default

/-- The three dispatch parameters (R77). -/
structure DispatchParams where
  /-- W -/
  reserve : Nat
  /-- s -/
  spacing : Nat
  /-- shortfall grace, s -/
  grace : Nat
  deriving DecidableEq, Repr

/-- Sizes and ranges, table of section 4.8. -/
def DispatchParams.fields : List Field :=
  [⟨2, 0, 10000⟩, ⟨1, 0, 30⟩, ⟨1, 1, 60⟩]

/-- The defaults of section 4.8. -/
def DispatchParams.default : DispatchParams where
  reserve := 1500
  spacing := 2
  grace := 5

/-- The values in the order of the table. -/
def DispatchParams.toList (p : DispatchParams) : List Nat :=
  [p.reserve, p.spacing, p.grace]

/-- The group with the values of a list in the order of the table; a list of another length gives the defaults. -/
def DispatchParams.ofList : List Nat → DispatchParams
  | [v0, v1, v2] =>
    { reserve := v0, spacing := v1, grace := v2 }
  | _ => DispatchParams.default

/-- The four rake parameters (R113). -/
structure RakeParams where
  /-- min -/
  interval : Nat
  /-- min -/
  grace : Nat
  /-- s -/
  runTime : Nat
  /-- W -/
  booking : Nat
  deriving DecidableEq, Repr

/-- Sizes and ranges, table of chapter 6. -/
def RakeParams.fields : List Field :=
  [⟨2, 10, 720⟩, ⟨1, 1, 120⟩, ⟨2, 30, 600⟩, ⟨2, 100, 5000⟩]

/-- The defaults of chapter 6. -/
def RakeParams.default : RakeParams where
  interval := 240
  grace := 30
  runTime := 120
  booking := 800

/-- The values in the order of the table. -/
def RakeParams.toList (p : RakeParams) : List Nat :=
  [p.interval, p.grace, p.runTime, p.booking]

/-- The group with the values of a list in the order of the table; a list of another length gives the defaults. -/
def RakeParams.ofList : List Nat → RakeParams
  | [v0, v1, v2, v3] =>
    { interval := v0, grace := v1, runTime := v2, booking := v3 }
  | _ => RakeParams.default

/-- The ten parameters of SET_SHEDDING: the three stages, restoration, and the feed hold (R135). -/
structure SheddingParams where
  /-- mHz -/
  threshold1 : Nat
  /-- ms -/
  delay1 : Nat
  /-- mHz -/
  threshold2 : Nat
  /-- ms -/
  delay2 : Nat
  /-- mHz -/
  threshold3 : Nat
  /-- ms -/
  delay3 : Nat
  /-- mHz -/
  restoreThreshold : Nat
  /-- ms -/
  restoreDelay : Nat
  /-- mHz -/
  holdThreshold : Nat
  /-- mHz -/
  holdRelease : Nat
  deriving DecidableEq, Repr

/-- Sizes and ranges, table of section 7.8. -/
def SheddingParams.fields : List Field :=
  [⟨4, 45000, 50000⟩, ⟨2, 0, 10000⟩, ⟨4, 45000, 50000⟩, ⟨2, 0, 10000⟩, ⟨4, 45000, 50000⟩, ⟨2, 0, 10000⟩, ⟨4, 45000, 50500⟩, ⟨2, 0, 60000⟩, ⟨4, 45000, 50000⟩, ⟨4, 45000, 50500⟩]

/-- The defaults of section 7.8. -/
def SheddingParams.default : SheddingParams where
  threshold1 := 49000
  delay1 := 2000
  threshold2 := 48500
  delay2 := 500
  threshold3 := 47500
  delay3 := 0
  restoreThreshold := 49800
  restoreDelay := 5000
  holdThreshold := 49500
  holdRelease := 49700

/-- The values in the order of the table. -/
def SheddingParams.toList (p : SheddingParams) : List Nat :=
  [p.threshold1, p.delay1, p.threshold2, p.delay2, p.threshold3, p.delay3, p.restoreThreshold, p.restoreDelay, p.holdThreshold, p.holdRelease]

/-- The group with the values of a list in the order of the table; a list of another length gives the defaults. -/
def SheddingParams.ofList : List Nat → SheddingParams
  | [v0, v1, v2, v3, v4, v5, v6, v7, v8, v9] =>
    { threshold1 := v0, delay1 := v1, threshold2 := v2, delay2 := v3, threshold3 := v4, delay3 := v5, restoreThreshold := v6, restoreDelay := v7, holdThreshold := v8, holdRelease := v9 }
  | _ => SheddingParams.default

/-- The three correction parameters (R149). -/
structure CorrectionParams where
  /-- correction offset, mHz -/
  off : Nat
  /-- ms -/
  deadband : Nat
  /-- ms -/
  limit : Nat
  deriving DecidableEq, Repr

/-- Sizes and ranges, table of section 8.5. -/
def CorrectionParams.fields : List Field :=
  [⟨1, 5, 50⟩, ⟨2, 100, 10000⟩, ⟨4, 20000, 3600000⟩]

/-- The defaults of section 8.5. -/
def CorrectionParams.default : CorrectionParams where
  off := 20
  deadband := 2000
  limit := 600000

/-- The values in the order of the table. -/
def CorrectionParams.toList (p : CorrectionParams) : List Nat :=
  [p.off, p.deadband, p.limit]

/-- The group with the values of a list in the order of the table; a list of another length gives the defaults. -/
def CorrectionParams.ofList : List Nat → CorrectionParams
  | [v0, v1, v2] =>
    { off := v0, deadband := v1, limit := v2 }
  | _ => CorrectionParams.default

/-- The nine profile fields of a drive slot (R84); all zero until a profile is set. -/
structure DriveProfile where
  /-- W -/
  booking : Nat
  /-- ms -/
  lead : Nat
  /-- ms -/
  spinUp : Nat
  /-- ms -/
  coast : Nat
  /-- s -/
  cycle : Nat
  /-- s -/
  strokeTimeout : Nat
  /-- s -/
  waitLimit : Nat
  /-- 0 exempts -/
  shedStage : Nat
  /-- class -/
  cls : Nat
  deriving DecidableEq, Repr

/-- Sizes and ranges, table of section 5.2. -/
def DriveProfile.fields : List Field :=
  [⟨2, 100, 30000⟩, ⟨2, 0, 5000⟩, ⟨2, 500, 30000⟩, ⟨2, 1000, 60000⟩, ⟨2, 0, 600⟩, ⟨2, 5, 600⟩, ⟨2, 0, 3600⟩, ⟨1, 0, 3⟩, ⟨1, 1, 3⟩]

/-- R84: all zero after a main-domain reset. -/
def DriveProfile.zero : DriveProfile where
  booking := 0
  lead := 0
  spinUp := 0
  coast := 0
  cycle := 0
  strokeTimeout := 0
  waitLimit := 0
  shedStage := 0
  cls := 0

/-- The values in the order of the table. -/
def DriveProfile.toList (p : DriveProfile) : List Nat :=
  [p.booking, p.lead, p.spinUp, p.coast, p.cycle, p.strokeTimeout, p.waitLimit, p.shedStage, p.cls]

/-- The group with the values of a list in the order of the table; a list of another length gives the zero profile. -/
def DriveProfile.ofList : List Nat → DriveProfile
  | [v0, v1, v2, v3, v4, v5, v6, v7, v8] =>
    { booking := v0, lead := v1, spinUp := v2, coast := v3, cycle := v4, strokeTimeout := v5, waitLimit := v6, shedStage := v7, cls := v8 }
  | _ => DriveProfile.zero

/-- The eight profile fields of a feeder (R118, section 7.2): seven numbers and the auto-connect flag. -/
structure FeederProfile where
  /-- W -/
  booking : Nat
  /-- cap trip level, W -/
  cap : Nat
  /-- s -/
  capTime : Nat
  /-- minimum off time, s -/
  minOff : Nat
  /-- 0 exempts -/
  shedStage : Nat
  /-- class -/
  cls : Nat
  /-- s -/
  waitLimit : Nat
  /-- enqueue at entry to LIVE -/
  auto : Bool
  deriving DecidableEq, Repr

/-- Sizes and ranges of the seven numbers, section 7.2. -/
def FeederProfile.fields : List Field :=
  [⟨2, 0, 20000⟩, ⟨2, 100, 30000⟩, ⟨1, 1, 60⟩, ⟨2, 0, 600⟩, ⟨1, 0, 3⟩, ⟨1, 1, 3⟩, ⟨2, 0, 3600⟩]

/-- The defaults of section 7.2. -/
def FeederProfile.default : FeederProfile where
  booking := 0
  cap := 30000
  capTime := 60
  minOff := 10
  shedStage := 3
  cls := 2
  waitLimit := 0
  auto := false

/-- The seven numbers in the order of the table. -/
def FeederProfile.toList (p : FeederProfile) : List Nat :=
  [p.booking, p.cap, p.capTime, p.minOff, p.shedStage, p.cls, p.waitLimit]

/-- The profile with the seven numbers of a list and an auto-connect flag; a list of another length gives the defaults. -/
def FeederProfile.ofList (auto : Bool) : List Nat → FeederProfile
  | [v0, v1, v2, v3, v4, v5, v6] =>
    { booking := v0, cap := v1, capTime := v2, minOff := v3, shedStage := v4, cls := v5, waitLimit := v6, auto := auto }
  | _ => FeederProfile.default

/-- R118: the bytes of a profile, the seven numbers and the flag. -/
def FeederProfile.bytes (p : FeederProfile) : List Byte :=
  encodeFields FeederProfile.fields p.toList ++ flagByte p.auto

end Sys2Proof.Machine
end

