-- ==== Sys2Proof/Config.lean ====
section
/-! DEFINITION. What the manual fixes for every part (codes, durations), and the FREE VALUES: constants without a body, where
the manual leaves a value or an order open. Nothing can be proved of a free value, so a claim holds whatever it is. -/

namespace Sys2Proof

/-- The days of the week, Monday to Sunday (R137). -/
inductive Weekday where
  | monday | tuesday | wednesday | thursday | friday | saturday | sunday
  deriving DecidableEq, Repr

/-- R197: HELLO carries the vendor code 0x0314. -/
def Config.vendorCode : Nat := 0x0314
/-- R197: HELLO carries the part code 0x0418. -/
def Config.partCode : Nat := 0x0418
/-- R197: HELLO carries the revision 0x01. -/
def Config.revision : Nat := 0x01

/-- R4: the window timeout timer runs for 200 ms. -/
def Config.windowTimeout : Nat := 200
/-- Section 2.1: the start timer runs for 60 s. -/
def Config.startTime : Nat := 60000
/-- Section 2.1: the settle timer runs for 3000 ms. -/
def Config.settleTime : Nat := 3000
/-- Section 2.1: the underspeed timer runs for 3000 ms. -/
def Config.underspeedTime : Nat := 3000
/-- Section 2.1: the run-down timer runs for 180 s. -/
def Config.runDownTime : Nat := 180000
/-- R41, R52: the two sample timers run for 100 ms each. -/
def Config.samplePeriod : Nat := 100
/-- R184: the gap timer runs for 10 ms. -/
def Config.gapTime : Nat := 10
/-- R165: a sector erase starts with a remaining erase time of 400 ms. -/
def Config.eraseTime : Nat := 400
/-- R167: an erase may be suspended once it has progressed 50 ms since it last started or resumed. -/
def Config.suspendAfter : Nat := 50
/-- R191: a character takes 260.4 microseconds; the model counts transmission in tenths of a microsecond. -/
def Config.characterTime : Nat := 2604

/-- FREE VALUE (log 3). R5, R13, R30 let the four blocks that a control step reaches act in any order; the argument is
`State.choices`, which advances at each use. The answer numbers one of the 24 orders. -/
opaque Config.controlOrder : Nat → Fin 24

/-- FREE VALUE (log 3). R52: inputs detected together are taken in either order. -/
opaque Config.watchOrder : Nat → Fin 24

/-- FREE VALUE (log 3). R27: at entry to LIVE the rake's request may be taken before or after the feeders'. -/
opaque Config.rakeFirst : Nat → Bool

/-- FREE VALUE (log 4). What a byte of the flash array holds after a program or an erase that was cut off by a reset or
failed verification: first argument `State.choices`, second the byte's address. -/
opaque Config.arrayNoise : Nat → Nat → Byte

/-- FREE VALUE (log 4). Where, among 4096 bytes, an erase that was cut off or failed is seen not to have erased (R165, R181)
or, taken within a page, where a failed program is seen not to hold what was written (R165). -/
opaque Config.spoiledPlace : Nat → Fin 4096

/-- FREE VALUE (log 4). By how much, less one, the byte at that place differs from what it should be; the byte itself, where
it should be erased, is this value, which is never 0xFF. -/
opaque Config.spoiledBy : Nat → Fin 255

/-- FREE VALUE (log 11). R180 hands the blocks the values of an image whose CRC matches; what a value outside its range, or a
code outside its table, puts in force is not stated. The arguments are `State.choices` and the number of bytes from the
field to the end of the image. -/
opaque Config.strayValue : Nat → Nat → Nat

/-- FREE VALUE (log 5). R144 sends the weekday in READ_CLOCK's reply; no table of the manual gives its code. -/
opaque Config.weekdayCode : Weekday → Byte

/-- FREE VALUE (log 6). R176 drops a SAVE whose sequences cannot be given and does not state the reply's result code. -/
opaque Config.saveExhausted : Byte

/-- FREE VALUE (log 6). R179 sends the next sequence number as a u32; once the sequences are exhausted the next one
does not fit, and the manual does not state what is sent. -/
opaque Config.exhaustedSequence : Nat

end Sys2Proof
end

