-- ==== Sys2Proof/Syntax.lean ====
section
/-! DEFINITION. The commands that reach the part: one constructor for each row of spec/opcode_table.json. A row is an event at a
pin, the expiry of a timer, a completion of the flash array, a character on the link, a reset, or a well-formed command
frame on the link. A timer that belongs to one of several owners carries that owner; a command frame carries its tag and
its body as they stand in the frame (R196). -/

namespace Sys2Proof

/-- A party that can claim capacity (00_scope): a drive slot D0 to D3, a feeder F0 to F11, or the rake K. -/
inductive Owner where
  | drive (slot : Fin 4)
  | feeder (feeder : Fin 12)
  | rake
  deriving DecidableEq, Repr

/-- The command kinds of the table of R197, one for each named command. -/
inductive CommandKind where
  | hello | status | reset | start | stop | clearTrip | readTrip | setGovernor | standingOn | standingOff | setAlarm
  | setLevels | setWatch | ackWatch | readLevels | setDispatch | listTable | listQueue | cancel | setDrive | engage
  | cut | halt | release | clearDrive | setRake | rakeNow | setFeeder | setShedding | connect | disconnect
  | lockFeeder | unlockFeeder | setClock | readClock | setTrim | shiftHour | zeroTimeError | setCorrection
  | readMeter | setTariff | save | readJournal | storeConfig | unprotect | writeCommission | lockCommission
  | readCommission
  deriving DecidableEq, Repr

/-- The commands, one constructor for each row of the opcode table. -/
inductive Instr where
  /-- A tooth edge (R1); `ticks` is the number of 1 MHz timebase ticks since the edge before it (log 7). -/
  | toothEdge (ticks : Nat)
  | windowTimeout
  | startTimerExpiry
  | settleTimerExpiry
  | underspeedTimerExpiry
  | runDownTimerExpiry
  /-- A level sample period (R41) with the raw values of the two probes. -/
  | levelSamplePeriod (pond forebay : BitVec 12)
  | watchSamplePeriod
  /-- A transition on a watch input's wire, to high or to low (R51). -/
  | watchEdge (input : Fin 4) (high : Bool)
  | spacingTimerExpiry
  | shortfallTimerExpiry
  | waitTimerExpiry (owner : Owner)
  | leadTimerExpiry (slot : Fin 4)
  | spinUpTimerExpiry (slot : Fin 4)
  | strokeEnd (slot : Fin 4)
  | strokeTimerExpiry (slot : Fin 4)
  | coastTimerExpiry (slot : Fin 4)
  | cycleTimerExpiry (slot : Fin 4)
  | dueTimerExpiry
  | graceTimerExpiry
  | runTimerExpiry
  | minimumOffTimerExpiry (feeder : Fin 12)
  /-- Stage 1, 2 or 3 is `stage` 0, 1 or 2. -/
  | stageTimerExpiry (stage : Fin 3)
  | restoreTimerExpiry
  /-- A calendar second (R140) with the raw mean products Q_f that the metering front end delivers (R153). -/
  | calendarSecond (products : Vector (BitVec 24) 12)
  | trimWindowStart
  | generatorCrossing
  | loadCompletion
  | scanCompletion
  /-- A page program ends; `passed` is the outcome of the array's verification (R165). -/
  | programCompletion (passed : Bool)
  /-- A sector erase ends; `passed` is the outcome of the array's verification (R165). -/
  | eraseCompletion (passed : Bool)
  | readCompletion
  | eraseSuspension
  | suspendLatencyEnd
  /-- A character received on the link, with or without a framing error (R183). -/
  | characterReceived (character : Byte) (framingError : Bool)
  | gapTimerExpiry
  | transmitCompletion
  /-- The main domain starts; `cellFailed` says that the backup cell failed while it was unpowered (R151). -/
  | powerOnReset (cellFailed : Bool)
  | resetLine
  | unknownCommand (kind tag : Byte) (body : List Byte)
  | hello (tag : Byte) (body : List Byte)
  | status (tag : Byte) (body : List Byte)
  | reset (tag : Byte) (body : List Byte)
  | start (tag : Byte) (body : List Byte)
  | stop (tag : Byte) (body : List Byte)
  | clearTrip (tag : Byte) (body : List Byte)
  | readTrip (tag : Byte) (body : List Byte)
  | setGovernor (tag : Byte) (body : List Byte)
  | standingOn (tag : Byte) (body : List Byte)
  | standingOff (tag : Byte) (body : List Byte)
  | setAlarm (tag : Byte) (body : List Byte)
  | setLevels (tag : Byte) (body : List Byte)
  | setWatch (tag : Byte) (body : List Byte)
  | ackWatch (tag : Byte) (body : List Byte)
  | readLevels (tag : Byte) (body : List Byte)
  | setDispatch (tag : Byte) (body : List Byte)
  | listTable (tag : Byte) (body : List Byte)
  | listQueue (tag : Byte) (body : List Byte)
  | cancel (tag : Byte) (body : List Byte)
  | setDrive (tag : Byte) (body : List Byte)
  | engage (tag : Byte) (body : List Byte)
  | cut (tag : Byte) (body : List Byte)
  | halt (tag : Byte) (body : List Byte)
  | release (tag : Byte) (body : List Byte)
  | clearDrive (tag : Byte) (body : List Byte)
  | setRake (tag : Byte) (body : List Byte)
  | rakeNow (tag : Byte) (body : List Byte)
  | setFeeder (tag : Byte) (body : List Byte)
  | setShedding (tag : Byte) (body : List Byte)
  | connect (tag : Byte) (body : List Byte)
  | disconnect (tag : Byte) (body : List Byte)
  | lockFeeder (tag : Byte) (body : List Byte)
  | unlockFeeder (tag : Byte) (body : List Byte)
  | setClock (tag : Byte) (body : List Byte)
  | readClock (tag : Byte) (body : List Byte)
  | setTrim (tag : Byte) (body : List Byte)
  | shiftHour (tag : Byte) (body : List Byte)
  | zeroTimeError (tag : Byte) (body : List Byte)
  | setCorrection (tag : Byte) (body : List Byte)
  | readMeter (tag : Byte) (body : List Byte)
  | setTariff (tag : Byte) (body : List Byte)
  | save (tag : Byte) (body : List Byte)
  | readJournal (tag : Byte) (body : List Byte)
  | storeConfig (tag : Byte) (body : List Byte)
  | unprotect (tag : Byte) (body : List Byte)
  | writeCommission (tag : Byte) (body : List Byte)
  | lockCommission (tag : Byte) (body : List Byte)
  | readCommission (tag : Byte) (body : List Byte)
  | mainDomainPowerLoss
  deriving DecidableEq, Repr

end Sys2Proof
end

