-- ==== Sys2Proof/Machine/Types.lean ====
section
/-! DEFINITION. The types of the state: the named cases of R197, the reports of R199, the entries of the two shared collections,
and one structure for each of the thirteen blocks (00_scope, the block table). -/

namespace Sys2Proof.Machine

/-- A timer: `none` while it is stopped, otherwise the time it has left, in ms (log 8). -/
abbrev Timer := Option Nat

/-- A window of the SMU is awaited or being timed (R1). -/
inductive WindowState where
  | waiting | timing
  deriving DecidableEq, Repr

/-- The station state (section 2.1). -/
inductive StationState where
  | stopped | starting | runUp | live | stopping | tripped
  deriving DecidableEq, Repr

/-- The cause a STATION report carries (R23, R199). -/
inductive StationCause where
  | start | speed | settled | hostStop | watchStop | runDown | trip | clear | standingOn | standingOff | ready
  deriving DecidableEq, Repr

/-- The cause of a trip (R32); a watch trip names its input. -/
inductive TripCause where
  | overspeed | underspeed | noSpeed | watch (input : Fin 4)
  deriving DecidableEq, Repr

/-- The alarm relay's source (R38). -/
inductive AlarmSource where
  | off | trip | watch | shed | store
  deriving DecidableEq, Repr

/-- The mode of a watch input (R49). -/
inductive WatchMode where
  | disabled | edgeRising | edgeFalling | levelHigh | levelLow
  deriving DecidableEq, Repr

/-- The action of a watch input (R49). -/
inductive WatchAction where
  | report | rake | drivesOut | stop | trip
  deriving DecidableEq, Repr

/-- The event of a LEVEL report (R199). -/
inductive LevelEvent where
  | faultEnter | faultLeave | rackHigh | rackNormal | pauseSet | pauseClear
  deriving DecidableEq, Repr

/-- The two level channels. -/
inductive Channel where
  | pond | forebay
  deriving DecidableEq, Repr

/-- The phase of an Allocation Table entry (R58). -/
inductive Phase where
  | lead | active
  deriving DecidableEq, Repr

/-- The origin of a queue entry (R59). -/
inductive Origin where
  | host | restore
  deriving DecidableEq, Repr

/-- The cause of an EXPIRED report (R68). -/
inductive ExpiredCause where
  | wait | cancel | stop | trip | mode | shed | watch
  deriving DecidableEq, Repr

/-- The state of a drive slot (section 5.1). -/
inductive SlotState where
  | idle | queued | lead | clutching | ready | cutting | held | coasting | fault
  deriving DecidableEq, Repr

/-- The cause of a DRIVE report, in the order of R199. -/
inductive DriveCause where
  | spunUp | cut | cutDone | done | hold | resume | host | jam | clear | coasted
  | shed | shortfall | stop | trip | watch | rake
  deriving DecidableEq, Repr

/-- The event of a STROKE report. -/
inductive StrokeEvent where
  | completed | aborted
  deriving DecidableEq, Repr

/-- The rake state (chapter 6). -/
inductive RakeState where
  | idle | due | forced | running
  deriving DecidableEq, Repr

/-- The cause of a RAKE report (R105). -/
inductive RakeCause where
  | interval | rack | watch | host | grace | done | stop | trip
  deriving DecidableEq, Repr

/-- The state of a feeder (section 7.1). -/
inductive FeederState where
  | off | queued | on | shed | capped | locked
  deriving DecidableEq, Repr

/-- The cause of a SHED report of event FEEDER (R116); stage 1, 2, 3 is 0, 1, 2. -/
inductive ShedCause where
  | stage (k : Fin 3) | shortfall
  deriving DecidableEq, Repr

/-- The state of a stage record (R128). -/
inductive StageState where
  | armed | timing | fired
  deriving DecidableEq, Repr

/-- The correction state (R148). -/
inductive CorrectionState where
  | inactive | slow | fast
  deriving DecidableEq, Repr

/-- The cause of the end of a correction (R147, R148, R199). -/
inductive EndCause where
  | zero | station | shed | range | zeroed
  deriving DecidableEq, Repr

/-- What triggers a checkpoint (R175, R176). -/
inductive Trigger where
  | hour | stop | save
  deriving DecidableEq, Repr

/-- Why a checkpoint trigger is skipped (R176). -/
inductive SkipCause where
  | fault | pending | startup
  deriving DecidableEq, Repr

/-- The event of a CHECKPOINT report (R199). -/
inductive CheckpointEvent where
  | written | failed | skipped (cause : SkipCause)
  deriving DecidableEq, Repr

/-- The operation a STORE report names (R169). -/
inductive StoreOp where
  | config | tariff | journalPage | eraseAhead
  deriving DecidableEq, Repr

/-- The reports of R199, each with the values its body holds, as they stand when it is posted (R190). -/
inductive Report where
  | station (new prev : StationState) (standing : Bool) (cause : StationCause)
  | grant (owner : Owner) (booking cls : Nat) (origin : Origin) (grantTime : Counter32) (a c count : Nat)
  | expired (owner : Owner) (cls : Nat) (origin : Origin) (cause : ExpiredCause)
  | drive (slot : Fin 4) (new prev : SlotState) (cause : DriveCause) (remaining strokes : Nat)
  | stroke (slot : Fin 4) (event : StrokeEvent) (strokes remaining : Nat)
  | stageFired (stage : Fin 3) (f : Nat)
  | shedFeeder (feeder : Fin 12) (prev : FeederState) (cause : ShedCause) (shedCount : Nat)
  | restore (feeder : Fin 12) (cls booking : Nat)
  | cap (feeder : Fin 12) (power cap capTime capTrips : Nat)
  | watch (input : Fin 4) (detected : Bool) (mode : WatchMode) (action : WatchAction) (level : Bool)
  | level (event : LevelEvent) (channel : Option Channel) (raw pondMean forebayMean rackLoss : Nat)
  | trip (cause : TripCause) (captured : Bool)
  | rake (new prev : RakeState) (cause : RakeCause) (count : Nat) (graceSpent : Bool)
  | correctionStart (direction : CorrectionState) (teMs : Int) (c : Int)
  | correctionEnd (direction : CorrectionState) (cause : EndCause) (teMs : Int) (c : Int)
  | checkpoint (event : CheckpointEvent) (trigger : Trigger) (firstSequence : Nat) (place : Option (Fin 224))
  | store (op : StoreOp) (done : Bool) (sector : Fin 16) (page : Option (Fin 16)) (fault : Bool)
  deriving DecidableEq, Repr

/-- A frame of the link without its sync, length and CRC (R196). -/
structure Frame where
  kind : Byte
  tag : Byte
  body : List Byte
  deriving DecidableEq, Repr

/-- Speed Measurement Unit (R1, R4). -/
structure SpeedUnit where
  window : WindowState
  toothCount : Nat
  /-- T, the timebase ticks from the edge that started the window to the last edge (log 7). -/
  ticks : Nat
  /-- The last frequency, in mHz. -/
  lastFreq : Nat
  timeout : Timer
  deriving DecidableEq, Repr

/-- Gate Controller (chapter 1). -/
structure GateController where
  /-- I, in mgu. -/
  integrator : Int
  /-- G_out, in gu. -/
  gateOut : Nat
  /-- G_ff as the Level Unit last published it; 0 after a reset (R21). -/
  gFF : Nat
  /-- G_lim as last computed (R8). -/
  gLim : Nat
  /-- C as last computed (R9). -/
  capacity : Nat
  /-- The feed-forward list, in order of grant: slot and amount in mgu (R16, R18). -/
  feedForward : List (Fin 4 × Nat)
  params : GovParams
  deriving DecidableEq, Repr

/-- The trip capture's record (R33). -/
structure TripRecord where
  cause : TripCause
  /-- Calendar seconds since 2000-01-01 00:00:00 (R196, R200). -/
  time : Nat
  freq : Nat
  gateOut : Nat
  bookings : Nat
  entries : Nat
  overflow : Bool
  deriving DecidableEq, Repr

/-- Station Sequencer (R23). -/
structure Sequencer where
  station : StationState
  standing : Bool
  startTimer : Timer
  settleTimer : Timer
  underspeedTimer : Timer
  runDownTimer : Timer
  runDownMark : Bool
  capture : Option TripRecord
  alarmSource : AlarmSource
  alarmInverted : Bool
  /-- The commanded position of the field contactor: closed. -/
  fieldClosed : Bool
  /-- The commanded position of the alarm relay: energised. -/
  alarmRelay : Bool
  deriving DecidableEq, Repr

/-- One level channel (R41, R42). -/
structure LevelChannel where
  /-- The accepted raw samples, oldest first: eight of them, or none while the history is unfilled. -/
  samples : List Nat
  fault : Bool
  lastRaw : Nat
  deriving DecidableEq, Repr

/-- Level Unit (chapter 3). -/
structure LevelUnit where
  pond : LevelChannel
  forebay : LevelChannel
  rackLoss : Nat
  rackHigh : Bool
  drivePause : Bool
  /-- The G_ff last computed and published, `none` before the first since a reset (R43, R48). -/
  gFF : Option Nat
  /-- The copy of G_max last handed over by the Gate Controller (R43, R48). -/
  gMaxCopy : Nat
  params : LevelParams
  sampleTimer : Timer
  deriving DecidableEq, Repr

/-- The settings of one watch input (R49). -/
structure WatchSetting where
  mode : WatchMode
  filterCount : Nat
  action : WatchAction
  deriving DecidableEq, Repr

/-- One watch input (R49). -/
structure WatchInput where
  setting : WatchSetting
  latched : Bool
  counter : Nat
  deriving DecidableEq, Repr

/-- Watch Unit (chapter 3). `pins` are the present levels of the four wires, true for high; no reset touches them. -/
structure WatchUnit where
  inputs : Vector WatchInput 4
  pins : Vector Bool 4
  sampleTimer : Timer
  deriving DecidableEq, Repr

/-- An entry of the Allocation Table (R56). -/
structure TableEntry where
  owner : Owner
  booking : Nat
  grantTime : Counter32
  phase : Phase
  deriving DecidableEq, Repr

/-- An entry of the Standing Request Queue (R59) with its wait timer (R60). -/
structure QueueEntry where
  owner : Owner
  cls : Nat
  booking : Nat
  sequence : Nat
  waitLimit : Nat
  waitTimer : Timer
  origin : Origin
  deriving DecidableEq, Repr

/-- Dispatch Arbiter (chapter 4). -/
structure Arbiter where
  /-- The Allocation Table, oldest grant first. -/
  table : List TableEntry
  /-- The Standing Request Queue, head first. -/
  queue : List QueueEntry
  /-- The arrival sequence counter. -/
  sequence : Nat
  /-- The capacity last published by the Gate Controller. -/
  capacity : Nat
  spacingTimer : Timer
  shortfallTimer : Timer
  params : DispatchParams
  deriving DecidableEq, Repr

/-- A drive slot (R81). -/
structure Slot where
  state : SlotState
  present : Bool
  profile : DriveProfile
  remaining : Nat
  releaseFlag : Bool
  strokes : Nat
  rakeHalt : Bool
  leadTimer : Timer
  spinUpTimer : Timer
  /-- Counts down in CUTTING alone; in HELD it keeps its time left (R95). -/
  strokeTimer : Timer
  coastTimer : Timer
  cycleTimer : Timer
  deriving DecidableEq, Repr

/-- Drive Scheduler (chapter 5). -/
structure DriveScheduler where
  slots : Vector Slot 4
  feedHold : Bool
  deriving DecidableEq, Repr

/-- Rake Unit (R105). -/
structure RakeUnit where
  state : RakeState
  params : RakeParams
  dueTimer : Timer
  graceTimer : Timer
  runTimer : Timer
  graceSpent : Bool
  entryHeld : Bool
  count : Nat
  deriving DecidableEq, Repr

/-- A feeder as the Feeder Unit holds it (R115). -/
structure Feeder where
  state : FeederState
  profile : FeederProfile
  minOffTimer : Timer
  capCounter : Nat
  deriving DecidableEq, Repr

/-- A stage record (R115, R128). -/
structure Stage where
  state : StageState
  timer : Timer
  deriving DecidableEq, Repr

/-- Feeder Unit (chapter 7). -/
structure FeederUnit where
  feeders : Vector Feeder 12
  stages : Vector Stage 3
  restoreTimer : Timer
  permit : Bool
  params : SheddingParams
  deriving DecidableEq, Repr

/-- The calendar (R137). -/
structure Calendar where
  year : Nat
  month : Nat
  day : Nat
  weekday : Weekday
  hour : Nat
  minute : Nat
  second : Nat
  deriving DecidableEq, Repr

/-- Calendar Unit: the calendar domain (R137). -/
structure CalendarUnit where
  calendar : Calendar
  /-- Corrected pulses since the last calendar second; from 32,768 up the second is due (log 9). -/
  subSecond : Nat
  trim : Int
  pendingTrim : Option Int
  /-- Raw pulses into the present trim window; at 1,048,576 the next window's start is due (log 9). -/
  windowPos : Nat
  /-- The MODEL's own: 125ths of a raw pulse left over from the last millisecond of idle time (log 9). -/
  pulsePhase : Nat
  /-- The MODEL's own: raw pulses not counted yet, because a second or a window start that is due has not been taken (log 9). -/
  heldPulses : Nat
  /-- The MODEL's own: held pulses that came before a SET_CLOCK, which count in the window alone (R142, log 9). -/
  windowPulses : Nat
  e : Counter32
  n : Counter32
  /-- A pending hour shift: `true` is +1, `false` is -1. -/
  pendingShift : Option Bool
  zeroRequest : Bool
  correction : CorrectionState
  teRange : Bool
  clockCold : Bool
  params : CorrectionParams
  valid : Bool
  /-- The copy of the condition that the station is LIVE. -/
  liveCopy : Bool
  /-- The copy of the condition that some feeder is in SHED. -/
  shedCopy : Bool
  deriving DecidableEq, Repr

/-- A feeder's account (R152). -/
structure Account where
  power : Nat
  residue : Nat
  wh : Vector Nat 4
  onSeconds : Nat
  shedCount : Nat
  capTrips : Nat
  dayMax : Nat
  deriving DecidableEq, Repr

/-- A tariff band: its start, a minute of the day, and its index T0 to T3 (R158). -/
structure Band where
  start : Nat
  index : Fin 4
  deriving DecidableEq, Repr

/-- Metering Unit (chapter 9). -/
structure MeteringUnit where
  accounts : Vector Account 12
  bands : List Band
  index : Fin 4
  pendingBands : Option (List Band)
  deriving DecidableEq, Repr

/-- The store state (R165). -/
inductive StoreState where
  | ready | programming | erasing | eraseSuspended | programmingInSuspend | readingInSuspend
  deriving DecidableEq, Repr

/-- The page program or page read in flight (R164). A journal page is numbered 0 to 223 in ring order: page p of sector
k is 16 * (k - 2) + p. -/
inductive Flight where
  | checkpointPage (page : Fin 224) (second : Bool)
  | configPage (second : Bool)
  | tariffPage
  | readPage (page : Fin 224)
  deriving DecidableEq, Repr

/-- The erase record (R164). -/
structure EraseRecord where
  sector : Fin 16
  remaining : Nat
  progress : Nat
  deriving DecidableEq, Repr

/-- What a checkpoint's snapshot holds of one feeder (R162). -/
structure Snapshot where
  wh : Vector Nat 4
  shedCount : Nat
  capTrips : Nat
  deriving DecidableEq, Repr

/-- The pending checkpoint buffer (R176, R177). -/
structure Checkpoint where
  trigger : Trigger
  firstSequence : Nat
  time : Nat
  cold : Bool
  snapshots : Vector Snapshot 12
  /-- How many of its two pages have been started. -/
  started : Nat
  /-- Where its first page was placed. -/
  firstPage : Option (Fin 224)
  deriving DecidableEq, Repr

/-- The configuration job (R173): its image of two pages, whether its erase has completed, and how many pages it has
started. -/
structure ConfigJob where
  image : List Byte
  erased : Bool
  started : Nat
  deriving DecidableEq, Repr

/-- The tariff job (R174). -/
structure TariffJob where
  record : List Byte
  erased : Bool
  started : Nat
  deriving DecidableEq, Repr

/-- The READ_JOURNAL in service (R179): the requested sequence, whether it reads its first page, and the records found. -/
structure ReadJob where
  from_ : Nat
  first : Bool
  records : List (List Byte)
  deriving DecidableEq, Repr

/-- An entry of the journal index (R175). -/
inductive PageEntry where
  | fresh
  | records (lowest highest : Nat)
  | spoiled
  deriving DecidableEq, Repr

/-- What the scan completion sets (R181): the journal index, the write position and the next sequence number. -/
structure Journal where
  index : Vector PageEntry 224
  writePos : Fin 224
  nextSequence : Nat
  deriving DecidableEq, Repr

/-- The commissioning block (R171, R200), of 256 bytes. -/
structure Commissioning where
  /-- The meter identity, 16 bytes. -/
  identity : List Byte
  factors : Vector Nat 12
  locked : Bool
  /-- The unused bytes, at offset 41 of the block: neither written nor returned (R200). -/
  unused : Vector Byte 215
  deriving DecidableEq, Repr

/-- The start-up: load, then journal scan, then complete (R180, R181). -/
inductive Startup where
  | loading | scanning | complete
  deriving DecidableEq, Repr

/-- Account Store (R164). -/
structure AccountStore where
  state : StoreState
  flight : Option Flight
  erase : Option EraseRecord
  /-- The waiting read request. -/
  readRequest : Option (Fin 224)
  readJob : Option ReadJob
  checkpoint : Option Checkpoint
  configJob : Option ConfigJob
  tariffJob : Option TariffJob
  /-- The waiting erases, in order of request. -/
  waitingErases : List (Fin 16)
  protect : Bool
  fault : Bool
  configDefault : Bool
  commissioning : Commissioning
  journal : Option Journal
  startup : Startup
  /-- The 64 KiB flash array: the bytes that do not read erased, addresses rising (see Machine/Flash.lean). -/
  array : List Host.Cell
  deriving DecidableEq, Repr

/-- The receive assembler's state (R183). -/
inductive RxState where
  | hunt | length | content | check
  deriving DecidableEq, Repr

/-- The transmitter (R191): idle, sending the reply in the reply slot, or sending a report; with the time left, in tenths
of a microsecond. -/
inductive Transmitter where
  | idle
  | reply (left : Nat)
  | report (report : Report) (left : Nat)
  deriving DecidableEq, Repr

/-- Station Link (chapter 11). -/
structure StationLink where
  rx : RxState
  /-- The characters of the frame being built, from its length byte on. -/
  rxFrame : List Byte
  gapTimer : Timer
  inputQueue : List Frame
  /-- The command in service. -/
  inService : Option Frame
  replySlot : Option Frame
  reports : List Report
  tx : Transmitter
  startup : Bool
  badFrames : Nat
  overruns : Nat
  lostReports : Nat
  deriving DecidableEq, Repr

end Sys2Proof.Machine
end

