-- ==== Sys2Proof/Machine/ResetValues.lean ====
section
/-! DEFINITION. The value of each block's state after a main-domain reset, as the block's chapter states it, and of the calendar
domain after a calendar cold start. -/

namespace Sys2Proof.Machine

/-- R6. -/
def smuReset : SpeedUnit :=
  { window := .waiting, toothCount := 0, ticks := 0, lastFreq := 0, timeout := some Config.windowTimeout }

/-- R21, R22: until the load completes the governor has the defaults. -/
def gcReset : GateController :=
  { integrator := 0, gateOut := 0, gFF := 0, gLim := 0, capacity := 0, feedForward := [], params := .default }

/-- R40. -/
def ssReset : Sequencer :=
  { station := .stopped, standing := false, startTimer := none, settleTimer := none, underspeedTimer := none,
    runDownTimer := none, runDownMark := false, capture := none, alarmSource := .trip, alarmInverted := false,
    fieldClosed := false, alarmRelay := false }

/-- R48. -/
def channelReset : LevelChannel := { samples := [], fault := false, lastRaw := 0 }

/-- R48. -/
def luReset : LevelUnit :=
  { pond := channelReset, forebay := channelReset, rackLoss := 0, rackHigh := false, drivePause := true, gFF := none,
    gMaxCopy := 10000, params := .default, sampleTimer := some Config.samplePeriod }

/-- R55. -/
def watchInputReset : WatchInput :=
  { setting := { mode := .disabled, filterCount := 2, action := .report }, latched := false, counter := 0 }

/-- R55; the wires stand as they stand. -/
def wuReset (pins : Vector Bool 4) : WatchUnit :=
  { inputs := Vector.replicate 4 watchInputReset, pins := pins, sampleTimer := some Config.samplePeriod }

/-- R80. -/
def daReset : Arbiter :=
  { table := [], queue := [], sequence := 0, capacity := 0, spacingTimer := none, shortfallTimer := none,
    params := .default }

/-- R84, R104. -/
def slotReset : Slot :=
  { state := .idle, present := false, profile := .zero, remaining := 0, releaseFlag := false, strokes := 0,
    rakeHalt := false, leadTimer := none, spinUpTimer := none, strokeTimer := none, coastTimer := none,
    cycleTimer := none }

/-- R104. -/
def dsReset : DriveScheduler := { slots := Vector.replicate 4 slotReset, feedHold := false }

/-- R114: the reset starts the due timer for the default interval of 240 min. -/
def rkReset : RakeUnit :=
  { state := .idle, params := .default, dueTimer := some (240 * 60000), graceTimer := none, runTimer := none,
    graceSpent := false, entryHeld := false, count := 0 }

/-- R136. -/
def feederReset : Feeder := { state := .off, profile := .default, minOffTimer := none, capCounter := 0 }

/-- R136. -/
def fuReset : FeederUnit :=
  { feeders := Vector.replicate 12 feederReset, stages := Vector.replicate 3 { state := .armed, timer := none },
    restoreTimer := none, permit := false, params := .default }

/-- R163. -/
def accountReset : Account :=
  { power := 0, residue := 0, wh := Vector.replicate 4 0, onSeconds := 0, shedCount := 0, capTrips := 0, dayMax := 0 }

/-- R163. -/
def muReset : MeteringUnit :=
  { accounts := Vector.replicate 12 accountReset, bands := [], index := 0, pendingBands := none }

/-- R182: the array and the commissioning block keep their contents. -/
def storeReset (block : Commissioning) (array : List Host.Cell) : AccountStore :=
  { state := .ready, flight := none, erase := none, readRequest := none, readJob := none, checkpoint := none,
    configJob := none, tariffJob := none, waitingErases := [], protect := true, fault := false, configDefault := false,
    commissioning := block, journal := none, startup := .loading, array := array }

/-- R195. -/
def slReset : StationLink :=
  { rx := .hunt, rxFrame := [], gapTimer := none, inputQueue := [], inService := none, replySlot := none, reports := [],
    tx := .idle, startup := true, badFrames := 0, overruns := 0, lostReports := 0 }

/-- R150: what a main-domain reset does to the calendar domain: the correction state becomes INACTIVE and the two copies
are cleared; everything else runs or waits as before. -/
def cuReset (cu : CalendarUnit) : CalendarUnit :=
  { cu with correction := .inactive, liveCopy := false, shedCopy := false }

/-- R151: the calendar domain after a cold start. -/
def cuCold : CalendarUnit :=
  { calendar := { year := 2000, month := 1, day := 1, weekday := .saturday, hour := 0, minute := 0, second := 0 },
    subSecond := 0, trim := 0, pendingTrim := none, windowPos := 0, pulsePhase := 0, heldPulses := 0,
    windowPulses := 0, e := 0, n := 0,
    pendingShift := none, zeroRequest := false, correction := .inactive, teRange := false, clockCold := true,
    params := .default, valid := true, liveCopy := false, shedCopy := false }

/-- R171, R200: the commissioning block as delivered. -/
def commissioningDelivered : Commissioning :=
  { identity := List.replicate 16 0, factors := Vector.replicate 12 0, locked := false, unused := Vector.replicate 215 0 }

end Sys2Proof.Machine
end

