-- ==== Sys2Proof/Machine/State.lean ====
section
/-! DEFINITION. The state of the whole part, plain data; the (empty) set of faults; the refusals; the state right after reset. -/

namespace Sys2Proof.Machine

/-- The state of the part: its thirteen blocks, whether the main domain has its supply (R137), and two fields of the
model's own: how many free choices have been made, and the commands that wait, first in, first out. -/
structure State where
  smu : SpeedUnit
  gc : GateController
  ss : Sequencer
  lu : LevelUnit
  wu : WatchUnit
  da : Arbiter
  ds : DriveScheduler
  rk : RakeUnit
  fu : FeederUnit
  cu : CalendarUnit
  mu : MeteringUnit
  store : AccountStore
  sl : StationLink
  /-- The main domain has its supply. -/
  powered : Bool
  /-- The MODEL's own (log 3): the argument of the next free value. -/
  choices : Nat
  /-- The MODEL's own: the commands that wait, the next one first. -/
  pending : List Instr
  deriving DecidableEq, Repr

/-- Why the part stops. The manual describes no event after which it stops: every command has an effect, so no
constructor is needed, and no step faults (safe: nothing is claimed of a machine that stopped). -/
inductive Fault where
  deriving DecidableEq, Repr

/-- Why a command has no meaning. -/
inductive Refusal where
  /-- Raised by an arm of `exec` for a row that has no meaning yet; no arm raises it now. Safe: a claim about such a
  command cannot be proved. -/
  | notModelled (mnemonic : String)
  deriving DecidableEq, Repr

/-- The part right after a power-on reset that found the validity flag clear (R151), with the array and the commissioning
block as delivered: every block as its chapter states, and nothing waiting. Log 1 and log 2 name the values no rule gives. -/
def State.reset : State :=
  { smu := smuReset, gc := gcReset, ss := ssReset, lu := luReset, wu := wuReset (Vector.replicate 4 false), da := daReset,
    ds := dsReset, rk := rkReset, fu := fuReset, cu := cuCold, mu := muReset,
    store := storeReset commissioningDelivered [], sl := slReset, powered := true, choices := 0, pending := [] }

end Sys2Proof.Machine
end

