-- ==== Sys2Proof/Machine/Ops.lean ====
section
/-! DEFINITION. The one way each block's state is updated, so that what an operation leaves alone is read off its text, and the
lists of slots, feeders and stages that operations walk over in index order. -/

namespace Sys2Proof.Machine

/-- Change the state of the block `smu` alone. -/
def State.onSmu (s : State) (g : SpeedUnit → SpeedUnit) : State := { s with smu := g s.smu }

/-- Change the state of the block `gc` alone. -/
def State.onGc (s : State) (g : GateController → GateController) : State := { s with gc := g s.gc }

/-- Change the state of the block `ss` alone. -/
def State.onSs (s : State) (g : Sequencer → Sequencer) : State := { s with ss := g s.ss }

/-- Change the state of the block `lu` alone. -/
def State.onLu (s : State) (g : LevelUnit → LevelUnit) : State := { s with lu := g s.lu }

/-- Change the state of the block `wu` alone. -/
def State.onWu (s : State) (g : WatchUnit → WatchUnit) : State := { s with wu := g s.wu }

/-- Change the state of the block `da` alone. -/
def State.onDa (s : State) (g : Arbiter → Arbiter) : State := { s with da := g s.da }

/-- Change the state of the block `ds` alone. -/
def State.onDs (s : State) (g : DriveScheduler → DriveScheduler) : State := { s with ds := g s.ds }

/-- Change the state of the block `rk` alone. -/
def State.onRk (s : State) (g : RakeUnit → RakeUnit) : State := { s with rk := g s.rk }

/-- Change the state of the block `fu` alone. -/
def State.onFu (s : State) (g : FeederUnit → FeederUnit) : State := { s with fu := g s.fu }

/-- Change the state of the block `cu` alone. -/
def State.onCu (s : State) (g : CalendarUnit → CalendarUnit) : State := { s with cu := g s.cu }

/-- Change the state of the block `mu` alone. -/
def State.onMu (s : State) (g : MeteringUnit → MeteringUnit) : State := { s with mu := g s.mu }

/-- Change the state of the block `store` alone. -/
def State.onStore (s : State) (g : AccountStore → AccountStore) : State := { s with store := g s.store }

/-- Change the state of the block `sl` alone. -/
def State.onSl (s : State) (g : StationLink → StationLink) : State := { s with sl := g s.sl }

/-- Advance the count of free choices (log 3): the next free value is another one. -/
def State.nextChoice (s : State) : State := { s with choices := s.choices + 1 }

/-- Set whether the main domain has its supply (R137). -/
def State.setPowered (s : State) (b : Bool) : State := { s with powered := b }

/-- The drive slots in index order. -/
def allSlots : List (Fin 4) := [0, 1, 2, 3]

/-- The watch inputs in index order. -/
def allInputs : List (Fin 4) := [0, 1, 2, 3]

/-- The feeders in index order. -/
def allFeeders : List (Fin 12) := [0, 1, 2, 3, 4, 5, 6, 7, 8, 9, 10, 11]

/-- The shedding stages in order. -/
def allStages : List (Fin 3) := [0, 1, 2]

/-- The slot `i`. -/
def State.slot (s : State) (i : Fin 4) : Slot := s.ds.slots[i]

/-- The feeder `i`. -/
def State.feeder (s : State) (i : Fin 12) : Feeder := s.fu.feeders[i]

/-- The stage record `k`. -/
def State.stage (s : State) (k : Fin 3) : Stage := s.fu.stages[k]

/-- The watch input `i`. -/
def State.input (s : State) (i : Fin 4) : WatchInput := s.wu.inputs[i]

/-- The account of feeder `i`. -/
def State.account (s : State) (i : Fin 12) : Account := s.mu.accounts[i]

/-- Change slot `i` alone. -/
def State.onSlot (s : State) (i : Fin 4) (g : Slot → Slot) : State :=
  s.onDs fun d => { d with slots := d.slots.set i (g d.slots[i]) }

/-- Change feeder `i` alone. -/
def State.onFeeder (s : State) (i : Fin 12) (g : Feeder → Feeder) : State :=
  s.onFu fun u => { u with feeders := u.feeders.set i (g u.feeders[i]) }

/-- Change stage record `k` alone. -/
def State.onStage (s : State) (k : Fin 3) (g : Stage → Stage) : State :=
  s.onFu fun u => { u with stages := u.stages.set k (g u.stages[k]) }

/-- Change watch input `i` alone. -/
def State.onInput (s : State) (i : Fin 4) (g : WatchInput → WatchInput) : State :=
  s.onWu fun u => { u with inputs := u.inputs.set i (g u.inputs[i]) }

/-- Change the account of feeder `i` alone. -/
def State.onAccount (s : State) (i : Fin 12) (g : Account → Account) : State :=
  s.onMu fun u => { u with accounts := u.accounts.set i (g u.accounts[i]) }

/-- Four like things, changed one by one. -/
def map4 {α : Type} (f : α → α) (v : Vector α 4) : Vector α 4 := #v[f v[0], f v[1], f v[2], f v[3]]

/-- Three like things, changed one by one. -/
def map3 {α : Type} (f : α → α) (v : Vector α 3) : Vector α 3 := #v[f v[0], f v[1], f v[2]]

/-- Twelve like things, made into twelve others one by one. -/
def map12 {α β : Type} (f : α → β) (v : Vector α 12) : Vector β 12 :=
  #v[f v[0], f v[1], f v[2], f v[3], f v[4], f v[5], f v[6], f v[7], f v[8], f v[9], f v[10], f v[11]]

/-- The 24 orders of four things; a free value of `Config` says which one an event takes (log 3). -/
def order4 {α : Type} (a b c d : α) (n : Fin 24) : List α :=
  match n.val with
  | 0 => [a, b, c, d] | 1 => [a, b, d, c] | 2 => [a, c, b, d] | 3 => [a, c, d, b] | 4 => [a, d, b, c]
  | 5 => [a, d, c, b] | 6 => [b, a, c, d] | 7 => [b, a, d, c] | 8 => [b, c, a, d] | 9 => [b, c, d, a]
  | 10 => [b, d, a, c] | 11 => [b, d, c, a] | 12 => [c, a, b, d] | 13 => [c, a, d, b] | 14 => [c, b, a, d]
  | 15 => [c, b, d, a] | 16 => [c, d, a, b] | 17 => [c, d, b, a] | 18 => [d, a, b, c] | 19 => [d, a, c, b]
  | 20 => [d, b, a, c] | 21 => [d, b, c, a] | 22 => [d, c, a, b] | _ => [d, c, b, a]

/-- Stop a timer that stands at a running time, or not: an expiry is taken only while the timer runs (R81: an expiry of a
timer that the event before it has cancelled does not happen). -/
def whenRunning (t : Timer) (s : State) (f : State → State) : State := if t.isSome then f s else s

/-- A main-domain event happens only while the main domain has its supply (R137). -/
def whenPowered (s : State) (f : State → State) : State := if s.powered then f s else s

end Sys2Proof.Machine
end

