-- ==== Sys2Proof/Machine/Operands.lean ====
section
/-! DEFINITION. The codes of R197 and R199, both ways where a command carries them, and the kind and body of every report. -/

namespace Sys2Proof.Machine

/-- R197: owner bytes are 0x00 to 0x03 for D0 to D3, 0x10 to 0x1B for F0 to F11, and 0x20 for K. -/
def ownerByte : Owner → Nat
  | .drive i => i.val
  | .feeder i => 0x10 + i.val
  | .rake => 0x20

/-- The drive slot an owner byte names. -/
def slotOfByte (n : Nat) : Option (Fin 4) := if h : n < 4 then some ⟨n, h⟩ else none

/-- The feeder an owner byte names. -/
def feederOfByte (n : Nat) : Option (Fin 12) :=
  if h : 0x10 ≤ n ∧ n < 0x1C then some ⟨n - 0x10, by omega⟩ else none

/-- The owner a byte names (R197); any other value names no owner. -/
def ownerOfByte (n : Nat) : Option Owner :=
  match slotOfByte n with
  | some i => some (.drive i)
  | none => match feederOfByte n with
    | some i => some (.feeder i)
    | none => if n = 0x20 then some .rake else none

/-- Result codes of replies (R187, R197). -/
inductive Result where
  | ok | clamped | queued | unknown | badArg | badLength | state | busy | mode | full | duplicate | notFound
  | protected_ | locked | notReady | erasing
  deriving DecidableEq, Repr

/-- R197. -/
def Result.code : Result → Byte
  | .ok => 0x00 | .clamped => 0x01 | .queued => 0x02 | .unknown => 0x10 | .badArg => 0x11 | .badLength => 0x12
  | .state => 0x13 | .busy => 0x14 | .mode => 0x15 | .full => 0x16 | .duplicate => 0x17 | .notFound => 0x18
  | .protected_ => 0x19 | .locked => 0x1A | .notReady => 0x1B | .erasing => 0x1C

/-- OK, or CLAMPED where some value was moved (R187). -/
def clampResult (asSent asTaken : List Nat) : Result := if asSent = asTaken then .ok else .clamped

def StationState.code : StationState → Nat
  | .stopped => 0 | .starting => 1 | .runUp => 2 | .live => 3 | .stopping => 4 | .tripped => 5

def SlotState.code : SlotState → Nat
  | .idle => 0 | .queued => 1 | .lead => 2 | .clutching => 3 | .ready => 4 | .cutting => 5 | .held => 6
  | .coasting => 7 | .fault => 8

def FeederState.code : FeederState → Nat
  | .off => 0 | .queued => 1 | .on => 2 | .shed => 3 | .capped => 4 | .locked => 5

def RakeState.code : RakeState → Nat
  | .idle => 0 | .due => 1 | .forced => 2 | .running => 3

def Phase.code : Phase → Nat
  | .lead => 0 | .active => 1

def Origin.code : Origin → Nat
  | .host => 0 | .restore => 1

def WatchMode.code : WatchMode → Nat
  | .disabled => 0 | .edgeRising => 1 | .edgeFalling => 2 | .levelHigh => 3 | .levelLow => 4

def WatchMode.ofCode : Nat → Option WatchMode
  | 0 => some .disabled | 1 => some .edgeRising | 2 => some .edgeFalling | 3 => some .levelHigh | 4 => some .levelLow
  | _ => none

def WatchAction.code : WatchAction → Nat
  | .report => 0 | .rake => 1 | .drivesOut => 2 | .stop => 3 | .trip => 4

def WatchAction.ofCode : Nat → Option WatchAction
  | 0 => some .report | 1 => some .rake | 2 => some .drivesOut | 3 => some .stop | 4 => some .trip
  | _ => none

def AlarmSource.code : AlarmSource → Nat
  | .off => 0 | .trip => 1 | .watch => 2 | .shed => 3 | .store => 4

def AlarmSource.ofCode : Nat → Option AlarmSource
  | 0 => some .off | 1 => some .trip | 2 => some .watch | 3 => some .shed | 4 => some .store
  | _ => none

def TripCause.code : TripCause → Nat
  | .overspeed => 1 | .underspeed => 2 | .noSpeed => 3 | .watch _ => 4

/-- The watch input of a trip, 0xFF where the cause is not WATCH (R196). -/
def TripCause.inputByte : TripCause → Nat
  | .watch i => i.val
  | _ => 0xFF

def CorrectionState.code : CorrectionState → Nat
  | .inactive => 0 | .slow => 1 | .fast => 2

def StationCause.code : StationCause → Nat
  | .start => 1 | .speed => 2 | .settled => 3 | .hostStop => 4 | .watchStop => 5 | .runDown => 6 | .trip => 7
  | .clear => 8 | .standingOn => 9 | .standingOff => 10 | .ready => 11

def ExpiredCause.code : ExpiredCause → Nat
  | .wait => 1 | .cancel => 2 | .stop => 3 | .trip => 4 | .mode => 5 | .shed => 6 | .watch => 7

def DriveCause.code : DriveCause → Nat
  | .spunUp => 1 | .cut => 2 | .cutDone => 3 | .done => 4 | .hold => 5 | .resume => 6 | .host => 7 | .jam => 8
  | .clear => 9 | .coasted => 10 | .shed => 11 | .shortfall => 12 | .stop => 13 | .trip => 14 | .watch => 15
  | .rake => 16

def StrokeEvent.code : StrokeEvent → Nat
  | .completed => 1 | .aborted => 2

def ShedCause.code : ShedCause → Nat
  | .stage k => k.val + 1
  | .shortfall => 4

def LevelEvent.code : LevelEvent → Nat
  | .faultEnter => 1 | .faultLeave => 2 | .rackHigh => 3 | .rackNormal => 4 | .pauseSet => 5 | .pauseClear => 6

def Channel.code : Option Channel → Nat
  | some .pond => 0
  | some .forebay => 1
  | none => 0xFF

def RakeCause.code : RakeCause → Nat
  | .interval => 1 | .rack => 2 | .watch => 3 | .host => 4 | .grace => 5 | .done => 6 | .stop => 7 | .trip => 8

def EndCause.code : EndCause → Nat
  | .zero => 1 | .station => 2 | .shed => 3 | .range => 4 | .zeroed => 5

def Trigger.code : Trigger → Nat
  | .hour => 1 | .stop => 2 | .save => 3

def SkipCause.code : SkipCause → Nat
  | .fault => 1 | .pending => 2 | .startup => 3

def StoreOp.code : StoreOp → Nat
  | .config => 1 | .tariff => 2 | .journalPage => 3 | .eraseAhead => 4

/-- The sector of a journal page: the ring is sectors 2 to 15, sixteen pages each. -/
def sectorOf (p : Fin 224) : Fin 16 := ⟨2 + p.val / 16, by omega⟩

/-- The page within its sector. -/
def pageOf (p : Fin 224) : Fin 16 := ⟨p.val % 16, by omega⟩

/-- R199: the kind of each report. -/
def Report.kind : Report → Byte
  | .station .. => 0x40 | .grant .. => 0x41 | .expired .. => 0x42 | .drive .. => 0x43 | .stroke .. => 0x44
  | .stageFired .. => 0x45 | .shedFeeder .. => 0x45 | .restore .. => 0x46 | .cap .. => 0x47 | .watch .. => 0x48
  | .level .. => 0x49 | .trip .. => 0x4A | .rake .. => 0x4B | .correctionStart .. => 0x4C
  | .correctionEnd .. => 0x4C | .checkpoint .. => 0x4D | .store .. => 0x4E

/-- R199: the body of each report. -/
def Report.body : Report → List Byte
  | .station new prev standing cause => u8 new.code ++ u8 prev.code ++ flagByte standing ++ u8 cause.code
  | .grant o b cls origin t a c n =>
      u8 (ownerByte o) ++ u16 b ++ u8 cls ++ u8 origin.code ++ u32 t.toNat ++ u32 a ++ u32 c ++ u8 n
  | .expired o cls origin cause => u8 (ownerByte o) ++ u8 cls ++ u8 origin.code ++ u8 cause.code
  | .drive i new prev cause remaining strokes =>
      u8 (ownerByte (.drive i)) ++ u8 new.code ++ u8 prev.code ++ u8 cause.code ++ u8 remaining ++ u16 strokes
  | .stroke i event strokes remaining => u8 (ownerByte (.drive i)) ++ u8 event.code ++ u16 strokes ++ u8 remaining
  | .stageFired k f => u8 1 ++ u8 (k.val + 1) ++ u32 f
  | .shedFeeder i prev cause n => u8 2 ++ u8 (ownerByte (.feeder i)) ++ u8 prev.code ++ u8 cause.code ++ u16 n
  | .restore i cls b => u8 (ownerByte (.feeder i)) ++ u8 cls ++ u16 b
  | .cap i power limit time n => u8 (ownerByte (.feeder i)) ++ u32 power ++ u16 limit ++ u8 time ++ u16 n
  | .watch i detected mode action high =>
      u8 i.val ++ u8 (if detected then 1 else 2) ++ u8 mode.code ++ u8 action.code ++ flagByte high
  | .level event channel raw pond forebay loss =>
      u8 event.code ++ u8 (Channel.code channel) ++ u16 raw ++ u16 pond ++ u16 forebay ++ u16 loss
  | .trip cause captured => u8 cause.code ++ u8 cause.inputByte ++ u8 (if captured then 1 else 2)
  | .rake new prev cause n spent => u8 new.code ++ u8 prev.code ++ u8 cause.code ++ u16 n ++ flagByte spent
  | .correctionStart dir te c => u8 1 ++ u8 dir.code ++ u8 0 ++ i32 te ++ i8 c
  | .correctionEnd dir cause te c => u8 2 ++ u8 dir.code ++ u8 cause.code ++ i32 te ++ i8 c
  | .checkpoint event trigger first place =>
      let (e, cause) := match event with
        | .written => (1, 0)
        | .failed => (2, 0)
        | .skipped k => (3, k.code)
      u8 e ++ u8 trigger.code ++ u8 cause ++ u32 first
        ++ (match place with
            | some p => u8 (sectorOf p).val ++ u8 (pageOf p).val
            | none => u8 0xFF ++ u8 0xFF)
  | .store op done sector page fault =>
      u8 op.code ++ u8 (if done then 1 else 2) ++ u8 sector.val
        ++ u8 (match page with | some p => p.val | none => 0xFF) ++ flagByte fault

/-- A report as a frame: tag 0 (R190). -/
def Report.frame (r : Report) : Frame := { kind := r.kind, tag := 0, body := r.body }

/-- R196: the length byte counts the kind, the tag and the body. -/
def Frame.length (f : Frame) : Nat := f.body.length + 2

/-- R185: what the frame's CRC is computed over, in order: length, kind, tag, body. -/
def Frame.covered (f : Frame) : List Byte := BitVec.ofNat 8 f.length :: f.kind :: f.tag :: f.body

/-- R196: the bytes of a frame on the line: sync, length, kind, tag, body, and the CRC with its high byte first. -/
def Frame.bytes (f : Frame) : List Byte :=
  let crc := (crc16 f.covered).toNat
  0xA5 :: f.covered ++ [BitVec.ofNat 8 (crc / 256), BitVec.ofNat 8 crc]

/-- R191: the time a frame takes to send, in tenths of a microsecond; a frame is its length plus four bytes long. -/
def Frame.airTime (f : Frame) : Nat := (f.length + 4) * Config.characterTime

end Sys2Proof.Machine
end

