-- ==== Sys2Proof/Machine/Flash.lean ====
section
/-! DEFINITION. The flash array of 64 KiB (chapter 10): a list of (address, byte) cells with addresses strictly rising, in which an
erased byte is not listed: an unlisted address reads 0xFF, the erased value (R200). -/

namespace Sys2Proof.Machine

/-- The contents of the array. -/
abbrev Flash := List Host.Cell

/-- The byte at an address; an erased byte reads 0xFF (R200). -/
def Flash.read (m : Flash) (a : Nat) : Byte :=
  match m.find? fun c => c.1 == a with
  | some c => c.2
  | none => 0xFF

/-- Consecutive bytes from an address. -/
def Flash.readBytes (m : Flash) (a n : Nat) : List Byte := (List.range n).map fun i => m.read (a + i)

/-- The cells that bytes from an address make; an erased byte makes none. -/
def cellsFrom : Nat → List Byte → Flash
  | _, [] => []
  | a, b :: rest => if b = 0xFF then cellsFrom (a + 1) rest else (a, b) :: cellsFrom (a + 1) rest

/-- The contents of `n` bytes from an address are replaced: by the given bytes, and erased beyond them. -/
def Flash.replace (m : Flash) (a n : Nat) (bytes : List Byte) : Flash :=
  m.filter (fun c => decide (c.1 < a)) ++ cellsFrom a (bytes.take n) ++ m.filter (fun c => decide (a + n ≤ c.1))

/-- Every one of `n` bytes from an address reads erased. -/
def Flash.isErased (m : Flash) (a n : Nat) : Bool := !m.any fun c => decide (a ≤ c.1 ∧ c.1 < a + n)

/-- The cells of `n` bytes from an address. -/
def Flash.part (m : Flash) (a n : Nat) : Flash := m.filter fun c => decide (a ≤ c.1 ∧ c.1 < a + n)

/-- R200: the image in sector 0 is valid when the CRC-16 at offset 311 matches its 311 bytes. -/
def Flash.imageValid (m : Flash) : Bool := decide (m.readBytes 311 2 = crcField (m.readBytes 0 311))

/-- The canonical form: addresses strictly rising within 64 KiB, and no cell that reads as an unlisted one. -/
abbrev Flash.wf (m : Flash) : Prop :=
  m.Pairwise (fun c d => c.1 < d.1) ∧ ∀ c ∈ m, c.2 ≠ 0xFF ∧ c.1 < 65536

/-- The first byte of a page of a sector: sectors of 4 KiB, pages of 256 bytes. -/
def pageBase (sector page : Fin 16) : Nat := sector.val * 4096 + page.val * 256

/-- The first byte of a journal page. -/
def journalBase (p : Fin 224) : Nat := pageBase (sectorOf p) (pageOf p)

/-- The first byte of a sector. -/
def sectorBase (sector : Fin 16) : Nat := sector.val * 4096

/-- The next journal page in ring order: sector 2 follows sector 15 (R177). -/
def nextPage (p : Fin 224) : Fin 224 := ⟨(p.val + 1) % 224, by omega⟩

/-- The next ring sector (R177, R178), for the sectors 2 to 15. -/
def nextSector (k : Fin 16) : Fin 16 := if h : k.val + 1 < 16 then ⟨k.val + 1, h⟩ else 2

/-- The 224 pages of the journal ring, in ring order. -/
def allPages : List (Fin 224) := (List.range 224).map (Fin.ofNat 224)

/-- The pages of the ring that lie in a sector, in order. -/
def pagesOf (k : Fin 16) : List (Fin 224) := allPages.filter fun p => decide (sectorOf p = k)

end Sys2Proof.Machine
end

