-- ==== Sys2Proof/Machine/Link.lean ====
section
/-! DEFINITION. The transmitter, the report queue and the reply slot (R187, R190, R191). -/

namespace Sys2Proof.Machine

/-- R191: the arbitration of an idle transmitter: the reply in the slot, else the oldest report, else nothing. -/
def transmitArbitrate (s : State) : State :=
  match s.sl.tx with
  | .idle =>
    match s.sl.replySlot with
    | some reply => s.onSl fun l => { l with tx := .reply reply.airTime }
    | none =>
      match s.sl.reports with
      | r :: rest => s.onSl fun l => { l with tx := .report r r.frame.airTime, reports := rest }
      | [] => s
  | _ => s

/-- R190: a report joins the report queue while it holds fewer than sixteen, and is otherwise dropped and counted; the
transmitter arbitrates when a report joins. While the main domain is unpowered a report reaches no one (R137). -/
def post (r : Report) (s : State) : State :=
  if s.powered then
    if s.sl.reports.length < 16 then
      transmitArbitrate (s.onSl fun l => { l with reports := l.reports ++ [r] })
    else
      s.onSl fun l => { l with lostReports := saturate 255 l.lostReports }
  else s

/-- R187: the reply to a frame: its kind plus 0x80, its tag, and a body. -/
def replyFrame (fr : Frame) (body : List Byte) : Frame := { kind := fr.kind + 0x80, tag := fr.tag, body := body }

/-- R187: when the reply to the command in service is built, it is placed in the reply slot and the command in service
ends; the transmitter arbitrates (R191). -/
def answer (body : List Byte) (s : State) : State :=
  match s.sl.inService with
  | some fr =>
    transmitArbitrate (s.onSl fun l => { l with replySlot := some (replyFrame fr body), inService := none })
  | none => s

/-- R194: the reply of RESET is placed in the reply slot, and the command stays in service. -/
def answerAndHold (body : List Byte) (s : State) : State :=
  match s.sl.inService with
  | some fr => transmitArbitrate (s.onSl fun l => { l with replySlot := some (replyFrame fr body) })
  | none => s

/-- A reply with a result and the content its chapter states (R188). -/
def reply (r : Result) (content : List Byte) (s : State) : State := answer (r.code :: content) s

end Sys2Proof.Machine
end

