-- ==== Sys2Proof/Machine/Flags.lean ====
section
/-! DEFINITION. What is read off the state: the outputs that follow a state, the conditions of the alarm relay, the booking sum,
eligibility, and the time error. -/

namespace Sys2Proof.Machine

/-- Section 5.1: a slot in LEAD, CLUTCHING, READY, CUTTING or HELD is engaged. -/
def SlotState.engaged : SlotState → Bool
  | .lead | .clutching | .ready | .cutting | .held => true
  | .idle | .queued | .coasting | .fault => false

/-- R81: the clutch is in exactly while the slot is in CLUTCHING, READY, CUTTING or HELD. -/
def SlotState.clutchIn : SlotState → Bool
  | .clutching | .ready | .cutting | .held => true
  | .idle | .queued | .lead | .coasting | .fault => false

/-- R81: feed-enable is on exactly while the slot is in CUTTING. -/
def SlotState.feedOn : SlotState → Bool
  | .cutting => true
  | .idle | .queued | .lead | .clutching | .ready | .held | .coasting | .fault => false

/-- Output: the clutch solenoid of slot `i`. -/
def State.driveClutch (s : State) (i : Fin 4) : Bool := (s.slot i).state.clutchIn

/-- Output: the feed-enable line of slot `i`. -/
def State.feedEnable (s : State) (i : Fin 4) : Bool := (s.slot i).state.feedOn

/-- Output, R105: the rake clutch is in exactly while the rake is RUNNING. -/
def State.rakeClutch (s : State) : Bool := decide (s.rk.state = .running)

/-- Output, R115: a feeder's contactor is closed exactly while the feeder is ON. -/
def State.contactor (s : State) (i : Fin 12) : Bool := decide ((s.feeder i).state = .on)

/-- Output: the gate actuator demand (R12). -/
def State.gateDemand (s : State) : Nat := s.gc.gateOut

/-- R116: some feeder is in SHED. -/
def State.anyShed (s : State) : Bool := allFeeders.any fun i => decide ((s.feeder i).state = .shed)

/-- R38: some watch input's latched flag is set. -/
def State.anyLatched (s : State) : Bool := allInputs.any fun i => (s.input i).latched

/-- R38: the condition a source names. -/
def State.alarmCondition (s : State) : AlarmSource → Bool
  | .off => false
  | .trip => decide (s.ss.station = .tripped)
  | .watch => s.anyLatched
  | .shed => s.anyShed
  | .store => s.store.fault

/-- R38: with normal polarity the relay is energised while the condition is true, with inverted polarity while it is
false. -/
def setAlarmRelay (s : State) : State :=
  let on := xor (s.alarmCondition s.ss.alarmSource) s.ss.alarmInverted
  s.onSs fun q => { q with alarmRelay := on }

/-- R38: a change of a condition sets the relay when the setting names that condition, and otherwise leaves it. -/
def alarmChanged (source : AlarmSource) (s : State) : State :=
  if s.ss.alarmSource = source then setAlarmRelay s else s

/-- R56: A, the total of the bookings of all entries of the Allocation Table. -/
def State.bookingSum (s : State) : Nat := (s.da.table.map TableEntry.booking).sum

/-- The owner has an Allocation Table entry. -/
def State.tableHas (s : State) (o : Owner) : Bool := s.da.table.any fun e => decide (e.owner = o)

/-- The owner has a Standing Request Queue entry. -/
def State.queueHas (s : State) (o : Owner) : Bool := s.da.queue.any fun e => decide (e.owner = o)

/-- Some drive slot has an Allocation Table entry. -/
def State.driveInTable (s : State) : Bool := allSlots.any fun i => s.tableHas (.drive i)

/-- The rake's entry is in the queue with class 0. -/
def State.forcedRakeQueued (s : State) : Bool := s.da.queue.any fun e => decide (e.owner = .rake ∧ e.cls = 0)

/-- R62, R63: whether an entry of this owner is eligible at this moment. -/
def State.eligible (s : State) : Owner → Bool
  | .drive i =>
      !s.lu.drivePause && !s.forcedRakeQueued && !s.tableHas .rake && (s.slot i).cycleTimer.isNone
  | .feeder i => (s.feeder i).minOffTimer.isNone
  | .rake => !s.driveInTable

/-- R146: TE_cycles = N - 50 E, modulo 2^32, read as a signed number. -/
def CalendarUnit.teCycles (cu : CalendarUnit) : Int := (cu.n - 50#32 * cu.e).toInt

/-- R146: TE_ms = 20 TE_cycles. -/
def CalendarUnit.teMs (cu : CalendarUnit) : Int := 20 * cu.teCycles

/-- R146: TE_ms clamped to the signed 32-bit range, as STATUS and READ_CLOCK carry it. -/
def CalendarUnit.teMsShown (cu : CalendarUnit) : Int := clampInt (-2147483648) 2147483647 cu.teMs

/-- R148: the offset c that each correction state gives. -/
def CalendarUnit.offset (cu : CalendarUnit) : Int :=
  match cu.correction with
  | .inactive => 0
  | .slow => -(cu.params.off : Int)
  | .fast => cu.params.off

/-- R7: the governor's frequency reference. -/
def State.fRef (s : State) : Int := 50000 + s.cu.offset

/-- R41: the mean level of a filled channel; 0 while the channel is unfilled. The difference of the scale's ends may be negative
only where an image from outside made it so (log 11). -/
def LevelChannel.mean (c : LevelChannel) (lo hi : Nat) : Nat :=
  if c.samples = [] then 0 else (lo + ((hi : Int) - lo) * c.samples.sum / 32760).toNat

/-- The history of the channel is filled (R41). -/
def LevelChannel.filled (c : LevelChannel) : Bool := !c.samples.isEmpty

/-- R41: the POND mean. -/
def LevelUnit.pondMean (u : LevelUnit) : Nat := u.pond.mean u.params.pondLow u.params.pondHigh

/-- R41: the FOREBAY mean. -/
def LevelUnit.forebayMean (u : LevelUnit) : Nat := u.forebay.mean u.params.forebayLow u.params.forebayHigh

/-- The threshold of a stage (section 7.8). -/
def SheddingParams.threshold (p : SheddingParams) (k : Fin 3) : Nat :=
  match k.val with
  | 0 => p.threshold1
  | 1 => p.threshold2
  | _ => p.threshold3

/-- The delay of a stage, in ms (section 7.8). -/
def SheddingParams.delay (p : SheddingParams) (k : Fin 3) : Nat :=
  match k.val with
  | 0 => p.delay1
  | 1 => p.delay2
  | _ => p.delay3

/-- R49: the level at which an input of this mode is active; none for DISABLED. -/
def WatchMode.destination : WatchMode → Option Bool
  | .disabled => none
  | .edgeRising | .levelHigh => some true
  | .edgeFalling | .levelLow => some false

/-- R49: the two EDGE modes. -/
def WatchMode.isEdge : WatchMode → Bool
  | .edgeRising | .edgeFalling => true
  | .disabled | .levelHigh | .levelLow => false

/-- R49: the two LEVEL modes. -/
def WatchMode.isLevel : WatchMode → Bool
  | .levelHigh | .levelLow => true
  | .disabled | .edgeRising | .edgeFalling => false

end Sys2Proof.Machine
end

