-- ==== Sys2Proof/Machine/Calendar.lean ====
section
/-! DEFINITION. The Calendar Unit (chapter 8): calendar arithmetic, the trim stage, the time error and its correction. -/

namespace Sys2Proof.Machine

/-- The day after (R137: Monday to Sunday). -/
def nextWeekday : Weekday → Weekday
  | .monday => .tuesday | .tuesday => .wednesday | .wednesday => .thursday | .thursday => .friday
  | .friday => .saturday | .saturday => .sunday | .sunday => .monday

/-- R140: the months have their usual lengths, and February has 29 days in each year divisible by 4. -/
def daysInMonth (year month : Nat) : Nat :=
  match month with
  | 2 => if year % 4 = 0 then 29 else 28
  | 4 | 6 | 9 | 11 => 30
  | _ => 31

/-- R140, step 2: the calendar one second later; after 2099-12-31 23:59:59 comes 2000-01-01 00:00:00, Saturday. -/
def Calendar.advance (c : Calendar) : Calendar :=
  if c.second < 59 then { c with second := c.second + 1 }
  else if c.minute < 59 then { c with second := 0, minute := c.minute + 1 }
  else if c.hour < 23 then { c with second := 0, minute := 0, hour := c.hour + 1 }
  else
    let c := { c with second := 0, minute := 0, hour := 0, weekday := nextWeekday c.weekday }
    if c.day < daysInMonth c.year c.month then { c with day := c.day + 1 }
    else if c.month < 12 then { c with day := 1, month := c.month + 1 }
    else if c.year < 2099 then { c with day := 1, month := 1, year := c.year + 1 }
    else { c with day := 1, month := 1, year := 2000, weekday := .saturday }

/-- R143: a pending hour shift moves the hour by one. -/
def Calendar.shiftHour (c : Calendar) (forward : Bool) : Calendar :=
  { c with hour := if forward then c.hour + 1 else c.hour - 1 }

/-- The days of the year before a month. -/
def daysBeforeMonth (year month : Nat) : Nat := ((List.range (month - 1)).map fun m => daysInMonth year (m + 1)).sum

/-- The days from 2000-01-01 to a date. -/
def daysSince2000 (year month day : Nat) : Nat :=
  (year - 2000) * 365 + (year - 2000 + 3) / 4 + daysBeforeMonth year month + (day - 1)

/-- R142: the weekday of a date; 2000-01-01 is a Saturday (R140). -/
def weekdayOf (year month day : Nat) : Weekday :=
  match (daysSince2000 year month day) % 7 with
  | 0 => .saturday | 1 => .sunday | 2 => .monday | 3 => .tuesday | 4 => .wednesday | 5 => .thursday | _ => .friday

/-- R175, R196: the calendar as seconds since 2000-01-01 00:00:00. -/
def Calendar.seconds (c : Calendar) : Nat :=
  daysSince2000 c.year c.month c.day * 86400 + c.hour * 3600 + c.minute * 60 + c.second

/-- R142: the dates and times SET_CLOCK takes. -/
def validClock (year month day hour minute second : Nat) : Bool :=
  decide (2000 ≤ year ∧ year ≤ 2099) && decide (1 ≤ month ∧ month ≤ 12)
    && decide (1 ≤ day ∧ day ≤ daysInMonth year month) && decide (hour ≤ 23) && decide (minute ≤ 59)
    && decide (second ≤ 59)

/-- R138: the number of raw pulses in a trim window. -/
def trimWindow : Nat := 1048576

/-- R138: with a trim of t the raw pulses at the positions floor(k * 1,048,576 / |t|), k from 0 to |t| - 1, are marked. -/
def pulseMarked (trim : Int) (pos : Nat) : Bool :=
  (List.range trim.natAbs).any fun k => k * trimWindow / trim.natAbs == pos

/-- R138: a marked pulse counts as two corrected pulses where the trim is positive and as none where it is negative;
every other raw pulse counts as one. -/
def pulseWeight (trim : Int) (pos : Nat) : Nat :=
  if pulseMarked trim pos then (if trim > 0 then 2 else 0) else 1

/-- R138: one raw crystal pulse. A pulse that comes while a second or a window start is due is held back, and counted once
the row's command has been taken (log 9). -/
def rawPulse (cu : CalendarUnit) : CalendarUnit :=
  if cu.subSecond ≥ 32768 ∨ cu.windowPos ≥ trimWindow then { cu with heldPulses := cu.heldPulses + 1 }
  else { cu with subSecond := cu.subSecond + pulseWeight cu.trim cu.windowPos, windowPos := cu.windowPos + 1 }

/-- A number of raw pulses. -/
def rawPulses : Nat → CalendarUnit → CalendarUnit
  | 0, cu => cu
  | n + 1, cu => rawPulses n (rawPulse cu)

/-- R138, R142: the pulses held back before a SET_CLOCK move the window position on, up to the window's end; they do not count in
the second that the command has begun. -/
def CalendarUnit.moveWindow (cu : CalendarUnit) : CalendarUnit :=
  let n := min cu.windowPulses (trimWindow - cu.windowPos)
  { cu with windowPos := cu.windowPos + n, windowPulses := cu.windowPulses - n }

/-- R142: the calendar begins a second anew: the pulses held back so far count in the window alone (log 9). -/
def CalendarUnit.beginSecond (cu : CalendarUnit) : CalendarUnit :=
  { cu with subSecond := 0, heldPulses := 0, windowPulses := cu.windowPulses + cu.heldPulses }

/-- R139: the whole seconds, rounded up, until the next trim window starts. -/
def CalendarUnit.secondsToWindow (cu : CalendarUnit) : Nat := (trimWindow - cu.windowPos + 32767) / 32768

/-- R146: the range test. -/
def rangeTest (s : State) : State :=
  if s.cu.teMs.natAbs > s.cu.params.limit then s.onCu fun u => { u with teRange := true } else s

/-- R148: a correction that ends: INACTIVE, c = 0, and a CORRECTION report END with its cause. -/
def endCorrection (cause : EndCause) (s : State) : State :=
  let dir := s.cu.correction
  post (.correctionEnd dir cause s.cu.teMsShown 0) (s.onCu fun u => { u with correction := .inactive })

/-- R148: a correction that starts, with its CORRECTION report START. -/
def startCorrection (dir : CorrectionState) (s : State) : State :=
  let s := s.onCu fun u => { u with correction := dir }
  post (.correctionStart dir s.cu.teMsShown s.cu.offset) s

/-- R148: correction is permitted while the station is LIVE, no feeder is in SHED, and TE_RANGE is clear. -/
def CalendarUnit.permitted (cu : CalendarUnit) : Bool := cu.liveCopy && !cu.shedCopy && !cu.teRange

/-- R148: why a correction is no longer permitted. -/
def CalendarUnit.lostPermit (cu : CalendarUnit) : EndCause :=
  if !cu.liveCopy then .station else if cu.shedCopy then .shed else .range

/-- R148: one evaluation of the correction. -/
def evaluateCorrection (s : State) : State :=
  match s.cu.correction with
  | .inactive =>
    if s.cu.permitted ∧ s.cu.teMs.natAbs > s.cu.params.deadband then
      startCorrection (if s.cu.teCycles > 0 then .slow else .fast) s
    else s
  | .slow =>
    if s.cu.teCycles ≤ 0 then endCorrection .zero s
    else if s.cu.permitted then s else endCorrection s.cu.lostPermit s
  | .fast =>
    if s.cu.teCycles ≥ 0 then endCorrection .zero s
    else if s.cu.permitted then s else endCorrection s.cu.lostPermit s

/-- R146, R148: what the Calendar Unit evaluates at every change of N or E: the range test, then the correction. -/
def evaluateTime (s : State) : State := evaluateCorrection (rangeTest s)

/-- R137, R148: the Station Sequencer hands over entry to or exit from LIVE. -/
def handLive (live : Bool) (s : State) : State := evaluateCorrection (s.onCu fun u => { u with liveCopy := live })

/-- R116, R137, R148: the Feeder Unit hands over a change of the shed condition. -/
def handShed (shed : Bool) (s : State) : State := evaluateCorrection (s.onCu fun u => { u with shedCopy := shed })

/-- R147: what the calendar second does with a set zero request: E and N to 0, the request and TE_RANGE cleared, a running
correction ended with cause ZEROED. -/
def zeroTimeErrorNow (s : State) : State :=
  let s := s.onCu fun u => { u with e := 0, n := 0, zeroRequest := false, teRange := false }
  if s.cu.correction = .inactive then s else endCorrection .zeroed s

/-- R139: at the start of a trim window a pending trim becomes the trim in force. -/
def startTrimWindow (s : State) : State :=
  s.onCu fun u =>
    match u.pendingTrim with
    | some t => { u with trim := t, pendingTrim := none, windowPos := 0 }
    | none => { u with windowPos := 0 }

end Sys2Proof.Machine
end

