-- ==== Sys2Proof/Machine/Governor.lean ====
section
/-! DEFINITION. The Speed Measurement Unit's conversion and the Gate Controller's arithmetic (chapter 1): the control step, the gate
limit, capacity, and drive feed-forward. -/

namespace Sys2Proof.Machine

/-- R3: the frequency, in mHz, of a window completed at T ticks. -/
def windowFrequency (t : Nat) : Nat := if t < 10000 then 100000 else (1000000000 + t / 2) / t

/-- R10: the lower bound of the integrator range and of the raw demand, in gate units. -/
def GateController.floorGate (g : GateController) : Nat := min g.params.gMin g.gLim

/-- R10: the integrator range, from 1000 min(G_min, G_lim) to 1000 G_lim. -/
def GateController.clampIntegrator (g : GateController) (i : Int) : Int :=
  clampInt (1000 * g.floorGate) (1000 * g.gLim) i

/-- R10, step 1: the error, clamped to -5000 ... +5000 mHz. -/
def controlError (fRef : Int) (f : Nat) : Int := clampInt (-5000) 5000 (fRef - f)

/-- R10, step 2: the integrator after a step with error e. -/
def GateController.integrate (g : GateController) (e : Int) : Int := g.clampIntegrator (g.integrator + g.params.ki * e)

/-- R11: the proportional term, truncated toward zero. -/
def GateController.proportional (g : GateController) (e : Int) : Int := (g.params.kp * e).tdiv 1000

/-- R11: the raw demand, in the range min(G_min, G_lim) to G_lim. -/
def GateController.rawDemand (g : GateController) (i e : Int) : Nat :=
  (clampInt g.floorGate g.gLim (i / 1000 + g.proportional e)).toNat

/-- R12, R14: the gate moves toward a target by at most the rate of its direction and does not pass it. -/
def moveGate (prev target openRate closeRate : Nat) : Nat :=
  if target > prev then min target (prev + openRate)
  else if target < prev then max target (prev - closeRate)
  else prev

/-- R10 to R12: the PI step of RUN_UP and LIVE. -/
def GateController.piStep (g : GateController) (fRef : Int) (f : Nat) : GateController :=
  let e := controlError fRef f
  let i := g.integrate e
  { g with integrator := i, gateOut := moveGate g.gateOut (g.rawDemand i e) g.params.openRate g.params.closeRate }

/-- R14: the target of the gate outside RUN_UP and LIVE. -/
def GateController.fixedTarget (g : GateController) (st : StationState) : Nat :=
  match st with
  | .starting => min g.params.gStart g.gLim
  | .stopping | .tripped | .stopped | .runUp | .live => 0

/-- R14: the closing rate outside RUN_UP and LIVE. -/
def GateController.fixedCloseRate (g : GateController) (st : StationState) : Nat :=
  match st with
  | .starting | .stopping => g.params.closeRate
  | .tripped | .stopped | .runUp | .live => g.params.tripRate

/-- R10 to R14: the gate after a control step taken in a station state. -/
def GateController.step (g : GateController) (st : StationState) (fRef : Int) (f : Nat) : GateController :=
  match st with
  | .runUp | .live => g.piStep fRef f
  | .stopped | .starting | .stopping | .tripped =>
    { g with gateOut := moveGate g.gateOut (g.fixedTarget st) g.params.openRate (g.fixedCloseRate st) }

/-- R9: the station capacity. -/
def GateController.capacityNow (g : GateController) : Nat := g.params.pFull * g.gLim / 10000

/-- R8: the gate limit in force; G_upper is the standing gate limit in standing mode and G_max otherwise. -/
def GateController.limitNow (g : GateController) (standing : Bool) : Nat :=
  min (if standing then g.params.standingLimit else g.params.gMax) g.gFF

/-- R13: the bumpless transfer at entry to RUN_UP. -/
def bumpless (s : State) : State := s.onGc fun g => { g with integrator := 1000 * g.gateOut }

/-- R16: the feed-forward amount of a booking. -/
def GateController.feedForwardOf (g : GateController) (booking : Nat) : Nat := booking * 10000000 / g.params.pFull

/-- R16: at the grant of a drive slot. -/
def feedForwardAdd (slot : Fin 4) (booking : Nat) (s : State) : State :=
  s.onGc fun g =>
    { g with
      integrator := g.clampIntegrator (g.integrator + g.feedForwardOf booking)
      feedForward := g.feedForward ++ [(slot, g.feedForwardOf booking)] }

/-- R17: at the removal of a drive slot's Allocation Table entry; a notice for a slot with no record does nothing. -/
def feedForwardRemove (slot : Fin 4) (s : State) : State :=
  s.onGc fun g =>
    match g.feedForward.find? fun r => decide (r.1 = slot) with
    | some r =>
      { g with
        integrator := g.clampIntegrator (g.integrator - r.2)
        feedForward := g.feedForward.eraseP fun r => decide (r.1 = slot) }
    | none => g

end Sys2Proof.Machine
end

