-- ==== Sys2Proof/Machine/Arbiter.lean ====
section
/-! DEFINITION. The two shared collections (chapter 4) and the operations on them that do not themselves walk the queue. An operation
that ends in an arbitration takes that arbitration, `arb`, as an argument: an arbitration may grant, a grant gives space
notices, and those bring enqueues that arbitrate again (R66). Machine/Arbitration.lean ties the knot. -/

namespace Sys2Proof.Machine

/-- R59: an entry stands behind every entry whose class is equal to or lower than its own, and before every entry whose
class is higher. -/
def insertEntry (e : QueueEntry) (q : List QueueEntry) : List QueueEntry :=
  q.takeWhile (fun x => decide (x.cls ≤ e.cls)) ++ e :: q.dropWhile (fun x => decide (x.cls ≤ e.cls))

/-- R59: the queue, and with it the arrival sequence counter, which is set back to 0 whenever the queue becomes empty. -/
def setQueue (q : List QueueEntry) (s : State) : State :=
  s.onDa fun d => { d with queue := q, sequence := if q = [] then 0 else d.sequence }

/-- R74: the shortfall test. -/
def shortfallTest (s : State) : State :=
  if s.bookingSum > s.da.capacity then
    if s.da.shortfallTimer.isSome then s
    else s.onDa fun d => { d with shortfallTimer := some (d.params.grace * 1000) }
  else s.onDa fun d => { d with shortfallTimer := none }

/-- R56, R17: an owner's entry leaves the table, the entries after it close up, and for a drive slot the Gate Controller
removes the feed-forward record. -/
def removeFromTable (o : Owner) (s : State) : State :=
  let s := s.onDa fun d => { d with table := d.table.filter fun e => decide (e.owner ≠ o) }
  match o with
  | .drive i => feedForwardRemove i s
  | .feeder _ | .rake => s

/-- R72: a release notice; one for an owner that has no table entry does nothing. -/
def releaseNotice (arb : State → State) (o : Owner) (s : State) : State :=
  if s.tableHas o then arb (shortfallTest (removeFromTable o s)) else s

/-- R58: the clutch-in notice sets the entry's phase to ACTIVE; for a slot that has no entry it does nothing. -/
def clutchInNotice (i : Fin 4) (s : State) : State :=
  s.onDa fun d =>
    { d with table := d.table.map fun e => if e.owner = .drive i then { e with phase := .active } else e }

/-- What an owner's block asks for (R60). -/
structure Request where
  owner : Owner
  cls : Nat
  booking : Nat
  waitLimit : Nat
  origin : Origin
  deriving DecidableEq, Repr

/-- The outcome of an enqueue request (R60). -/
inductive EnqueueResult where
  | taken | duplicate | full
  deriving DecidableEq, Repr

/-- R60: an enqueue request. `moved` is what the owner's block does when the request is taken (the slot or feeder enters
QUEUED, the rake's entry-held flag is set); the arbitration is the last part. -/
def enqueue (arb : State → State) (r : Request) (moved : State → State) (s : State) : EnqueueResult × State :=
  if s.queueHas r.owner || s.tableHas r.owner then (.duplicate, s)
  else if s.da.queue.length ≥ 8 then (.full, s)
  else
    let e : QueueEntry :=
      { owner := r.owner, cls := r.cls, booking := r.booking, sequence := s.da.sequence, waitLimit := r.waitLimit,
        waitTimer := if r.waitLimit = 0 then none else some (r.waitLimit * 1000), origin := r.origin }
    let s := s.onDa fun d => { d with queue := insertEntry e d.queue, sequence := d.sequence + 1 }
    (.taken, arb (moved s))

/-- R70: the rake's entry moves to class 0, ahead of every other, keeping its arrival sequence; then the DA arbitrates.
Without an entry the DA changes nothing. -/
def forceRakeEntry (arb : State → State) (s : State) : State :=
  match s.da.queue.find? fun e => decide (e.owner = .rake) with
  | some e =>
    arb (s.onDa fun d =>
      { d with queue := { e with cls := 0 } :: d.queue.filter fun x => decide (x.owner ≠ .rake) })
  | none => s

/-- R68: an EXPIRED report. -/
def postExpired (cause : ExpiredCause) (e : QueueEntry) (s : State) : State :=
  post (.expired e.owner e.cls e.origin cause) s

/-- R68, R69, R71: entries leave the queue without a grant, as one event: each is removed, reported EXPIRED and made known
to its owner's block (`tell`); the space notices of R61 are given once and the DA arbitrates once. Where no entry is named
nothing happens. DESIGN CHOICE (log 35): R69 and R129 name no order among the entries; they go in queue order, head first. -/
def withdraw (arb notices : State → State) (named : QueueEntry → Bool) (cause : ExpiredCause)
    (tell : Owner → State → State) (s : State) : State :=
  let gone := s.da.queue.filter named
  if gone = [] then s
  else
    let s := setQueue (s.da.queue.filter fun e => !named e) s
    let s := gone.foldl (fun s e => tell e.owner (postExpired cause e s)) s
    arb (notices s)

end Sys2Proof.Machine
end

