-- ==== Sys2Proof/Machine/Drives.lean ====
section
/-! DEFINITION. The Drive Scheduler (chapter 5): grants, ways out of engagement, strokes, feed hold, and the rake's forcing. -/

namespace Sys2Proof.Machine

/-- R82: a DRIVE report for slot `i`, with its counts as they stand. -/
def postDrive (i : Fin 4) (prev : SlotState) (cause : DriveCause) (s : State) : State :=
  post (.drive i (s.slot i).state prev cause (s.slot i).remaining (s.slot i).strokes) s

/-- R86: a queued slot whose entry has gone without a grant returns to IDLE. -/
def slotUnqueued (i : Fin 4) (s : State) : State := s.onSlot i fun d => { d with state := .idle }

/-- R88: the slot enters CLUTCHING: the clutch goes in, the spin-up timer starts, and the DA is given the clutch-in notice. -/
def clutchIn (i : Fin 4) (s : State) : State :=
  clutchInNotice i (s.onSlot i fun d =>
    { d with state := .clutching, leadTimer := none, spinUpTimer := some d.profile.spinUp })

/-- R87: the grant of a slot. -/
def slotGranted (i : Fin 4) (s : State) : State :=
  let s := s.onSlot i fun d =>
    { d with
      remaining := 0, strokes := 0, releaseFlag := false, rakeHalt := false
      cycleTimer := if d.profile.cycle = 0 then d.cycleTimer else some (d.profile.cycle * 1000) }
  if (s.slot i).profile.lead = 0 then clutchIn i s
  else s.onSlot i fun d => { d with state := .lead, leadTimer := some d.profile.lead }

/-- R93, R98, R99: a slot leaves engagement for COASTING: outputs off, its timers cancelled, its counts cleared (the cut
stroke count stays), the coast timer started. -/
def Slot.toCoasting (d : Slot) : Slot :=
  { d with
    state := .coasting, remaining := 0, releaseFlag := false, rakeHalt := false
    leadTimer := none, spinUpTimer := none, strokeTimer := none, coastTimer := some d.profile.coast }

/-- R82: a slot that leaves CUTTING or HELD in mid-stroke posts STROKE ABORTED with its counts as they stood before. -/
def postAborted (i : Fin 4) (before : Slot) (s : State) : State :=
  if before.state = .cutting ∨ before.state = .held then
    post (.stroke i .aborted before.strokes before.remaining) s
  else s

/-- R98, R99: an engaged slot is taken out: to COASTING, the release notice where `release` is given, then STROKE ABORTED
where a stroke was in progress, and the DRIVE report. -/
def takeOut (release : State → State) (cause : DriveCause) (i : Fin 4) (s : State) : State :=
  let before := s.slot i
  let s := release (s.onSlot i Slot.toCoasting)
  let s := postAborted i before s
  post (.drive i .coasting before.state cause 0 before.strokes) s

/-- R99: a forced out. It does nothing to a slot that is not engaged. For cause SHORTFALL the DA has already removed the
entry, and no release notice is given. -/
def forcedOut (arb : State → State) (cause : DriveCause) (i : Fin 4) (s : State) : State :=
  if (s.slot i).state.engaged then
    takeOut (if cause = .shortfall then id else releaseNotice arb (.drive i)) cause i s
  else s

/-- R100: a forced out of many slots acts on each in turn. DESIGN CHOICE (log 33): in the order D0 to D3. -/
def forcedOutAll (arb : State → State) (cause : DriveCause) (reached : Slot → Bool) (s : State) : State :=
  allSlots.foldl (fun s i => if reached (s.slot i) then forcedOut arb cause i s else s) s

/-- R101: what the rake's forcing does to one slot. -/
def rakeForcesSlot (arb : State → State) (i : Fin 4) (s : State) : State :=
  match (s.slot i).state with
  | .cutting => s.onSlot i fun d => { d with remaining := 1, releaseFlag := true, rakeHalt := true }
  | .held | .ready | .lead | .clutching => forcedOut arb .rake i s
  | .idle | .queued | .coasting | .fault => s

/-- R101: the Rake Unit hands its forcing to the Drive Scheduler. DESIGN CHOICE (log 33): the slots in the order D0 to D3. -/
def rakeForcesDrives (arb : State → State) (s : State) : State :=
  allSlots.foldl (fun s i => rakeForcesSlot arb i s) s

/-- R96: what a hold step does to one CUTTING slot. -/
def holdSlot (arb : State → State) (i : Fin 4) (s : State) : State :=
  if (s.slot i).state = .cutting then
    if (s.slot i).rakeHalt then forcedOut arb .rake i s
    else postDrive i .cutting .hold (s.onSlot i fun d => { d with state := .held })
  else s

/-- R97: what a release step does to one HELD slot. -/
def resumeSlot (i : Fin 4) (s : State) : State :=
  if (s.slot i).state = .held then
    postDrive i .held .resume (s.onSlot i fun d => { d with state := .cutting })
  else s

/-- R96, R97: the feed hold at a control step taken while the station is LIVE. DESIGN CHOICE (log 33): the slots in the order D0
to D3. -/
def feedHoldStep (arb : State → State) (f : Nat) (s : State) : State :=
  if s.ss.station = .live then
    if f < s.fu.params.holdThreshold then
      if s.ds.feedHold then s
      else allSlots.foldl (fun s i => holdSlot arb i s) (s.onDs fun d => { d with feedHold := true })
    else if f ≥ s.fu.params.holdRelease ∧ s.ds.feedHold then
      allSlots.foldl (fun s i => resumeSlot i s) (s.onDs fun d => { d with feedHold := false })
    else s
  else s

/-- R93: the cut of slot `i` ends: STROKE COMPLETED with count 0, then COASTING with a release notice, or READY. DESIGN CHOICE
(log 19): R190 leaves open how the DRIVE report DONE or RAKE stands to the GRANT reports that the release notice brings; the model
gives the notice, with its arbitration, first and posts DRIVE last. -/
def endCut (arb : State → State) (i : Fin 4) (s : State) : State :=
  let before := s.slot i
  let s := post (.stroke i .completed before.strokes 0) s
  if before.releaseFlag then
    let s := releaseNotice arb (.drive i) (s.onSlot i Slot.toCoasting)
    post (.drive i .coasting before.state (if before.rakeHalt then .rake else .done) 0 before.strokes) s
  else
    postDrive i before.state .cutDone (s.onSlot i fun d =>
      { d with state := .ready, strokeTimer := none, rakeHalt := false, releaseFlag := false })

/-- R92: a stroke-end taken in CUTTING or HELD. -/
def strokeEnd (arb : State → State) (i : Fin 4) (s : State) : State :=
  if (s.slot i).state = .cutting ∨ (s.slot i).state = .held then
    let old := (s.slot i).remaining
    let s := s.onSlot i fun d => { d with strokes := saturate 65535 d.strokes, remaining := d.remaining - 1 }
    if old = 1 then endCut arb i s
    else
      let s := s.onSlot i fun d => { d with strokeTimer := some (d.profile.strokeTimeout * 1000) }
      post (.stroke i .completed (s.slot i).strokes (s.slot i).remaining) s
  else s

/-- R95: the stroke timer expires: FAULT, a release notice, DRIVE JAM; the counts keep the values they had. DESIGN CHOICE (log 19):
the GRANT reports of the notice's arbitration stand before DRIVE JAM (R190). -/
def strokeTimeout (arb : State → State) (i : Fin 4) (s : State) : State :=
  let prev := (s.slot i).state
  let before := s.slot i
  let s := s.onSlot i fun d => { d with state := .fault, strokeTimer := none }
  let s := releaseNotice arb (.drive i) s
  post (.drive i .fault prev .jam before.remaining before.strokes) s

/-- R98: RELEASE of an engaged slot. -/
def releaseSlot (arb : State → State) (i : Fin 4) (s : State) : State :=
  takeOut (releaseNotice arb (.drive i)) .host i s

end Sys2Proof.Machine
end

