-- ==== Sys2Proof/Machine/Rake.lean ====
section
/-! DEFINITION. The Rake Unit (chapter 6): due triggers, enqueue requests, forcing, the run, and the rake under stop and trip. -/

namespace Sys2Proof.Machine

/-- R105: a RAKE report, with the count and the grace-spent mark as they stand. -/
def postRake (prev : RakeState) (cause : RakeCause) (s : State) : State :=
  post (.rake s.rk.state prev cause s.rk.count s.rk.graceSpent) s

/-- R108: a DUE rake is forced: it moves to FORCED with a RAKE report of cause GRACE, its entry moves to class 0 (R70), and
the forcing is handed to the Drive Scheduler (R101). -/
def forceRake (arb : State → State) (s : State) : State :=
  let s := postRake .due .grace (s.onRk fun k => { k with state := .forced })
  rakeForcesDrives arb (forceRakeEntry arb s)

/-- R107: the rake asks for an entry when it is DUE or FORCED. -/
def RakeState.asks : RakeState → Bool
  | .due | .forced => true
  | .idle | .running => false

/-- R107: an occasion for the rake's enqueue request. A DUE rake whose grace is spent is forced first. -/
def rakeRequest (arb : State → State) (s : State) : State :=
  if s.rk.state.asks ∧ s.rk.entryHeld = false ∧ s.ss.station = .live then
    let s := if s.rk.state = .due ∧ s.rk.graceSpent then forceRake arb s else s
    (enqueue arb
      { owner := .rake, cls := if s.rk.state = .forced then 0 else 3, booking := s.rk.params.booking, waitLimit := 0,
        origin := .host }
      (fun s => s.onRk fun k => { k with entryHeld := true }) s).2
  else s

/-- R106: a due trigger; it acts in IDLE alone. -/
def dueTrigger (arb : State → State) (cause : RakeCause) (s : State) : State :=
  if s.rk.state = .idle then
    let s := s.onRk fun k =>
      { k with dueTimer := none, graceTimer := some (k.params.grace * 60000), graceSpent := false, state := .due }
    rakeRequest arb (postRake .idle cause s)
  else s

/-- R108: the grace timer expires. -/
def graceExpired (arb : State → State) (s : State) : State :=
  let s := s.onRk fun k => { k with graceTimer := none, graceSpent := true }
  if s.rk.state = .due then forceRake arb s else s

/-- R109: the grant reaches the RK. -/
def rakeGranted (s : State) : State :=
  s.onRk fun k => { k with state := .running, entryHeld := false, runTimer := some (k.params.runTime * 1000) }

/-- R105: the DA tells the RK that its entry has gone without a grant. -/
def rakeEntryGone (s : State) : State := s.onRk fun k => { k with entryHeld := false }

/-- R110: the run timer expires in RUNNING: the run is complete. -/
def runComplete (arb : State → State) (s : State) : State :=
  let s := s.onRk fun k =>
    { k with
      state := .idle, runTimer := none, count := saturate 65535 k.count, graceTimer := none, graceSpent := false
      dueTimer := some (k.params.interval * 60000) }
  postRake .running .done (releaseNotice arb .rake s)

/-- R111: a station stop or a trip reaches the rake. -/
def rakeStop (arb : State → State) (cause : RakeCause) (s : State) : State :=
  if s.rk.state = .running then
    postRake .running cause (releaseNotice arb .rake (s.onRk fun k => { k with state := .due, runTimer := none }))
  else s

end Sys2Proof.Machine
end

