-- ==== Sys2Proof/Machine/Feeders.lean ====
section
/-! DEFINITION. The Feeder Unit (chapter 7): feeder states, the stages, restoration, and the cap trip. -/

namespace Sys2Proof.Machine

/-- R116, R133: after a change of feeder states, `had` says whether some feeder was in SHED before it. A change of the shed
condition is handed to the Station Sequencer and the Calendar Unit; when none is left in SHED, the restore timer is
cancelled and the restore permit cleared. -/
def shedChanged (had : Bool) (s : State) : State :=
  if s.anyShed = had then s
  else
    let s := if s.anyShed then s else s.onFu fun u => { u with restoreTimer := none, permit := false }
    handShed s.anyShed (alarmChanged .shed s)

/-- R115, R121: a feeder's state. The cap counter is 0 on entering and on leaving ON; on leaving ON the minimum-off timer
starts when the profile's minimum off time is not 0. -/
def Feeder.enter (d : Feeder) (new : FeederState) : Feeder :=
  { d with
    state := new
    capCounter := if d.state = .on ∨ new = .on then 0 else d.capCounter
    minOffTimer :=
      if d.state = .on ∧ new ≠ .on ∧ d.profile.minOff ≠ 0 then some (d.profile.minOff * 1000) else d.minOffTimer }

/-- A feeder changes its state, and the shed condition is handed on when it changes (R116). -/
def setFeederState (i : Fin 12) (new : FeederState) (s : State) : State :=
  shedChanged s.anyShed (s.onFeeder i fun d => d.enter new)

/-- The feeders in class order, then feeder index (R122, R132). -/
def feedersByClass (s : State) : List (Fin 12) :=
  [1, 2, 3].flatMap fun c => allFeeders.filter fun i => decide ((s.feeder i).profile.cls = c)

/-- R119, R122: the request of a feeder with origin HOST. -/
def hostRequest (s : State) (i : Fin 12) : Request :=
  let p := (s.feeder i).profile
  { owner := .feeder i, cls := p.cls, booking := p.booking, waitLimit := p.waitLimit, origin := .host }

/-- R132: the request of a feeder under restoration. -/
def restoreRequest (s : State) (i : Fin 12) : Request :=
  let p := (s.feeder i).profile
  { owner := .feeder i, cls := p.cls, booking := p.booking, waitLimit := 0, origin := .restore }

/-- R122: the auto-connect requests; the first FULL ends them. -/
def autoConnectList (arb : State → State) : List (Fin 12) → State → State
  | [], s => s
  | i :: rest, s =>
    if (s.feeder i).state = .off ∧ (s.feeder i).profile.auto then
      match enqueue arb (hostRequest s i) (setFeederState i .queued) s with
      | (.full, s) => s
      | (.taken, s) | (.duplicate, s) => autoConnectList arb rest s
    else autoConnectList arb rest s

/-- R122: auto-connect at entry to LIVE. -/
def autoConnect (arb : State → State) (s : State) : State := autoConnectList arb (feedersByClass s) s

/-- R132: the offer of the SHED feeders, one after another; the first FULL ends it. DESIGN CHOICE (log 37): the feeder is QUEUED and
its RESTORE report is posted before its enqueue arbitrates, so that RESTORE stands before the GRANT reports. -/
def offerList (arb : State → State) : List (Fin 12) → State → State
  | [], s => s
  | i :: rest, s =>
    if (s.feeder i).state = .shed then
      let p := (s.feeder i).profile
      match enqueue arb (restoreRequest s i)
          (fun s => setFeederState i .queued (post (.restore i p.cls p.booking) s)) s with
      | (.full, s) => s
      | (.taken, s) | (.duplicate, s) => offerList arb rest s
    else offerList arb rest s

/-- R132: while the permit is set and the station is LIVE, every feeder in SHED is offered to the queue. -/
def feederOffer (arb : State → State) (s : State) : State :=
  if s.fu.permit ∧ s.ss.station = .live then offerList arb (feedersByClass s) s else s

/-- R131, R132: the restore permit becomes set. -/
def setPermit (arb : State → State) (s : State) : State :=
  feederOffer arb (s.onFu fun u => { u with permit := true, restoreTimer := none })

/-- R120: the grant reaches the FU. -/
def feederGranted (i : Fin 12) (s : State) : State := setFeederState i .on s

/-- R156: the MU raises the feeder's shed count. -/
def raiseShedCount (i : Fin 12) (s : State) : State :=
  s.onAccount i fun a => { a with shedCount := saturate 65535 a.shedCount }

/-- R156: the MU raises the feeder's cap-trip count. -/
def raiseCapTrips (i : Fin 12) (s : State) : State :=
  s.onAccount i fun a => { a with capTrips := saturate 65535 a.capTrips }

/-- R116: a SHED report of event FEEDER, with the shed count as it stands. -/
def postShedFeeder (i : Fin 12) (prev : FeederState) (cause : ShedCause) (s : State) : State :=
  post (.shedFeeder i prev cause (s.account i).shedCount) s

/-- R124, R125, R127: an ON feeder is opened with a release notice and enters a state. -/
def openFeeder (arb : State → State) (i : Fin 12) (new : FeederState) (s : State) : State :=
  setFeederState i new (releaseNotice arb (.feeder i) s)

/-- R129, step 2: an ON feeder is opened by a stage. DESIGN CHOICE (log 19): the GRANT reports of the release notice's arbitration,
and a CORRECTION END report that the change of the SHED condition brings, stand before the SHED report (R190). -/
def shedOnFeeder (arb : State → State) (k : Fin 3) (i : Fin 12) (s : State) : State :=
  let s := raiseShedCount i (releaseNotice arb (.feeder i) s)
  postShedFeeder i .on (.stage k) (setFeederState i .shed s)

/-- R130: the capacity shed of a feeder whose entry the DA has removed. DESIGN CHOICE (log 19): a CORRECTION END report that the
change of the SHED condition brings stands before the SHED report. -/
def feederShortfall (arb : State → State) (i : Fin 12) (s : State) : State :=
  let s := postShedFeeder i .on .shortfall (setFeederState i .shed (raiseShedCount i s))
  feederOffer arb s

/-- R129: a feeder whose queue entry a stage has withdrawn enters SHED; its shed count is not raised. DESIGN CHOICE (log 19): the
rules name no order between the SHED report and the CORRECTION END report that the Calendar Unit posts when this feeder is the
first in SHED (R116, R148); the model hands the change on first, so that CORRECTION END stands before the SHED report. -/
def feederWithdrawnByStage (k : Fin 3) (i : Fin 12) (s : State) : State :=
  postShedFeeder i .queued (.stage k) (setFeederState i .shed s)

/-- A shed stage of 1 to k + 1 (R129): shed by stage k of the three and by every deeper one; 0 exempts. -/
def reachedBy (k : Fin 3) (stage : Nat) : Bool := decide (1 ≤ stage ∧ stage ≤ k.val + 1)

/-- R129: the queue entries that a stage withdraws. -/
def stageNames (s : State) (k : Fin 3) (e : QueueEntry) : Bool :=
  match e.owner with
  | .drive i => reachedBy k (s.slot i).profile.shedStage
  | .feeder i => reachedBy k (s.feeder i).profile.shedStage
  | .rake => false

/-- R129: who is told of an entry that a stage has withdrawn. -/
def stageTells (k : Fin 3) (o : Owner) (s : State) : State :=
  match o with
  | .drive i => slotUnqueued i s
  | .feeder i => feederWithdrawnByStage k i s
  | .rake => s

/-- R129: stage k fires; `f` is the frequency of the step, or the last frequency at a timer expiry. -/
def fireStage (arb notices : State → State) (k : Fin 3) (f : Nat) (s : State) : State :=
  let s := s.onStage k fun _ => { state := .fired, timer := none }
  let s := s.onFu fun u => { u with permit := false }
  let s := post (.stageFired k f) s
  let s := withdraw arb notices (stageNames s k) .shed (stageTells k) s
  let s := allFeeders.foldl (fun s i =>
    if (s.feeder i).state = .on ∧ reachedBy k (s.feeder i).profile.shedStage then shedOnFeeder arb k i s else s) s
  forcedOutAll arb .shed (fun d => reachedBy k d.profile.shedStage) s

/-- R128: the test of one stage at a control step. -/
def testStage (arb notices : State → State) (f : Nat) (s : State) (k : Fin 3) : State :=
  if f < s.fu.params.threshold k then
    match (s.stage k).state with
    | .armed =>
      if s.fu.params.delay k = 0 then fireStage arb notices k f s
      else
        (s.onStage k fun _ => { state := .timing, timer := some (s.fu.params.delay k) }).onFu
          fun u => { u with permit := false }
    | .timing | .fired => s
  else
    match (s.stage k).state with
    | .timing | .fired => s.onStage k fun _ => { state := .armed, timer := none }
    | .armed => s

/-- R131: the test of the restore timer at a control step. -/
def testRestore (arb : State → State) (f : Nat) (s : State) : State :=
  if f ≥ s.fu.params.restoreThreshold then
    if s.anyShed ∧ s.fu.permit = false ∧ s.fu.restoreTimer = none then
      if s.fu.params.restoreDelay = 0 then setPermit arb s
      else s.onFu fun u => { u with restoreTimer := some u.params.restoreDelay }
    else s
  else s.onFu fun u => { u with restoreTimer := none }

/-- R128, R131: what a control step does in the Feeder Unit. -/
def feederStep (arb notices : State → State) (f : Nat) (s : State) : State :=
  if s.ss.station = .live then testRestore arb f (allStages.foldl (testStage arb notices f) s) else s

/-- R134: the check of one feeder against its cap, with the power of the second. DESIGN CHOICE (log 19): at a cap trip the GRANT
reports of the release notice's arbitration stand before the CAP report (R190). -/
def capCheck (arb : State → State) (i : Fin 12) (s : State) : State :=
  let d := s.feeder i
  let p := (s.account i).power
  if d.state = .on then
    if p > d.profile.cap then
      let n := saturate 60 d.capCounter
      let s := s.onFeeder i fun d => { d with capCounter := n }
      if n ≥ d.profile.capTime then
        let s := raiseCapTrips i (releaseNotice arb (.feeder i) s)
        let s := setFeederState i .capped s
        post (.cap i p d.profile.cap d.profile.capTime (s.account i).capTrips) s
      else s
    else s.onFeeder i fun d => { d with capCounter := 0 }
  else s

/-- R127: what a stop or a trip does to one feeder; a queued feeder's entry has been withdrawn already. -/
def feederStop (arb : State → State) (s : State) (i : Fin 12) : State :=
  match (s.feeder i).state with
  | .on => openFeeder arb i .off s
  | .queued | .shed => setFeederState i .off s
  | .off | .capped | .locked => s

/-- R127: a station stop or a trip reaches the Feeder Unit. -/
def feedersStop (arb : State → State) (s : State) : State :=
  let s := allFeeders.foldl (feederStop arb) s
  s.onFu fun u =>
    { u with
      stages := Vector.replicate 3 { state := .armed, timer := none }, restoreTimer := none, permit := false }

end Sys2Proof.Machine
end

