-- ==== Sys2Proof/Machine/Arbitration.lean ====
section
/-! DEFINITION. Arbitration and grants (R64 to R66), space notices (R61), capacity and the capacity shed (R73 to R76). -/

namespace Sys2Proof.Machine

/-- R65, step 2: the first eligible entry of the queue. -/
def firstEligible (s : State) : Option QueueEntry := s.da.queue.find? fun e => s.eligible e.owner

/-- R65, step 3: A + booking is at most C - reserve, taken as a signed quantity. -/
def fits (s : State) (booking : Nat) : Bool :=
  decide ((s.bookingSum + booking : Int) ≤ (s.da.capacity : Int) - s.da.params.reserve)

/-- R65: the entry that a walk of the queue grants, if it grants one. -/
def walk (s : State) : Option QueueEntry :=
  if s.da.spacingTimer.isSome then none
  else
    match firstEligible s with
    | some e => if fits s e.booking then some e else none
    | none => none

/-- R57, R66: the grant moves the owner into the first of its granted states. -/
def ownerGranted (o : Owner) (s : State) : State :=
  match o with
  | .drive i => slotGranted i s
  | .feeder i => feederGranted i s
  | .rake => rakeGranted s

/-- R16: the feed-forward of a granted drive slot. -/
def grantFeedForward (e : QueueEntry) (s : State) : State :=
  match e.owner with
  | .drive i => feedForwardAdd i e.booking s
  | .feeder _ | .rake => s

/-- R58: the phase with which an owner's entry is appended. -/
def grantPhase : Owner → Phase
  | .drive _ => .lead
  | .feeder _ | .rake => .active

/-- R66: the entry moves from the queue to the end of the table. -/
def moveToTable (e : QueueEntry) (s : State) : State :=
  let s := setQueue (s.da.queue.filter fun x => decide (x.owner ≠ e.owner)) s
  s.onDa fun d =>
    { d with
      table := d.table ++ [{ owner := e.owner, booking := e.booking, grantTime := s.cu.e, phase := grantPhase e.owner }] }

/-- R67: the spacing timer is started at a grant, when the spacing is not 0. -/
def startSpacing (s : State) : State :=
  s.onDa fun d => { d with spacingTimer := if d.params.spacing = 0 then none else some (d.params.spacing * 1000) }

/-- R66: the GRANT report. -/
def postGrant (e : QueueEntry) (s : State) : State :=
  let t := (s.da.table.find? fun x => decide (x.owner = e.owner)).elim s.cu.e TableEntry.grantTime
  post (.grant e.owner e.booking e.cls e.origin t s.bookingSum s.da.capacity s.da.table.length) s

/-- R66: a grant, as one event, up to the space notices. -/
def grant (e : QueueEntry) (s : State) : State :=
  let s := shortfallTest (moveToTable e s)
  let s := ownerGranted e.owner (grantFeedForward e s)
  startSpacing (postGrant e s)

/-- R61: a space notice to the Rake Unit first and then to the Feeder Unit. -/
def spaceNotice (arb : State → State) (s : State) : State := feederOffer arb (rakeRequest arb s)

/-- R64, R65: an arbitration. After a grant the space notices are given, whose enqueues arbitrate for themselves, and the
walk starts again; it ends at once while the spacing timer runs. Every grant takes one of the seventeen owners into the
table, so that eighteen rounds are never exceeded. -/
def arbitrateRounds : Nat → State → State
  | 0, s => s
  | n + 1, s =>
    match walk s with
    | some e => arbitrateRounds n (spaceNotice (arbitrateRounds n) (grant e s))
    | none => s

/-- R64: an arbitration. -/
def arbitrate (s : State) : State := arbitrateRounds 18 s

/-- R61: the space notices after entries have left the queue. -/
def giveSpace (s : State) : State := spaceNotice arbitrate s

/-- R68, R69, R71: an owner whose entry has gone without a grant: a drive slot to IDLE, a feeder to OFF, and the rake stays
DUE or FORCED without an entry. -/
def tellGone (o : Owner) (s : State) : State :=
  match o with
  | .drive i => slotUnqueued i s
  | .feeder i => setFeederState i .off s
  | .rake => rakeEntryGone s

/-- R68, R71: one owner's entry leaves the queue without a grant. -/
def withdrawOwner (o : Owner) (cause : ExpiredCause) (s : State) : State :=
  withdraw arbitrate giveSpace (fun e => decide (e.owner = o)) cause tellGone s

/-- The queue entry of a drive slot. -/
def QueueEntry.isDrive (e : QueueEntry) : Bool :=
  match e.owner with
  | .drive _ => true
  | .feeder _ | .rake => false

/-- R69: the withdrawal of every drive entry, for MODE (R36) or WATCH (R53). -/
def withdrawDrives (cause : ExpiredCause) (s : State) : State :=
  withdraw arbitrate giveSpace QueueEntry.isDrive cause tellGone s

/-- R69: the withdrawal of all entries at a stop or trip, which also cancels the spacing timer. -/
def withdrawAll (cause : ExpiredCause) (s : State) : State :=
  withdraw arbitrate giveSpace (fun _ => true) cause tellGone (s.onDa fun d => { d with spacingTimer := none })

/-- R73: the DA's response to a publication of the capacity last computed by the GC. -/
def publishCapacity (s : State) : State :=
  let c := s.gc.capacity
  let held := s.da.capacity
  let s' := s.onDa fun d => { d with capacity := c }
  if c > held then arbitrate (shortfallTest s')
  else if c < held then shortfallTest s'
  else s

/-- R9: the GC computes C and publishes it. -/
def computeCapacity (s : State) : State :=
  publishCapacity (s.onGc fun g => { g with capacity := g.capacityNow })

/-- R8, R9: the GC recomputes G_lim and publishes the capacity. -/
def recomputeLimit (s : State) : State :=
  let standing := s.ss.standing
  computeCapacity (s.onGc fun g => { g with gLim := g.limitNow standing })

/-- R75: whether a table entry is a candidate for capacity shed. -/
def shedCandidate (s : State) (e : TableEntry) : Bool :=
  match e.owner with
  | .drive i => decide (1 ≤ (s.slot i).profile.shedStage ∧ (s.slot i).profile.shedStage ≤ 3)
  | .feeder i => decide (1 ≤ (s.feeder i).profile.shedStage ∧ (s.feeder i).profile.shedStage ≤ 3)
  | .rake => false

/-- R76: the owner of a shed entry is told. -/
def tellShortfall (o : Owner) (s : State) : State :=
  match o with
  | .drive i => forcedOut arbitrate .shortfall i s
  | .feeder i => feederShortfall arbitrate i s
  | .rake => s

/-- R75, R76: the shortfall timer expires. -/
def shortfallExpired (s : State) : State :=
  let s := s.onDa fun d => { d with shortfallTimer := none }
  match s.da.table.reverse.find? (shedCandidate s) with
  | some e => arbitrate (shortfallTest (tellShortfall e.owner (removeFromTable e.owner s)))
  | none => s.onDa fun d => { d with shortfallTimer := some (d.params.grace * 1000) }

end Sys2Proof.Machine
end

