-- ==== Sys2Proof/Machine/Metering.lean ====
section
/-! DEFINITION. The Metering Unit (chapter 9): power, the calendar second, tariff bands, the day event. -/

namespace Sys2Proof.Machine

/-- R158: the tariff index for a minute of the day: the last band that starts at or before it, failing such a band the last
band of the table, and T0 for an empty table. -/
def tariffIndex (bands : List Band) (m : Nat) : Fin 4 :=
  match (bands.filter fun b => decide (b.start ≤ m)).getLast? with
  | some b => b.index
  | none => match bands.getLast? with
    | some b => b.index
    | none => 0

/-- R158: the minute of the day. -/
def Calendar.minuteOfDay (c : Calendar) : Nat := c.hour * 60 + c.minute

/-- R152, R154, R160: the tariff index in force is looked up from the calendar as it stands. -/
def lookUpTariff (s : State) : State :=
  let m := s.cu.calendar.minuteOfDay
  s.onMu fun u => { u with index := tariffIndex u.bands m }

/-- R153: P = floor(Q K / 65,536), and 0 for a result below 0. -/
def powerOf (q : BitVec 24) (k : Nat) : Nat := (q.toInt * k / 65536).toNat

/-- R154, R155: a Wh register is raised and stays at its greatest value once it reaches it. -/
def raiseWh (wh n : Nat) : Nat := min 4294967295 (wh + n)

/-- R154, step 2: an ON feeder's account takes the power of the second under the index in force. -/
def Account.count (a : Account) (index : Fin 4) (p : Nat) : Account :=
  { a with
    power := p
    residue := (a.residue + p) % 3600
    wh := a.wh.set index (raiseWh a.wh[index] ((a.residue + p) / 3600))
    onSeconds := saturate 4294967295 a.onSeconds
    dayMax := max a.dayMax p }

/-- R153, R154: one feeder's account at a calendar second. -/
def meterFeeder (products : Vector (BitVec 24) 12) (s : State) (i : Fin 12) : State :=
  let p := powerOf products[i] s.store.commissioning.factors[i]
  let index := s.mu.index
  if (s.feeder i).state = .on then s.onAccount i fun a => a.count index p
  else s.onAccount i fun a => { a with power := 0 }

/-- R154: the MU's work at a calendar second, and the cap check it hands to the FU (R134). DESIGN CHOICE (log 33): the feeders
are checked in the order F0 to F11. -/
def meterSecond (products : Vector (BitVec 24) 12) (s : State) : State :=
  let s := allFeeders.foldl (meterFeeder products) (lookUpTariff s)
  allFeeders.foldl (fun s i => capCheck arbitrate i s) s

/-- R157: the day event sets every day maximum to 0. -/
def dayEvent (s : State) : State := s.onMu fun u => { u with accounts := map12 (fun a => { a with dayMax := 0 }) u.accounts }

/-- R160: the outcome of a tariff job: the pending table replaces the running one on success, and becomes absent. -/
def tariffOutcome (passed : Bool) (s : State) : State :=
  match s.mu.pendingBands, passed with
  | some b, true => lookUpTariff (s.onMu fun u => { u with bands := b, pendingBands := none })
  | _, _ => s.onMu fun u => { u with pendingBands := none }

/-- R162: the snapshot of the twelve accounts. -/
def snapshots (u : MeteringUnit) : Vector Snapshot 12 :=
  map12 (fun a => { wh := a.wh, shedCount := a.shedCount, capTrips := a.capTrips }) u.accounts

/-- R163: the account that the journal recovery restores. -/
def Account.restore (a : Account) (r : Option Snapshot) : Account :=
  match r with
  | some r => { a with wh := r.wh, shedCount := r.shedCount, capTrips := r.capTrips }
  | none => { a with wh := Vector.replicate 4 0, shedCount := 0, capTrips := 0 }

/-- R158, R159: the bands that stand in a body or in a stored record after the count byte. -/
def decodeBands : Nat → List Byte → Option (List Band)
  | 0, _ => some []
  | n + 1, b =>
    if h : u8At b 2 < 4 then
      (decodeBands n (b.drop 3)).map fun rest => { start := u16At b 0, index := ⟨u8At b 2, h⟩ } :: rest
    else none

/-- R158: the starts stand in strictly ascending order. -/
def ascending : List Band → Bool
  | a :: b :: rest => decide (a.start < b.start) && ascending (b :: rest)
  | _ => true

/-- R159, test 2: 0 to 8 bands, starts 0 to 1439 in strictly ascending order, indices T0 to T3. -/
def bandTable? (body : List Byte) : Option (List Band) :=
  if u8At body 0 ≤ 8 then
    match decodeBands (u8At body 0) (body.drop 1) with
    | some bands => if bands.all (fun b => decide (b.start ≤ 1439)) && ascending bands then some bands else none
    | none => none
  else none

/-- R198: the bytes of a band table, the count and the bands. -/
def bandBytes (bands : List Band) : List Byte :=
  u8 bands.length ++ bands.flatMap fun b => u16 b.start ++ u8 b.index.val

end Sys2Proof.Machine
end

