-- ==== Sys2Proof/Machine/Journal.lean ====
section
/-! DEFINITION. The journal's records and pages (R175, R200), and the journal index. -/

namespace Sys2Proof.Machine

/-- R200: the flags of a record: the trigger in the low two bits, CLOCK_COLD in the top bit. -/
def recordFlags (t : Trigger) (cold : Bool) : Nat := t.code + if cold then 128 else 0

/-- R200: bytes 0 to 29 of the record of one feeder in a checkpoint. -/
def Checkpoint.recordHead (c : Checkpoint) (i : Fin 12) : List Byte :=
  let a := c.snapshots[i]
  u32 (c.firstSequence + i.val) ++ u32 c.time ++ u8 (ownerByte (.feeder i)) ++ u8 (recordFlags c.trigger c.cold)
    ++ u32 a.wh[0] ++ u32 a.wh[1] ++ u32 a.wh[2] ++ u32 a.wh[3] ++ u16 a.shedCount ++ u16 a.capTrips

/-- R200: a record closes with the CRC-16 over its bytes 0 to 29, stored little-endian. -/
def Checkpoint.record (c : Checkpoint) (i : Fin 12) : List Byte := c.recordHead i ++ crcField (c.recordHead i)

/-- R177: the first page holds the records of F0 to F7, the second those of F8 to F11. -/
def Checkpoint.page (c : Checkpoint) (second : Bool) : List Byte :=
  if second then ([8, 9, 10, 11] : List (Fin 12)).flatMap c.record
  else ([0, 1, 2, 3, 4, 5, 6, 7] : List (Fin 12)).flatMap c.record

/-- R177: the lowest and the highest sequence on a page of a checkpoint. -/
def Checkpoint.pageEntry (c : Checkpoint) (second : Bool) : PageEntry :=
  if second then .records (c.firstSequence + 8) (c.firstSequence + 11)
  else .records c.firstSequence (c.firstSequence + 7)

/-- R175: a record is valid when its CRC matches and its feeder byte names F0 to F11. -/
def validRecord (r : List Byte) : Bool :=
  if (feederOfByte (u8At r 8)).isSome then decide (crcField (r.take 30) = r.drop 30) else false

/-- R175, R200: the valid records of a journal page, in place order, each with its sequence. -/
def pageRecords (m : Flash) (p : Fin 224) : List (Nat × List Byte) :=
  let part := m.part (journalBase p) 256
  if part = [] then []
  else
    ([0, 1, 2, 3, 4, 5, 6, 7] : List Nat).filterMap fun place =>
      let r := part.readBytes (journalBase p + 32 * place) 32
      if validRecord r then some (u32At r 0, r) else none

/-- R200: what a record restores of its feeder's account. -/
def recordSnapshot (r : List Byte) : Snapshot :=
  { wh := #v[u32At r 10, u32At r 14, u32At r 18, u32At r 22], shedCount := u16At r 26, capTrips := u16At r 28 }

/-- The lowest of some sequences. -/
def lowest : List (Nat × List Byte) → Nat
  | [] => 0
  | [r] => r.1
  | r :: rest => min r.1 (lowest rest)

/-- The highest of some sequences; 0 for none. -/
def highest (rs : List (Nat × List Byte)) : Nat := rs.foldl (fun h r => max h r.1) 0

/-- R175, R181: what a page is found to hold. -/
def scanPage (m : Flash) (p : Fin 224) : PageEntry :=
  if m.isErased (journalBase p) 256 then .fresh
  else match pageRecords m p with
    | [] => .spoiled
    | rs => .records (lowest rs) (highest rs)

/-- A record put in its place by sequence. -/
def insertRecord (r : Nat × List Byte) : List (Nat × List Byte) → List (Nat × List Byte)
  | [] => [r]
  | x :: rest => if r.1 < x.1 then r :: x :: rest else x :: insertRecord r rest

/-- R179: records in sequence order. -/
def sortRecords (rs : List (Nat × List Byte)) : List (Nat × List Byte) := rs.foldl (fun acc r => insertRecord r acc) []

/-- An index with one entry for each page. -/
def indexOf (f : Fin 224 → PageEntry) : Vector PageEntry 224 := ⟨(allPages.map f).toArray, by simp [allPages]⟩

/-- One page's entry is set. -/
def Journal.setEntry (j : Journal) (p : Fin 224) (e : PageEntry) : Journal := { j with index := j.index.set p e }

/-- R175: an erase completion sets every page of its sector to FRESH. -/
def Journal.freshen (j : Journal) (k : Fin 16) : Journal :=
  { j with index := indexOf fun p => if sectorOf p = k then .fresh else j.index[p] }

/-- Every page of a ring sector is FRESH in the index. -/
def Journal.allFresh (j : Journal) (k : Fin 16) : Bool := (pagesOf k).all fun p => decide (j.index[p] = .fresh)

/-- The lowest RECORDS sequence among some pages. -/
def Journal.lowestOf (j : Journal) (pages : List (Fin 224)) : Option Nat :=
  pages.foldl (fun acc p => match j.index[p], acc with
    | .records lo _, some m => some (min m lo)
    | .records lo _, none => some lo
    | _, _ => acc) none

/-- The highest RECORDS sequence among some pages. -/
def Journal.highestOf (j : Journal) (pages : List (Fin 224)) : Option Nat :=
  pages.foldl (fun acc p => match j.index[p], acc with
    | .records _ hi, some m => some (max m hi)
    | .records _ hi, none => some hi
    | _, _ => acc) none

/-- R179: among some pages, the one that holds the lowest valid sequence at or above s, with that sequence as the index
shows it. -/
def Journal.pageFor (j : Journal) (pages : List (Fin 224)) (s : Nat) : Option (Fin 224 × Nat) :=
  pages.foldl (fun acc p => match j.index[p] with
    | .records lo hi =>
      if hi < s then acc
      else match acc with
        | some (q, best) => if max lo s < best then some (p, max lo s) else some (q, best)
        | none => some (p, max lo s)
    | .fresh | .spoiled => acc) none

end Sys2Proof.Machine
end

