-- ==== Sys2Proof/Machine/Store.lean ====
section
/-! DEFINITION. The Account Store (chapter 10): its one arbiter over the array, the erase and its suspensions, the jobs, the
checkpoints, store faults, READ_JOURNAL's page reads, and the journal scan. -/

namespace Sys2Proof.Machine

/-- R168: the sector has an erase in flight, suspended or waiting. -/
def AccountStore.erasePending (a : AccountStore) (k : Fin 16) : Bool :=
  (a.erase.any fun e => decide (e.sector = k)) || a.waitingErases.contains k

/-- The sector being erased, from the start of its erase to its completion (R168). -/
def AccountStore.beingErased (a : AccountStore) (k : Fin 16) : Bool := a.erase.any fun e => decide (e.sector = k)

/-- R178: a request for an erase joins the waiting erases, unless the sector has one already. -/
def AccountStore.requestErase (a : AccountStore) (k : Fin 16) : AccountStore :=
  if a.erasePending k then a else { a with waitingErases := a.waitingErases ++ [k] }

/-- R178: an erase-ahead is dropped as well for a sector whose pages are all FRESH. -/
def AccountStore.eraseAhead (a : AccountStore) (k : Fin 16) : AccountStore :=
  match a.journal with
  | some j => if j.allFresh k then a else a.requestErase k
  | none => a

/-- R166 item 2, R177: the next page of the pending checkpoint may run: its sector has no erase in flight, suspended or
waiting, and the page at the write position is FRESH. -/
def AccountStore.checkpointMayRun (a : AccountStore) : Bool :=
  match a.checkpoint, a.journal with
  | some c, some j =>
    decide (c.started < 2) && !a.erasePending (sectorOf j.writePos) && decide (j.index[j.writePos] = .fresh)
  | _, _ => false

/-- R166 item 3: the next page of the configuration job waits once its erase has completed. -/
def AccountStore.configMayRun (a : AccountStore) : Bool :=
  match a.configJob with
  | some j => j.erased && decide (j.started < 2)
  | none => false

/-- R166 item 3: the same for the tariff job's one page. -/
def AccountStore.tariffMayRun (a : AccountStore) : Bool :=
  match a.tariffJob with
  | some j => j.erased && decide (j.started < 1)
  | none => false

/-- R166 items 2 and 3: a program starts; `next` is the state it runs in. The write position moves on when a checkpoint's
page starts (R177). -/
def AccountStore.startProgram (next : StoreState) (a : AccountStore) : Option AccountStore :=
  if a.checkpointMayRun then
    match a.checkpoint, a.journal with
    | some c, some j =>
      some { a with
        state := next
        flight := some (.checkpointPage j.writePos (decide (c.started ≠ 0)))
        checkpoint := some { c with
          started := c.started + 1, firstPage := if c.started = 0 then some j.writePos else c.firstPage }
        journal := some { j with writePos := nextPage j.writePos } }
    | _, _ => none
  else if a.configMayRun then
    a.configJob.map fun j =>
      { a with
        state := next, flight := some (.configPage (decide (j.started ≠ 0)))
        configJob := some { j with started := j.started + 1 } }
  else if a.tariffMayRun then
    a.tariffJob.map fun j =>
      { a with state := next, flight := some .tariffPage, tariffJob := some { j with started := j.started + 1 } }
  else none

/-- R166 item 4: the oldest waiting erase starts, with a remaining erase time of 400 ms (R165). -/
def AccountStore.startErase (a : AccountStore) : AccountStore :=
  match a.waitingErases with
  | k :: rest =>
    { a with
      state := .erasing, erase := some { sector := k, remaining := Config.eraseTime, progress := 0 }
      waitingErases := rest }
  | [] => a

/-- R166: what a READY store starts, once no read request waits. -/
def AccountStore.chooseWork (a : AccountStore) : AccountStore :=
  match a.startProgram .programming with
  | some a => a
  | none => a.startErase

/-- R167: work waits for which a running erase is suspended: a read or a program whose target lies outside its sector. -/
def AccountStore.workOutside (a : AccountStore) : Bool :=
  (match a.readRequest with
   | some p => !a.beingErased (sectorOf p)
   | none => false)
  || a.checkpointMayRun || a.configMayRun || a.tariffMayRun

/-- R167: the erase has progressed at least 50 ms since it last started or resumed. -/
def AccountStore.progressed (a : AccountStore) : Bool := a.erase.any fun e => decide (Config.suspendAfter ≤ e.progress)

/-- R179: the pages outside the sector being erased. -/
def AccountStore.readable (a : AccountStore) : List (Fin 224) := allPages.filter fun p => !a.beingErased (sectorOf p)

/-- R179: the oldest readable sequence, 0 when no page is. -/
def AccountStore.oldestReadable (a : AccountStore) : Nat :=
  match a.journal with
  | some j => (j.lowestOf a.readable).getD 0
  | none => 0

/-- R179: the next sequence number to be given, as it is sent; once the sequences are exhausted it does not fit (log 6). -/
def AccountStore.nextSequenceSent (a : AccountStore) : Nat :=
  match a.journal with
  | some j => if j.nextSequence ≤ 4294967295 then j.nextSequence else Config.exhaustedSequence
  | none => 0

/-- R179: the content of READ_JOURNAL's reply. -/
def AccountStore.journalReply (a : AccountStore) (records : List (List Byte)) : List Byte :=
  u8 records.length ++ u32 a.oldestReadable ++ u32 a.nextSequenceSent ++ records.flatten

/-- R179: a page is RECORDS and lies outside the sector being erased. -/
def AccountStore.readablePage (a : AccountStore) (p : Fin 224) : Bool :=
  match a.journal with
  | some j => match j.index[p] with
    | .records _ _ => !a.beingErased (sectorOf p)
    | .fresh | .spoiled => false
  | none => false

/-- R179: a page read ends; its records at or above the requested sequence join those found before, in sequence order, and either
the next page is requested or the reply is built. -/
def pageRead (p : Fin 224) (s : State) : State :=
  let s := s.onStore fun a => { a with readRequest := none }
  match s.store.readJob with
  | some j =>
    let found := (pageRecords s.store.array p).filter fun r => decide (j.from_ ≤ r.1)
    let records := ((sortRecords ((j.records.map fun r => (u32At r 0, r)) ++ found)).map Prod.snd).take 7
    if j.first ∧ records.length < 7 ∧ s.store.readablePage (nextPage p) then
      s.onStore fun a =>
        { a with readJob := some { j with first := false, records := records }, readRequest := some (nextPage p) }
    else
      let s := s.onStore fun a => { a with readJob := none }
      reply .ok (s.store.journalReply records) s
  | none => s

/-- R165: a page read taken in READY is served within the event that asks for it; at most two pages are read. -/
def serveReads : Nat → State → State
  | 0, s => s
  | n + 1, s =>
    match s.store.readRequest with
    | some p => serveReads n (pageRead p s)
    | none => s

/-- R166, R167: the AS's choice, at each completion and at each arrival of work. -/
def kick (s : State) : State :=
  match s.store.state with
  | .ready => (serveReads 2 s).onStore AccountStore.chooseWork
  | .erasing =>
    if s.store.workOutside ∧ s.store.progressed then s.onStore fun a => { a with state := .eraseSuspended } else s
  | .programming | .eraseSuspended | .programmingInSuspend | .readingInSuspend => s

/-- R167: the erase resumes, and its progress starts again from 0. -/
def AccountStore.resumeErase (a : AccountStore) : AccountStore :=
  { a with state := .erasing, flight := none, erase := a.erase.map fun e => { e with progress := 0 } }

/-- R167: after the suspend latency the AS starts one operation; with no work left the erase resumes. -/
def AccountStore.suspendedStart (a : AccountStore) : AccountStore :=
  match a.readRequest with
  | some p => { a with state := .readingInSuspend, flight := some (.readPage p), readRequest := none }
  | none => match a.startProgram .programmingInSuspend with
    | some a => a
    | none => a.resumeErase

/-- R167: the suspension at 50 ms of progress (log 8): the progress is brought up to 50 ms; an erase that would complete
first is not suspended. DESIGN CHOICE (log 8): nor is one that would reach 50 ms of progress and a remaining time of 0 at the
same moment. -/
def AccountStore.suspendAtFifty (a : AccountStore) : AccountStore :=
  match a.erase with
  | some e =>
    let d := Config.suspendAfter - e.progress
    if d < e.remaining then
      { a with
        state := .eraseSuspended
        erase := some { e with remaining := e.remaining - d, progress := e.progress + d } }
    else a
  | none => a

/-- R169, R177: the store fault flag is set; a pending checkpoint is abandoned, without a failing page of its own. -/
def abandonCheckpoint (s : State) : State :=
  match s.store.checkpoint with
  | some c =>
    post (.checkpoint .failed c.trigger c.firstSequence none) (s.onStore fun a => { a with checkpoint := none })
  | none => s

/-- R169: an operation fails verification: the store fault flag is set, the change is handed to the Station Sequencer, a
STORE report FAILED is posted, and at the moment the flag is set a pending checkpoint is abandoned (R177). No second page is
in flight then: the array does one operation at a time. DESIGN CHOICE (log 19): R169 and R177 name no order between the STORE
report FAILED and the CHECKPOINT report FAILED of the abandoned checkpoint; the model posts STORE first. -/
def storeFailed (op : StoreOp) (sector : Fin 16) (page : Option (Fin 16)) (s : State) : State :=
  if s.store.fault then post (.store op false sector page true) s
  else
    let s := alarmChanged .store (s.onStore fun a => { a with fault := true })
    abandonCheckpoint (post (.store op false sector page true) s)

/-- R170, R173: the configuration job completes. -/
def configDone (s : State) : State :=
  let s := s.onStore fun a => { a with configJob := none, configDefault := false, protect := true }
  post (.store .config true 0 (some 1) s.store.fault) s

/-- R173: the configuration job stops at a failed step. -/
def configFailed (page : Option (Fin 16)) (s : State) : State :=
  storeFailed .config 0 page (s.onStore fun a => { a with configJob := none, protect := true })

/-- R174: the tariff job completes. -/
def tariffDone (s : State) : State :=
  let s := tariffOutcome true (s.onStore fun a => { a with tariffJob := none, protect := true })
  post (.store .tariff true 1 (some 0) s.store.fault) s

/-- R174: the tariff job stops at a failed step. -/
def tariffFailed (page : Option (Fin 16)) (s : State) : State :=
  storeFailed .tariff 1 page (tariffOutcome false (s.onStore fun a => { a with tariffJob := none, protect := true }))

/-- Log 4: bytes that the manual leaves open, from an address on. -/
def noise (choice a n : Nat) : List Byte := (List.range n).map fun i => Config.arrayNoise choice (a + i)

/-- R165: what a page holds that failed verification: anything but what was written (log 4). -/
def failedPage (choice a : Nat) (written : List Byte) : List Byte :=
  let i := (Config.spoiledPlace choice).val % 256
  (noise choice a 256).set i ((padTo 256 written).getD i 0xFF + BitVec.ofNat 8 ((Config.spoiledBy choice).val + 1))

/-- R175: a programmed page is never FRESH: where it would read erased throughout, a free byte is not (log 4). It is not the
byte by which `failedPage` differs from what was written. -/
def notErased (choice : Nat) (page : List Byte) : List Byte :=
  if page.all fun b => b == 0xFF then
    page.set (((Config.spoiledPlace choice).val + 1) % 256) (BitVec.ofNat 8 (Config.spoiledBy choice).val)
  else page

/-- The 32 bytes at a record place. -/
def recordAt (place : Nat) (bytes : List Byte) : List Byte := (bytes.drop (32 * place)).take 32

/-- R175: the record at a place is no longer valid: its feeder byte names no feeder. -/
def voidRecord (place : Nat) (bytes : List Byte) : List Byte := bytes.set (32 * place + 8) 0

/-- An operation of the array that does not end well makes no record of its own: a valid record at one of the first `n` places
is the one that `held` has there (R181, log 4). -/
def noStrays (held : List Byte) (n : Nat) (bytes : List Byte) : List Byte :=
  (List.range n).foldl (fun bytes k =>
    if validRecord (recordAt k bytes) ∧ recordAt k bytes ≠ recordAt k held then voidRecord k bytes else bytes) bytes

/-- R165, R175, R177: what a journal page holds that failed verification. -/
def failedJournalPage (choice a : Nat) (written : List Byte) : List Byte :=
  noStrays (padTo 256 written) 8 (notErased choice (failedPage choice a written))

/-- R181: what a journal page holds whose program was cut off: part of it, so SPOILED or RECORDS with fewer records. A free one
of the `count` records written is missing. -/
def cutJournalPage (choice a : Nat) (written : List Byte) (count : Nat) : List Byte :=
  let page := noStrays (padTo 256 written) 8 (notErased choice (noise choice a 256))
  let k := (Config.spoiledPlace choice).val % count
  if validRecord (recordAt k page) then voidRecord k page else page

/-- R165, R181: what a sector holds whose erase failed or was cut off: a free byte of it, or where `first` is given of its page
0, does not read erased; in a journal sector a valid record is one that it held before (log 4). -/
def failedSector (choice : Nat) (k : Fin 16) (first : Bool) (held : List Byte) : List Byte :=
  let i := (Config.spoiledPlace choice).val
  let bytes := (noise choice (sectorBase k) 4096).set (if first then i % 256 else i) (BitVec.ofNat 8 (Config.spoiledBy choice).val)
  if 2 ≤ k.val then noStrays held 128 bytes else bytes

/-- Some bytes of the array are replaced. -/
def writeArray (a n : Nat) (bytes : List Byte) (s : State) : State :=
  s.onStore fun t => { t with array := Flash.replace t.array a n bytes }

/-- R173: a failed or interrupted configuration job leaves no valid image: where the bytes that it leaves would make one, the
byte at `x` is another. -/
def noImage (x : Nat) (s : State) : State :=
  if Flash.imageValid s.store.array then writeArray x 1 [Flash.read s.store.array x + 1] s else s

/-- The byte that `noImage` changes after an operation on page 0, page 1 or the whole of sector 0: one that it wrote, but not
the one that `spoiledPlace` names. In page 0 it lies in the image, otherwise in its CRC-16. -/
def pageZeroByte (choice : Nat) : Nat := if (Config.spoiledPlace choice).val % 256 = 0 then 1 else 0

/-- See `pageZeroByte`. -/
def pageOneByte (choice : Nat) : Nat := if (Config.spoiledPlace choice).val % 256 = 55 then 312 else 311

/-- See `pageZeroByte`. -/
def sectorZeroByte (choice : Nat) : Nat := if (Config.spoiledPlace choice).val = 311 then 312 else 311

/-- A page of the configuration image is left with some bytes by a job that goes no further. -/
def leaveConfigPage (second : Bool) (bytes : List Byte) (s : State) : State :=
  let choice := s.choices
  noImage (if second then pageOneByte choice else pageZeroByte choice)
    (writeArray (if second then 256 else 0) 256 bytes s).nextChoice

/-- The array takes the program of a journal page with the outcome of its verification. -/
def programJournal (p : Fin 224) (written : List Byte) (passed : Bool) (s : State) : State :=
  if passed then writeArray (journalBase p) 256 written s
  else (writeArray (journalBase p) 256 (failedJournalPage s.choices (journalBase p) written) s).nextChoice

/-- The array takes the program of a page of the configuration image. -/
def programConfig (second : Bool) (written : List Byte) (passed : Bool) (s : State) : State :=
  let a := if second then 256 else 0
  if passed then writeArray a 256 written s else leaveConfigPage second (failedPage s.choices a written) s

/-- The array takes the program of the tariff record's page. -/
def programTariff (written : List Byte) (passed : Bool) (s : State) : State :=
  if passed then writeArray (sectorBase 1) 256 written s
  else (writeArray (sectorBase 1) 256 (failedPage s.choices (sectorBase 1) written) s).nextChoice

/-- A sector is left by an erase that failed or was cut off. -/
def leaveSector (k : Fin 16) (first : Bool) (s : State) : State :=
  let choice := s.choices
  let held := Flash.readBytes s.store.array (sectorBase k) 4096
  let s := (writeArray (sectorBase k) 4096 (failedSector choice k first held) s).nextChoice
  if k = 0 then noImage (sectorZeroByte choice) s else s

/-- The array takes a sector erase with the outcome of its verification. -/
def eraseArray (k : Fin 16) (passed : Bool) (s : State) : State :=
  if passed then writeArray (sectorBase k) 4096 [] s else leaveSector k false s

/-- R175, R177, R178: a checkpoint's page has ended. -/
def checkpointPageDone (p : Fin 224) (second passed : Bool) (s : State) : State :=
  match s.store.checkpoint with
  | some c =>
    let s := programJournal p (c.page second) passed s
    let s := s.onStore fun a =>
      { a with journal := a.journal.map fun j => j.setEntry p (if passed then c.pageEntry second else .spoiled) }
    let s := if pageOf p = 0 then s.onStore fun a => a.eraseAhead (nextSector (sectorOf p)) else s
    if passed then
      if second then
        post (.checkpoint .written c.trigger c.firstSequence c.firstPage) (s.onStore fun a => { a with checkpoint := none })
      else s
    else
      let s := storeFailed .journalPage (sectorOf p) (some (pageOf p)) (s.onStore fun a => { a with checkpoint := none })
      post (.checkpoint .failed c.trigger c.firstSequence (some p)) s
  | none => s

/-- R173: a page of the configuration image has ended. -/
def configPageDone (second passed : Bool) (s : State) : State :=
  match s.store.configJob with
  | some j =>
    let s := programConfig second ((j.image.drop (if second then 256 else 0)).take 256) passed s
    if passed then (if second then configDone s else s) else configFailed (some (if second then 1 else 0)) s
  | none => s

/-- R174: the page of the tariff record has ended. -/
def tariffPageDone (passed : Bool) (s : State) : State :=
  match s.store.tariffJob with
  | some j =>
    let s := programTariff j.record passed s
    if passed then tariffDone s else tariffFailed (some 0) s
  | none => s

/-- R165: the outcome of a page program goes to the job that asked for it. -/
def flightDone (f : Flight) (passed : Bool) (s : State) : State :=
  match f with
  | .checkpointPage p second => checkpointPageDone p second passed s
  | .configPage second => configPageDone second passed s
  | .tariffPage => tariffPageDone passed s
  | .readPage _ => s

/-- R165, R166, R167: a page program ends: the store is READY, or the erase resumes; the outcome goes to the job, and the
AS chooses its next work. -/
def programDone (passed : Bool) (s : State) : State :=
  match s.store.state, s.store.flight with
  | .programming, some f => kick (flightDone f passed (s.onStore fun a => { a with state := .ready, flight := none }))
  | .programmingInSuspend, some f => kick (flightDone f passed (s.onStore AccountStore.resumeErase))
  | _, _ => s

/-- R165, R169, R173, R174, R178: the outcome of a sector erase goes to the job that asked for it. DESIGN CHOICE (log 20): R169 names
four operations for a STORE report, and none for the scan's erase of the write position's own sector (R181, step 5); a failure
of that erase is reported as ERASE_AHEAD, as is every journal sector's. -/
def eraseOutcome (k : Fin 16) (passed : Bool) (s : State) : State :=
  if k = 0 then
    if passed then s.onStore fun a => { a with configJob := a.configJob.map fun j => { j with erased := true } }
    else configFailed none s
  else if k = 1 then
    if passed then s.onStore fun a => { a with tariffJob := a.tariffJob.map fun j => { j with erased := true } }
    else tariffFailed none s
  else if passed then s
  else storeFailed .eraseAhead k none s

/-- R165, R175: a sector erase ends. DESIGN CHOICE (log 28): R165 ends an erase when its remaining time reaches 0; the command is
taken in ERASING whatever remaining time is left. -/
def eraseDone (passed : Bool) (s : State) : State :=
  match s.store.state, s.store.erase with
  | .erasing, some e =>
    let s := s.onStore fun a =>
      { a with state := .ready, erase := none, journal := a.journal.map fun j => j.freshen e.sector }
    kick (eraseOutcome e.sector passed (eraseArray e.sector passed s))
  | _, _ => s

/-- R167: a page read in suspension ends: its data is delivered and the erase resumes. -/
def readDone (s : State) : State :=
  match s.store.state, s.store.flight with
  | .readingInSuspend, some (.readPage p) => kick (pageRead p (s.onStore AccountStore.resumeErase))
  | _, _ => s

/-- R176: a trigger is dropped with a CHECKPOINT report SKIPPED. -/
def postSkipped (t : Trigger) (cause : SkipCause) (s : State) : State := post (.checkpoint (.skipped cause) t 0 none) s

/-- R176: a trigger is taken: the snapshot goes into the buffer with the next twelve sequences. -/
def takeCheckpoint (t : Trigger) (j : Journal) (s : State) : State :=
  let c : Checkpoint :=
    { trigger := t, firstSequence := j.nextSequence, time := s.cu.calendar.seconds, cold := s.cu.clockCold,
      snapshots := snapshots s.mu, started := 0, firstPage := none }
  kick (s.onStore fun a =>
    { a with checkpoint := some c, journal := some { j with nextSequence := j.nextSequence + 12 } })

/-- R176: an hour or stop trigger. -/
def checkpointTrigger (t : Trigger) (s : State) : State :=
  if s.store.fault then postSkipped t .fault s
  else if s.store.checkpoint.isSome then postSkipped t .pending s
  else
    match s.store.startup, s.store.journal with
    | .complete, some j =>
      if j.nextSequence > 4294967284 then postSkipped t .pending s else takeCheckpoint t j s
    | _, _ => postSkipped t .startup s

/-- R181, step 4: the first FRESH page after a page, within its sector; failing that, page 0 of the next ring sector. -/
def positionAfter (index : Vector PageEntry 224) (p : Fin 224) : Fin 224 :=
  match (pagesOf (sectorOf p)).find? fun q => decide (p < q ∧ index[q] = .fresh) with
  | some q => q
  | none => Fin.ofNat 224 ((p.val / 16 + 1) * 16)

/-- R181: every valid record of the journal with its page. -/
def allRecords (m : Flash) : List (Fin 224 × Nat × List Byte) :=
  allPages.flatMap fun p => (pageRecords m p).map fun r => (p, r.1, r.2)

/-- The record with the highest sequence. -/
def latest (rs : List (Fin 224 × Nat × List Byte)) : Option (Fin 224 × Nat × List Byte) :=
  rs.foldl (fun acc r => match acc with
    | some x => if x.2.1 < r.2.1 then some r else some x
    | none => some r) none

/-- R181, steps 1, 2 and 4: the index, the next sequence number and the write position that the pages give. -/
def scanJournal (m : Flash) : Journal :=
  let index := indexOf (scanPage m)
  match latest (allRecords m) with
  | some (p, h, _) => { index := index, writePos := positionAfter index p, nextSequence := h + 1 }
  | none => { index := index, writePos := 0, nextSequence := 1 }

/-- R181, step 3: a feeder's valid record with the highest sequence. -/
def latestOf (m : Flash) (i : Fin 12) : Option Snapshot :=
  (latest ((allRecords m).filter fun r => decide (feederOfByte (u8At r.2.2 8) = some i))).map fun r => recordSnapshot r.2.2

/-- R163, R181, step 3: the accounts take the recovered values. -/
def recoverAccounts (m : Flash) (s : State) : State :=
  allFeeders.foldl (fun s i => s.onAccount i fun a => a.restore (latestOf m i)) s

/-- R181, step 5: the one erase that the scan requests. -/
def AccountStore.scanErase (a : AccountStore) (j : Journal) : AccountStore :=
  if j.index[j.writePos] ≠ .fresh then a.requestErase (sectorOf j.writePos)
  else a.eraseAhead (nextSector (sectorOf j.writePos))

/-- R181, R189: the scan completion. -/
def scanComplete (s : State) : State :=
  match s.store.startup with
  | .scanning =>
    let j := scanJournal s.store.array
    let s := recoverAccounts s.store.array (s.onStore fun a => { a with journal := some j })
    let s := kick (s.onStore fun a => { a with startup := .complete }.scanErase j)
    post (.station .stopped .stopped false .ready) (s.onSl fun l => { l with startup := false })
  | .loading | .complete => s

/-- R179: READ_JOURNAL's page search, once the command is taken. -/
def startJournalRead (q : Nat) (s : State) : State :=
  match s.store.journal with
  | some j =>
    match j.pageFor s.store.readable q with
    | some (p, _) =>
      kick (s.onStore fun a =>
        { a with readJob := some { from_ := q, first := true, records := [] }, readRequest := some p })
    | none => reply .ok (s.store.journalReply []) s
  | none => reply .ok (s.store.journalReply []) s

/-- R179: the requested sequence lies within the range of the sector being erased. -/
def AccountStore.inErasedRange (a : AccountStore) (q : Nat) : Bool :=
  match a.erase, a.journal with
  | some e, some j =>
    match j.lowestOf (pagesOf e.sector), j.highestOf (pagesOf e.sector) with
    | some lo, some hi => decide (lo ≤ q ∧ q ≤ hi)
    | _, _ => false
  | _, _ => false

/-- R181, R173 (log 4): what a page program leaves that a main-domain reset or a loss of power cuts off. -/
def cutProgram (s : State) : State :=
  match s.store.flight with
  | some (.checkpointPage p second) =>
    let written := match s.store.checkpoint with
      | some c => c.page second
      | none => []
    (writeArray (journalBase p) 256
      (cutJournalPage s.choices (journalBase p) written (if second then 4 else 8)) s).nextChoice
  | some (.configPage second) => leaveConfigPage second (noise s.choices (if second then 256 else 0) 256) s
  | some .tariffPage => (writeArray (sectorBase 1) 256 (noise s.choices (sectorBase 1) 256) s).nextChoice
  | some (.readPage _) | none => s

/-- R181, R173 (log 4): what an erase leaves, in flight or suspended, that is cut off. Where the write position lies in its sector, its
page 0 does not read erased, so that the scan's step 5 finds the sector and erases it again. -/
def cutErase (s : State) : State :=
  match s.store.erase with
  | some e => leaveSector e.sector (s.store.journal.any fun j => decide (sectorOf j.writePos = e.sector)) s
  | none => s

/-- R181, R182: what a main-domain reset or a loss of power leaves of the operations that it cuts off. -/
def cutOff (s : State) : State := cutErase (cutProgram s)

end Sys2Proof.Machine
end

