-- ==== Sys2Proof/Machine/Levels.lean ====
section
/-! DEFINITION. The Level Unit (sections 3.1 to 3.4): samples, faults, the forebay gate limit, rack loss, the drive-pause flag. -/

namespace Sys2Proof.Machine

/-- A level channel of the LU. -/
def State.channel (s : State) (c : Channel) : LevelChannel :=
  match c with
  | .pond => s.lu.pond
  | .forebay => s.lu.forebay

/-- Change one channel alone. -/
def State.onChannel (s : State) (c : Channel) (g : LevelChannel → LevelChannel) : State :=
  match c with
  | .pond => s.onLu fun u => { u with pond := g u.pond }
  | .forebay => s.onLu fun u => { u with forebay := g u.forebay }

/-- R42, R44, R45, R199: a LEVEL report, with the means and the rack loss as they stand. -/
def postLevel (event : LevelEvent) (c : Option Channel) (raw : Nat) (s : State) : State :=
  post (.level event c raw s.lu.pondMean s.lu.forebayMean s.lu.rackLoss) s

/-- R41: a raw value from 1 to 4094 is accepted. -/
def accepted (raw : Nat) : Bool := decide (1 ≤ raw ∧ raw ≤ 4094)

/-- R41: an accepted sample enters the history: it replaces the oldest, or fills an unfilled history. -/
def LevelChannel.enter (c : LevelChannel) (raw : Nat) : LevelChannel :=
  { c with samples := if c.samples = [] then List.replicate 8 raw else c.samples.tail ++ [raw] }

/-- R41, R42: one channel takes its raw sample. DESIGN CHOICE (log 10): the
FAULT_LEAVE report is posted before the sample is entered, and carries the accepted raw value. -/
def sampleChannel (c : Channel) (raw : Nat) (s : State) : State :=
  let was := (s.channel c).fault
  let s := s.onChannel c fun h => { h with lastRaw := raw, fault := !accepted raw }
  if accepted raw then
    let s := if was then postLevel .faultLeave (some c) raw s else s
    s.onChannel c fun h => h.enter raw
  else if was then s else postLevel .faultEnter (some c) raw s

/-- R43: the forebay gate limit for a mean level. -/
def LevelUnit.forebayLimit (u : LevelUnit) : Nat :=
  if u.forebayMean ≥ u.params.lLow then u.gMaxCopy
  else if u.forebayMean ≤ u.params.lMin then 0
  else u.gMaxCopy * (u.forebayMean - u.params.lMin) / (u.params.lLow - u.params.lMin)

/-- R43: G_ff is computed when FOREBAY is filled, and published when it differs from the value last published, when none has
been published, or when the occasion is a hand-over of G_max. -/
def publishForebayLimit (handOver : Bool) (s : State) : State :=
  if s.lu.forebay.filled then
    let g := s.lu.forebayLimit
    if handOver ∨ s.lu.gFF ≠ some g then
      recomputeLimit ((s.onLu fun u => { u with gFF := some g }).onGc fun c => { c with gFF := g })
    else s
  else s

/-- R44: the rack loss; 0 while either channel is unfilled. -/
def LevelUnit.rackLossNow (u : LevelUnit) : Nat :=
  if u.pond.filled && u.forebay.filled then u.pondMean - u.forebayMean else 0

/-- R44: a fault on either channel holds the rack loss and the rack-high flag. The rack loss of an unfilled channel is 0 all
the same. -/
def LevelUnit.rackHeld (u : LevelUnit) : Bool := (u.pond.fault || u.forebay.fault) && (u.pond.filled && u.forebay.filled)

/-- R44: the rack loss is computed, and the rack-high flag follows it. DESIGN CHOICE (log 37): the LEVEL report RACK_HIGH stands
before the reports that the trigger brings. -/
def followRack (s : State) : State :=
  let s := s.onLu fun u => { u with rackLoss := u.rackLossNow }
  if s.lu.rackLoss ≥ s.lu.params.rackThreshold then
    if s.lu.rackHigh then s
    else dueTrigger arbitrate .rack (postLevel .rackHigh none 0 (s.onLu fun u => { u with rackHigh := true }))
  else if s.lu.rackHigh then postLevel .rackNormal none 0 (s.onLu fun u => { u with rackHigh := false })
  else s

/-- R44: the rack loss and its flag at a sample period and after SET_LEVELS, held while a channel is in fault (log 29). -/
def evaluateRack (s : State) : State := if s.lu.rackHeld then s else followRack s

/-- R45: the drive-pause flag changes, with its report, and the change is handed to the DA. DESIGN CHOICE (log 37): the LEVEL
report stands before the GRANT reports of the arbitration. -/
def setDrivePause (b : Bool) (s : State) : State :=
  let s := s.onLu fun u => { u with drivePause := b }
  arbitrate (postLevel (if b then .pauseSet else .pauseClear) none 0 s)

/-- R45: the drive-pause flag follows the FOREBAY mean with a hysteresis of 100 mm, once FOREBAY is filled. -/
def evaluatePause (s : State) : State :=
  if s.lu.forebay.filled then
    if s.lu.forebayMean < s.lu.params.lPause then (if s.lu.drivePause then s else setDrivePause true s)
    else if s.lu.forebayMean ≥ s.lu.params.lPause + 100 then (if s.lu.drivePause then setDrivePause false s else s)
    else s
  else s

/-- R41 to R45: a sample period. DESIGN CHOICE (log 19): POND is sampled before FOREBAY, and G_ff, the rack loss and the drive pause
follow in that order. -/
def levelSample (pond forebay : BitVec 12) (s : State) : State :=
  let s := s.onLu fun u => { u with sampleTimer := some Config.samplePeriod }
  let s := sampleChannel .forebay forebay.toNat (sampleChannel .pond pond.toNat s)
  let s := if accepted forebay.toNat then publishForebayLimit false s else s
  evaluatePause (evaluateRack s)

/-- R46, R48: new level parameters, and what follows from the histories as they stand. -/
def takeLevels (p : LevelParams) (s : State) : State :=
  evaluatePause (evaluateRack (publishForebayLimit false (s.onLu fun u => { u with params := p })))

/-- R8, R43: the GC hands its G_max to the LU. -/
def handOverGMax (s : State) : State :=
  let g := s.gc.params.gMax
  publishForebayLimit true (s.onLu fun u => { u with gMaxCopy := g })

/-- R20: what follows at once from new governor values. A changed G_max or standing gate limit recomputes G_lim, a changed
G_max is handed to the LU, and a changed P_full gives a new capacity. DESIGN CHOICE (log 38): R20 names no order among these where
one command changes several values; all ten are in force first, G_lim is recomputed with them, and the capacity of a changed
P_full comes last, so that the new P_full with the old G_lim is never published. -/
def takeGovernor (p : GovParams) (s : State) : State :=
  let old := s.gc.params
  let s := s.onGc fun g => { g with params := p }
  let s := if old.gMax ≠ p.gMax ∨ old.standingLimit ≠ p.standingLimit then recomputeLimit s else s
  let s := if old.gMax ≠ p.gMax then handOverGMax s else s
  if old.pFull ≠ p.pFull then computeCapacity s else s

end Sys2Proof.Machine
end

