-- ==== Sys2Proof/Machine/Station.lean ====
section
/-! DEFINITION. The Station Sequencer (chapter 2): changes of the station state, stops, trips, and entry to LIVE. -/

namespace Sys2Proof.Machine

/-- R23: the station changes its state, with a STATION report; the alarm relay follows the TRIPPED condition (R38). -/
def setStation (new : StationState) (cause : StationCause) (s : State) : State :=
  let prev := s.ss.station
  let s := s.onSs fun q => { q with station := new }
  let s := if prev = .tripped ∨ new = .tripped then alarmChanged .trip s else s
  post (.station new prev s.ss.standing cause) s

/-- The causes that a stop or a trip gives to what it takes down. -/
structure DownCause where
  expired : ExpiredCause
  drive : DriveCause
  rake : RakeCause
  deriving DecidableEq, Repr

/-- R29: the causes of a STOP. -/
def stopCauses : DownCause := { expired := .stop, drive := .stop, rake := .stop }

/-- R32: the causes of a trip. -/
def tripCauses : DownCause := { expired := .trip, drive := .trip, rake := .trip }

/-- R29: the loads are taken down, in the order of the list: the queue, the feeders, the drives, the rake. -/
def takeDownLoads (c : DownCause) (s : State) : State :=
  let s := withdrawAll c.expired s
  let s := feedersStop arbitrate s
  let s := forcedOutAll arbitrate c.drive (fun _ => true) s
  rakeStop arbitrate c.rake s

/-- R29, R32, R37, R96: the station leaves its state for STOPPING or TRIPPED. The standing flag is cleared before the STATION
report is posted; the other blocks are reached after it; a cleared standing flag recomputes G_lim. -/
def leaveFor (new : StationState) (cause : StationCause) (c : DownCause) (s : State) : State :=
  let wasStanding := s.ss.standing
  let wasLive := decide (s.ss.station = .live)
  let s := setStation new cause (s.onSs fun q => { q with standing := false })
  let s := if wasLive then handLive false s else s
  let s := takeDownLoads c s
  let s := s.onDs fun d => { d with feedHold := false }
  let s := s.onSs fun q => { q with fieldClosed := false }
  if wasStanding then recomputeLimit s else s

/-- R29: STOP, in the states that take it. -/
def stationStop (cause : StationCause) (s : State) : State :=
  let s := s.onSs fun q =>
    { q with
      startTimer := none, settleTimer := none, underspeedTimer := none
      runDownTimer := some Config.runDownTime }
  leaveFor .stopping cause stopCauses s

/-- R29: the states in which STOP is taken. -/
def StationState.stoppable : StationState → Bool
  | .starting | .runUp | .live => true
  | .stopped | .stopping | .tripped => false

/-- R33: the record that a trip fills the empty capture with. -/
def tripRecord (cause : TripCause) (f : Nat) (s : State) : TripRecord :=
  { cause := cause, time := s.cu.calendar.seconds, freq := f, gateOut := s.gc.gateOut, bookings := s.bookingSum,
    entries := s.da.table.length, overflow := false }

/-- R33: a trip fills the empty capture, or sets the overflow flag of the record it holds. -/
def fillCapture (cause : TripCause) (f : Nat) (s : State) : State :=
  let r := tripRecord cause f s
  s.onSs fun q =>
    { q with
      capture := match q.capture with
        | none => some r
        | some old => some { old with overflow := true } }

/-- R32: a trip; `f` is the frequency it carries (R33). -/
def takeTrip (cause : TripCause) (f : Nat) (s : State) : State :=
  let captured := s.ss.capture.isNone
  let was := s.ss.station
  let s := fillCapture cause f s
  let s :=
    if was = .tripped then s
    else
      leaveFor .tripped .trip tripCauses (s.onSs fun q =>
        { q with
          startTimer := none, settleTimer := none, underspeedTimer := none, runDownTimer := none
          runDownMark := false })
  post (.trip cause captured) s

/-- R30, R35: entry to STOPPED, which is a checkpoint trigger. DESIGN CHOICE (log 19): R190 leaves open how the STATION report
(RUN_DOWN or CLEAR) and the CHECKPOINT SKIPPED report of a trigger that is dropped stand in the queue; the model posts STATION
first. -/
def enterStopped (cause : StationCause) (s : State) : State :=
  let s := s.onSs fun q => { q with runDownTimer := none, runDownMark := false }
  checkpointTrigger .stop (setStation .stopped cause s)

/-- R25: STARTING comes to speed, with the GC's bumpless transfer (R13). -/
def enterRunUp (s : State) : State := setStation .runUp .speed (bumpless s)

/-- R27: the rake's request and the feeders' at entry to LIVE, in an order that the manual leaves open (log 3). -/
def requestsAtLive (s : State) : State :=
  if Config.rakeFirst s.choices then autoConnect arbitrate (rakeRequest arbitrate s.nextChoice)
  else rakeRequest arbitrate (autoConnect arbitrate s.nextChoice)

/-- R26, R27: entry to LIVE. DESIGN CHOICE (log 30): R27 names no order between the Calendar Unit's hand-over and the requests of
the rake and the feeders; the model takes the requests first, so that a CORRECTION START report follows their GRANT reports.
DESIGN CHOICE (log 37): R190 leaves open where the STATION report SETTLED stands among the reports of the other blocks; the model
posts it first of all. -/
def enterLive (s : State) : State :=
  let s := s.onSs fun q => { q with fieldClosed := true, startTimer := none, settleTimer := none }
  handLive true (requestsAtLive (setStation .live .settled s))

/-- R30: the test for the end of the run-down at a control step. -/
def runDownTest (f : Nat) (s : State) : State :=
  if s.gc.gateOut = 0 ∧ (f < 5000 ∨ s.ss.runDownMark) then enterStopped .runDown s else s

/-- R25, R26, R30, R31: what a control step does in the Station Sequencer. DESIGN CHOICE (log 31): a step at 55,000 mHz or above in
STOPPING with the run-down mark set and the gate at 0 meets both R30 and R31, which name no precedence; the model trips. -/
def stationStep (f : Nat) (s : State) : State :=
  match s.ss.station with
  | .starting =>
    if f ≥ 55000 then takeTrip .overspeed f s
    else if f ≥ 45000 then enterRunUp s
    else s
  | .runUp =>
    if f ≥ 55000 then takeTrip .overspeed f s
    else if 49500 ≤ f ∧ f ≤ 50500 then
      s.onSs fun q => { q with settleTimer := some (q.settleTimer.getD Config.settleTime) }
    else s.onSs fun q => { q with settleTimer := none }
  | .live =>
    if f ≥ 55000 then takeTrip .overspeed f s
    else if f < 45000 then
      s.onSs fun q => { q with underspeedTimer := some (q.underspeedTimer.getD Config.underspeedTime) }
    else s.onSs fun q => { q with underspeedTimer := none }
  | .stopping =>
    if f ≥ 55000 then takeTrip .overspeed f s else runDownTest f s
  | .stopped | .tripped => s

/-- R10 to R14, R9: what a control step does in the Gate Controller. -/
def governorStep (f : Nat) (s : State) : State :=
  let st := s.ss.station
  let fRef := s.fRef
  computeCapacity (s.onGc fun g => g.step st fRef f)

/-- R5: a control step. The four blocks it reaches act in an order that the manual leaves open (log 3). -/
def controlStep (f : Nat) (s : State) : State :=
  (order4 (governorStep f) (stationStep f) (feederStep arbitrate giveSpace f) (feedHoldStep arbitrate f)
    (Config.controlOrder s.choices)).foldl (fun s part => part s) s.nextChoice

/-- R36: STANDING_ON with the flag clear. DESIGN CHOICE (log 32): the queued drives are withdrawn, with the arbitration that
follows, before G_lim and the capacity are recomputed, in the order in which R36 names the two. DESIGN CHOICE (log 37): R190 leaves
open the order of two blocks' reports in one event; the STATION report STANDING_ON stands before the EXPIRED reports of cause MODE
and before any GRANT report. -/
def standingOn (s : State) : State :=
  let s := s.onSs fun q => { q with standing := true }
  let s := post (.station s.ss.station s.ss.station true .standingOn) s
  recomputeLimit (withdrawDrives .mode s)

/-- R37: STANDING_OFF with the flag set. DESIGN CHOICE (log 37): R190 leaves open the order of two blocks' reports in one event; the
STATION report STANDING_OFF stands before the GRANT reports that the raised capacity brings. -/
def standingOff (s : State) : State :=
  let s := s.onSs fun q => { q with standing := false }
  recomputeLimit (post (.station s.ss.station s.ss.station false .standingOff) s)

end Sys2Proof.Machine
end

