-- ==== Sys2Proof/Machine/Watch.lean ====
section
/-! DEFINITION. The Watch Unit (sections 3.6, 3.7): detections and their actions, edges, samples, arming, acknowledgement. -/

namespace Sys2Proof.Machine

/-- R53: DRIVES_OUT: the withdrawal of the queued drive entries first, then the forced outs. -/
def drivesOut (s : State) : State := forcedOutAll arbitrate .watch (fun _ => true) (withdrawDrives .watch s)

/-- R52: the action of a detection on input `i`. -/
def watchAct (i : Fin 4) (a : WatchAction) (s : State) : State :=
  match a with
  | .report => s
  | .rake => dueTrigger arbitrate .watch s
  | .drivesOut => drivesOut s
  | .stop => if s.ss.station.stoppable then stationStop .watchStop s else s
  | .trip => takeTrip (.watch i) s.smu.lastFreq s

/-- R52, R54: a WATCH report. -/
def postWatch (i : Fin 4) (detected : Bool) (s : State) : State :=
  post (.watch i detected (s.input i).setting.mode (s.input i).setting.action s.wu.pins[i]) s

/-- R52: a detection. -/
def detect (i : Fin 4) (s : State) : State :=
  let s := alarmChanged .watch (s.onInput i fun w => { w with latched := true, counter := 0 })
  watchAct i (s.input i).setting.action (postWatch i true s)

/-- R49: the input's wire stands at the destination level of its mode. -/
def State.atDestination (s : State) (i : Fin 4) : Bool := decide ((s.input i).setting.mode.destination = some s.wu.pins[i])

/-- R51: the arming of an input in an EDGE mode: it is detected at once when it is at its destination level. -/
def arm (i : Fin 4) (s : State) : State :=
  if (s.input i).setting.mode.isEdge ∧ s.atDestination i then detect i s else s

/-- R51: a transition on an input's wire. -/
def watchTransition (i : Fin 4) (high : Bool) (s : State) : State :=
  let s := s.onWu fun u => { u with pins := u.pins.set i high }
  if s.powered ∧ (s.input i).setting.mode.isEdge ∧ s.atDestination i ∧ (s.input i).latched = false then detect i s else s

/-- R52: one LEVEL input at a sample period. -/
def sampleInput (s : State) (i : Fin 4) : State :=
  let w := s.input i
  if w.setting.mode.isLevel ∧ w.latched = false then
    if s.atDestination i then
      if w.counter + 1 ≥ w.setting.filterCount then detect i s
      else s.onInput i fun w => { w with counter := w.counter + 1 }
    else s.onInput i fun w => { w with counter := 0 }
  else s

/-- R52: a sample period of the WU. Inputs detected together are taken in an order that the manual leaves open (log 3). -/
def watchSample (s : State) : State :=
  let s := s.onWu fun u => { u with sampleTimer := some Config.samplePeriod }
  (order4 0 1 2 3 (Config.watchOrder s.choices)).foldl sampleInput s.nextChoice

/-- R50: the settings of an input are replaced; in DISABLED and the EDGE modes it keeps the filter count it had. -/
def setInput (i : Fin 4) (mode : WatchMode) (filterCount : Nat) (action : WatchAction) (s : State) : State :=
  let s := s.onInput i fun w =>
    { w with
      setting := { mode := mode, filterCount := if mode.isLevel then filterCount else w.setting.filterCount, action := action }
      counter := 0 }
  if (s.input i).latched then s else arm i s

/-- R54: a set flag is cleared, reported, and the input armed again. -/
def acknowledge (i : Fin 4) (s : State) : State :=
  if (s.input i).latched then
    let s := alarmChanged .watch (s.onInput i fun w => { w with latched := false, counter := 0 })
    arm i (postWatch i false s)
  else s

/-- R55: the stored settings are taken, with counters at 0. -/
def takeWatchSettings (settings : Vector WatchSetting 4) (s : State) : State :=
  allInputs.foldl (fun s i => s.onInput i fun w => { w with setting := settings[i], counter := 0 }) s

/-- R51, R55: at the configuration load every input in an EDGE mode is armed; one that is latched already is not detected
again. Their order is left open (log 3). -/
def armAll (s : State) : State :=
  (order4 (0 : Fin 4) 1 2 3 (Config.watchOrder s.choices)).foldl
    (fun s i => if (s.input i).latched then s else arm i s) s.nextChoice

end Sys2Proof.Machine
end

