-- ==== Sys2Proof/Machine/Seconds.lean ====
section
/-! DEFINITION. The calendar second (R140, R141), the generator crossing (R145) and the measurement window (R1 to R5). -/

namespace Sys2Proof.Machine

/-- R140, steps 1 to 3: a pending hour shift, the calendar's advance, and E. -/
def CalendarUnit.second (u : CalendarUnit) : CalendarUnit :=
  let c := match u.pendingShift with
    | some forward => u.calendar.shiftHour forward
    | none => u.calendar
  { u with calendar := c.advance, pendingShift := none, e := u.e + 1, subSecond := u.subSecond - 32768 }

/-- R140, step 6, R141: the hour event, and with it at midnight the day event. -/
def hourEvents (s : State) : State :=
  if s.cu.calendar.minute = 0 ∧ s.cu.calendar.second = 0 then
    let s := checkpointTrigger .hour s
    if s.cu.calendar.hour = 0 then dayEvent s else s
  else s

/-- R140, steps 5 and 6: what a second hands to the main domain; while that is unpowered it reaches no one (R137). -/
def handSecond (products : Vector (BitVec 24) 12) (s : State) : State :=
  whenPowered s fun s => hourEvents (meterSecond products s)

/-- R140: a calendar second. -/
def calendarSecond (products : Vector (BitVec 24) 12) (s : State) : State :=
  let zero := s.cu.zeroRequest
  let s := s.onCu CalendarUnit.second
  let s := if zero then zeroTimeErrorNow s else s
  evaluateTime (handSecond products s)

/-- R145: a crossing is counted while the field contactor is closed, which needs the main domain's supply (R137). -/
def generatorCrossing (s : State) : State :=
  if s.powered ∧ s.ss.fieldClosed then evaluateTime (s.onCu fun u => { u with n := u.n + 1 }) else s

/-- R1: a tooth edge that does not complete a window. -/
def SpeedUnit.edge (u : SpeedUnit) (ticks : Nat) : SpeedUnit :=
  match u.window with
  | .waiting => { u with window := .timing, toothCount := 0, ticks := 0, timeout := some Config.windowTimeout }
  | .timing =>
    { u with toothCount := u.toothCount + 1, ticks := u.ticks + ticks, timeout := some Config.windowTimeout }

/-- R1, R2: a tooth edge. The edge that brings the count to 24 completes the window, starts the next, and is a control
step (R5). -/
def toothEdge (ticks : Nat) (s : State) : State :=
  let u := s.smu.edge ticks
  if u.toothCount ≥ 24 then
    let f := windowFrequency u.ticks
    controlStep f (s.onSmu fun _ => { u with lastFreq := f, ticks := 0, toothCount := 0 })
  else s.onSmu fun _ => u

/-- R4: the window timeout. -/
def windowTimeout (s : State) : State :=
  controlStep 0 (s.onSmu fun _ =>
    { window := .waiting, toothCount := 0, ticks := 0, lastFreq := 0, timeout := some Config.windowTimeout })

end Sys2Proof.Machine
end

