-- ==== Sys2Proof/Machine/EventsPlant.lean ====
section
/-! DEFINITION. The events of the shaft, the station, the levels, the watch inputs, the arbiter, the drives, the rake and the
feeders: one meaning for each row. -/

namespace Sys2Proof.Machine

/-- What a meaning answers: every row has an effect, and goes on. -/
abbrev Answer := Host.Outcome State Fault Refusal

/-- TOOTH_EDGE (R1, R2). -/
def execToothEdge (ticks : Nat) (s : State) : Answer := .next (whenPowered s (toothEdge ticks))

/-- WINDOW_TIMEOUT (R4). -/
def execWindowTimeout (s : State) : Answer :=
  .next (whenPowered s fun s => whenRunning s.smu.timeout s windowTimeout)

/-- R25: the start timer runs out in STARTING or RUN_UP. -/
def startTimeout (s : State) : State :=
  let s := s.onSs fun q => { q with startTimer := none }
  if s.ss.station = .starting ∨ s.ss.station = .runUp then takeTrip .noSpeed s.smu.lastFreq s else s

/-- START_TIMER_EXPIRY (R25). -/
def execStartTimerExpiry (s : State) : Answer :=
  .next (whenPowered s fun s => whenRunning s.ss.startTimer s startTimeout)

/-- R26: the settle timer runs out in RUN_UP. -/
def settled (s : State) : State :=
  let s := s.onSs fun q => { q with settleTimer := none }
  if s.ss.station = .runUp then enterLive s else s

/-- SETTLE_TIMER_EXPIRY (R26, R27). -/
def execSettleTimerExpiry (s : State) : Answer :=
  .next (whenPowered s fun s => whenRunning s.ss.settleTimer s settled)

/-- R31: the underspeed timer runs out in LIVE. -/
def underspeedTimeout (s : State) : State :=
  let s := s.onSs fun q => { q with underspeedTimer := none }
  if s.ss.station = .live then takeTrip .underspeed s.smu.lastFreq s else s

/-- UNDERSPEED_TIMER_EXPIRY (R31). -/
def execUnderspeedTimerExpiry (s : State) : Answer :=
  .next (whenPowered s fun s => whenRunning s.ss.underspeedTimer s underspeedTimeout)

/-- R30: the run-down timer runs out in STOPPING. -/
def runDownTimeout (s : State) : State :=
  let s := s.onSs fun q => { q with runDownTimer := none }
  if s.ss.station = .stopping then
    let s := s.onSs fun q => { q with runDownMark := true }
    if s.gc.gateOut = 0 then enterStopped .runDown s else s
  else s

/-- RUN_DOWN_TIMER_EXPIRY (R30). -/
def execRunDownTimerExpiry (s : State) : Answer :=
  .next (whenPowered s fun s => whenRunning s.ss.runDownTimer s runDownTimeout)

/-- LEVEL_SAMPLE_PERIOD (R41 to R45). -/
def execLevelSamplePeriod (pond forebay : BitVec 12) (s : State) : Answer :=
  .next (whenPowered s fun s => whenRunning s.lu.sampleTimer s (levelSample pond forebay))

/-- WATCH_SAMPLE_PERIOD (R52). -/
def execWatchSamplePeriod (s : State) : Answer :=
  .next (whenPowered s fun s => whenRunning s.wu.sampleTimer s watchSample)

/-- WATCH_EDGE (R51): a transition on the wire of an input; the wire moves whether or not the part has its supply. -/
def execWatchEdge (input : Fin 4) (high : Bool) (s : State) : Answer := .next (watchTransition input high s)

/-- SPACING_TIMER_EXPIRY (R67). -/
def execSpacingTimerExpiry (s : State) : Answer :=
  .next (whenPowered s fun s => whenRunning s.da.spacingTimer s fun s =>
    arbitrate (s.onDa fun d => { d with spacingTimer := none }))

/-- SHORTFALL_TIMER_EXPIRY (R75, R76). -/
def execShortfallTimerExpiry (s : State) : Answer :=
  .next (whenPowered s fun s => whenRunning s.da.shortfallTimer s shortfallExpired)

/-- The owner's queue entry has its wait timer running. -/
def State.waiting (s : State) (o : Owner) : Bool := s.da.queue.any fun e => decide (e.owner = o) && e.waitTimer.isSome

/-- WAIT_TIMER_EXPIRY (R68). -/
def execWaitTimerExpiry (owner : Owner) (s : State) : Answer :=
  .next (whenPowered s fun s => if s.waiting owner then withdrawOwner owner .wait s else s)

/-- LEAD_TIMER_EXPIRY (R88). -/
def execLeadTimerExpiry (slot : Fin 4) (s : State) : Answer :=
  .next (whenPowered s fun s =>
    if (s.slot slot).state = .lead ∧ (s.slot slot).leadTimer.isSome then clutchIn slot s else s)

/-- SPIN_UP_TIMER_EXPIRY (R89). -/
def execSpinUpTimerExpiry (slot : Fin 4) (s : State) : Answer :=
  .next (whenPowered s fun s =>
    if (s.slot slot).state = .clutching ∧ (s.slot slot).spinUpTimer.isSome then
      postDrive slot .clutching .spunUp (s.onSlot slot fun d => { d with state := .ready, spinUpTimer := none })
    else s)

/-- STROKE_END (R92, R93). -/
def execStrokeEnd (slot : Fin 4) (s : State) : Answer := .next (whenPowered s (strokeEnd arbitrate slot))

/-- STROKE_TIMER_EXPIRY (R95): the timer counts in CUTTING alone. -/
def execStrokeTimerExpiry (slot : Fin 4) (s : State) : Answer :=
  .next (whenPowered s fun s =>
    if (s.slot slot).state = .cutting ∧ (s.slot slot).strokeTimer.isSome then strokeTimeout arbitrate slot s else s)

/-- COAST_TIMER_EXPIRY (R102). -/
def execCoastTimerExpiry (slot : Fin 4) (s : State) : Answer :=
  .next (whenPowered s fun s =>
    if (s.slot slot).state = .coasting ∧ (s.slot slot).coastTimer.isSome then
      postDrive slot .coasting .coasted (s.onSlot slot fun d => { d with state := .idle, coastTimer := none })
    else s)

/-- CYCLE_TIMER_EXPIRY (R90). -/
def execCycleTimerExpiry (slot : Fin 4) (s : State) : Answer :=
  .next (whenPowered s fun s => whenRunning (s.slot slot).cycleTimer s fun s =>
    arbitrate (s.onSlot slot fun d => { d with cycleTimer := none }))

/-- DUE_TIMER_EXPIRY (R106). -/
def execDueTimerExpiry (s : State) : Answer :=
  .next (whenPowered s fun s => whenRunning s.rk.dueTimer s fun s =>
    dueTrigger arbitrate .interval (s.onRk fun k => { k with dueTimer := none }))

/-- GRACE_TIMER_EXPIRY (R108). -/
def execGraceTimerExpiry (s : State) : Answer :=
  .next (whenPowered s fun s => whenRunning s.rk.graceTimer s (graceExpired arbitrate))

/-- RUN_TIMER_EXPIRY (R110). -/
def execRunTimerExpiry (s : State) : Answer :=
  .next (whenPowered s fun s =>
    if s.rk.state = .running ∧ s.rk.runTimer.isSome then runComplete arbitrate s else s)

/-- MINIMUM_OFF_TIMER_EXPIRY (R121). -/
def execMinimumOffTimerExpiry (feeder : Fin 12) (s : State) : Answer :=
  .next (whenPowered s fun s => whenRunning (s.feeder feeder).minOffTimer s fun s =>
    arbitrate (s.onFeeder feeder fun d => { d with minOffTimer := none }))

/-- STAGE_TIMER_EXPIRY (R128, R129). -/
def execStageTimerExpiry (stage : Fin 3) (s : State) : Answer :=
  .next (whenPowered s fun s =>
    if (s.stage stage).state = .timing ∧ (s.stage stage).timer.isSome then
      fireStage arbitrate giveSpace stage s.smu.lastFreq s
    else s)

/-- RESTORE_TIMER_EXPIRY (R131, R132). -/
def execRestoreTimerExpiry (s : State) : Answer :=
  .next (whenPowered s fun s => whenRunning s.fu.restoreTimer s (setPermit arbitrate))

/-- CALENDAR_SECOND (R140, R154, R134, R141). -/
def execCalendarSecond (products : Vector (BitVec 24) 12) (s : State) : Answer := .next (calendarSecond products s)

/-- TRIM_WINDOW_START (R138, R139). -/
def execTrimWindowStart (s : State) : Answer := .next (startTrimWindow s)

/-- GENERATOR_CROSSING (R145). -/
def execGeneratorCrossing (s : State) : Answer := .next (generatorCrossing s)

end Sys2Proof.Machine
end

