-- ==== Sys2Proof/Decode.lean ====
section
/-! DEFINITION. The numeric kinds of the command frames (R197), both ways, and the host's `decodeTableWord`: no row of
the opcode table gives any bits, so no word spells a command. -/

namespace Sys2Proof

/-- The kind code of each command (the first table of R197). -/
def CommandKind.code : CommandKind → Byte
  | .hello => 0x01
  | .status => 0x02
  | .reset => 0x03
  | .start => 0x08
  | .stop => 0x09
  | .clearTrip => 0x0A
  | .readTrip => 0x0B
  | .setGovernor => 0x0C
  | .standingOn => 0x0D
  | .standingOff => 0x0E
  | .setAlarm => 0x0F
  | .setLevels => 0x10
  | .setWatch => 0x11
  | .ackWatch => 0x12
  | .readLevels => 0x13
  | .setDispatch => 0x14
  | .listTable => 0x15
  | .listQueue => 0x16
  | .cancel => 0x17
  | .setDrive => 0x18
  | .engage => 0x19
  | .cut => 0x1A
  | .halt => 0x1B
  | .release => 0x1C
  | .clearDrive => 0x1D
  | .setRake => 0x1E
  | .rakeNow => 0x1F
  | .setFeeder => 0x20
  | .setShedding => 0x21
  | .connect => 0x22
  | .disconnect => 0x23
  | .lockFeeder => 0x24
  | .unlockFeeder => 0x25
  | .setClock => 0x28
  | .readClock => 0x29
  | .setTrim => 0x2A
  | .shiftHour => 0x2B
  | .zeroTimeError => 0x2C
  | .setCorrection => 0x2D
  | .readMeter => 0x30
  | .setTariff => 0x31
  | .save => 0x34
  | .readJournal => 0x35
  | .storeConfig => 0x36
  | .unprotect => 0x37
  | .writeCommission => 0x38
  | .lockCommission => 0x39
  | .readCommission => 0x3A

/-- The command whose kind code a frame carries (R197); a code outside the table names none and is answered UNKNOWN. -/
def CommandKind.ofCode (kind : Byte) : Option CommandKind :=
  match kind.toNat with
  | 0x01 => some .hello
  | 0x02 => some .status
  | 0x03 => some .reset
  | 0x08 => some .start
  | 0x09 => some .stop
  | 0x0A => some .clearTrip
  | 0x0B => some .readTrip
  | 0x0C => some .setGovernor
  | 0x0D => some .standingOn
  | 0x0E => some .standingOff
  | 0x0F => some .setAlarm
  | 0x10 => some .setLevels
  | 0x11 => some .setWatch
  | 0x12 => some .ackWatch
  | 0x13 => some .readLevels
  | 0x14 => some .setDispatch
  | 0x15 => some .listTable
  | 0x16 => some .listQueue
  | 0x17 => some .cancel
  | 0x18 => some .setDrive
  | 0x19 => some .engage
  | 0x1A => some .cut
  | 0x1B => some .halt
  | 0x1C => some .release
  | 0x1D => some .clearDrive
  | 0x1E => some .setRake
  | 0x1F => some .rakeNow
  | 0x20 => some .setFeeder
  | 0x21 => some .setShedding
  | 0x22 => some .connect
  | 0x23 => some .disconnect
  | 0x24 => some .lockFeeder
  | 0x25 => some .unlockFeeder
  | 0x28 => some .setClock
  | 0x29 => some .readClock
  | 0x2A => some .setTrim
  | 0x2B => some .shiftHour
  | 0x2C => some .zeroTimeError
  | 0x2D => some .setCorrection
  | 0x30 => some .readMeter
  | 0x31 => some .setTariff
  | 0x34 => some .save
  | 0x35 => some .readJournal
  | 0x36 => some .storeConfig
  | 0x37 => some .unprotect
  | 0x38 => some .writeCommission
  | 0x39 => some .lockCommission
  | 0x3A => some .readCommission
  | _ => none

/-- No row of spec/opcode_table.json gives bits: a word spells no command. -/
def decodeTableWord (_nbits _w : Nat) : Option Instr := none

end Sys2Proof
end

