-- ==== Sys2Proof/Machine/Image.lean ====
section
/-! DEFINITION. The configuration image (R173, R200): its encoding, its decoding, and the blocks' taking of the stored values at the
load completion (R180). -/

namespace Sys2Proof.Machine

/-- R173: the settings that the image holds, in the order of R200. -/
structure ConfigImage where
  gov : GovParams
  levels : LevelParams
  watch : Vector WatchSetting 4
  dispatch : DispatchParams
  rake : RakeParams
  shedding : SheddingParams
  correction : CorrectionParams
  /-- The profile of each slot whose profile-present flag is set. -/
  drives : Vector (Option DriveProfile) 4
  feeders : Vector FeederProfile 12
  alarmSource : AlarmSource
  alarmInverted : Bool
  deriving DecidableEq, Repr

/-- The bytes of a watch input's settings: mode, filter count, action. -/
def WatchSetting.bytes (w : WatchSetting) : List Byte := u8 w.mode.code ++ u8 w.filterCount ++ u8 w.action.code

/-- The bytes of a slot's profile-present flag and profile; an absent profile is all zero (R84). -/
def driveImage (p : Option DriveProfile) : List Byte :=
  flagByte p.isSome ++ encodeFields DriveProfile.fields (p.getD .zero).toList

/-- R200: the 311 bytes of the image, its fields laid end to end. -/
def ConfigImage.bytes (c : ConfigImage) : List Byte :=
  encodeFields GovParams.fields c.gov.toList ++ (encodeFields LevelParams.fields c.levels.toList
    ++ (c.watch[0].bytes ++ (c.watch[1].bytes ++ (c.watch[2].bytes ++ (c.watch[3].bytes
    ++ (encodeFields DispatchParams.fields c.dispatch.toList ++ (encodeFields RakeParams.fields c.rake.toList
    ++ (encodeFields SheddingParams.fields c.shedding.toList
    ++ (encodeFields CorrectionParams.fields c.correction.toList
    ++ (driveImage c.drives[0] ++ (driveImage c.drives[1] ++ (driveImage c.drives[2] ++ (driveImage c.drives[3]
    ++ (c.feeders[0].bytes ++ (c.feeders[1].bytes ++ (c.feeders[2].bytes ++ (c.feeders[3].bytes
    ++ (c.feeders[4].bytes ++ (c.feeders[5].bytes ++ (c.feeders[6].bytes ++ (c.feeders[7].bytes
    ++ (c.feeders[8].bytes ++ (c.feeders[9].bytes ++ (c.feeders[10].bytes ++ (c.feeders[11].bytes
    ++ (u8 c.alarmSource.code ++ flagByte c.alarmInverted))))))))))))))))))))))))))

/-- R173, R200: the image with the CRC-16 that closes it. -/
def ConfigImage.stored (c : ConfigImage) : List Byte := c.bytes ++ crcField c.bytes

/-- The number that a stored field puts in force: the stored one, where it lies in the field's range, and otherwise a free one of
that range (log 11). `choice` numbers the load, `place` the field. -/
def settle (choice place : Nat) (f : Field) (v : Nat) : Nat :=
  if f.lo ≤ v ∧ v ≤ f.hi then v else clampTo f.lo f.hi (Config.strayValue choice place)

/-- The numbers that stored fields, laid end to end at the head of some bytes, put in force. -/
def settleFields (choice : Nat) : List Field → List Byte → List Nat
  | [], _ => []
  | f :: fs, b => settle choice b.length f (fieldValue f.size b) :: settleFields choice fs (b.drop f.size)

/-- The bytes after some fields. -/
def afterFields (fs : List Field) (b : List Byte) : List Byte := b.drop (fieldsSize fs)

/-- The case that a stored code names; a code outside the table of `n` codes names a free case (log 11). -/
def settleCode {α : Type} (choice : Nat) (b : List Byte) (n : Nat) (ofCode : Nat → Option α) (first : α) : α :=
  match ofCode (u8At b 0) with
  | some x => x
  | none => (ofCode (Config.strayValue choice b.length % n)).getD first

/-- A stored flag; a byte other than 0 or 1 is a free flag (log 11). -/
def settleFlag (choice : Nat) (b : List Byte) : Bool :=
  match flagAt b 0 with
  | some x => x
  | none => decide (Config.strayValue choice b.length % 2 = 1)

/-- A stored filter count; a byte other than 2, 4 or 8 is a free one of these (log 11). -/
def settleFilter (choice : Nat) (b : List Byte) : Nat :=
  let n := u8At b 0
  if n = 2 ∨ n = 4 ∨ n = 8 then n else 2 ^ (Config.strayValue choice b.length % 3 + 1)

/-- A watch input's settings at the head of some bytes. -/
def takeWatchSetting (choice : Nat) (b : List Byte) : WatchSetting :=
  { mode := settleCode choice b 5 WatchMode.ofCode .disabled, filterCount := settleFilter choice (b.drop 1)
    action := settleCode choice (b.drop 2) 5 WatchAction.ofCode .report }

/-- A slot's profile-present flag and profile at the head of some bytes. -/
def takeDrive (choice : Nat) (b : List Byte) : Option DriveProfile :=
  if settleFlag choice b then some (.ofList (settleFields choice DriveProfile.fields (b.drop 1))) else none

/-- A feeder's profile at the head of some bytes. -/
def takeFeeder (choice : Nat) (b : List Byte) : FeederProfile :=
  .ofList (settleFlag choice (afterFields FeederProfile.fields b)) (settleFields choice FeederProfile.fields b)

/-- The settings that the 311 bytes of an image put in force (R180, R200); `choice` numbers the load (log 11). -/
def decodeImage (choice : Nat) (b : List Byte) : ConfigImage :=
  let bLevels := afterFields GovParams.fields b
  let bWatch := afterFields LevelParams.fields bLevels
  let bDispatch := bWatch.drop 12
  let bRake := afterFields DispatchParams.fields bDispatch
  let bShedding := afterFields RakeParams.fields bRake
  let bCorrection := afterFields SheddingParams.fields bShedding
  let bDrives := afterFields CorrectionParams.fields bCorrection
  let drive := fun k : Nat => takeDrive choice (bDrives.drop (k * (1 + fieldsSize DriveProfile.fields)))
  let bFeeders := bDrives.drop (4 * (1 + fieldsSize DriveProfile.fields))
  let feeder := fun k : Nat => takeFeeder choice (bFeeders.drop (k * (fieldsSize FeederProfile.fields + 1)))
  let bAlarm := bFeeders.drop (12 * (fieldsSize FeederProfile.fields + 1))
  { gov := .ofList (settleFields choice GovParams.fields b)
    levels := .ofList (settleFields choice LevelParams.fields bLevels)
    watch := #v[takeWatchSetting choice bWatch, takeWatchSetting choice (bWatch.drop 3),
      takeWatchSetting choice (bWatch.drop 6), takeWatchSetting choice (bWatch.drop 9)]
    dispatch := .ofList (settleFields choice DispatchParams.fields bDispatch)
    rake := .ofList (settleFields choice RakeParams.fields bRake)
    shedding := .ofList (settleFields choice SheddingParams.fields bShedding)
    correction := .ofList (settleFields choice CorrectionParams.fields bCorrection)
    drives := #v[drive 0, drive 1, drive 2, drive 3]
    feeders := #v[feeder 0, feeder 1, feeder 2, feeder 3, feeder 4, feeder 5, feeder 6, feeder 7, feeder 8, feeder 9,
      feeder 10, feeder 11]
    alarmSource := settleCode choice bAlarm 5 AlarmSource.ofCode .off
    alarmInverted := settleFlag choice (bAlarm.drop 1) }

/-- R180, R200: the image in sector 0, valid when the CRC-16 at offset 311 matches its 311 bytes, and for that alone. -/
def storedImage (choice : Nat) (m : Flash) : Option ConfigImage :=
  if m.imageValid then some (decodeImage choice (m.readBytes 0 311)) else none

/-- R180, R198: the band table in page 0 of sector 1 when its CRC-16 matches and it meets the tests of R159. -/
def storedTariff (m : Flash) : Option (List Band) :=
  let n := (m.read 4096).toNat
  if n ≤ 8 then
    let b := m.readBytes 4096 (1 + 3 * n)
    if m.readBytes (4096 + 1 + 3 * n) 2 = crcField b then bandTable? b else none
  else none

/-- R173: the image of the settings in force. -/
def currentImage (s : State) : ConfigImage :=
  { gov := s.gc.params, levels := s.lu.params
    watch := #v[s.wu.inputs[0].setting, s.wu.inputs[1].setting, s.wu.inputs[2].setting, s.wu.inputs[3].setting]
    dispatch := s.da.params, rake := s.rk.params, shedding := s.fu.params, correction := s.cu.params
    drives :=
      let f := fun (d : Slot) => if d.present then some d.profile else none
      #v[f s.ds.slots[0], f s.ds.slots[1], f s.ds.slots[2], f s.ds.slots[3]]
    feeders := map12 (fun d => d.profile) s.fu.feeders
    alarmSource := s.ss.alarmSource, alarmInverted := s.ss.alarmInverted }

/-- R84: a slot takes the profile that the image holds as present. -/
def takeProfile (p : Option DriveProfile) (d : Slot) : Slot :=
  match p with
  | some p => { d with profile := p, present := true }
  | none => { d with profile := .zero, present := false }

/-- R114: the RK takes the stored parameters and restarts the due timer, which runs in IDLE alone (R106). -/
def takeRakeParams (p : RakeParams) (k : RakeUnit) : RakeUnit :=
  { k with params := p, dueTimer := if k.state = .idle then some (p.interval * 60000) else k.dueTimer }

/-- R38, R39, R40: a new alarm relay setting. -/
def takeAlarm (source : AlarmSource) (inverted : Bool) (s : State) : State :=
  setAlarmRelay (s.onSs fun q => { q with alarmSource := source, alarmInverted := inverted })

/-- R22, R40, R48, R55, R80, R84, R104, R114, R136, R149, R180: the blocks take the stored values, in the order of the
image; the arming of the watch inputs, which may act, comes last (log 12). -/
def takeImage (c : ConfigImage) (s : State) : State :=
  let s := handOverGMax (takeLevels c.levels (takeGovernor c.gov s))
  let s := takeWatchSettings c.watch s
  let s := s.onDa fun d => { d with params := c.dispatch }
  let s := s.onRk (takeRakeParams c.rake)
  let s := s.onFu fun u => { u with params := c.shedding }
  let s := s.onCu fun u => { u with params := c.correction }
  let s := allSlots.foldl (fun s i => s.onSlot i (takeProfile c.drives[i])) s
  let s := allFeeders.foldl (fun s i => s.onFeeder i fun d => { d with profile := c.feeders[i] }) s
  armAll (takeAlarm c.alarmSource c.alarmInverted s)

/-- R180: the load completion. -/
def loadComplete (s : State) : State :=
  match s.store.startup with
  | .loading =>
    let s := s.onStore fun a => { a with startup := .scanning }
    let s := match storedImage s.choices s.store.array with
      | some c => takeImage c s.nextChoice
      | none => handOverGMax (s.onStore fun a => { a with configDefault := true })
    match storedTariff s.store.array with
    | some bands => lookUpTariff (s.onMu fun u => { u with bands := bands })
    | none => s
  | .scanning | .complete => s

end Sys2Proof.Machine
end

