-- ==== Sys2Proof/Machine/Reset.lean ====
section
/-! DEFINITION. Main-domain resets (00_scope, Resets), power-on with the calendar cold start (R151), and loss of power (R137). -/

namespace Sys2Proof.Machine

/-- A main-domain reset: every block takes the values that its chapter states (R6, R21, R40, R48, R55, R80, R104, R114, R136,
R150, R163, R182, R195). The array, the commissioning block, the calendar domain, the wires of the watch inputs and the
commands that wait outside keep what they hold; an operation of the array is cut off (log 4). -/
def mainReset (s : State) : State :=
  let s := cutOff s
  { s with
    smu := smuReset, gc := gcReset, ss := ssReset, lu := luReset, wu := wuReset s.wu.pins, da := daReset, ds := dsReset
    rk := rkReset, fu := fuReset, cu := cuReset s.cu, mu := muReset
    store := storeReset s.store.commissioning s.store.array, sl := slReset }

/-- R151: at power-on a clear validity flag makes a calendar cold start. -/
def coldStartIfLost (cu : CalendarUnit) : CalendarUnit := if cu.valid then cu else cuCold

/-- R151: the validity flag is clear once the backup cell has failed. -/
def loseCell (failed : Bool) (cu : CalendarUnit) : CalendarUnit := if failed then { cu with valid := false } else cu

/-- R137, R151: the main domain starts. -/
def powerOn (cellFailed : Bool) (s : State) : State :=
  ((mainReset (s.onCu (loseCell cellFailed))).onCu coldStartIfLost).setPowered true

/-- R137, R145: the main domain loses its supply: its outputs drop and its state is lost; the calendar domain runs on. The
lost state is given the values that the next reset sets in any case (log 13). -/
def losePower (s : State) : State := (mainReset s).setPowered false

end Sys2Proof.Machine
end

