-- ==== Sys2Proof/Machine/ServePlant.lean ====
section
/-! DEFINITION. What the Gate Controller, the Station Sequencer, the Level Unit, the Watch Unit and the Dispatch Arbiter do with
their commands (chapters 1 to 4): `serveX body s` tests the command in service, acts on it and builds its reply. -/

namespace Sys2Proof.Machine

/-- R187, R188, R196: a command whose body has one fixed length; another length is refused with BAD_LENGTH, which carries the
result alone. DESIGN CHOICE (log 36): where a command's rule names no order between this refusal and its others, the length is
tested first, before a byte of the body or the owner's state is looked at. -/
def withLength (n : Nat) (body : List Byte) (f : State → State) (s : State) : State :=
  if body.length = n then f s else reply .badLength [] s

/-- A command that sets a group of parameters: its values are clamped (R187), refused with BAD_ARG where their order is
wrong, and otherwise replace those in force; the reply carries OK or CLAMPED and the values now in force. -/
def setGroup (fields : List Field) (ordered : List Nat → Bool) (take : List Nat → State → State) (body : List Byte)
    (s : State) : State :=
  withLength (fieldsSize fields) body (fun s =>
    let sent := decodeFields fields body
    let v := clampFields fields sent
    if ordered v then reply (clampResult sent v) (encodeFields fields v) (take v s) else reply .badArg [] s) s

/-- R19, R20: SET_GOVERNOR. -/
def serveSetGovernor (body : List Byte) (s : State) : State :=
  setGroup GovParams.fields (fun _ => true) (fun v => takeGovernor (.ofList v)) body s

/-- R24: START. -/
def serveStart (body : List Byte) (s : State) : State :=
  withLength 0 body (fun s =>
    if s.ss.station = .stopped then
      reply .ok [] (setStation .starting .start (s.onSs fun q => { q with startTimer := some Config.startTime }))
    else reply .state [] s) s

/-- R29: STOP. -/
def serveStop (body : List Byte) (s : State) : State :=
  withLength 0 body (fun s =>
    if s.ss.station.stoppable then reply .ok [] (stationStop .hostStop s) else reply .state [] s) s

/-- R35: the captured watch input is still latched. -/
def State.captureHeld (s : State) : Bool :=
  match s.ss.capture with
  | some r => match r.cause with
    | .watch i => (s.input i).latched
    | .overspeed | .underspeed | .noSpeed => false
  | none => false

/-- R35: CLEAR_TRIP. -/
def serveClearTrip (body : List Byte) (s : State) : State :=
  withLength 0 body (fun s =>
    if s.ss.station = .tripped ∧ s.captureHeld = false then
      reply .ok [] (enterStopped .clear (s.onSs fun q => { q with capture := none }))
    else reply .state [] s) s

/-- R200: the trip capture record. -/
def TripRecord.bytes (r : TripRecord) : List Byte :=
  u8 r.cause.code ++ u8 r.cause.inputByte ++ u32 r.time ++ u32 r.freq ++ u16 r.gateOut ++ u32 r.bookings
    ++ u8 r.entries ++ flagByte r.overflow

/-- R34: READ_TRIP. -/
def serveReadTrip (body : List Byte) (s : State) : State :=
  withLength 0 body (fun s =>
    match s.ss.capture with
    | some r => reply .ok (flagByte true ++ r.bytes) s
    | none => reply .ok (flagByte false) s) s

/-- R36: the slot states in which STANDING_ON is refused. -/
def SlotState.working (t : SlotState) : Bool := t.engaged || decide (t = .coasting)

/-- R36: STANDING_ON. -/
def serveStandingOn (body : List Byte) (s : State) : State :=
  withLength 0 body (fun s =>
    if s.ss.station ≠ .live then reply .state [] s
    else if allSlots.any fun i => (s.slot i).state.working then reply .busy [] s
    else if s.ss.standing then reply .ok [] s
    else reply .ok [] (standingOn s)) s

/-- R37: STANDING_OFF. -/
def serveStandingOff (body : List Byte) (s : State) : State :=
  withLength 0 body (fun s => reply .ok [] (if s.ss.standing then standingOff s else s)) s

/-- R39: SET_ALARM. -/
def serveSetAlarm (body : List Byte) (s : State) : State :=
  withLength 2 body (fun s =>
    match AlarmSource.ofCode (u8At body 0), flagAt body 1 with
    | some source, some inverted => reply .ok [] (takeAlarm source inverted s)
    | _, _ => reply .badArg [] s) s

/-- R46, step 3: the order of the level parameters. -/
def levelsOrdered (v : List Nat) : Bool :=
  let p := LevelParams.ofList v
  decide (p.lMin < p.lLow ∧ p.pondLow < p.pondHigh ∧ p.forebayLow < p.forebayHigh)

/-- R46: SET_LEVELS. -/
def serveSetLevels (body : List Byte) (s : State) : State :=
  setGroup LevelParams.fields levelsOrdered (fun v => takeLevels (.ofList v)) body s

/-- The input a number names (R50, R54). -/
def inputOfByte (n : Nat) : Option (Fin 4) := if h : n < 4 then some ⟨n, h⟩ else none

/-- R50: SET_WATCH. -/
def serveSetWatch (body : List Byte) (s : State) : State :=
  withLength 4 body (fun s =>
    match inputOfByte (u8At body 0), WatchMode.ofCode (u8At body 1), WatchAction.ofCode (u8At body 3) with
    | some i, some mode, some action =>
      let n := u8At body 2
      if mode.isLevel ∧ n ≠ 2 ∧ n ≠ 4 ∧ n ≠ 8 then reply .badArg [] s
      else reply .ok [] (setInput i mode n action s)
    | _, _, _ => reply .badArg [] s) s

/-- R54: ACK_WATCH. -/
def serveAckWatch (body : List Byte) (s : State) : State :=
  withLength 1 body (fun s =>
    match inputOfByte (u8At body 0) with
    | some i =>
      let s := acknowledge i s
      reply .ok (flagByte (s.input i).latched) s
    | none => reply .badArg [] s) s

/-- R47: a raw value scaled to mm. -/
def scaled (raw lo hi : Nat) : Nat := (lo + ((hi : Int) - lo) * raw / 4095).toNat

/-- R47: what READ_LEVELS carries of one channel. -/
def channelBytes (c : LevelChannel) (lo hi : Nat) : List Byte :=
  u16 c.lastRaw ++ u16 (scaled c.lastRaw lo hi) ++ flagByte c.filled ++ flagByte c.fault ++ u16 (c.mean lo hi)

/-- R47: READ_LEVELS. -/
def serveReadLevels (body : List Byte) (s : State) : State :=
  withLength 0 body (fun s =>
    let p := s.lu.params
    reply .ok
      (channelBytes s.lu.pond p.pondLow p.pondHigh ++ channelBytes s.lu.forebay p.forebayLow p.forebayHigh
        ++ u16 s.lu.rackLoss ++ u16 (s.lu.gFF.getD 0) ++ flagByte s.lu.drivePause ++ flagByte s.lu.rackHigh) s) s

/-- R77: SET_DISPATCH. -/
def serveSetDispatch (body : List Byte) (s : State) : State :=
  setGroup DispatchParams.fields (fun _ => true)
    (fun v s => arbitrate (shortfallTest (s.onDa fun d => { d with params := .ofList v }))) body s

/-- R198: an entry of LIST_TABLE. -/
def TableEntry.bytes (e : TableEntry) : List Byte :=
  u8 (ownerByte e.owner) ++ u8 e.phase.code ++ u16 e.booking ++ u32 e.grantTime.toNat

/-- R78: LIST_TABLE. -/
def serveListTable (body : List Byte) (s : State) : State :=
  withLength 0 body (fun s =>
    reply .ok
      (u8 s.da.table.length ++ u32 s.bookingSum ++ u32 s.da.capacity ++ u16 s.da.params.reserve
        ++ s.da.table.flatMap TableEntry.bytes) s) s

/-- R198: an entry of LIST_QUEUE, with whether it is eligible. -/
def QueueEntry.bytes (e : QueueEntry) (eligible : Bool) : List Byte :=
  u8 (ownerByte e.owner) ++ u8 e.cls ++ u16 e.booking ++ u32 e.sequence ++ u16 e.waitLimit
    ++ u16 (secondsUp (e.waitTimer.getD 0)) ++ u8 e.origin.code ++ flagByte eligible

/-- R79: LIST_QUEUE. -/
def serveListQueue (body : List Byte) (s : State) : State :=
  withLength 0 body (fun s =>
    reply .ok
      (u8 s.da.queue.length ++ flagByte s.da.spacingTimer.isSome ++ u16 (s.da.spacingTimer.getD 0)
        ++ flagByte s.da.shortfallTimer.isSome ++ u16 (s.da.shortfallTimer.getD 0)
        ++ s.da.queue.flatMap fun e => e.bytes (s.eligible e.owner)) s) s

/-- R71: CANCEL. DESIGN CHOICE (log 36): R71 names BAD_ARG and BAD_LENGTH without precedence; the model tests the length first. -/
def serveCancel (body : List Byte) (s : State) : State :=
  withLength 1 body (fun s =>
    match ownerOfByte (u8At body 0) with
    | some .rake => reply .state [] s
    | some o => if s.queueHas o then reply .ok [] (withdrawOwner o .cancel s) else reply .notFound [] s
    | none => reply .badArg [] s) s

end Sys2Proof.Machine
end

