-- ==== Sys2Proof/Machine/ServeOwners.lean ====
section
/-! DEFINITION. What the Drive Scheduler, the Rake Unit and the Feeder Unit do with their commands (chapters 5 to 7). -/

namespace Sys2Proof.Machine

/-- R83: what the replies of the slot commands carry after the result. -/
def slotValues (s : State) (i : Fin 4) : List Byte :=
  u8 (ownerByte (.drive i)) ++ u8 (s.slot i).state.code ++ u8 (s.slot i).remaining ++ u16 (s.slot i).strokes

/-- R83: a slot command's reply, with the slot's values as they stand when it is built. -/
def slotReply (r : Result) (i : Fin 4) (s : State) : State := reply r (slotValues s i) s

/-- R83: the replies of CUT and HALT carry as well the remaining count as it stood before the command. -/
def slotReplyPrev (r : Result) (i : Fin 4) (prev : Nat) (s : State) : State := reply r (slotValues s i ++ u8 prev) s

/-- R83: a command that carries a slot at the head of a body of one length. DESIGN CHOICE (log 36): R83 names BAD_ARG and
BAD_LENGTH without precedence; a body of the wrong length whose first byte names no slot is answered BAD_LENGTH. -/
def withSlot (n : Nat) (body : List Byte) (f : Fin 4 → State → State) (s : State) : State :=
  withLength n body (fun s =>
    match slotOfByte (u8At body 0) with
    | some i => f i s
    | none => reply .badArg [] s) s

/-- R84: SET_DRIVE's reply: the slot and the nine values in force. -/
def driveReply (r : Result) (i : Fin 4) (s : State) : State :=
  reply r (u8 (ownerByte (.drive i)) ++ encodeFields DriveProfile.fields (s.slot i).profile.toList) s

/-- R84: SET_DRIVE. -/
def serveSetDrive (body : List Byte) (s : State) : State :=
  withSlot (1 + fieldsSize DriveProfile.fields) body (fun i s =>
    if (s.slot i).state = .idle ∨ (s.slot i).state = .fault then
      let sent := decodeFields DriveProfile.fields (body.drop 1)
      let v := clampFields DriveProfile.fields sent
      driveReply (clampResult sent v) i (s.onSlot i fun d => { d with profile := .ofList v, present := true })
    else driveReply .busy i s) s

/-- R60, R187: the result of an enqueue request. -/
def EnqueueResult.result : EnqueueResult → Result
  | .taken => .queued
  | .duplicate => .duplicate
  | .full => .full

/-- R85: the request of a slot. -/
def driveRequest (s : State) (i : Fin 4) : Request :=
  let p := (s.slot i).profile
  { owner := .drive i, cls := p.cls, booking := p.booking, waitLimit := p.waitLimit, origin := .host }

/-- R85: ENGAGE, its tests in their order. -/
def serveEngage (body : List Byte) (s : State) : State :=
  withSlot 1 body (fun i s =>
    if s.ss.station ≠ .live then slotReply .state i s
    else if s.ss.standing then slotReply .mode i s
    else if (s.slot i).state ≠ .idle then slotReply .state i s
    else if (s.slot i).present = false then slotReply .badArg i s
    else
      let (r, s) := enqueue arbitrate (driveRequest s i) (fun s => s.onSlot i fun d => { d with state := .queued }) s
      slotReply r.result i s) s

/-- R91: CUT from READY. -/
def startCut (i : Fin 4) (n : Nat) (release : Bool) (s : State) : State :=
  let held := s.ds.feedHold
  postDrive i .ready .cut (s.onSlot i fun d =>
    { d with
      state := if held then .held else .cutting
      remaining := n, releaseFlag := release, strokes := 0, strokeTimer := some (d.profile.strokeTimeout * 1000) })

/-- R91: CUT. DESIGN CHOICE (log 34): a flag byte that is neither 0 nor 1 is refused with BAD_ARG (R196) before the slot's state
is tested. -/
def serveCut (body : List Byte) (s : State) : State :=
  withSlot 3 body (fun i s =>
    let prev := (s.slot i).remaining
    let n := u8At body 1
    match flagAt body 2 with
    | none => slotReplyPrev .badArg i prev s
    | some release =>
      match (s.slot i).state with
      | .ready => slotReplyPrev .ok i 0 (startCut i n release s)
      | .cutting | .held =>
        if (s.slot i).rakeHalt then slotReplyPrev .mode i prev s
        else slotReplyPrev .ok i prev (s.onSlot i fun d => { d with remaining := n, releaseFlag := release })
      | .lead | .clutching => slotReplyPrev .notReady i prev s
      | .idle | .queued | .coasting | .fault => slotReplyPrev .state i prev s) s

/-- R94: HALT. -/
def serveHalt (body : List Byte) (s : State) : State :=
  withSlot 1 body (fun i s =>
    let prev := (s.slot i).remaining
    match (s.slot i).state with
    | .cutting | .held => slotReplyPrev .ok i prev (s.onSlot i fun d => { d with remaining := 1 })
    | .ready => slotReplyPrev .ok i prev s
    | .idle | .queued | .lead | .clutching | .coasting | .fault => slotReplyPrev .state i prev s) s

/-- R86, R98: RELEASE. -/
def serveRelease (body : List Byte) (s : State) : State :=
  withSlot 1 body (fun i s =>
    match (s.slot i).state with
    | .queued => slotReply .ok i (withdrawOwner (.drive i) .cancel s)
    | .lead | .clutching | .ready | .cutting | .held => slotReply .ok i (releaseSlot arbitrate i s)
    | .idle | .coasting | .fault => slotReply .state i s) s

/-- R103: CLEAR_DRIVE; the DRIVE report shows the cleared counts (log 14). -/
def clearDrive (i : Fin 4) (s : State) : State :=
  postDrive i .fault .clear (s.onSlot i fun d =>
    { d with
      state := .coasting, remaining := 0, releaseFlag := false, strokes := 0, coastTimer := some d.profile.coast })

/-- R103: CLEAR_DRIVE. -/
def serveClearDrive (body : List Byte) (s : State) : State :=
  withSlot 1 body (fun i s =>
    if (s.slot i).state = .fault then slotReply .ok i (clearDrive i s) else slotReply .state i s) s

/-- R113: SET_RAKE. -/
def serveSetRake (body : List Byte) (s : State) : State :=
  setGroup RakeParams.fields (fun _ => true) (fun v s => s.onRk fun k => { k with params := .ofList v }) body s

/-- R112: what RAKE_NOW's reply carries. -/
def rakeValues (k : RakeUnit) : List Byte :=
  u8 k.state.code ++ u16 k.count ++ flagByte k.entryHeld ++ flagByte k.graceSpent
    ++ u16 (secondsUp (k.dueTimer.getD 0)) ++ u16 (secondsUp (k.graceTimer.getD 0)) ++ u16 (secondsUp (k.runTimer.getD 0))

/-- R112: RAKE_NOW. -/
def serveRakeNow (body : List Byte) (s : State) : State :=
  withLength 0 body (fun s =>
    let s := dueTrigger arbitrate .host s
    reply .ok (rakeValues s.rk) s) s

/-- R117: what the replies of the feeder commands carry after the result. -/
def feederValues (s : State) (i : Fin 12) : List Byte := u8 (ownerByte (.feeder i)) ++ u8 (s.feeder i).state.code

/-- R117: a feeder command's reply, with the feeder's state as it stands when it is built. -/
def feederReply (r : Result) (i : Fin 12) (s : State) : State := reply r (feederValues s i) s

/-- R117, R161: a command that carries a feeder at the head of a body of one length. DESIGN CHOICE (log 36): R117 and R161 name
BAD_ARG and BAD_LENGTH without precedence; a body of the wrong length whose first byte names no feeder is answered BAD_LENGTH. -/
def withFeeder (n : Nat) (body : List Byte) (f : Fin 12 → State → State) (s : State) : State :=
  withLength n body (fun s =>
    match feederOfByte (u8At body 0) with
    | some i => f i s
    | none => reply .badArg [] s) s

/-- R118: SET_FEEDER. -/
def serveSetFeeder (body : List Byte) (s : State) : State :=
  withFeeder (2 + fieldsSize FeederProfile.fields) body (fun i s =>
    let sent := decodeFields FeederProfile.fields (body.drop 1)
    let v := clampFields FeederProfile.fields sent
    match flagAt body (1 + fieldsSize FeederProfile.fields) with
    | some auto =>
      let s := s.onFeeder i fun d => { d with profile := .ofList auto v }
      reply (clampResult sent v) (feederValues s i ++ (s.feeder i).profile.bytes) s
    | none => feederReply .badArg i s) s

/-- R135, step 3: the order of the shedding parameters. -/
def sheddingOrdered (v : List Nat) : Bool :=
  let p := SheddingParams.ofList v
  decide (p.threshold2 < p.threshold1 ∧ p.threshold3 < p.threshold2 ∧ p.threshold1 < p.restoreThreshold
    ∧ p.holdThreshold < p.holdRelease)

/-- R135: SET_SHEDDING. -/
def serveSetShedding (body : List Byte) (s : State) : State :=
  setGroup SheddingParams.fields sheddingOrdered (fun v s => s.onFu fun u => { u with params := .ofList v }) body s

/-- R119: CONNECT, its cases in their order. -/
def serveConnect (body : List Byte) (s : State) : State :=
  withFeeder 1 body (fun i s =>
    match (s.feeder i).state with
    | .capped | .locked => feederReply .locked i s
    | .on => feederReply .ok i s
    | .off | .queued | .shed =>
      if s.ss.station ≠ .live then feederReply .state i s
      else
        let (r, s) := enqueue arbitrate (hostRequest s i) (setFeederState i .queued) s
        feederReply r.result i s) s

/-- R124: DISCONNECT. -/
def serveDisconnect (body : List Byte) (s : State) : State :=
  withFeeder 1 body (fun i s =>
    match (s.feeder i).state with
    | .on => feederReply .ok i (openFeeder arbitrate i .off s)
    | .queued => feederReply .ok i (withdrawOwner (.feeder i) .cancel s)
    | .shed => feederReply .ok i (setFeederState i .off s)
    | .off => feederReply .ok i s
    | .capped | .locked => feederReply .locked i s) s

/-- R125: who is told of the entry that LOCK_FEEDER removes: the feeder goes to LOCKED. -/
def tellLocked (o : Owner) (s : State) : State :=
  match o with
  | .feeder i => setFeederState i .locked s
  | .drive _ | .rake => s

/-- R125: LOCK_FEEDER. -/
def serveLockFeeder (body : List Byte) (s : State) : State :=
  withFeeder 1 body (fun i s =>
    match (s.feeder i).state with
    | .on => feederReply .ok i (openFeeder arbitrate i .locked s)
    | .queued =>
      feederReply .ok i (withdraw arbitrate giveSpace (fun e => decide (e.owner = .feeder i)) .cancel tellLocked s)
    | .off | .shed | .capped => feederReply .ok i (setFeederState i .locked s)
    | .locked => feederReply .ok i s) s

/-- R126: UNLOCK_FEEDER. -/
def serveUnlockFeeder (body : List Byte) (s : State) : State :=
  withFeeder 1 body (fun i s =>
    match (s.feeder i).state with
    | .locked | .capped => feederReply .ok i (setFeederState i .off s)
    | .off | .queued | .on | .shed => feederReply .state i s) s

end Sys2Proof.Machine
end

