-- ==== Sys2Proof/Machine/ServeRecords.lean ====
section
/-! DEFINITION. What the Calendar Unit, the Metering Unit, the Account Store and the Station Link do with their commands
(chapters 8 to 11). -/

namespace Sys2Proof.Machine

/-- R142: SET_CLOCK. -/
def serveSetClock (body : List Byte) (s : State) : State :=
  withLength 7 body (fun s =>
    let year := u16At body 0
    let month := u8At body 2
    let day := u8At body 3
    let hour := u8At body 4
    let minute := u8At body 5
    let second := u8At body 6
    if validClock year month day hour minute second then
      reply .ok [] (s.onCu fun u =>
        { u.beginSecond with
          calendar :=
            { year := year, month := month, day := day, weekday := weekdayOf year month day, hour := hour,
              minute := minute, second := second }
          pendingShift := none, clockCold := false })
    else reply .badArg [] s) s

/-- R144, R196: the calendar fields and the weekday. -/
def Calendar.bytes (c : Calendar) : List Byte :=
  u16 c.year ++ u8 c.month ++ u8 c.day ++ u8 c.hour ++ u8 c.minute ++ u8 c.second ++ [Config.weekdayCode c.weekday]

/-- R196: an absent signed value is sent as the most negative value of its type. -/
def trimBytes (t : Option Int) : List Byte := i16 (t.getD (-32768))

/-- R196: a pending hour shift, absent as -128. -/
def shiftBytes : Option Bool → List Byte
  | some true => i8 1
  | some false => i8 (-1)
  | none => i8 (-128)

/-- R144: READ_CLOCK. -/
def serveReadClock (body : List Byte) (s : State) : State :=
  withLength 0 body (fun s =>
    let u := s.cu
    reply .ok
      (u.calendar.bytes ++ u32 u.e.toNat ++ u32 u.n.toNat ++ i32 u.teCycles ++ i32 u.teMsShown ++ i16 u.trim
        ++ trimBytes u.pendingTrim ++ shiftBytes u.pendingShift ++ flagByte u.zeroRequest ++ u8 u.correction.code
        ++ i8 u.offset ++ flagByte u.teRange ++ flagByte u.clockCold) s) s

/-- R139: what SET_TRIM's reply carries. -/
def trimValues (u : CalendarUnit) : List Byte := i16 u.trim ++ trimBytes u.pendingTrim ++ u8 u.secondsToWindow

/-- R139, R188: SET_TRIM; a BUSY reply carries the same values as any other. -/
def serveSetTrim (body : List Byte) (s : State) : State :=
  withLength 2 body (fun s =>
    if s.cu.pendingTrim.isSome then reply .busy (trimValues s.cu) s
    else
      let sent := i16At body 0
      let t := clampInt (-511) 511 sent
      let s := s.onCu fun u => { u with pendingTrim := some t }
      reply (if sent = t then .ok else .clamped) (trimValues s.cu) s) s

/-- R143: the shifts that SHIFT_HOUR takes: `true` is +1, `false` is -1. -/
def shiftOf (z : Int) : Option Bool := if z = 1 then some true else if z = -1 then some false else none

/-- R143: SHIFT_HOUR. -/
def serveShiftHour (body : List Byte) (s : State) : State :=
  withLength 1 body (fun s =>
    match shiftOf (i8At body 0) with
    | none => reply .badArg [] s
    | some forward =>
      if s.cu.pendingShift.isSome then reply .busy [] s
      else if s.cu.calendar.hour = (if forward then 23 else 0) then reply .state [] s
      else reply .ok [] (s.onCu fun u => { u with pendingShift := some forward })) s

/-- R147: ZERO_TIME_ERROR. -/
def serveZeroTimeError (body : List Byte) (s : State) : State :=
  withLength 0 body (fun s => reply .ok [] (s.onCu fun u => { u with zeroRequest := true })) s

/-- R149: SET_CORRECTION. -/
def serveSetCorrection (body : List Byte) (s : State) : State :=
  setGroup CorrectionParams.fields (fun _ => true)
    (fun v s => evaluateTime (s.onCu fun u => { u with params := .ofList v })) body s

/-- R161, R198: what READ_METER's reply carries. -/
def meterValues (s : State) (i : Fin 12) : List Byte :=
  let a := s.account i
  feederValues s i ++ u32 a.wh[0] ++ u32 a.wh[1] ++ u32 a.wh[2] ++ u32 a.wh[3] ++ u16 a.residue ++ u32 a.onSeconds
    ++ u16 a.shedCount ++ u16 a.capTrips ++ u32 a.dayMax ++ u32 a.power ++ u8 s.mu.index.val
    ++ flagByte s.mu.pendingBands.isSome

/-- R161: READ_METER. -/
def serveReadMeter (body : List Byte) (s : State) : State :=
  withFeeder 1 body (fun i s => reply .ok (meterValues s i) s) s

/-- R159, R174: SET_TARIFF once its tests have passed: the pending table, the tariff job, and the erase of sector 1. -/
def takeTariff (bands : List Band) (s : State) : State :=
  let r := bandBytes bands
  let s := s.onMu fun u => { u with pendingBands := some bands }
  kick (s.onStore fun a =>
    { a with tariffJob := some { record := r ++ crcField r, erased := false, started := 0 } }.requestErase 1)

/-- R159: SET_TARIFF, its tests in their order. -/
def serveSetTariff (body : List Byte) (s : State) : State :=
  if body.length ≠ 1 + 3 * u8At body 0 then reply .badLength [] s
  else
    match bandTable? body with
    | none => reply .badArg [] s
    | some bands =>
      if s.mu.pendingBands.isSome then reply .busy [] s
      else if s.store.protect then reply .protected_ [] s
      else reply .ok [] (takeTariff bands s)

/-- R176: the result of a SAVE whose sequences cannot be given, which the manual does not state (log 6). -/
def replyExhausted (s : State) : State := answer [Config.saveExhausted] s

/-- R176: SAVE. -/
def serveSave (body : List Byte) (s : State) : State :=
  withLength 0 body (fun s =>
    if s.store.fault then reply .state [] s
    else if s.store.checkpoint.isSome then reply .busy [] s
    else
      match s.store.startup, s.store.journal with
      | .complete, some j =>
        if j.nextSequence > 4294967284 then replyExhausted (postSkipped .save .pending s)
        else reply .ok (u32 j.nextSequence) (takeCheckpoint .save j s)
      | _, _ => reply .busy [] s) s

/-- R179: READ_JOURNAL. -/
def serveReadJournal (body : List Byte) (s : State) : State :=
  withLength 4 body (fun s =>
    let q := u32At body 0
    if s.store.inErasedRange q then reply .erasing [] s else startJournalRead q s) s

/-- R173: STORE_CONFIG once its tests have passed: the configuration job and the erase of sector 0. -/
def takeStoreConfig (s : State) : State :=
  let image := (currentImage s).stored
  kick (s.onStore fun a =>
    { a with configJob := some { image := image, erased := false, started := 0 } }.requestErase 0)

/-- R173: STORE_CONFIG, its tests in their order. -/
def serveStoreConfig (body : List Byte) (s : State) : State :=
  withLength 0 body (fun s =>
    if s.store.protect then reply .protected_ [] s
    else if s.store.configJob.isSome then reply .busy [] s
    else reply .ok [] (takeStoreConfig s)) s

/-- R170: UNPROTECT. -/
def serveUnprotect (body : List Byte) (s : State) : State :=
  withLength 0 body (fun s => reply .ok [] (s.onStore fun a => { a with protect := false })) s

/-- R171, R200: the factors in a commissioning body, at offset 16. -/
def factorsOf (body : List Byte) : Vector Nat 12 :=
  #v[u16At body 16, u16At body 18, u16At body 20, u16At body 22, u16At body 24, u16At body 26, u16At body 28,
    u16At body 30, u16At body 32, u16At body 34, u16At body 36, u16At body 38]

/-- R171, R200: WRITE_COMMISSION, which leaves the lock and the unused bytes as they stand. -/
def serveWriteCommission (body : List Byte) (s : State) : State :=
  withLength 40 body (fun s =>
    if s.store.commissioning.locked then reply .locked [] s
    else
      reply .ok [] (s.onStore fun a =>
        { a with
          commissioning := { a.commissioning with identity := body.take 16, factors := factorsOf body } })) s

/-- R172: LOCK_COMMISSION. -/
def serveLockCommission (body : List Byte) (s : State) : State :=
  withLength 0 body (fun s =>
    reply .ok [] (s.onStore fun a => { a with commissioning := { a.commissioning with locked := true } })) s

/-- R200: bytes 0 to 40 of the commissioning block, the part that READ_COMMISSION returns. -/
def Commissioning.bytes (b : Commissioning) : List Byte :=
  b.identity ++ (b.factors.toList.flatMap u16) ++ flagByte b.locked

/-- R200: the whole commissioning block, its unused bytes at offset 41. -/
def Commissioning.block (b : Commissioning) : List Byte := b.bytes ++ b.unused.toList

/-- R171: READ_COMMISSION. -/
def serveReadCommission (body : List Byte) (s : State) : State :=
  withLength 0 body (fun s => reply .ok s.store.commissioning.bytes s) s

/-- R192, R198: what HELLO's reply carries. -/
def helloValues (s : State) : List Byte :=
  u16 Config.vendorCode ++ u16 Config.partCode ++ u8 Config.revision ++ flagByte s.store.configDefault
    ++ flagByte s.store.fault ++ flagByte s.store.commissioning.locked ++ flagByte s.sl.startup

/-- R192: HELLO. -/
def serveHello (body : List Byte) (s : State) : State :=
  withLength 0 body (fun s => reply .ok (helloValues s) s) s

/-- R198: the watch latches, bit n for Wn. -/
def latchBits (s : State) : Nat :=
  (allInputs.map fun i => if (s.input i).latched then 2 ^ i.val else 0).sum

/-- R193, R198: what STATUS's reply carries. -/
def statusValues (s : State) : List Byte :=
  u8 s.ss.station.code ++ flagByte s.ss.standing ++ u32 s.smu.lastFreq ++ u16 s.gc.gateOut ++ u16 s.gc.gLim
    ++ u32 s.gc.capacity ++ u32 s.bookingSum ++ u8 s.da.table.length ++ u8 s.da.queue.length ++ i32 s.cu.teMsShown
    ++ i8 s.cu.offset ++ flagByte s.cu.teRange ++ u16 s.sl.badFrames ++ u16 s.sl.overruns ++ u8 s.sl.lostReports
    ++ u8 (latchBits s)

/-- R193: STATUS; the lost-report count is set to 0 as part of building the reply. -/
def serveStatus (body : List Byte) (s : State) : State :=
  withLength 0 body (fun s => reply .ok (statusValues s) (s.onSl fun l => { l with lostReports := 0 })) s

/-- R194: RESET; the command stays in service until its reply has been sent. -/
def serveReset (body : List Byte) (s : State) : State :=
  withLength 0 body (fun s =>
    if s.ss.station = .stopped ∨ s.ss.station = .tripped then answerAndHold [Result.ok.code] s
    else reply .state [] s) s

end Sys2Proof.Machine
end

