-- ==== Sys2Proof/Machine/Service.lean ====
section
/-! DEFINITION. The Station Link's service (chapter 11): the input queue, the taking and serving of commands, the receive
assembler, and transmit completions. -/

namespace Sys2Proof.Machine

/-- R187: the owning block of each command takes it. -/
def serveCommand (k : CommandKind) (body : List Byte) (s : State) : State :=
  match k with
  | .hello => serveHello body s
  | .status => serveStatus body s
  | .reset => serveReset body s
  | .start => serveStart body s
  | .stop => serveStop body s
  | .clearTrip => serveClearTrip body s
  | .readTrip => serveReadTrip body s
  | .setGovernor => serveSetGovernor body s
  | .standingOn => serveStandingOn body s
  | .standingOff => serveStandingOff body s
  | .setAlarm => serveSetAlarm body s
  | .setLevels => serveSetLevels body s
  | .setWatch => serveSetWatch body s
  | .ackWatch => serveAckWatch body s
  | .readLevels => serveReadLevels body s
  | .setDispatch => serveSetDispatch body s
  | .listTable => serveListTable body s
  | .listQueue => serveListQueue body s
  | .cancel => serveCancel body s
  | .setDrive => serveSetDrive body s
  | .engage => serveEngage body s
  | .cut => serveCut body s
  | .halt => serveHalt body s
  | .release => serveRelease body s
  | .clearDrive => serveClearDrive body s
  | .setRake => serveSetRake body s
  | .rakeNow => serveRakeNow body s
  | .setFeeder => serveSetFeeder body s
  | .setShedding => serveSetShedding body s
  | .connect => serveConnect body s
  | .disconnect => serveDisconnect body s
  | .lockFeeder => serveLockFeeder body s
  | .unlockFeeder => serveUnlockFeeder body s
  | .setClock => serveSetClock body s
  | .readClock => serveReadClock body s
  | .setTrim => serveSetTrim body s
  | .shiftHour => serveShiftHour body s
  | .zeroTimeError => serveZeroTimeError body s
  | .setCorrection => serveSetCorrection body s
  | .readMeter => serveReadMeter body s
  | .setTariff => serveSetTariff body s
  | .save => serveSave body s
  | .readJournal => serveReadJournal body s
  | .storeConfig => serveStoreConfig body s
  | .unprotect => serveUnprotect body s
  | .writeCommission => serveWriteCommission body s
  | .lockCommission => serveLockCommission body s
  | .readCommission => serveReadCommission body s

/-- R189: HELLO and STATUS are served during start-up. -/
def servedInStartup (k : CommandKind) : Bool := decide (k = .hello ∨ k = .status)

/-- R187, R189: the command in service is dealt with. -/
def serve (fr : Frame) (s : State) : State :=
  match CommandKind.ofCode fr.kind with
  | none => reply .unknown [] s
  | some k =>
    if s.sl.startup ∧ servedInStartup k = false then reply .busy [] s else serveCommand k fr.body s

/-- R187: the SL takes the oldest frame when no command is in service and the reply slot is empty. -/
def takeNext (s : State) : State :=
  match s.sl.inService, s.sl.replySlot, s.sl.inputQueue with
  | none, none, fr :: rest => serve fr (s.onSl fun l => { l with inService := some fr, inputQueue := rest })
  | _, _, _ => s

/-- R186: a well-formed frame is offered to the input queue, which holds two. -/
def offerFrame (fr : Frame) (s : State) : State :=
  if s.sl.inputQueue.length < 2 then takeNext (s.onSl fun l => { l with inputQueue := l.inputQueue ++ [fr] })
  else s.onSl fun l => { l with overruns := saturate 65535 l.overruns }

/-- A well-formed command frame arrives (R185, R186), while the main domain has its supply. -/
def arrive (k : CommandKind) (tag : Byte) (body : List Byte) (s : State) : State :=
  whenPowered s (offerFrame { kind := k.code, tag := tag, body := body })

/-- R184: a frame being built is discarded and counted; the assembler returns to HUNT. -/
def discardFrame (s : State) : State :=
  s.onSl fun l => { l with badFrames := saturate 65535 l.badFrames, gapTimer := none, rx := .hunt, rxFrame := [] }

/-- The length byte of the frame being built. -/
def StationLink.rxLength (l : StationLink) : Nat := u8At l.rxFrame 0

/-- R185: the second CRC byte has arrived: the frame is discarded, or is well formed and offered to the input queue. -/
def finishFrame (s : State) : State :=
  let n := s.sl.rxLength
  let covered := s.sl.rxFrame.take (n + 1)
  let crc := (crc16 covered).toNat
  if u8At s.sl.rxFrame (n + 1) * 256 + u8At s.sl.rxFrame (n + 2) ≠ crc then discardFrame s
  else if u8At covered 1 ≥ 0x80 then discardFrame s
  else
    offerFrame { kind := covered.getD 1 0, tag := covered.getD 2 0, body := covered.drop 3 }
      (s.onSl fun l => { l with rx := .hunt, rxFrame := [], gapTimer := none })

/-- R183: a character joins the frame being built, and the gap timer restarts. -/
def addCharacter (c : Byte) (s : State) : State :=
  s.onSl fun l => { l with rxFrame := l.rxFrame ++ [c], gapTimer := some Config.gapTime }

/-- R183, R184: a character is received. -/
def characterIn (c : Byte) (framingError : Bool) (s : State) : State :=
  match s.sl.rx with
  | .hunt =>
    if framingError = false ∧ c = 0xA5 then
      s.onSl fun l => { l with rx := .length, rxFrame := [], gapTimer := some Config.gapTime }
    else s
  | .length =>
    if framingError ∨ c.toNat < 2 ∨ 242 < c.toNat then discardFrame s
    else (addCharacter c s).onSl fun l => { l with rx := .content }
  | .content =>
    if framingError then discardFrame s
    else
      (addCharacter c s).onSl fun l =>
        { l with rx := if l.rxFrame.length < l.rxLength + 1 then .content else .check }
  | .check =>
    if framingError then discardFrame s
    else
      let s := addCharacter c s
      if s.sl.rxFrame.length < s.sl.rxLength + 3 then s else finishFrame s

/-- R184: the gap timer expires. -/
def gapExpired (s : State) : State :=
  match s.sl.rx with
  | .hunt => s
  | .length | .content | .check => discardFrame s

/-- R194: the reply that is being sent is that of a RESET, which has stayed in service. -/
def StationLink.resetting (l : StationLink) : Bool := l.inService.any fun fr => decide (fr.kind = CommandKind.code .reset)

/-- R191, R194: a transmit completion. -/
def transmitDone (s : State) : State :=
  match s.sl.tx with
  | .idle => s
  | .report _ _ => transmitArbitrate (s.onSl fun l => { l with tx := .idle })
  | .reply _ =>
    if s.sl.resetting then mainReset s
    else takeNext (transmitArbitrate (s.onSl fun l => { l with tx := .idle, replySlot := none }))

end Sys2Proof.Machine
end

