-- ==== Sys2Proof/Machine/Tick.lean ====
section
/-! DEFINITION. A millisecond passes (log 8, log 9): the step's work on an empty queue of commands. Timers count down and the
crystal runs; what happens when one of them runs out comes as a command of its own. -/

namespace Sys2Proof.Machine

/-- A running timer has one millisecond less to run; at 0 its expiry is due. -/
def Timer.tick (t : Timer) : Timer := t.map fun n => n - 1

/-- R95: the stroke timer counts in CUTTING alone. -/
def Slot.tick (d : Slot) : Slot :=
  { d with
    leadTimer := Timer.tick d.leadTimer, spinUpTimer := Timer.tick d.spinUpTimer
    strokeTimer := if d.state = .cutting then Timer.tick d.strokeTimer else d.strokeTimer
    coastTimer := Timer.tick d.coastTimer, cycleTimer := Timer.tick d.cycleTimer }

/-- R165, R167: an erase progresses while the store is ERASING. -/
def AccountStore.tick (a : AccountStore) : AccountStore :=
  match a.state with
  | .erasing =>
    { a with erase := a.erase.map fun e =>
        if e.remaining = 0 then e else { e with remaining := e.remaining - 1, progress := e.progress + 1 } }
  | .ready | .programming | .eraseSuspended | .programmingInSuspend | .readingInSuspend => a

/-- R191: a transmission has one millisecond less to run, in tenths of a microsecond. -/
def Transmitter.tick : Transmitter → Transmitter
  | .idle => .idle
  | .reply left => .reply (left - 10000)
  | .report r left => .report r (left - 10000)

/-- The number of raw pulses in the next millisecond: 32.768 on the average. -/
def CalendarUnit.pulsesDue (cu : CalendarUnit) : Nat := (cu.pulsePhase + 4096) / 125

/-- R137, R138: the crystal runs for a millisecond, whether the main domain is powered or not. The pulses held back before
are counted first; none is lost. -/
def CalendarUnit.tick (cu : CalendarUnit) : CalendarUnit :=
  rawPulses (cu.heldPulses + cu.pulsesDue)
    { cu.moveWindow with pulsePhase := (cu.pulsePhase + 4096) % 125, heldPulses := 0 }

/-- The main domain's timers. -/
def tickMain (s : State) : State :=
  { s with
    smu := { s.smu with timeout := Timer.tick s.smu.timeout }
    ss := { s.ss with
      startTimer := Timer.tick s.ss.startTimer, settleTimer := Timer.tick s.ss.settleTimer
      underspeedTimer := Timer.tick s.ss.underspeedTimer, runDownTimer := Timer.tick s.ss.runDownTimer }
    lu := { s.lu with sampleTimer := Timer.tick s.lu.sampleTimer }
    wu := { s.wu with sampleTimer := Timer.tick s.wu.sampleTimer }
    da := { s.da with
      queue := s.da.queue.map fun e => { e with waitTimer := Timer.tick e.waitTimer }
      spacingTimer := Timer.tick s.da.spacingTimer, shortfallTimer := Timer.tick s.da.shortfallTimer }
    ds := { s.ds with slots := map4 Slot.tick s.ds.slots }
    rk := { s.rk with
      dueTimer := Timer.tick s.rk.dueTimer, graceTimer := Timer.tick s.rk.graceTimer
      runTimer := Timer.tick s.rk.runTimer }
    fu := { s.fu with
      feeders := map12 (fun d => { d with minOffTimer := Timer.tick d.minOffTimer }) s.fu.feeders
      stages := map3 (fun k => { k with timer := Timer.tick k.timer }) s.fu.stages
      restoreTimer := Timer.tick s.fu.restoreTimer }
    store := s.store.tick
    sl := { s.sl with gapTimer := Timer.tick s.sl.gapTimer, tx := s.sl.tx.tick } }

/-- A millisecond passes. -/
def tick (s : State) : State := whenPowered (s.onCu CalendarUnit.tick) tickMain

end Sys2Proof.Machine
end

