-- ==== Sys2Proof/Machine/EventsStore.lean ====
section
/-! DEFINITION. The events of the Account Store, of the link's line, and the resets: one meaning for each row. -/

namespace Sys2Proof.Machine

/-- LOAD_COMPLETION (R180). -/
def execLoadCompletion (s : State) : Answer := .next (whenPowered s loadComplete)

/-- SCAN_COMPLETION (R181). -/
def execScanCompletion (s : State) : Answer := .next (whenPowered s scanComplete)

/-- PROGRAM_COMPLETION (R165, R166, R167). -/
def execProgramCompletion (passed : Bool) (s : State) : Answer := .next (whenPowered s (programDone passed))

/-- ERASE_COMPLETION (R165, R166, R175). -/
def execEraseCompletion (passed : Bool) (s : State) : Answer := .next (whenPowered s (eraseDone passed))

/-- READ_COMPLETION (R167, R179). -/
def execReadCompletion (s : State) : Answer := .next (whenPowered s readDone)

/-- ERASE_SUSPENSION (R167). -/
def execEraseSuspension (s : State) : Answer :=
  .next (whenPowered s fun s =>
    if s.store.state = .erasing ∧ s.store.workOutside then s.onStore AccountStore.suspendAtFifty else s)

/-- SUSPEND_LATENCY_END (R167). -/
def execSuspendLatencyEnd (s : State) : Answer :=
  .next (whenPowered s fun s =>
    if s.store.state = .eraseSuspended then s.onStore AccountStore.suspendedStart else s)

/-- CHARACTER_RECEIVED (R183 to R185). -/
def execCharacterReceived (character : Byte) (framingError : Bool) (s : State) : Answer :=
  .next (whenPowered s (characterIn character framingError))

/-- GAP_TIMER_EXPIRY (R184). -/
def execGapTimerExpiry (s : State) : Answer :=
  .next (whenPowered s fun s => whenRunning s.sl.gapTimer s gapExpired)

/-- TRANSMIT_COMPLETION (R191, R194). -/
def execTransmitCompletion (s : State) : Answer := .next (whenPowered s transmitDone)

/-- POWER_ON_RESET (R151 and the reset rules of every chapter). -/
def execPowerOnReset (cellFailed : Bool) (s : State) : Answer := .next (powerOn cellFailed s)

/-- RESET_LINE (R40 and the reset rules of every chapter). -/
def execResetLine (s : State) : Answer := .next (whenPowered s mainReset)

/-- MAIN_DOMAIN_POWER_LOSS (R137). -/
def execMainDomainPowerLoss (s : State) : Answer := .next (whenPowered s losePower)

/-- UNKNOWN_COMMAND (R187): the arrival of a well-formed frame whose kind is no command kind. -/
def execUnknownCommand (kind tag : Byte) (body : List Byte) (s : State) : Answer :=
  .next (whenPowered s (offerFrame { kind := kind, tag := tag, body := body }))

end Sys2Proof.Machine
end

