-- ==== Sys2Proof/Machine/Commands.lean ====
section
/-! DEFINITION. The arrival of each command's well-formed frame: one meaning for each row. The frame joins the input queue and is
taken at once when the link can take it (R186, R187); its owner's part is `serveX` in the Serve files. -/

namespace Sys2Proof.Machine

/-- HELLO (R192). -/
def execHello (tag : Byte) (body : List Byte) (s : State) : Answer :=
  .next (arrive .hello tag body s)

/-- STATUS (R193). -/
def execStatus (tag : Byte) (body : List Byte) (s : State) : Answer :=
  .next (arrive .status tag body s)

/-- RESET (R194). -/
def execReset (tag : Byte) (body : List Byte) (s : State) : Answer :=
  .next (arrive .reset tag body s)

/-- START (R24). -/
def execStart (tag : Byte) (body : List Byte) (s : State) : Answer :=
  .next (arrive .start tag body s)

/-- STOP (R29). -/
def execStop (tag : Byte) (body : List Byte) (s : State) : Answer :=
  .next (arrive .stop tag body s)

/-- CLEAR_TRIP (R35). -/
def execClearTrip (tag : Byte) (body : List Byte) (s : State) : Answer :=
  .next (arrive .clearTrip tag body s)

/-- READ_TRIP (R34). -/
def execReadTrip (tag : Byte) (body : List Byte) (s : State) : Answer :=
  .next (arrive .readTrip tag body s)

/-- SET_GOVERNOR (R19). -/
def execSetGovernor (tag : Byte) (body : List Byte) (s : State) : Answer :=
  .next (arrive .setGovernor tag body s)

/-- STANDING_ON (R36). -/
def execStandingOn (tag : Byte) (body : List Byte) (s : State) : Answer :=
  .next (arrive .standingOn tag body s)

/-- STANDING_OFF (R37). -/
def execStandingOff (tag : Byte) (body : List Byte) (s : State) : Answer :=
  .next (arrive .standingOff tag body s)

/-- SET_ALARM (R39). -/
def execSetAlarm (tag : Byte) (body : List Byte) (s : State) : Answer :=
  .next (arrive .setAlarm tag body s)

/-- SET_LEVELS (R46). -/
def execSetLevels (tag : Byte) (body : List Byte) (s : State) : Answer :=
  .next (arrive .setLevels tag body s)

/-- SET_WATCH (R50). -/
def execSetWatch (tag : Byte) (body : List Byte) (s : State) : Answer :=
  .next (arrive .setWatch tag body s)

/-- ACK_WATCH (R54). -/
def execAckWatch (tag : Byte) (body : List Byte) (s : State) : Answer :=
  .next (arrive .ackWatch tag body s)

/-- READ_LEVELS (R47). -/
def execReadLevels (tag : Byte) (body : List Byte) (s : State) : Answer :=
  .next (arrive .readLevels tag body s)

/-- SET_DISPATCH (R77). -/
def execSetDispatch (tag : Byte) (body : List Byte) (s : State) : Answer :=
  .next (arrive .setDispatch tag body s)

/-- LIST_TABLE (R78). -/
def execListTable (tag : Byte) (body : List Byte) (s : State) : Answer :=
  .next (arrive .listTable tag body s)

/-- LIST_QUEUE (R79). -/
def execListQueue (tag : Byte) (body : List Byte) (s : State) : Answer :=
  .next (arrive .listQueue tag body s)

/-- CANCEL (R71). -/
def execCancel (tag : Byte) (body : List Byte) (s : State) : Answer :=
  .next (arrive .cancel tag body s)

/-- SET_DRIVE (R84). -/
def execSetDrive (tag : Byte) (body : List Byte) (s : State) : Answer :=
  .next (arrive .setDrive tag body s)

/-- ENGAGE (R85). -/
def execEngage (tag : Byte) (body : List Byte) (s : State) : Answer :=
  .next (arrive .engage tag body s)

/-- CUT (R91). -/
def execCut (tag : Byte) (body : List Byte) (s : State) : Answer :=
  .next (arrive .cut tag body s)

/-- HALT (R94). -/
def execHalt (tag : Byte) (body : List Byte) (s : State) : Answer :=
  .next (arrive .halt tag body s)

/-- RELEASE (R98). -/
def execRelease (tag : Byte) (body : List Byte) (s : State) : Answer :=
  .next (arrive .release tag body s)

/-- CLEAR_DRIVE (R103). -/
def execClearDrive (tag : Byte) (body : List Byte) (s : State) : Answer :=
  .next (arrive .clearDrive tag body s)

/-- SET_RAKE (R113). -/
def execSetRake (tag : Byte) (body : List Byte) (s : State) : Answer :=
  .next (arrive .setRake tag body s)

/-- RAKE_NOW (R112). -/
def execRakeNow (tag : Byte) (body : List Byte) (s : State) : Answer :=
  .next (arrive .rakeNow tag body s)

/-- SET_FEEDER (R118). -/
def execSetFeeder (tag : Byte) (body : List Byte) (s : State) : Answer :=
  .next (arrive .setFeeder tag body s)

/-- SET_SHEDDING (R135). -/
def execSetShedding (tag : Byte) (body : List Byte) (s : State) : Answer :=
  .next (arrive .setShedding tag body s)

/-- CONNECT (R119). -/
def execConnect (tag : Byte) (body : List Byte) (s : State) : Answer :=
  .next (arrive .connect tag body s)

/-- DISCONNECT (R124). -/
def execDisconnect (tag : Byte) (body : List Byte) (s : State) : Answer :=
  .next (arrive .disconnect tag body s)

/-- LOCK_FEEDER (R125). -/
def execLockFeeder (tag : Byte) (body : List Byte) (s : State) : Answer :=
  .next (arrive .lockFeeder tag body s)

/-- UNLOCK_FEEDER (R126). -/
def execUnlockFeeder (tag : Byte) (body : List Byte) (s : State) : Answer :=
  .next (arrive .unlockFeeder tag body s)

/-- SET_CLOCK (R142). -/
def execSetClock (tag : Byte) (body : List Byte) (s : State) : Answer :=
  .next (arrive .setClock tag body s)

/-- READ_CLOCK (R144). -/
def execReadClock (tag : Byte) (body : List Byte) (s : State) : Answer :=
  .next (arrive .readClock tag body s)

/-- SET_TRIM (R139). -/
def execSetTrim (tag : Byte) (body : List Byte) (s : State) : Answer :=
  .next (arrive .setTrim tag body s)

/-- SHIFT_HOUR (R143). -/
def execShiftHour (tag : Byte) (body : List Byte) (s : State) : Answer :=
  .next (arrive .shiftHour tag body s)

/-- ZERO_TIME_ERROR (R147). -/
def execZeroTimeError (tag : Byte) (body : List Byte) (s : State) : Answer :=
  .next (arrive .zeroTimeError tag body s)

/-- SET_CORRECTION (R149). -/
def execSetCorrection (tag : Byte) (body : List Byte) (s : State) : Answer :=
  .next (arrive .setCorrection tag body s)

/-- READ_METER (R161). -/
def execReadMeter (tag : Byte) (body : List Byte) (s : State) : Answer :=
  .next (arrive .readMeter tag body s)

/-- SET_TARIFF (R159). -/
def execSetTariff (tag : Byte) (body : List Byte) (s : State) : Answer :=
  .next (arrive .setTariff tag body s)

/-- SAVE (R176). -/
def execSave (tag : Byte) (body : List Byte) (s : State) : Answer :=
  .next (arrive .save tag body s)

/-- READ_JOURNAL (R179). -/
def execReadJournal (tag : Byte) (body : List Byte) (s : State) : Answer :=
  .next (arrive .readJournal tag body s)

/-- STORE_CONFIG (R173). -/
def execStoreConfig (tag : Byte) (body : List Byte) (s : State) : Answer :=
  .next (arrive .storeConfig tag body s)

/-- UNPROTECT (R170). -/
def execUnprotect (tag : Byte) (body : List Byte) (s : State) : Answer :=
  .next (arrive .unprotect tag body s)

/-- WRITE_COMMISSION (R171). -/
def execWriteCommission (tag : Byte) (body : List Byte) (s : State) : Answer :=
  .next (arrive .writeCommission tag body s)

/-- LOCK_COMMISSION (R172). -/
def execLockCommission (tag : Byte) (body : List Byte) (s : State) : Answer :=
  .next (arrive .lockCommission tag body s)

/-- READ_COMMISSION (R171). -/
def execReadCommission (tag : Byte) (body : List Byte) (s : State) : Answer :=
  .next (arrive .readCommission tag body s)

end Sys2Proof.Machine
end

