-- ==== Sys2Proof/Machine/Dispatch.lean ====
section
/-! DEFINITION. The one table from commands to their meanings. -/

namespace Sys2Proof.Machine

def exec (i : Instr) (s : State) : Host.Outcome State Fault Refusal :=
  match i with
  | .toothEdge ticks => Sys2Proof.Machine.execToothEdge ticks s
  | .windowTimeout => Sys2Proof.Machine.execWindowTimeout s
  | .startTimerExpiry => Sys2Proof.Machine.execStartTimerExpiry s
  | .settleTimerExpiry => Sys2Proof.Machine.execSettleTimerExpiry s
  | .underspeedTimerExpiry => Sys2Proof.Machine.execUnderspeedTimerExpiry s
  | .runDownTimerExpiry => Sys2Proof.Machine.execRunDownTimerExpiry s
  | .levelSamplePeriod pond forebay => Sys2Proof.Machine.execLevelSamplePeriod pond forebay s
  | .watchSamplePeriod => Sys2Proof.Machine.execWatchSamplePeriod s
  | .watchEdge input high => Sys2Proof.Machine.execWatchEdge input high s
  | .spacingTimerExpiry => Sys2Proof.Machine.execSpacingTimerExpiry s
  | .shortfallTimerExpiry => Sys2Proof.Machine.execShortfallTimerExpiry s
  | .waitTimerExpiry owner => Sys2Proof.Machine.execWaitTimerExpiry owner s
  | .leadTimerExpiry slot => Sys2Proof.Machine.execLeadTimerExpiry slot s
  | .spinUpTimerExpiry slot => Sys2Proof.Machine.execSpinUpTimerExpiry slot s
  | .strokeEnd slot => Sys2Proof.Machine.execStrokeEnd slot s
  | .strokeTimerExpiry slot => Sys2Proof.Machine.execStrokeTimerExpiry slot s
  | .coastTimerExpiry slot => Sys2Proof.Machine.execCoastTimerExpiry slot s
  | .cycleTimerExpiry slot => Sys2Proof.Machine.execCycleTimerExpiry slot s
  | .dueTimerExpiry => Sys2Proof.Machine.execDueTimerExpiry s
  | .graceTimerExpiry => Sys2Proof.Machine.execGraceTimerExpiry s
  | .runTimerExpiry => Sys2Proof.Machine.execRunTimerExpiry s
  | .minimumOffTimerExpiry feeder => Sys2Proof.Machine.execMinimumOffTimerExpiry feeder s
  | .stageTimerExpiry stage => Sys2Proof.Machine.execStageTimerExpiry stage s
  | .restoreTimerExpiry => Sys2Proof.Machine.execRestoreTimerExpiry s
  | .calendarSecond products => Sys2Proof.Machine.execCalendarSecond products s
  | .trimWindowStart => Sys2Proof.Machine.execTrimWindowStart s
  | .generatorCrossing => Sys2Proof.Machine.execGeneratorCrossing s
  | .loadCompletion => Sys2Proof.Machine.execLoadCompletion s
  | .scanCompletion => Sys2Proof.Machine.execScanCompletion s
  | .programCompletion passed => Sys2Proof.Machine.execProgramCompletion passed s
  | .eraseCompletion passed => Sys2Proof.Machine.execEraseCompletion passed s
  | .readCompletion => Sys2Proof.Machine.execReadCompletion s
  | .eraseSuspension => Sys2Proof.Machine.execEraseSuspension s
  | .suspendLatencyEnd => Sys2Proof.Machine.execSuspendLatencyEnd s
  | .characterReceived character framingError => Sys2Proof.Machine.execCharacterReceived character framingError s
  | .gapTimerExpiry => Sys2Proof.Machine.execGapTimerExpiry s
  | .transmitCompletion => Sys2Proof.Machine.execTransmitCompletion s
  | .powerOnReset cellFailed => Sys2Proof.Machine.execPowerOnReset cellFailed s
  | .resetLine => Sys2Proof.Machine.execResetLine s
  | .unknownCommand kind tag body => Sys2Proof.Machine.execUnknownCommand kind tag body s
  | .hello tag body => Sys2Proof.Machine.execHello tag body s
  | .status tag body => Sys2Proof.Machine.execStatus tag body s
  | .reset tag body => Sys2Proof.Machine.execReset tag body s
  | .start tag body => Sys2Proof.Machine.execStart tag body s
  | .stop tag body => Sys2Proof.Machine.execStop tag body s
  | .clearTrip tag body => Sys2Proof.Machine.execClearTrip tag body s
  | .readTrip tag body => Sys2Proof.Machine.execReadTrip tag body s
  | .setGovernor tag body => Sys2Proof.Machine.execSetGovernor tag body s
  | .standingOn tag body => Sys2Proof.Machine.execStandingOn tag body s
  | .standingOff tag body => Sys2Proof.Machine.execStandingOff tag body s
  | .setAlarm tag body => Sys2Proof.Machine.execSetAlarm tag body s
  | .setLevels tag body => Sys2Proof.Machine.execSetLevels tag body s
  | .setWatch tag body => Sys2Proof.Machine.execSetWatch tag body s
  | .ackWatch tag body => Sys2Proof.Machine.execAckWatch tag body s
  | .readLevels tag body => Sys2Proof.Machine.execReadLevels tag body s
  | .setDispatch tag body => Sys2Proof.Machine.execSetDispatch tag body s
  | .listTable tag body => Sys2Proof.Machine.execListTable tag body s
  | .listQueue tag body => Sys2Proof.Machine.execListQueue tag body s
  | .cancel tag body => Sys2Proof.Machine.execCancel tag body s
  | .setDrive tag body => Sys2Proof.Machine.execSetDrive tag body s
  | .engage tag body => Sys2Proof.Machine.execEngage tag body s
  | .cut tag body => Sys2Proof.Machine.execCut tag body s
  | .halt tag body => Sys2Proof.Machine.execHalt tag body s
  | .release tag body => Sys2Proof.Machine.execRelease tag body s
  | .clearDrive tag body => Sys2Proof.Machine.execClearDrive tag body s
  | .setRake tag body => Sys2Proof.Machine.execSetRake tag body s
  | .rakeNow tag body => Sys2Proof.Machine.execRakeNow tag body s
  | .setFeeder tag body => Sys2Proof.Machine.execSetFeeder tag body s
  | .setShedding tag body => Sys2Proof.Machine.execSetShedding tag body s
  | .connect tag body => Sys2Proof.Machine.execConnect tag body s
  | .disconnect tag body => Sys2Proof.Machine.execDisconnect tag body s
  | .lockFeeder tag body => Sys2Proof.Machine.execLockFeeder tag body s
  | .unlockFeeder tag body => Sys2Proof.Machine.execUnlockFeeder tag body s
  | .setClock tag body => Sys2Proof.Machine.execSetClock tag body s
  | .readClock tag body => Sys2Proof.Machine.execReadClock tag body s
  | .setTrim tag body => Sys2Proof.Machine.execSetTrim tag body s
  | .shiftHour tag body => Sys2Proof.Machine.execShiftHour tag body s
  | .zeroTimeError tag body => Sys2Proof.Machine.execZeroTimeError tag body s
  | .setCorrection tag body => Sys2Proof.Machine.execSetCorrection tag body s
  | .readMeter tag body => Sys2Proof.Machine.execReadMeter tag body s
  | .setTariff tag body => Sys2Proof.Machine.execSetTariff tag body s
  | .save tag body => Sys2Proof.Machine.execSave tag body s
  | .readJournal tag body => Sys2Proof.Machine.execReadJournal tag body s
  | .storeConfig tag body => Sys2Proof.Machine.execStoreConfig tag body s
  | .unprotect tag body => Sys2Proof.Machine.execUnprotect tag body s
  | .writeCommission tag body => Sys2Proof.Machine.execWriteCommission tag body s
  | .lockCommission tag body => Sys2Proof.Machine.execLockCommission tag body s
  | .readCommission tag body => Sys2Proof.Machine.execReadCommission tag body s
  | .mainDomainPowerLoss => Sys2Proof.Machine.execMainDomainPowerLoss s

end Sys2Proof.Machine
end

