-- ==== Sys2Proof/Safety.lean ====
section
/-! DEFINITION. What a safe state is, in the terms that claims use: the bounds of the queues, the canonical form of the array, the
ranges of the parameters and of the account, the relations between the station state and its outputs; and what it is
for the link to be ready for a command. -/

namespace Sys2Proof.Machine

/-- R59, R186, R190: at most eight queue entries, two waiting frames and sixteen waiting reports; R185, R186, R190: the
link's counts stay within their ranges. -/
structure State.Bounded (s : State) : Prop where
  queue : s.da.queue.length ≤ 8
  frames : s.sl.inputQueue.length ≤ 2
  reports : s.sl.reports.length ≤ 16
  badFrames : s.sl.badFrames ≤ 65535
  overruns : s.sl.overruns ≤ 65535
  lostReports : s.sl.lostReports ≤ 255

/-- Chapter 10: the array's contents stand in their canonical form. -/
def State.ArrayCanonical (s : State) : Prop := Flash.wf s.store.array

/-- R155: every feeder's residue lies below 3600. -/
def State.ResiduesLow (s : State) : Prop := ∀ i : Fin 12, (s.account i).residue < 3600

/-- R26, R28, R145: the field contactor is closed exactly while the station is LIVE. -/
def State.FieldFollowsLive (s : State) : Prop := s.ss.fieldClosed = decide (s.ss.station = .live)

/-- R36, R37: the standing flag is set in LIVE alone. -/
def State.StandingInLive (s : State) : Prop := s.ss.standing = true → s.ss.station = .live

/-- R33: the capture holds a record exactly while the station is TRIPPED. -/
def State.CaptureInTripped (s : State) : Prop := s.ss.capture.isSome = decide (s.ss.station = .tripped)

/-- Sections 1.6, 3.3, 4.8, 6, 7.8 and 8.5: every group of parameters lies within its ranges. -/
structure State.ParamsInRange (s : State) : Prop where
  gov : fieldsInRange GovParams.fields s.gc.params.toList = true
  levels : fieldsInRange LevelParams.fields s.lu.params.toList = true
  dispatch : fieldsInRange DispatchParams.fields s.da.params.toList = true
  rake : fieldsInRange RakeParams.fields s.rk.params.toList = true
  shedding : fieldsInRange SheddingParams.fields s.fu.params.toList = true
  correction : fieldsInRange CorrectionParams.fields s.cu.params.toList = true

/-- R59: a lower class stands before every higher class, and within a class the lower arrival sequence first. -/
def queueOrdered (q : List QueueEntry) : Prop :=
  q.Pairwise fun a b => a.cls < b.cls ∨ a.cls = b.cls ∧ a.sequence < b.sequence

/-- R59, R60: the queue stands in order, no owner appears twice, every sequence has been given already, only the rake
has class 0, and the arrival sequence counter is 0 while the queue is empty. -/
structure State.QueueWell (s : State) : Prop where
  ordered : queueOrdered s.da.queue
  distinct : (s.da.queue.map QueueEntry.owner).Nodup
  given : ∀ e ∈ s.da.queue, e.sequence < s.da.sequence
  classZero : ∀ e ∈ s.da.queue, e.cls = 0 → e.owner = .rake
  emptyZero : s.da.queue = [] → s.da.sequence = 0

/-- R28: no feeder contactor is closed, no drive clutch or rake clutch is in, no owner waits in the queue, and the field
contactor is open. -/
structure State.NothingDriven (s : State) : Prop where
  feeders : ∀ i : Fin 12, s.contactor i = false
  drives : ∀ i : Fin 4, s.driveClutch i = false ∧ s.feedEnable i = false
  rake : s.rakeClutch = false
  queue : s.da.queue = []
  field : s.ss.fieldClosed = false

/-- R187: the link can take a command at once: the part has its supply and is past its start-up, no command is in service
and none waits, the reply slot is empty, and no READ_JOURNAL is being answered. -/
structure State.LinkReady (s : State) : Prop where
  powered : s.powered = true
  started : s.sl.startup = false
  free : s.sl.inService = none
  slot : s.sl.replySlot = none
  waiting : s.sl.inputQueue = []
  journal : s.store.readJob = none

/-- R187: the link holds the reply to a command: its kind plus 0x80, its tag, the result code and a content; the command is no
longer in service, and no other command has been taken. -/
structure State.Replied (t : State) (k : CommandKind) (tag : Byte) (r : Result) (content : List Byte) : Prop where
  slot : t.sl.replySlot = some { kind := k.code + 0x80, tag := tag, body := r.code :: content }
  free : t.sl.inService = none
  waiting : t.sl.inputQueue = []

/-- A report has been posted since: it stands in the report queue, is being sent, or was counted as lost (R190). -/
def State.reportsSince (s t : State) (r : Report) : Prop :=
  r ∈ t.sl.reports ∨ (∃ left, t.sl.tx = .report r left) ∨ s.sl.lostReports < t.sl.lostReports ∨ t.sl.lostReports = 255

/-- All that an arbitration and what follows from it leave alone (R61 to R76): the state with everything blanked out that a
grant, a release, a shed, an offer or a report can change. What is left: the shaft, the levels, the watch inputs, the
store, the settings of every block, the station state and its timers and capture, the gate, the capacity, the
calendar, the registers of the accounts, and the link but for its reports. Two states with the same `still` differ in the
blanked parts alone. -/
def State.still (s : State) : State :=
  { s with
    ss := { s.ss with alarmRelay := false }
    gc := { s.gc with integrator := 0, feedForward := [] }
    da := { s.da with table := [], queue := [], sequence := 0, spacingTimer := none, shortfallTimer := none }
    ds := { s.ds with slots := map4 (fun d => { slotReset with profile := d.profile, present := d.present }) s.ds.slots }
    rk := { rkReset with params := s.rk.params }
    fu :=
      { s.fu with
        feeders := map12 (fun d => { feederReset with profile := d.profile }) s.fu.feeders
        stages := Vector.replicate 3 { state := .armed, timer := none }, restoreTimer := none, permit := false }
    cu := { s.cu with correction := .inactive, shedCopy := false }
    mu := { s.mu with accounts := map12 (fun a => { a with shedCount := 0, capTrips := 0 }) s.mu.accounts }
    sl := { s.sl with reports := [], tx := .idle, lostReports := 0 } }

/-- R187, R191, R196: the reply to a command stands in the reply slot, its kind the command's plus 0x80, its tag the command's,
its body the result and a content; an idle transmitter has started to send it, at 260.4 microseconds for each of its
characters: sync, length, kind, tag, result, the content, and two CRC bytes. Nothing else has changed. -/
def State.replyTo (s : State) (k : CommandKind) (tag : Byte) (r : Result) (content : List Byte) : State :=
  { s with sl := { s.sl with
      replySlot := some { kind := k.code + 0x80, tag := tag, body := r.code :: content }
      tx := match s.sl.tx with
        | .idle => .reply ((content.length + 7) * 2604)
        | sending => sending } }

/-- R196: the length of the one body each command takes, the sum of the sizes of the fields that its chapter lists; SET_TARIFF's
goes by its count. -/
def fixedLength : CommandKind → Option Nat
  | .setGovernor => some 19 | .setAlarm => some 2 | .setLevels => some 16 | .setWatch => some 4 | .ackWatch => some 1
  | .setDispatch => some 4 | .cancel => some 1 | .setDrive => some 17 | .engage => some 1 | .cut => some 3
  | .halt => some 1 | .release => some 1 | .clearDrive => some 1 | .setRake => some 7 | .setFeeder => some 13
  | .setShedding => some 32 | .connect => some 1 | .disconnect => some 1 | .lockFeeder => some 1
  | .unlockFeeder => some 1 | .setClock => some 7 | .setTrim => some 2 | .shiftHour => some 1
  | .setCorrection => some 7 | .readMeter => some 1 | .setTariff => none | .readJournal => some 4
  | .writeCommission => some 40
  | .hello | .status | .reset | .start | .stop | .clearTrip | .readTrip | .standingOn | .standingOff | .readLevels
  | .listTable | .listQueue | .rakeNow | .readClock | .zeroTimeError | .save | .storeConfig | .unprotect
  | .lockCommission | .readCommission => some 0

/-- R38: the alarm relay stands as the chosen condition and the polarity ask. -/
def State.RelayFollows (s : State) : Prop :=
  s.ss.alarmRelay = xor (s.alarmCondition s.ss.alarmSource) s.ss.alarmInverted

/-- R28: outside LIVE nothing is driven, and no one holds a table entry: with `State.Consistent`, no slot is engaged. -/
def State.DrivenInLive (s : State) : Prop := s.ss.station ≠ .live → s.NothingDriven ∧ s.da.table = []

/-- The slots that hold a table entry, in table order. -/
def State.drivesInTable (s : State) : List (Fin 4) :=
  s.da.table.filterMap fun e => match e.owner with
    | .drive i => some i
    | .feeder _ | .rake => none

/-- R18, R57, R59, R60: the two collections and the owners' states agree: an owner has a table entry exactly in its granted
states and a queue entry exactly while it is queued, no owner stands twice, and the feed-forward list has one record
for each slot in the table, in order of grant. -/
structure State.Consistent (s : State) : Prop where
  driveGranted : ∀ i : Fin 4, s.tableHas (.drive i) = (s.slot i).state.engaged
  feederGranted : ∀ i : Fin 12, s.tableHas (.feeder i) = decide ((s.feeder i).state = .on)
  rakeGranted : s.tableHas .rake = decide (s.rk.state = .running)
  driveQueued : ∀ i : Fin 4, s.queueHas (.drive i) = decide ((s.slot i).state = .queued)
  feederQueued : ∀ i : Fin 12, s.queueHas (.feeder i) = decide ((s.feeder i).state = .queued)
  rakeQueued : s.queueHas .rake = s.rk.entryHeld
  rakeHeld : s.rk.entryHeld = true → s.rk.state.asks = true
  tableOnce : (s.da.table.map TableEntry.owner).Nodup
  queueOnce : (s.da.queue.map QueueEntry.owner).Nodup
  fedForward : s.gc.feedForward.map Prod.fst = s.drivesInTable

/-- Sections 5.2 and 7.2: the profile of every slot that has one, and of every feeder, lies within its ranges. -/
structure State.ProfilesInRange (s : State) : Prop where
  drives : ∀ i : Fin 4, (s.slot i).present = true →
    fieldsInRange DriveProfile.fields (s.slot i).profile.toList = true
  feeders : ∀ i : Fin 12, fieldsInRange FeederProfile.fields (s.feeder i).profile.toList = true

/-- R15, R43: the gate output, the gate limits and the copy of G_max lie within 0 to 10,000 gate units. -/
structure State.GateInRange (s : State) : Prop where
  out : s.gc.gateOut ≤ 10000
  lim : s.gc.gLim ≤ 10000
  forebay : s.gc.gFF ≤ 10000
  copy : s.lu.gMaxCopy ≤ 10000

/-- R6, R21, R22, R40, R48, R55, R80, R84, R104, R114, R136, R150, R163, R182, R195: every block of the main domain at the reset values of its
chapter, its parameters at their defaults; the wires of the watch inputs, the array and the commissioning block have none. -/
structure State.MainReset (s : State) : Prop where
  smu : s.smu = { window := .waiting, toothCount := 0, ticks := 0, lastFreq := 0, timeout := some 200 }
  gate : s.gc =
    { integrator := 0, gateOut := 0, gFF := 0, gLim := 0, capacity := 0, feedForward := []
      params :=
        { ki := 5, kp := 2000, openRate := 50, closeRate := 100, tripRate := 1000, gMin := 500, gMax := 10000
          standingLimit := 4000, gStart := 3000, pFull := 24000 } }
  station : s.ss =
    { station := .stopped, standing := false, startTimer := none, settleTimer := none, underspeedTimer := none
      runDownTimer := none, runDownMark := false, capture := none, alarmSource := .trip, alarmInverted := false
      fieldClosed := false, alarmRelay := false }
  levels : s.lu =
    { pond := { samples := [], fault := false, lastRaw := 0 }, forebay := { samples := [], fault := false, lastRaw := 0 }
      rackLoss := 0, rackHigh := false, drivePause := true, gFF := none, gMaxCopy := 10000
      params :=
        { pondLow := 0, pondHigh := 4095, forebayLow := 0, forebayHigh := 4095, lLow := 1200, lMin := 800, lPause := 1000
          rackThreshold := 150 }
      sampleTimer := some 100 }
  watch : ∀ i : Fin 4, s.input i =
    { setting := { mode := .disabled, filterCount := 2, action := .report }, latched := false, counter := 0 }
  watchTimer : s.wu.sampleTimer = some 100
  dispatch : s.da =
    { table := [], queue := [], sequence := 0, capacity := 0, spacingTimer := none, shortfallTimer := none
      params := { reserve := 1500, spacing := 2, grace := 5 } }
  drives : ∀ i : Fin 4, s.slot i =
    { state := .idle, present := false
      profile :=
        { booking := 0, lead := 0, spinUp := 0, coast := 0, cycle := 0, strokeTimeout := 0, waitLimit := 0, shedStage := 0
          cls := 0 }
      remaining := 0, releaseFlag := false, strokes := 0, rakeHalt := false, leadTimer := none, spinUpTimer := none
      strokeTimer := none, coastTimer := none, cycleTimer := none }
  feedHold : s.ds.feedHold = false
  rake : s.rk =
    { state := .idle, params := { interval := 240, grace := 30, runTime := 120, booking := 800 }
      dueTimer := some (240 * 60000), graceTimer := none, runTimer := none, graceSpent := false, entryHeld := false
      count := 0 }
  feeders : ∀ i : Fin 12, s.feeder i =
    { state := .off
      profile :=
        { booking := 0, cap := 30000, capTime := 60, minOff := 10, shedStage := 3, cls := 2, waitLimit := 0, auto := false }
      minOffTimer := none, capCounter := 0 }
  stages : ∀ k : Fin 3, s.stage k = { state := .armed, timer := none }
  restoration : s.fu.restoreTimer = none ∧ s.fu.permit = false
  shedding : s.fu.params =
    { threshold1 := 49000, delay1 := 2000, threshold2 := 48500, delay2 := 500, threshold3 := 47500, delay3 := 0
      restoreThreshold := 49800, restoreDelay := 5000, holdThreshold := 49500, holdRelease := 49700 }
  accounts : ∀ i : Fin 12, s.account i =
    { power := 0, residue := 0, wh := Vector.replicate 4 0, onSeconds := 0, shedCount := 0, capTrips := 0, dayMax := 0 }
  tariff : s.mu.bands = [] ∧ s.mu.index = 0 ∧ s.mu.pendingBands = none
  store : s.store =
    { state := .ready, flight := none, erase := none, readRequest := none, readJob := none, checkpoint := none
      configJob := none, tariffJob := none, waitingErases := [], protect := true, fault := false, configDefault := false
      commissioning := s.store.commissioning, journal := none, startup := .loading, array := s.store.array }
  link : s.sl =
    { rx := .hunt, rxFrame := [], gapTimer := none, inputQueue := [], inService := none, replySlot := none,
      reports := [], tx := .idle, startup := true, badFrames := 0, overruns := 0, lostReports := 0 }
  corrections : s.cu.correction = .inactive ∧ s.cu.liveCopy = false ∧ s.cu.shedCopy = false

/-- The commands that make a main-domain reset or take the supply away: the reset line, power-on, loss of power, and the end of
the transmission of RESET's reply (R194). -/
def isReset (c : Instr) (s : State) : Prop :=
  c = .resetLine ∨ (∃ failed, c = .powerOnReset failed) ∨ c = .mainDomainPowerLoss
    ∨ c = .transmitCompletion ∧ s.sl.resetting = true ∧ ∃ left, s.sl.tx = .reply left

/-- R5: the command is a control step at this state, with the frequency it carries: the tooth edge that completes a window, or a
window timeout. -/
def isControlStep (c : Instr) (s : State) (f : Nat) : Prop :=
  (∃ ticks, c = .toothEdge ticks ∧ s.smu.window = .timing ∧ 23 ≤ s.smu.toothCount
      ∧ f = windowFrequency (s.smu.ticks + ticks))
    ∨ c = .windowTimeout ∧ s.smu.timeout.isSome = true ∧ f = 0

/-- The settings of a configuration image stand in ranges that their fields can hold (R173, R200). -/
structure ConfigImage.InRange (c : ConfigImage) : Prop where
  gov : fieldsInRange GovParams.fields c.gov.toList = true
  levels : fieldsInRange LevelParams.fields c.levels.toList = true
  watch : ∀ i : Fin 4, c.watch[i].filterCount = 2 ∨ c.watch[i].filterCount = 4 ∨ c.watch[i].filterCount = 8
  dispatch : fieldsInRange DispatchParams.fields c.dispatch.toList = true
  rake : fieldsInRange RakeParams.fields c.rake.toList = true
  shedding : fieldsInRange SheddingParams.fields c.shedding.toList = true
  correction : fieldsInRange CorrectionParams.fields c.correction.toList = true
  drives : ∀ i : Fin 4, ∀ p, c.drives[i] = some p → fieldsInRange DriveProfile.fields p.toList = true
  feeders : ∀ i : Fin 12, fieldsInRange FeederProfile.fields c.feeders[i].toList = true

/-- R29, R32: what a station stop or a trip does to the loads: the queue is empty; feeders in CAPPED and LOCKED stay, every other
is OFF; an engaged slot is COASTING, a queued one IDLE; a running rake is DUE and no entry is held; the table holds no
one, and the field contactor is open. -/
structure State.LoadsTakenDown (s t : State) : Prop where
  driven : t.NothingDriven
  table : t.da.table = []
  feeders : ∀ i : Fin 12, (t.feeder i).state =
    match (s.feeder i).state with
    | .capped => .capped
    | .locked => .locked
    | .off | .queued | .on | .shed => .off
  slots : ∀ i : Fin 4, (t.slot i).state =
    match (s.slot i).state with
    | .lead | .clutching | .ready | .cutting | .held | .coasting => .coasting
    | .idle | .queued => .idle
    | .fault => .fault
  rake : t.rk.state = (if s.rk.state = .running then .due else s.rk.state) ∧ t.rk.entryHeld = false
  stages : ∀ k : Fin 3, t.stage k = { state := .armed, timer := none }
  restoration : t.fu.restoreTimer = none ∧ t.fu.permit = false
  hold : t.ds.feedHold = false
  spacing : t.da.spacingTimer = none

/-- R32, R33: a trip has been taken from a state other than TRIPPED, with a cause and the frequency it carries. -/
structure State.TrippedBy (s t : State) (cause : TripCause) (f : Nat) : Prop where
  station : t.ss.station = .tripped
  timers : t.ss.startTimer = none ∧ t.ss.settleTimer = none ∧ t.ss.underspeedTimer = none ∧ t.ss.runDownTimer = none
  flags : t.ss.runDownMark = false ∧ t.ss.standing = false
  loads : s.LoadsTakenDown t
  capture : t.ss.capture = some
    { cause := cause, time := s.cu.calendar.seconds, freq := f, gateOut := s.gc.gateOut, bookings := s.bookingSum,
      entries := s.da.table.length, overflow := false }
  gate : t.gc.gateOut = s.gc.gateOut
  changed : s.reportsSince t (.station .tripped s.ss.station false .trip)
  tripped : s.reportsSince t (.trip cause true)

/-- R29: a STOP has been taken, with the cause of its STATION report. -/
structure State.StoppedBy (s t : State) (cause : StationCause) : Prop where
  station : t.ss.station = .stopping
  timers : t.ss.startTimer = none ∧ t.ss.settleTimer = none ∧ t.ss.underspeedTimer = none
    ∧ t.ss.runDownTimer = some 180000
  standing : t.ss.standing = false
  loads : s.LoadsTakenDown t
  kept : t.ss.capture = s.ss.capture ∧ t.gc.gateOut = s.gc.gateOut
  changed : s.reportsSince t (.station .stopping s.ss.station false cause)

/-- R179, R187, R194: a journal read goes on exactly while a READ_JOURNAL stays in service, and the only other command that stays
in service is a RESET whose reply stands in the reply slot. -/
structure State.ServiceWell (s : State) : Prop where
  reading : s.store.readJob.isSome = true → ∃ fr, s.sl.inService = some fr ∧ fr.kind = CommandKind.code .readJournal
  held : ∀ fr, s.sl.inService = some fr →
    fr.kind = CommandKind.code .readJournal ∧ s.store.readJob.isSome = true
      ∨ fr.kind = CommandKind.code .reset ∧ s.sl.replySlot.isSome = true

/-- R68, R71, R86, R123: an owner's entry has left the queue without a grant, with a cause: the entry is gone, a drive slot is IDLE and a
feeder OFF, the EXPIRED report is posted, and beyond what the space notices and the arbitration may do nothing has changed. -/
structure State.Withdrawn (s t : State) (e : QueueEntry) (cause : ExpiredCause) : Prop where
  gone : t.queueHas e.owner = false
  owner :
    match e.owner with
    | .drive i => (t.slot i).state = .idle
    | .feeder i => (t.feeder i).state = .off
    | .rake => True
  report : s.reportsSince t (.expired e.owner e.cls e.origin cause)
  rest : t.still = { s with sl := t.sl }.still

/-- R59, R60: a request has been taken: its entry stands behind every entry of an equal or lower class and before every entry of a
higher one, with the next arrival sequence, its wait timer running when its wait limit is not 0. -/
def State.Enqueued (s t : State) (o : Owner) (cls booking waitLimit : Nat) (origin : Origin) : Prop :=
  ∃ front back : List QueueEntry, s.da.queue = front ++ back
    ∧ t.da.queue = front ++
        { owner := o, cls := cls, booking := booking, sequence := s.da.sequence, waitLimit := waitLimit
          waitTimer := if waitLimit = 0 then none else some (waitLimit * 1000), origin := origin } :: back
    ∧ (∀ x ∈ front, x.cls ≤ cls) ∧ (∀ x ∈ back, cls < x.cls) ∧ t.da.sequence = s.da.sequence + 1
    ∧ t.da.table = s.da.table

/-- R82, R93, R98, R99: a slot has left engagement for COASTING: its timers but the cycle timer stopped and the coast timer started, its
counts cleared but for the strokes, its table entry gone, the DRIVE report posted with its cause, and STROKE ABORTED where a stroke was
in progress. -/
structure State.TakenOut (s t : State) (i : Fin 4) (cause : DriveCause) : Prop where
  slot : t.slot i = { s.slot i with
    state := .coasting, remaining := 0, releaseFlag := false, rakeHalt := false, leadTimer := none, spinUpTimer := none
    strokeTimer := none, coastTimer := some (s.slot i).profile.coast }
  table : t.tableHas (.drive i) = false
  report : s.reportsSince t (.drive i .coasting (s.slot i).state cause 0 (s.slot i).strokes)

/-- R121, R124, R125: an ON feeder has been opened: it stands in its new state with its minimum-off timer started, its cap counter 0 and its
table entry gone. -/
structure State.Opened (s t : State) (i : Fin 12) (new : FeederState) : Prop where
  feeder : t.feeder i = { s.feeder i with
    state := new, capCounter := 0
    minOffTimer :=
      if (s.feeder i).profile.minOff = 0 then (s.feeder i).minOffTimer
      else some ((s.feeder i).profile.minOff * 1000) }
  table : t.tableHas (.feeder i) = false

end Sys2Proof.Machine
end

