-- ==== Sys2Proof/WellFormed.lean ====
section
/-! DEFINITION. What makes a term of `Instr` a command that can reach the part. -/

namespace Sys2Proof

/-- R196: the length byte counts kind, tag and body and is at most 242, so a body holds at most 240 bytes. -/
def bodyFits (body : List Byte) : Bool := decide (body.length ≤ 240)

/-- The link command that a constructor stands for, with its tag and body. -/
def Instr.frame? : Instr → Option (CommandKind × Byte × List Byte)
  | .hello t b => some (.hello, t, b) | .status t b => some (.status, t, b) | .reset t b => some (.reset, t, b)
  | .start t b => some (.start, t, b) | .stop t b => some (.stop, t, b) | .clearTrip t b => some (.clearTrip, t, b)
  | .readTrip t b => some (.readTrip, t, b) | .setGovernor t b => some (.setGovernor, t, b)
  | .standingOn t b => some (.standingOn, t, b) | .standingOff t b => some (.standingOff, t, b)
  | .setAlarm t b => some (.setAlarm, t, b) | .setLevels t b => some (.setLevels, t, b)
  | .setWatch t b => some (.setWatch, t, b) | .ackWatch t b => some (.ackWatch, t, b)
  | .readLevels t b => some (.readLevels, t, b) | .setDispatch t b => some (.setDispatch, t, b)
  | .listTable t b => some (.listTable, t, b) | .listQueue t b => some (.listQueue, t, b)
  | .cancel t b => some (.cancel, t, b) | .setDrive t b => some (.setDrive, t, b)
  | .engage t b => some (.engage, t, b) | .cut t b => some (.cut, t, b) | .halt t b => some (.halt, t, b)
  | .release t b => some (.release, t, b) | .clearDrive t b => some (.clearDrive, t, b)
  | .setRake t b => some (.setRake, t, b) | .rakeNow t b => some (.rakeNow, t, b)
  | .setFeeder t b => some (.setFeeder, t, b) | .setShedding t b => some (.setShedding, t, b)
  | .connect t b => some (.connect, t, b) | .disconnect t b => some (.disconnect, t, b)
  | .lockFeeder t b => some (.lockFeeder, t, b) | .unlockFeeder t b => some (.unlockFeeder, t, b)
  | .setClock t b => some (.setClock, t, b) | .readClock t b => some (.readClock, t, b)
  | .setTrim t b => some (.setTrim, t, b) | .shiftHour t b => some (.shiftHour, t, b)
  | .zeroTimeError t b => some (.zeroTimeError, t, b) | .setCorrection t b => some (.setCorrection, t, b)
  | .readMeter t b => some (.readMeter, t, b) | .setTariff t b => some (.setTariff, t, b)
  | .save t b => some (.save, t, b) | .readJournal t b => some (.readJournal, t, b)
  | .storeConfig t b => some (.storeConfig, t, b) | .unprotect t b => some (.unprotect, t, b)
  | .writeCommission t b => some (.writeCommission, t, b) | .lockCommission t b => some (.lockCommission, t, b)
  | .readCommission t b => some (.readCommission, t, b)
  | .toothEdge _ | .windowTimeout | .startTimerExpiry | .settleTimerExpiry | .underspeedTimerExpiry
  | .runDownTimerExpiry | .levelSamplePeriod _ _ | .watchSamplePeriod | .watchEdge _ _ | .spacingTimerExpiry
  | .shortfallTimerExpiry | .waitTimerExpiry _ | .leadTimerExpiry _ | .spinUpTimerExpiry _ | .strokeEnd _
  | .strokeTimerExpiry _ | .coastTimerExpiry _ | .cycleTimerExpiry _ | .dueTimerExpiry | .graceTimerExpiry
  | .runTimerExpiry | .minimumOffTimerExpiry _ | .stageTimerExpiry _ | .restoreTimerExpiry | .calendarSecond _
  | .trimWindowStart | .generatorCrossing | .loadCompletion | .scanCompletion | .programCompletion _
  | .eraseCompletion _ | .readCompletion | .eraseSuspension | .suspendLatencyEnd | .characterReceived _ _
  | .gapTimerExpiry | .transmitCompletion | .powerOnReset _ | .resetLine | .unknownCommand _ _ _
  | .mainDomainPowerLoss => none

/-- Well-formed commands. A tooth edge comes before the 200 ms window timeout (R1: each interval inside a window is
shorter than the timeout); a command frame's body fits a frame; an unknown command's kind is below 0x80 (R185) and no
command kind (R187, R197). Everything else a term can hold is a command. -/
def Instr.wellFormed (i : Instr) : Bool :=
  match i with
  | .toothEdge ticks => decide (ticks < 200000)
  | .unknownCommand kind _ body =>
      bodyFits body && decide (kind.toNat < 0x80) && (CommandKind.ofCode kind).isNone
  | i => match i.frame? with
    | some (_, _, body) => bodyFits body
    | none => true

end Sys2Proof
end

