-- ==== Sys2Proof/Certificates/Slice0/Obligations.lean ====
section
/-! DEFINITION. The statements about the model, one definition each; OBLIGATIONS.json lists them. -/

open Sys2Proof Sys2Proof.Machine

/-! ### The queue of commands and idle time -/

/-- A step takes the command at the front of the queue and runs it on the state with the rest of the queue. -/
def Obligations.StepRunsFrontCommand : Prop :=
  ∀ (c : Instr) (rest : List Instr) (s : State),
    step { s with pending := c :: rest } = exec c { s with pending := rest }

/-- The model's own choice (logs 8 and 9): a step on an empty queue is a millisecond in which every running timer of the main
domain has one millisecond less to run, the stroke timer in CUTTING alone (R95) and an erase while ERASING alone (R165), a
transmission 10,000 tenths of a microsecond less (R191); the crystal gives its 32 or 33 raw pulses, which are counted with those
held back before, or held back while a second or a window start is due, and none of which is lost (R138); those held back before
a SET_CLOCK move the window alone (R142). Without its supply the main domain stands still and the calendar domain runs (R137). -/
def Obligations.IdleStepIsAMillisecond : Prop :=
  ∀ s : State, s.pending = [] →
    let pulses := s.cu.heldPulses + (s.cu.pulsePhase + 4096) / 125
    let start := s.cu.windowPos + s.cu.windowPulses
    let ran : CalendarUnit → Prop := fun u =>
      u = { s.cu with
        pulsePhase := (s.cu.pulsePhase + 4096) % 125, subSecond := u.subSecond, windowPos := u.windowPos
        heldPulses := u.heldPulses, windowPulses := u.windowPulses }
      ∧ u.windowPos + u.windowPulses + u.heldPulses = s.cu.windowPos + s.cu.windowPulses + pulses
      ∧ (s.cu.subSecond + 2 * pulses ≤ 32768 → start + pulses ≤ 1048576 → u.heldPulses = 0 ∧ u.windowPulses = 0
          ∧ u.subSecond = s.cu.subSecond + ((List.range pulses).map fun k => pulseWeight s.cu.trim (start + k)).sum)
      ∧ ((32768 ≤ s.cu.subSecond ∨ 1048576 ≤ s.cu.windowPos) → u.subSecond = s.cu.subSecond ∧ u.heldPulses = pulses)
    (s.powered = false → ∃ u : CalendarUnit, step s = .next { s with cu := u } ∧ ran u)
    ∧ (s.powered = true → ∃ t : State, step s = .next t
      ∧ t.smu = { s.smu with timeout := s.smu.timeout.map (· - 1) }
      ∧ t.ss = { s.ss with
          startTimer := s.ss.startTimer.map (· - 1), settleTimer := s.ss.settleTimer.map (· - 1)
          underspeedTimer := s.ss.underspeedTimer.map (· - 1), runDownTimer := s.ss.runDownTimer.map (· - 1) }
      ∧ t.gc = s.gc ∧ t.mu = s.mu
      ∧ t.lu = { s.lu with sampleTimer := s.lu.sampleTimer.map (· - 1) }
      ∧ t.wu = { s.wu with sampleTimer := s.wu.sampleTimer.map (· - 1) }
      ∧ t.da = { s.da with
          queue := s.da.queue.map fun e => { e with waitTimer := e.waitTimer.map (· - 1) }
          spacingTimer := s.da.spacingTimer.map (· - 1), shortfallTimer := s.da.shortfallTimer.map (· - 1) }
      ∧ (∀ i : Fin 4, t.slot i = { s.slot i with
          leadTimer := (s.slot i).leadTimer.map (· - 1), spinUpTimer := (s.slot i).spinUpTimer.map (· - 1)
          strokeTimer := if (s.slot i).state = .cutting then (s.slot i).strokeTimer.map (· - 1) else (s.slot i).strokeTimer
          coastTimer := (s.slot i).coastTimer.map (· - 1), cycleTimer := (s.slot i).cycleTimer.map (· - 1) })
      ∧ t.rk = { s.rk with
          dueTimer := s.rk.dueTimer.map (· - 1), graceTimer := s.rk.graceTimer.map (· - 1)
          runTimer := s.rk.runTimer.map (· - 1) }
      ∧ (∀ i : Fin 12, t.feeder i = { s.feeder i with minOffTimer := (s.feeder i).minOffTimer.map (· - 1) })
      ∧ (∀ k : Fin 3, t.stage k = { s.stage k with timer := (s.stage k).timer.map (· - 1) })
      ∧ t.fu =
        { s.fu with feeders := t.fu.feeders, stages := t.fu.stages, restoreTimer := s.fu.restoreTimer.map (· - 1) }
      ∧ t.sl =
        { s.sl with
          gapTimer := s.sl.gapTimer.map (· - 1)
          tx := match s.sl.tx with
            | .idle => .idle
            | .reply left => .reply (left - 10000)
            | .report r left => .report r (left - 10000) }
      ∧ t.ds.feedHold = s.ds.feedHold ∧ t.powered = true ∧ t.choices = s.choices
      ∧ (s.store.state ≠ .erasing → t.store = s.store)
      ∧ (∀ e : EraseRecord, s.store.state = .erasing → s.store.erase = some e → 0 < e.remaining →
          t.store = { s.store with erase := some { e with remaining := e.remaining - 1, progress := e.progress + 1 } })
      ∧ ran t.cu ∧ t.pending = [])

/-- Every command completes in every state: no fault and no refusal; and it leaves the queue of commands alone. -/
def Obligations.EveryCommandCompletes : Prop :=
  ∀ (c : Instr) (s : State), ∃ t : State, exec c s = .next t ∧ t.pending = s.pending

/-! ### Speed measurement and the gate (chapter 1) -/

/-- R3: the frequency of a completed window is 10^9 / T rounded half up, 100,000 below T = 10,000, and at least 208 for every T
below 4,800,000; the values of the rule's table; and 0 is what a window timeout gives. -/
def Obligations.WindowFrequencyRounds : Prop :=
  (∀ t : Nat, t < 10000 → windowFrequency t = 100000)
  ∧ (∀ t : Nat, 10000 ≤ t →
      2 * windowFrequency t * t ≤ 2000000000 + t ∧ 2000000000 + t < (2 * windowFrequency t + 2) * t)
  ∧ (∀ t : Nat, t < 4800000 → 208 ≤ windowFrequency t)
  ∧ (∀ t : Nat, 10000 ≤ t → windowFrequency t = (1000000000 + t / 2) / t)
  ∧ [9999, 10000, 18181, 18182, 20000, 20408, 22222, 4799999].map windowFrequency =
      [100000, 100000, 55002, 54999, 50000, 49000, 45000, 208]
  ∧ (∀ s : State, s.powered = true → s.smu.timeout.isSome = true → ∃ t : State, exec .windowTimeout s = .next t
      ∧ t.smu.lastFreq = 0)

/-- R1, R2, R4, R5, R9, with the model's tick operand (log 7): a tooth edge in WAITING starts a window; in TIMING, short of the
24th, it raises the tooth count, and T has advanced by the ticks since the edge before; either restarts the window timeout
timer. The 24th edge of a window and the window timeout set the SMU as the rules state, and each is a control step that
publishes the capacity floor(P_full G_lim / 10,000). -/
def Obligations.MeasurementWindow : Prop :=
  ∀ (ticks : Nat) (s : State), s.powered = true →
    (s.smu.window = .waiting → exec (.toothEdge ticks) s = .next { s with
        smu := { s.smu with window := .timing, toothCount := 0, ticks := 0, timeout := some 200 } })
    ∧ (s.smu.window = .timing → s.smu.toothCount < 23 → exec (.toothEdge ticks) s = .next { s with
        smu := { s.smu with toothCount := s.smu.toothCount + 1, ticks := s.smu.ticks + ticks, timeout := some 200 } })
    ∧ (s.smu.window = .timing → s.smu.toothCount = 23 → ∃ t : State, exec (.toothEdge ticks) s = .next t
      ∧ t.smu =
        { window := .timing, toothCount := 0, ticks := 0, lastFreq := windowFrequency (s.smu.ticks + ticks)
          timeout := some 200 }
      ∧ t.gc.params = s.gc.params ∧ t.gc.capacity = t.gc.params.pFull * t.gc.gLim / 10000
      ∧ t.da.capacity = t.gc.capacity)
    ∧ (s.smu.timeout.isSome = true → ∃ t : State, exec .windowTimeout s = .next t
      ∧ t.smu = { window := .waiting, toothCount := 0, ticks := 0, lastFreq := 0, timeout := some 200 }
      ∧ t.gc.params = s.gc.params ∧ t.gc.capacity = t.gc.params.pFull * t.gc.gLim / 10000
      ∧ t.da.capacity = t.gc.capacity)
    ∧ (s.smu.timeout = none → exec .windowTimeout s = .next s)

/-- R10 to R12, R26: a window completion in RUN_UP with a frequency in the settle band: the settle timer runs, the integrator
takes Ki times the error within its range, and the gate moves toward the raw demand by at most the rate of its direction. -/
def Obligations.RunUpStepIsPI : Prop :=
  ∀ (ticks : Nat) (s : State), s.powered = true → s.smu.window = .timing → s.smu.toothCount = 23 →
    s.ss.station = .runUp → s.da.queue = [] →
    let f := windowFrequency (s.smu.ticks + ticks)
    let p := s.gc.params
    let e : Int := clampInt (-5000) 5000 (50000 + s.cu.offset - f)
    let i : Int := clampInt (1000 * min p.gMin s.gc.gLim) (1000 * s.gc.gLim) (s.gc.integrator + p.ki * e)
    let raw : Int := clampInt (min p.gMin s.gc.gLim) s.gc.gLim (i / 1000 + (p.kp * e).tdiv 1000)
    49500 ≤ f → f ≤ 50500 → ∃ t : State, exec (.toothEdge ticks) s = .next t
      ∧ t = { s with smu := t.smu, gc := t.gc, ss := t.ss, da := t.da, choices := t.choices }
      ∧ t.ss = { s.ss with settleTimer := some (s.ss.settleTimer.getD 3000) }
      ∧ t.gc = { s.gc with integrator := i, gateOut := t.gc.gateOut, capacity := p.pFull * s.gc.gLim / 10000 }
      ∧ (t.gc.gateOut : Int) =
        (if raw > s.gc.gateOut then min raw (s.gc.gateOut + p.openRate)
         else if raw < s.gc.gateOut then max raw ((s.gc.gateOut : Int) - p.closeRate) else raw)
      ∧ t.da = { s.da with capacity := t.gc.capacity, shortfallTimer := t.da.shortfallTimer }

/-- R14: every control step in STARTING, STOPPING, TRIPPED and STOPPED, be it a window timeout or a window completion with the
frequency f, moves the gate toward the state's target by at most the rate of its direction and not past it; the integrator stays
as it is, and neither G_min nor the reference nor f plays a part. Where the event of the step also trips the station, the step is
one of the state before it or of TRIPPED, and where it also brings STARTING to RUN_UP, one of STARTING or the PI step that R13
gives. (The queue is empty outside LIVE, R28: `NothingIsDrivenOutsideLive`.) -/
def Obligations.FixedTargetStep : Prop :=
  ∀ (c : Instr) (f : Nat) (s : State), s.powered = true → isControlStep c s f → s.da.queue = [] →
    s.ss.station ≠ .runUp → s.ss.station ≠ .live →
    let g := s.gc.gateOut
    let p := s.gc.params
    let target := min p.gStart s.gc.gLim
    let moved : StationState → Nat := fun
      | .starting => if g < target then min target (g + p.openRate) else max target (g - p.closeRate)
      | .stopping => g - p.closeRate
      | .stopped | .tripped | .runUp | .live => g - p.tripRate
    ∃ t : State, exec c s = .next t
      ∧ ((s.ss.station = .starting → f < 45000) → (s.ss.station = .stopping → f < 55000) → t.gc = { s.gc with
          capacity := p.pFull * s.gc.gLim / 10000, gateOut := moved s.ss.station })
      ∧ ((s.ss.station = .starting ∨ s.ss.station = .stopping) → 55000 ≤ f →
          t.gc.gateOut = moved s.ss.station ∨ t.gc.gateOut = moved .tripped)
      ∧ (s.ss.station = .starting → 45000 ≤ f → f < 55000 →
          t.gc.gateOut = moved .starting
          ∨ t.gc.gateOut = (({ s.gc with integrator := 1000 * g } : GateController).piStep (50000 + s.cu.offset) f).gateOut)

/-- R13, R25, R26, R30, R31, R32: what a control step with the frequency f does in the Station Sequencer, whichever of the four
blocks that it reaches acts first (log 3). STARTING comes to RUN_UP with the integrator set to the gate output in force; at
55,000 mHz and above the states that test for it trip; RUN_UP runs or cancels the settle timer, LIVE the underspeed timer;
STOPPING ends with a closed gate. A step at 55,000 mHz in STOPPING trips whatever the run-down test finds: the model's choice
(log 31). (In LIVE the trip is stated with the spacing timer running and no spent grace.) -/
def Obligations.StationTestsAtControlStep : Prop :=
  ∀ (c : Instr) (f : Nat) (s : State), s.powered = true → isControlStep c s f →
    s.da.queue = [] ∨ s.da.spacingTimer.isSome = true →
    let p := s.gc.params
    let target := min p.gStart s.gc.gLim
    let moved := if s.gc.gateOut < target then min target (s.gc.gateOut + p.openRate) else max target (s.gc.gateOut - p.closeRate)
    ∃ t : State, exec c s = .next t
      ∧ (s.ss.station = .starting → f < 45000 → t.ss = s.ss ∧ t.gc.gateOut = moved ∧ t.gc.integrator = s.gc.integrator)
      ∧ (s.ss.station = .starting → 45000 ≤ f → f < 55000 → t.ss = { s.ss with station := .runUp }
          ∧ s.reportsSince t (.station .runUp .starting s.ss.standing .speed)
          ∧ (t.gc = { s.gc with integrator := 1000 * moved, gateOut := moved, capacity := t.gc.capacity }
            ∨ (let e : Int := clampInt (-5000) 5000 (50000 + s.cu.offset - f)
               let i : Int := clampInt (1000 * min p.gMin s.gc.gLim) (1000 * s.gc.gLim) (1000 * s.gc.gateOut + p.ki * e)
               let raw : Int := clampInt (min p.gMin s.gc.gLim) s.gc.gLim (i / 1000 + (p.kp * e).tdiv 1000)
               t.gc = { s.gc with integrator := i, gateOut := t.gc.gateOut, capacity := t.gc.capacity }
               ∧ (t.gc.gateOut : Int) =
                 (if raw > s.gc.gateOut then min raw (s.gc.gateOut + p.openRate)
                  else if raw < s.gc.gateOut then max raw ((s.gc.gateOut : Int) - p.closeRate) else raw))))
      ∧ (s.ss.station = .runUp → f < 55000 → t.ss = { s.ss with
          settleTimer := if 49500 ≤ f ∧ f ≤ 50500 then some (s.ss.settleTimer.getD 3000) else none })
      ∧ (s.ss.station = .live → f < 55000 → t.ss = { s.ss with
          underspeedTimer := if f < 45000 then some (s.ss.underspeedTimer.getD 3000) else none
          alarmRelay := t.ss.alarmRelay })
      ∧ (s.ss.station = .stopping → f < 55000 →
        (s.gc.gateOut = 0 → (f < 5000 ∨ s.ss.runDownMark = true) →
          t.ss = { s.ss with station := .stopped, runDownTimer := none, runDownMark := false }
          ∧ s.reportsSince t (.station .stopped .stopping s.ss.standing .runDown))
        ∧ ((p.closeRate < s.gc.gateOut ∨ 5000 ≤ f ∧ s.ss.runDownMark = false) → t.ss = s.ss)
        ∧ (s.gc.gateOut ≤ p.closeRate → (f < 5000 ∨ s.ss.runDownMark = true) → t.ss = s.ss
          ∨ t.ss = { s.ss with station := .stopped, runDownTimer := none, runDownMark := false }))
      ∧ ((s.ss.station = .stopped ∨ s.ss.station = .tripped) → t.ss = s.ss)
      ∧ (55000 ≤ f → s.ss.station ≠ .stopped → s.ss.station ≠ .tripped → s.Consistent → s.ss.capture = none →
          ¬(s.rk.state = .due ∧ s.rk.graceSpent = true) →
          (s.ss.station ≠ .live ∨ s.da.spacingTimer.isSome = true) →
        t.ss.station = .tripped ∧ t.ss.standing = false ∧ t.ss.runDownMark = false
        ∧ t.ss.startTimer = none ∧ t.ss.settleTimer = none ∧ t.ss.underspeedTimer = none ∧ t.ss.runDownTimer = none
        ∧ (∃ r : TripRecord, t.ss.capture = some r ∧ r.cause = .overspeed ∧ r.freq = f ∧ r.overflow = false
            ∧ r.time = s.cu.calendar.seconds)
        ∧ s.LoadsTakenDown t ∧ s.reportsSince t (.station .tripped s.ss.station false .trip)
        ∧ s.reportsSince t (.trip .overspeed true))

/-- R10 to R12, R96, R97, R128, R131: what a control step below 55,000 mHz does in LIVE while the spacing timer keeps grants
back. The feed hold sets or clears its flag and moves the CUTTING or the HELD slots; every stage is armed, timed, cancelled or,
with no delay, fired; the restore timer is started or cancelled. Where no stage fires and no cut is ending for the rake, the
gate takes its PI step. -/
def Obligations.LiveControlStep : Prop :=
  ∀ (c : Instr) (f : Nat) (s : State), s.powered = true → isControlStep c s f → s.ss.station = .live → f < 55000 →
    s.da.spacingTimer.isSome = true →
    let p := s.gc.params
    let q := s.fu.params
    let fires : Fin 3 → Prop := fun k => (s.stage k).state = .armed ∧ f < q.threshold k ∧ q.delay k = 0
    let holds := f < q.holdThreshold ∧ s.ds.feedHold = false
    let resumes := q.holdThreshold ≤ f ∧ q.holdRelease ≤ f ∧ s.ds.feedHold = true
    ∃ t : State, exec c s = .next t
      ∧ t.ds.feedHold = (if f < q.holdThreshold then true else if q.holdRelease ≤ f then false else s.ds.feedHold)
      ∧ (∀ k : Fin 3,
          (f < q.threshold k →
            (fires k → t.stage k = { state := .fired, timer := none } ∧ s.reportsSince t (.stageFired k f)
              ∧ ∀ i : Fin 12, (s.feeder i).state = .on → 1 ≤ (s.feeder i).profile.shedStage →
                  (s.feeder i).profile.shedStage ≤ k.val + 1 → (t.feeder i).state ≠ .on)
            ∧ ((s.stage k).state = .armed → ¬fires k → t.stage k = { state := .timing, timer := some (q.delay k) })
            ∧ ((s.stage k).state ≠ .armed → t.stage k = s.stage k))
          ∧ (q.threshold k ≤ f →
            t.stage k = if (s.stage k).state = .armed then s.stage k else { state := .armed, timer := none }))
      ∧ (f < q.restoreThreshold → t.fu.restoreTimer = none
          ∧ t.fu.permit = (s.fu.permit && allStages.all fun k =>
              !(decide ((s.stage k).state = .armed) && decide (f < q.threshold k))))
      ∧ (q.restoreThreshold ≤ f → (∀ k : Fin 3, q.threshold k ≤ f) →
          (s.anyShed = true → s.fu.permit = false → s.fu.restoreTimer = none →
            (q.restoreDelay ≠ 0 → t.fu.restoreTimer = some q.restoreDelay ∧ t.fu.permit = false)
            ∧ (q.restoreDelay = 0 → (t.fu.permit = true ∨ t.anyShed = false) ∧ t.fu.restoreTimer = none))
          ∧ ((s.anyShed = false ∨ s.fu.permit = true ∨ s.fu.restoreTimer.isSome = true) →
            t.fu.restoreTimer = s.fu.restoreTimer ∧ t.fu.permit = s.fu.permit))
      ∧ ((∀ k : Fin 3, ¬fires k) → (∀ i : Fin 4, (s.slot i).state = .cutting → (s.slot i).rakeHalt = false) →
        (∀ i : Fin 4, t.slot i =
          if holds ∧ (s.slot i).state = .cutting then { s.slot i with state := .held }
          else if resumes ∧ (s.slot i).state = .held then { s.slot i with state := .cutting } else s.slot i)
        ∧ (∀ i : Fin 4,
            (holds → (s.slot i).state = .cutting →
              s.reportsSince t (.drive i .held .cutting .hold (s.slot i).remaining (s.slot i).strokes))
            ∧ (resumes → (s.slot i).state = .held →
              s.reportsSince t (.drive i .cutting .held .resume (s.slot i).remaining (s.slot i).strokes)))
        ∧ (let e : Int := clampInt (-5000) 5000 (50000 + s.cu.offset - f)
           let n : Int := clampInt (1000 * min p.gMin s.gc.gLim) (1000 * s.gc.gLim) (s.gc.integrator + p.ki * e)
           let raw : Int := clampInt (min p.gMin s.gc.gLim) s.gc.gLim (n / 1000 + (p.kp * e).tdiv 1000)
           (f < q.restoreThreshold ∨ q.restoreDelay ≠ 0 →
             t.gc = { s.gc with integrator := n, gateOut := t.gc.gateOut, capacity := p.pFull * s.gc.gLim / 10000 }
             ∧ (t.gc.gateOut : Int) =
               (if raw > s.gc.gateOut then min raw (s.gc.gateOut + p.openRate)
                else if raw < s.gc.gateOut then max raw ((s.gc.gateOut : Int) - p.closeRate) else raw))))
      ∧ (∀ i : Fin 4, holds → (s.slot i).state = .cutting → (s.slot i).rakeHalt = true → (∀ k : Fin 3, ¬fires k) →
          s.Consistent → s.TakenOut t i .rake)

/-- R5, R15, R21: the gate output moves at control steps alone, which are the tooth edges that complete a window and the window
timeouts, and there by no more than the open rate upward and the close or trip rate downward, and never toward opening while it
stands at or above the gate limit; a main-domain reset sets it to 0. That a loss of the supply sets it to 0 at once, and that
without its supply the part makes no reset but a power-on, are the model's choices (logs 13 and 18). -/
def Obligations.GateMovesOnlyAtControlSteps : Prop :=
  ∀ (c : Instr) (s t : State), exec c s = .next t →
    ((∀ f : Nat, ¬isControlStep c s f) → ¬isReset c s → t.gc.gateOut = s.gc.gateOut)
    ∧ (∀ f : Nat, isControlStep c s f → t.gc.gateOut ≤ s.gc.gateOut + s.gc.params.openRate
        ∧ s.gc.gateOut ≤ t.gc.gateOut + max s.gc.params.closeRate s.gc.params.tripRate
        ∧ (s.gc.gLim ≤ s.gc.gateOut → t.gc.gateOut ≤ s.gc.gateOut))
    ∧ (isReset c s → (s.powered = true ∨ ∃ failed, c = .powerOnReset failed) → t.gc.gateOut = 0)
    ∧ (isReset c s → s.powered = false → (∀ failed, c ≠ .powerOnReset failed) → t = s)

/-! ### Station states (chapter 2) -/

/-- R24, R34, R35, R39: START in STOPPED, and its refusal in every other state; READ_TRIP carries a presence flag and the
capture's record, and changes nothing; CLEAR_TRIP, its refusals, and in TRIPPED the emptied capture and the entry to STOPPED;
SET_ALARM replaces the setting and sets the relay by R38, and a code outside the tables is refused with BAD_ARG. -/
def Obligations.StartTripAndAlarmCommands : Prop :=
  ∀ (tag : Byte) (s : State), s.LinkReady →
    (s.ss.station = .stopped → exec (.start tag []) s = .next
      ((post (.station .starting .stopped s.ss.standing .start)
        { s with ss := { s.ss with station := .starting, startTimer := some 60000 } }).replyTo .start tag .ok []))
    ∧ (s.ss.station ≠ .stopped → exec (.start tag []) s = .next (s.replyTo .start tag .state []))
    ∧ exec (.readTrip tag []) s = .next (s.replyTo .readTrip tag .ok
    (match s.ss.capture with
     | none => [0]
     | some r => 1 :: (u8 r.cause.code ++ u8 r.cause.inputByte ++ u32 r.time ++ u32 r.freq ++ u16 r.gateOut
        ++ u32 r.bookings ++ u8 r.entries ++ [if r.overflow then 1 else 0])))
    ∧ (s.ss.station ≠ .tripped → exec (.clearTrip tag []) s = .next (s.replyTo .clearTrip tag .state []))
    ∧ (∀ (r : TripRecord) (i : Fin 4), s.ss.capture = some r → r.cause = .watch i → (s.input i).latched = true →
        exec (.clearTrip tag []) s = .next (s.replyTo .clearTrip tag .state []))
    ∧ (s.ss.station = .tripped →
        (∀ (r : TripRecord) (i : Fin 4), s.ss.capture = some r → r.cause = .watch i → (s.input i).latched = false) →
        ∃ t : State, exec (.clearTrip tag []) s = .next t ∧ t.Replied .clearTrip tag .ok []
          ∧ t.ss = { s.ss with
              station := .stopped, capture := none, runDownTimer := none, runDownMark := false
              alarmRelay := if s.ss.alarmSource = .trip then s.ss.alarmInverted else s.ss.alarmRelay }
          ∧ t = { s with ss := t.ss, store := t.store, sl := t.sl }
          ∧ s.reportsSince t (.station .stopped .tripped s.ss.standing .clear))
    ∧ (∀ a b : Byte,
      (∀ source : AlarmSource, a.toNat = source.code → (b = 0 ∨ b = 1) →
        exec (.setAlarm tag [a, b]) s = .next
          ({ s with ss := { s.ss with
              alarmSource := source, alarmInverted := decide (b = 1)
              alarmRelay := xor (s.alarmCondition source) (decide (b = 1)) } }.replyTo .setAlarm tag .ok []))
      ∧ ((4 < a.toNat ∨ 1 < b.toNat) → exec (.setAlarm tag [a, b]) s = .next (s.replyTo .setAlarm tag .badArg [])))

/-- R29: STOP in STARTING, RUN_UP and LIVE, and its refusal elsewhere. (A command row is its frame's arrival: log 15.) -/
def Obligations.StopCommand : Prop :=
  ∀ (tag : Byte) (s : State), s.LinkReady → s.Consistent →
    ((s.ss.station = .starting ∨ s.ss.station = .runUp ∨ s.ss.station = .live) →
      ∃ t : State, exec (.stop tag []) s = .next t ∧ s.StoppedBy t .hostStop ∧ t.Replied .stop tag .ok []
        ∧ t.cu.liveCopy = (if s.ss.station = .live then false else s.cu.liveCopy)
        ∧ t.store = s.store ∧ t.wu = s.wu ∧ t.lu = s.lu ∧ t.smu = s.smu ∧ t.mu = s.mu)
    ∧ ((s.ss.station = .stopped ∨ s.ss.station = .stopping ∨ s.ss.station = .tripped) →
      exec (.stop tag []) s = .next (s.replyTo .stop tag .state []))

/-- R25, R30, R31, R32, R33: the start timer's expiry in STARTING or RUN_UP trips with cause NO_SPEED, the underspeed timer's in
LIVE with cause UNDERSPEED; in another state, or with the timer stopped, neither does anything but stop its timer. The run-down
timer's expiry in STOPPING: the station is STOPPED where the gate stands at 0, and otherwise the run-down mark is set. -/
def Obligations.StationTimers : Prop :=
  ∀ s : State, s.powered = true →
    (s.Consistent → s.ss.capture = none →
      (s.ss.startTimer.isSome = true →
        if s.ss.station = .starting ∨ s.ss.station = .runUp then
          ∃ t : State, exec .startTimerExpiry s = .next t ∧ s.TrippedBy t .noSpeed s.smu.lastFreq
        else exec .startTimerExpiry s = .next { s with ss := { s.ss with startTimer := none } })
      ∧ (s.ss.underspeedTimer.isSome = true →
        if s.ss.station = .live then
          ∃ t : State, exec .underspeedTimerExpiry s = .next t ∧ s.TrippedBy t .underspeed s.smu.lastFreq
        else exec .underspeedTimerExpiry s = .next { s with ss := { s.ss with underspeedTimer := none } })
      ∧ (s.ss.startTimer = none → exec .startTimerExpiry s = .next s)
      ∧ (s.ss.underspeedTimer = none → exec .underspeedTimerExpiry s = .next s))
    ∧ (s.ss.station = .stopping → s.ss.runDownTimer.isSome = true →
      (s.gc.gateOut ≠ 0 → exec .runDownTimerExpiry s = .next
        { s with ss := { s.ss with runDownTimer := none, runDownMark := true } })
      ∧ (s.gc.gateOut = 0 → ∃ t : State, exec .runDownTimerExpiry s = .next t
        ∧ t.ss = { s.ss with station := .stopped, runDownTimer := none, runDownMark := false }
        ∧ t = { s with ss := t.ss, store := t.store, sl := t.sl }
        ∧ s.reportsSince t (.station .stopped .stopping s.ss.standing .runDown)))

/-- R26: the settle timer's expiry in RUN_UP: the field contactor closes, the start timer is cancelled, the station is LIVE; the
gate, the levels, the watch inputs, the store and every setting stay. R27, R107, R122: where no grant can be made then, because
the spacing timer runs or the capacity does not reach the reserve, the feeders in OFF with the auto-connect flag are queued, in
class order and then by index, as far as places go; a rake that is DUE or FORCED is queued too, ahead of them or behind them by
the free value of log 3. -/
def Obligations.SettleExpiryEntersLive : Prop :=
  ∀ s : State, s.powered = true → s.ss.station = .runUp → s.ss.settleTimer.isSome = true →
    ∃ t : State, exec .settleTimerExpiry s = .next t
      ∧ t.ss = { s.ss with
          station := .live, fieldClosed := true, startTimer := none, settleTimer := none, alarmRelay := t.ss.alarmRelay }
      ∧ t.still =
        { s with
          ss := t.ss, cu := { s.cu with liveCopy := true }, choices := s.choices + 1 }.still
      ∧ t.gc.gateOut = s.gc.gateOut
      ∧ s.reportsSince t (.station .live .runUp s.ss.standing .settled)
      ∧ (s.Consistent → s.ProfilesInRange → s.da.queue = [] → s.da.table = [] →
        (s.da.spacingTimer.isSome = true ∨ s.da.capacity < s.da.params.reserve) →
        let asks : Fin 12 → Bool := fun i => decide ((s.feeder i).state = .off ∧ (s.feeder i).profile.auto = true)
        let before : Fin 12 → Fin 12 → Bool := fun j i => decide ((s.feeder j).profile.cls < (s.feeder i).profile.cls
          ∨ (s.feeder j).profile.cls = (s.feeder i).profile.cls ∧ j < i)
        let rank : Fin 12 → Nat := fun i => ((List.finRange 12).filter fun j => asks j && before j i).length
        let askers := ((List.finRange 12).filter asks).length
        let rakeAsks := s.rk.state = .due ∨ s.rk.state = .forced
        let places := if rakeAsks ∧ Config.rakeFirst s.choices = true then 7 else 8
        (∀ i : Fin 12,
          (asks i = true → rank i < places → t.feeder i = { s.feeder i with state := .queued }
            ∧ ∃ e ∈ t.da.queue, e.owner = .feeder i ∧ e.cls = (s.feeder i).profile.cls
              ∧ e.booking = (s.feeder i).profile.booking ∧ e.waitLimit = (s.feeder i).profile.waitLimit ∧ e.origin = .host)
          ∧ ((asks i = false ∨ places ≤ rank i) → t.feeder i = s.feeder i))
        ∧ (rakeAsks → (Config.rakeFirst s.choices = true ∨ askers < 8) →
          t.rk = { s.rk with state := if s.rk.graceSpent then .forced else s.rk.state, entryHeld := true }
          ∧ ∃ e ∈ t.da.queue, e.owner = .rake ∧ e.cls = (if t.rk.state = .forced then 0 else 3)
            ∧ e.booking = s.rk.params.booking ∧ e.waitLimit = 0 ∧ e.origin = .host)
        ∧ (rakeAsks → Config.rakeFirst s.choices = false → 8 ≤ askers → t.rk.entryHeld = false)
        ∧ (¬rakeAsks → t.rk = s.rk)
        ∧ t.da.table = [] ∧ t.da.queue.length = min 8 (askers + if rakeAsks then 1 else 0))

/-- R36, R37: STANDING_ON: refused outside LIVE and while a slot works, OK and unchanged while the flag is set, and otherwise
the flag set, every queued drive IDLE, G_lim recomputed with the standing gate limit and the capacity published. STANDING_OFF:
OK and unchanged while the flag is clear, and otherwise the flag cleared and G_lim recomputed with G_max. That a working slot is
answered BUSY even while the flag is set is the model's reading (log 22), and that the withdrawal comes before the recomputation
its choice (log 32). -/
def Obligations.StandingCommands : Prop :=
  ∀ (tag : Byte) (s : State), s.LinkReady →
    (s.ss.station ≠ .live → exec (.standingOn tag []) s = .next (s.replyTo .standingOn tag .state []))
    ∧ (s.ss.station = .live → (∃ i : Fin 4, (s.slot i).state.engaged = true ∨ (s.slot i).state = .coasting) →
        exec (.standingOn tag []) s = .next (s.replyTo .standingOn tag .busy []))
    ∧ (s.ss.station = .live → (∀ i : Fin 4, (s.slot i).state.engaged = false ∧ (s.slot i).state ≠ .coasting) →
        (s.ss.standing = true → exec (.standingOn tag []) s = .next (s.replyTo .standingOn tag .ok []))
        ∧ (s.ss.standing = false → ∃ t : State, exec (.standingOn tag []) s = .next t ∧ t.Replied .standingOn tag .ok []
          ∧ t.ss.standing = true ∧ t.ss.station = .live
          ∧ t.gc.gLim = min s.gc.params.standingLimit s.gc.gFF
          ∧ t.gc.capacity = s.gc.params.pFull * t.gc.gLim / 10000 ∧ t.da.capacity = t.gc.capacity
          ∧ t.still = { s with
              ss := { s.ss with standing := true }
              gc := { s.gc with gLim := t.gc.gLim, capacity := t.gc.capacity }
              da := { s.da with capacity := t.gc.capacity }, sl := t.sl }.still
          ∧ (∀ e ∈ t.da.queue, e.isDrive = false)
          ∧ (∀ i : Fin 4, s.queueHas (.drive i) = true → (t.slot i).state = .idle)
          ∧ s.reportsSince t (.station .live .live true .standingOn)))
    ∧ (s.ss.standing = false → exec (.standingOff tag []) s = .next (s.replyTo .standingOff tag .ok []))
    ∧ (s.ss.standing = true → ∃ t : State, exec (.standingOff tag []) s = .next t ∧ t.Replied .standingOff tag .ok []
        ∧ t.gc.gLim = min s.gc.params.gMax s.gc.gFF
        ∧ t.gc.capacity = s.gc.params.pFull * t.gc.gLim / 10000 ∧ t.da.capacity = t.gc.capacity
        ∧ t.still = { s with
            ss := { s.ss with standing := false }
            gc := { s.gc with gLim := t.gc.gLim, capacity := t.gc.capacity }
            da := { s.da with capacity := t.gc.capacity }, sl := t.sl }.still
        ∧ s.reportsSince t (.station s.ss.station s.ss.station false .standingOff))

/-! ### Levels and watch inputs (chapter 3) -/

/-- R41 to R45: a sample period: both channels' histories, fault flags and last raw values; then the rack loss and the rack-high
flag, which a fault on either channel holds (an unfilled one gives 0: log 29), the drive-pause flag with its hysteresis, and,
when FOREBAY's sample was accepted, the forebay gate limit and, where it is published, G_lim and the capacity. Nothing else
changes but what a rake made due or an arbitration may change. The model takes POND before FOREBAY (log 10) and G_FF before the
rack loss and the pause (log 19). -/
def Obligations.LevelSample : Prop :=
  ∀ (pond forebay : BitVec 12) (s : State), s.powered = true → s.lu.sampleTimer.isSome = true →
    let taken : LevelChannel → BitVec 12 → LevelChannel := fun c raw =>
      if raw = 0 ∨ raw = 4095 then { c with fault := true, lastRaw := raw.toNat }
      else
        { fault := false, lastRaw := raw.toNat
          samples := if c.samples = [] then List.replicate 8 raw.toNat else c.samples.tail ++ [raw.toNat] }
    ∃ t : State, exec (.levelSamplePeriod pond forebay) s = .next t
      ∧ t.lu =
        { s.lu with
          pond := taken s.lu.pond pond, forebay := taken s.lu.forebay forebay, sampleTimer := some 100
          rackLoss := t.lu.rackLoss, rackHigh := t.lu.rackHigh, drivePause := t.lu.drivePause, gFF := t.lu.gFF }
      ∧ (let unfilled := t.lu.pond.samples = [] ∨ t.lu.forebay.samples = []
         if unfilled ∨ t.lu.pond.fault = false ∧ t.lu.forebay.fault = false then
           t.lu.rackLoss = (if unfilled then 0 else t.lu.pondMean - t.lu.forebayMean)
           ∧ t.lu.rackHigh = decide (s.lu.params.rackThreshold ≤ t.lu.rackLoss)
         else t.lu.rackLoss = s.lu.rackLoss ∧ t.lu.rackHigh = s.lu.rackHigh)
      ∧ t.lu.drivePause =
        (if t.lu.forebay.samples = [] then s.lu.drivePause
         else if t.lu.forebayMean < s.lu.params.lPause then true
         else if s.lu.params.lPause + 100 ≤ t.lu.forebayMean then false else s.lu.drivePause)
      ∧ (forebay ≠ 0 → forebay ≠ 4095 →
          ∃ g : Nat, t.lu.gFF = some g
            ∧ (s.lu.params.lLow ≤ t.lu.forebayMean → g = s.lu.gMaxCopy)
            ∧ (t.lu.forebayMean < s.lu.params.lLow → t.lu.forebayMean ≤ s.lu.params.lMin → g = 0)
            ∧ (t.lu.forebayMean < s.lu.params.lLow → s.lu.params.lMin < t.lu.forebayMean →
                g = s.lu.gMaxCopy * (t.lu.forebayMean - s.lu.params.lMin) / (s.lu.params.lLow - s.lu.params.lMin))
            ∧ (s.lu.gFF ≠ some g → t.gc.gFF = g
                ∧ t.gc.gLim = min (if s.ss.standing then s.gc.params.standingLimit else s.gc.params.gMax) g
                ∧ t.gc.capacity = s.gc.params.pFull * t.gc.gLim / 10000 ∧ t.da.capacity = t.gc.capacity))
      ∧ ((forebay = 0 ∨ forebay = 4095) → t.lu.gFF = s.lu.gFF)
      ∧ (t.lu.gFF = s.lu.gFF → t.gc.gFF = s.gc.gFF ∧ t.gc.gLim = s.gc.gLim ∧ t.gc.capacity = s.gc.capacity
          ∧ t.da.capacity = s.da.capacity)
      ∧ t.still = { s with
          lu := t.lu, gc := { s.gc with gFF := t.gc.gFF, gLim := t.gc.gLim, capacity := t.gc.capacity }
          da := { s.da with capacity := t.da.capacity } }.still
      ∧ ((pond = 0 ∨ pond = 4095) → s.lu.pond.fault = false → s.reportsSince t
          (.level .faultEnter (some .pond) pond.toNat s.lu.pondMean s.lu.forebayMean s.lu.rackLoss))

/-- R33, R51, R52: a transition toward the destination level of an unlatched input in an EDGE mode is detected, latched and
reported, and its action applied; every other transition moves the wire alone. A TRIP that finds the station TRIPPED sets the
overflow flag of the capture alone. That a WATCH_EDGE is a transition even where the wire stands at its level is the model's choice
(log 16). -/
def Obligations.WatchEdge : Prop :=
  ∀ (i : Fin 4) (high : Bool) (s : State), s.powered = true →
    let w := s.input i
    let moved : State := { s with wu := { s.wu with pins := s.wu.pins.set i high } }
    ((w.latched = true ∨ (high = true → w.setting.mode ≠ .edgeRising) ∧ (high = false → w.setting.mode ≠ .edgeFalling)) →
      exec (.watchEdge i high) s = .next moved)
    ∧ (w.latched = false → (high = true ∧ w.setting.mode = .edgeRising ∨ high = false ∧ w.setting.mode = .edgeFalling) →
      ∃ t : State, exec (.watchEdge i high) s = .next t
        ∧ t.wu = (moved.onInput i fun w => { w with latched := true, counter := 0 }).wu
        ∧ s.reportsSince t (.watch i true w.setting.mode w.setting.action high)
        ∧ (w.setting.action = .report → t.still = { moved with wu := t.wu }.still
            ∧ t.da = s.da ∧ t.ds = s.ds ∧ t.rk = s.rk ∧ t.fu = s.fu)
        ∧ (w.setting.action = .rake → t.still = { moved with wu := t.wu }.still ∧ t.rk.state ≠ .idle)
        ∧ (w.setting.action = .drivesOut → t.still = { moved with wu := t.wu }.still
            ∧ (∀ j : Fin 4, (t.slot j).state.engaged = false) ∧ ∀ e ∈ t.da.queue, e.isDrive = false)
        ∧ (w.setting.action = .stop → s.Consistent →
            if s.ss.station = .starting ∨ s.ss.station = .runUp ∨ s.ss.station = .live then s.StoppedBy t .watchStop
            else t.still = { moved with wu := t.wu }.still)
        ∧ (w.setting.action = .trip → s.Consistent → s.ss.capture = none → s.ss.station ≠ .tripped →
            s.TrippedBy t (.watch i) s.smu.lastFreq)
        ∧ (∀ r : TripRecord, w.setting.action = .trip → s.ss.station = .tripped → s.ss.capture = some r →
            t = { moved with
              wu := t.wu, sl := t.sl
              ss := { s.ss with capture := some { r with overflow := true }, alarmRelay := t.ss.alarmRelay } }
            ∧ s.reportsSince t (.trip (.watch i) false)))

/-- R52: a sample period of the WU restarts its timer and takes each input by its own mode, level, flag and counter, whatever
the others' actions do. -/
def Obligations.WatchSample : Prop :=
  ∀ s : State, s.powered = true → s.wu.sampleTimer.isSome = true → ∃ t : State, exec .watchSamplePeriod s = .next t
    ∧ t.wu.sampleTimer = some 100 ∧ t.wu.pins = s.wu.pins
    ∧ ∀ i : Fin 4,
      let w := s.input i
      let active := (w.setting.mode = .levelHigh ∧ s.wu.pins[i] = true)
        ∨ (w.setting.mode = .levelLow ∧ s.wu.pins[i] = false)
      (t.input i).setting = w.setting
      ∧ (w.latched = true ∨ (w.setting.mode ≠ .levelHigh ∧ w.setting.mode ≠ .levelLow) → t.input i = w)
      ∧ (w.latched = false → active → w.counter + 1 < w.setting.filterCount →
          t.input i = { w with counter := w.counter + 1 })
      ∧ (w.latched = false → active → w.setting.filterCount ≤ w.counter + 1 →
          t.input i = { w with latched := true, counter := 0 }
          ∧ s.reportsSince t (.watch i true w.setting.mode w.setting.action s.wu.pins[i]))
      ∧ (w.latched = false → (w.setting.mode = .levelHigh ∨ w.setting.mode = .levelLow) → ¬active →
          t.input i = { w with counter := 0 })

/-- R50, R54: SET_WATCH for a mode that arms nothing, or an input that is latched or not at its destination level, and its
refusals; ACK_WATCH of a clear flag, of a set flag that nothing arms again, and of one that is detected again at once. -/
def Obligations.WatchCommands : Prop :=
  ∀ (tag : Byte) (i : Fin 4) (s : State), s.LinkReady →
    let w := s.input i
    let n : Byte := BitVec.ofNat 8 i.val
    (∀ b : Byte, 3 < b.toNat → exec (.ackWatch tag [b]) s = .next (s.replyTo .ackWatch tag .badArg []))
    ∧ (∀ m f a b : Byte, (3 < b.toNat ∨ 4 < m.toNat ∨ 4 < a.toNat ∨ (m = 3 ∨ m = 4) ∧ f ≠ 2 ∧ f ≠ 4 ∧ f ≠ 8) →
        exec (.setWatch tag [b, m, f, a]) s = .next (s.replyTo .setWatch tag .badArg []))
    ∧ (∀ (mode : WatchMode) (action : WatchAction) (f : Byte),
        (mode = .levelHigh ∨ mode = .levelLow → f = 2 ∨ f = 4 ∨ f = 8) →
        let set : WatchInput :=
          { w with
            counter := 0
            setting :=
              { mode := mode, action := action
                filterCount := if mode = .levelHigh ∨ mode = .levelLow then f.toNat else w.setting.filterCount } }
        let waits := w.latched = true ∨ (mode = .edgeRising → s.wu.pins[i] = false) ∧ (mode = .edgeFalling → s.wu.pins[i] = true)
        (waits → exec (.setWatch tag [n, BitVec.ofNat 8 mode.code, f, BitVec.ofNat 8 action.code]) s =
          .next ((s.onInput i fun _ => set).replyTo .setWatch tag .ok []))
        ∧ (¬waits → ∃ t : State,
            exec (.setWatch tag [n, BitVec.ofNat 8 mode.code, f, BitVec.ofNat 8 action.code]) s = .next t
            ∧ t.input i = { set with latched := true } ∧ t.Replied .setWatch tag .ok []
            ∧ s.reportsSince t (.watch i true mode action s.wu.pins[i])))
    ∧ (w.latched = false → exec (.ackWatch tag [n]) s = .next (s.replyTo .ackWatch tag .ok [0]))
    ∧ (w.latched = true →
        if w.setting.mode = .edgeRising ∧ s.wu.pins[i] = true ∨ w.setting.mode = .edgeFalling ∧ s.wu.pins[i] = false then
          ∃ t : State, exec (.ackWatch tag [n]) s = .next t ∧ t.input i = { w with counter := 0 }
            ∧ t.Replied .ackWatch tag .ok [1]
            ∧ s.reportsSince t (.watch i false w.setting.mode w.setting.action s.wu.pins[i])
            ∧ s.reportsSince t (.watch i true w.setting.mode w.setting.action s.wu.pins[i])
        else ∃ t : State, exec (.ackWatch tag [n]) s = .next t
            ∧ t.wu = (s.onInput i fun w => { w with latched := false, counter := 0 }).wu
            ∧ t = { s with wu := t.wu, ss := { s.ss with alarmRelay := t.ss.alarmRelay }, sl := t.sl }
            ∧ t.Replied .ackWatch tag .ok [0]
            ∧ s.reportsSince t (.watch i false w.setting.mode w.setting.action s.wu.pins[i]))

/-! ### Commands in general (chapters 11 and 12) -/

/-- R187, R188, R189, R196: a command whose body has another length than its fields give is refused with BAD_LENGTH alone, and
changes nothing; SET_TARIFF's length goes by its count; during start-up every command but HELLO and STATUS is answered BUSY
alone, whatever its body. Model's choice (log 36): where a command meets another refusal as well (an owner byte that names no
owner, a state, a lock) and its rule names no order, the length comes first. That a body that is not empty is refused for every
command whose body is empty is its reading (log 21). -/
def Obligations.LengthAndStartUpRefusals : Prop :=
  ∀ (c : Instr) (k : CommandKind) (tag : Byte) (body : List Byte) (s : State), c.frame? = some (k, tag, body) →
    (s.LinkReady →
      (∀ n : Nat, fixedLength k = some n → body.length ≠ n → exec c s = .next (s.replyTo k tag .badLength []))
      ∧ (k = .setTariff → body.length ≠ 1 + 3 * (body.getD 0 0).toNat →
        exec c s = .next (s.replyTo k tag .badLength [])))
    ∧ (s.powered = true → s.sl.startup = true → s.sl.inService = none → s.sl.replySlot = none → s.sl.inputQueue = [] →
      k ≠ .hello → k ≠ .status → exec c s = .next (s.replyTo k tag .busy []))

/-- R186, R187: a frame that finds two frames queued is discarded and counted; one that finds fewer, while a command is in
service or the reply slot is full, joins the queue at its tail; a frame of a kind that is no command is answered UNKNOWN. That a
command's row is the arrival of its frame is the model's choice (log 15). -/
def Obligations.FrameArrival : Prop :=
  ∀ (c : Instr) (fr : Frame) (s : State),
    ((∃ k, c.frame? = some (k, fr.tag, fr.body) ∧ fr.kind = k.code)
      ∨ c = .unknownCommand fr.kind fr.tag fr.body ∧ CommandKind.ofCode fr.kind = none) →
    s.powered = true →
    (2 ≤ s.sl.inputQueue.length →
      exec c s = .next { s with sl := { s.sl with overruns := min 65535 (s.sl.overruns + 1) } })
    ∧ (s.sl.inputQueue.length < 2 → (s.sl.inService.isSome = true ∨ s.sl.replySlot.isSome = true) →
      exec c s = .next { s with sl := { s.sl with inputQueue := s.sl.inputQueue ++ [fr] } })
    ∧ (c = .unknownCommand fr.kind fr.tag fr.body → CommandKind.ofCode fr.kind = none → s.LinkReady →
      exec c s = .next { s with sl := { s.sl with
        replySlot := some { kind := fr.kind + 0x80, tag := fr.tag, body := [0x10] }
        tx := match s.sl.tx with
          | .idle => .reply (7 * 2604)
          | sending => sending } })

/-- R187: what clamping does: every value lands in its range, at the nearer limit where it lay outside, and unchanged where it
lay inside. -/
def Obligations.ClampTakesNearerLimit : Prop :=
  ∀ (fs : List Field) (vs : List Nat), fs.length = vs.length → (∀ f ∈ fs, f.lo ≤ f.hi) →
    fieldsInRange fs (clampFields fs vs) = true ∧ (fieldsInRange fs vs = true → clampFields fs vs = vs)
      ∧ ∀ (k : Nat) (f : Field) (v : Nat), fs[k]? = some f → vs[k]? = some v →
        (v < f.lo → (clampFields fs vs)[k]? = some f.lo) ∧ (f.hi < v → (clampFields fs vs)[k]? = some f.hi)

/-- R77, R113, R135, R149: SET_DISPATCH, SET_RAKE, SET_SHEDDING and SET_CORRECTION: every value clamped, all in force, the reply
OK or CLAMPED with the values in force; SET_SHEDDING refused with BAD_ARG where the order is wrong; and what each does at once.
That SET_SHEDDING's BAD_ARG reply carries the result alone is the model's reading (log 21). -/
def Obligations.ParameterCommands : Prop :=
  ∀ (tag : Byte) (body : List Byte) (s : State), s.LinkReady →
    (body.length = 7 →
      let sent := decodeFields RakeParams.fields body
      let v := clampFields RakeParams.fields sent
      exec (.setRake tag body) s = .next ({ s with rk := { s.rk with params := .ofList v } }.replyTo .setRake tag
        (if sent = v then .ok else .clamped) (encodeFields RakeParams.fields v)))
    ∧ (body.length = 32 →
      let sent := decodeFields SheddingParams.fields body
      let v := clampFields SheddingParams.fields sent
      let p := SheddingParams.ofList v
      exec (.setShedding tag body) s = .next
        (if p.threshold2 < p.threshold1 ∧ p.threshold3 < p.threshold2 ∧ p.threshold1 < p.restoreThreshold
            ∧ p.holdThreshold < p.holdRelease then
          { s with fu := { s.fu with params := p } }.replyTo .setShedding tag
            (if sent = v then .ok else .clamped) (encodeFields SheddingParams.fields v)
        else s.replyTo .setShedding tag .badArg []))
    ∧ (body.length = 7 →
      let sent := decodeFields CorrectionParams.fields body
      let v := clampFields CorrectionParams.fields sent
      let p := CorrectionParams.ofList v
      let range := s.cu.teRange || decide (p.limit < (20 * s.cu.teCycles).natAbs)
      let permitted := s.cu.liveCopy && !s.cu.shedCopy && !range
      ∃ t : State, exec (.setCorrection tag body) s = .next t
        ∧ t = { s with cu := t.cu, sl := t.sl }
        ∧ t.cu = { s.cu with
            params := p, teRange := range
            correction :=
              match s.cu.correction with
              | .inactive =>
                if permitted ∧ p.deadband < (20 * s.cu.teCycles).natAbs then
                  (if 0 < s.cu.teCycles then .slow else .fast) else .inactive
              | .slow => if 0 < s.cu.teCycles ∧ permitted then .slow else .inactive
              | .fast => if s.cu.teCycles < 0 ∧ permitted then .fast else .inactive }
        ∧ t.Replied .setCorrection tag (if sent = v then .ok else .clamped) (encodeFields CorrectionParams.fields v))
    ∧ (body.length = 4 →
      let sent := decodeFields DispatchParams.fields body
      let v := clampFields DispatchParams.fields sent
      let p := DispatchParams.ofList v
      ∃ t : State, exec (.setDispatch tag body) s = .next t
        ∧ t.Replied .setDispatch tag (if sent = v then .ok else .clamped) (encodeFields DispatchParams.fields v)
        ∧ t.still = { s with da := { s.da with params := p }, sl := t.sl }.still
        ∧ (s.da.spacingTimer.isSome = true →
          t = { s with
            da := { s.da with
              params := p
              shortfallTimer :=
                if s.da.capacity < s.bookingSum then some (s.da.shortfallTimer.getD (p.grace * 1000)) else none }
            sl := t.sl }))

/-- R8, R9, R19, R20, R43, R44, R46: SET_GOVERNOR and SET_LEVELS: the values clamped and in force, the reply's result and
content, and what follows at once: the copy of G_max, G_FF computed afresh where FOREBAY is filled, G_lim and the capacity, the
rack loss and its flag (held by a fault on either channel: log 29), the drive-pause flag; the gate does not move. That SET_LEVELS'
BAD_ARG reply carries the result alone is the model's reading (log 21). -/
def Obligations.GovernorAndLevelCommands : Prop :=
  ∀ (tag : Byte) (body : List Byte) (s : State), s.LinkReady →
    let mean : LevelParams → Nat := fun p =>
      (p.forebayLow + ((p.forebayHigh : Int) - p.forebayLow) * s.lu.forebay.samples.sum / 32760).toNat
    let limit : LevelParams → Nat → Nat := fun p gMax =>
      if p.lLow ≤ mean p then gMax
      else if mean p ≤ p.lMin then 0
      else gMax * (mean p - p.lMin) / (p.lLow - p.lMin)
    (body.length = 19 →
      let sent := decodeFields GovParams.fields body
      let v := clampFields GovParams.fields sent
      let p := GovParams.ofList v
      let old := s.gc.params
      ∃ t : State, exec (.setGovernor tag body) s = .next t
        ∧ t.Replied .setGovernor tag (if sent = v then .ok else .clamped) (encodeFields GovParams.fields v)
        ∧ t.gc.params = p ∧ t.gc.gateOut = s.gc.gateOut
        ∧ t.gc.gLim = (if p.gMax ≠ old.gMax ∨ p.standingLimit ≠ old.standingLimit then
            min (if s.ss.standing then p.standingLimit else p.gMax) t.gc.gFF else s.gc.gLim)
        ∧ ((p.gMax ≠ old.gMax ∨ p.standingLimit ≠ old.standingLimit ∨ p.pFull ≠ old.pFull) →
            t.gc.capacity = p.pFull * t.gc.gLim / 10000 ∧ t.da.capacity = t.gc.capacity)
        ∧ t.lu = { s.lu with gMaxCopy := if p.gMax ≠ old.gMax then p.gMax else s.lu.gMaxCopy, gFF := t.lu.gFF }
        ∧ (p.gMax = old.gMax ∨ s.lu.forebay.samples = [] → t.gc.gFF = s.gc.gFF ∧ t.lu.gFF = s.lu.gFF)
        ∧ (p.gMax ≠ old.gMax → s.lu.forebay.samples ≠ [] →
            t.gc.gFF = limit s.lu.params p.gMax ∧ t.lu.gFF = some (limit s.lu.params p.gMax))
        ∧ t.still = { s with gc := t.gc, lu := t.lu, da := { s.da with capacity := t.da.capacity }, sl := t.sl }.still
        ∧ (p.gMax = old.gMax → p.standingLimit = old.standingLimit → p.pFull = old.pFull →
            t = { s with gc := { s.gc with params := p }, sl := t.sl }))
    ∧ (body.length = 16 →
      let sent := decodeFields LevelParams.fields body
      let v := clampFields LevelParams.fields sent
      let p := LevelParams.ofList v
      if p.lMin < p.lLow ∧ p.pondLow < p.pondHigh ∧ p.forebayLow < p.forebayHigh then
        ∃ t : State, exec (.setLevels tag body) s = .next t
          ∧ t.Replied .setLevels tag (if sent = v then .ok else .clamped) (encodeFields LevelParams.fields v)
          ∧ t.lu =
            { s.lu with
              params := p, rackLoss := t.lu.rackLoss, rackHigh := t.lu.rackHigh, drivePause := t.lu.drivePause
              gFF := t.lu.gFF }
          ∧ (let unfilled := s.lu.pond.samples = [] ∨ s.lu.forebay.samples = []
             if unfilled ∨ s.lu.pond.fault = false ∧ s.lu.forebay.fault = false then
               t.lu.rackLoss = (if unfilled then 0 else t.lu.pondMean - t.lu.forebayMean)
               ∧ t.lu.rackHigh = decide (p.rackThreshold ≤ t.lu.rackLoss)
             else t.lu.rackLoss = s.lu.rackLoss ∧ t.lu.rackHigh = s.lu.rackHigh)
          ∧ (let g := limit p s.lu.gMaxCopy
             if s.lu.forebay.samples = [] ∨ s.lu.gFF = some g then
               t.lu.gFF = s.lu.gFF ∧ t.gc = { s.gc with integrator := t.gc.integrator, feedForward := t.gc.feedForward }
               ∧ t.da.capacity = s.da.capacity
             else t.lu.gFF = some g ∧ t.gc.gFF = g
               ∧ t.gc.gLim = min (if s.ss.standing then s.gc.params.standingLimit else s.gc.params.gMax) g
               ∧ t.gc.capacity = s.gc.params.pFull * t.gc.gLim / 10000 ∧ t.da.capacity = t.gc.capacity)
          ∧ t.lu.drivePause =
            (if s.lu.forebay.samples = [] then s.lu.drivePause
             else if t.lu.forebayMean < p.lPause then true
             else if p.lPause + 100 ≤ t.lu.forebayMean then false else s.lu.drivePause)
          ∧ t.gc.gateOut = s.gc.gateOut
          ∧ t.still = { s with
              lu := t.lu, gc := { s.gc with gFF := t.gc.gFF, gLim := t.gc.gLim, capacity := t.gc.capacity }
              da := { s.da with capacity := t.da.capacity }, sl := t.sl }.still
      else exec (.setLevels tag body) s = .next (s.replyTo .setLevels tag .badArg []))

/-- R47, R78, R79, R144, R161, R171, R196, R198, R200: READ_LEVELS, LIST_TABLE, LIST_QUEUE, READ_CLOCK, READ_METER and
READ_COMMISSION: the whole of their replies; they change nothing. The weekday's code is a free value (log 5), and of the arrival
sequence the low 32 bits are sent (log 27). The layouts of READ_LEVELS and READ_CLOCK are read from their chapters and R196 (log
21); scales that stand against their order, which only an image from outside can bring, scale as log 11 says. -/
def Obligations.ReadCommands : Prop :=
  ∀ (tag : Byte) (s : State), s.LinkReady →
    let p := s.lu.params
    let channel : LevelChannel → Nat → Nat → Nat → List Byte := fun c lo hi mean =>
      u16 c.lastRaw ++ u16 (lo + ((hi : Int) - lo) * c.lastRaw / 4095).toNat ++ [if c.samples = [] then 0 else 1]
        ++ [if c.fault then 1 else 0] ++ u16 (if c.samples = [] then 0 else mean)
    let flag : Bool → Byte := fun b => if b then 1 else 0
    let c := s.cu.calendar
    exec (.readLevels tag []) s = .next (s.replyTo .readLevels tag .ok
      (channel s.lu.pond p.pondLow p.pondHigh ((p.pondLow + ((p.pondHigh : Int) - p.pondLow) * s.lu.pond.samples.sum / 32760).toNat)
        ++ channel s.lu.forebay p.forebayLow p.forebayHigh
          ((p.forebayLow + ((p.forebayHigh : Int) - p.forebayLow) * s.lu.forebay.samples.sum / 32760).toNat)
        ++ u16 s.lu.rackLoss ++ u16 (s.lu.gFF.getD 0) ++ [flag s.lu.drivePause] ++ [flag s.lu.rackHigh]))
    ∧ exec (.listTable tag []) s = .next (s.replyTo .listTable tag .ok
      (u8 s.da.table.length ++ u32 (s.da.table.map TableEntry.booking).sum ++ u32 s.da.capacity ++ u16 s.da.params.reserve
        ++ s.da.table.flatMap fun e =>
          u8 (ownerByte e.owner) ++ [if e.phase = .lead then 0 else 1] ++ u16 e.booking ++ u32 e.grantTime.toNat))
    ∧ exec (.listQueue tag []) s = .next (s.replyTo .listQueue tag .ok
      (u8 s.da.queue.length ++ [flag s.da.spacingTimer.isSome] ++ u16 (s.da.spacingTimer.getD 0)
        ++ [flag s.da.shortfallTimer.isSome] ++ u16 (s.da.shortfallTimer.getD 0)
        ++ s.da.queue.flatMap fun e =>
          u8 (ownerByte e.owner) ++ u8 e.cls ++ u16 e.booking ++ u32 e.sequence ++ u16 e.waitLimit
            ++ u16 ((e.waitTimer.getD 0 + 999) / 1000) ++ [if e.origin = .host then 0 else 1] ++ [flag (s.eligible e.owner)]))
    ∧ exec (.readClock tag []) s = .next (s.replyTo .readClock tag .ok
      (u16 c.year ++ u8 c.month ++ u8 c.day ++ u8 c.hour ++ u8 c.minute ++ u8 c.second ++ [Config.weekdayCode c.weekday]
        ++ u32 s.cu.e.toNat ++ u32 s.cu.n.toNat ++ i32 s.cu.teCycles
        ++ i32 (clampInt (-2147483648) 2147483647 (20 * s.cu.teCycles))
        ++ i16 s.cu.trim ++ i16 (s.cu.pendingTrim.getD (-32768))
        ++ [(match s.cu.pendingShift with | some true => 0x01 | some false => 0xFF | none => 0x80 : Byte)]
        ++ [flag s.cu.zeroRequest]
        ++ [(match s.cu.correction with | .inactive => 0 | .slow => 1 | .fast => 2 : Byte)]
        ++ i8 s.cu.offset ++ [flag s.cu.teRange] ++ [flag s.cu.clockCold]))
    ∧ (∀ i : Fin 12, exec (.readMeter tag [BitVec.ofNat 8 (0x10 + i.val)]) s = .next (s.replyTo .readMeter tag .ok
      (let a := s.account i
       u8 (0x10 + i.val) ++ u8 (s.feeder i).state.code ++ u32 a.wh[0] ++ u32 a.wh[1] ++ u32 a.wh[2] ++ u32 a.wh[3]
        ++ u16 a.residue ++ u32 a.onSeconds ++ u16 a.shedCount ++ u16 a.capTrips ++ u32 a.dayMax ++ u32 a.power
        ++ u8 s.mu.index.val ++ [flag s.mu.pendingBands.isSome])))
    ∧ (∀ b : Byte, (b.toNat < 0x10 ∨ 0x1B < b.toNat) →
      exec (.readMeter tag [b]) s = .next (s.replyTo .readMeter tag .badArg []))
    ∧ exec (.readCommission tag []) s = .next (s.replyTo .readCommission tag .ok
      (s.store.commissioning.identity ++ s.store.commissioning.factors.toList.flatMap u16
        ++ [flag s.store.commissioning.locked]))

/-- R192, R193, R194, R198: HELLO and STATUS, in start-up as well, with the whole of their replies, STATUS setting the
lost-report count to 0; RESET refused with STATE outside STOPPED and TRIPPED, and otherwise answered OK and kept in service. -/
def Obligations.LinkCommands : Prop :=
  ∀ (tag : Byte) (s : State), s.powered = true → s.sl.inService = none → s.sl.replySlot = none → s.sl.inputQueue = [] →
    let flag : Bool → Byte := fun b => if b then 1 else 0
    exec (.hello tag []) s = .next (s.replyTo .hello tag .ok
      [0x14, 0x03, 0x18, 0x04, 0x01, flag s.store.configDefault, flag s.store.fault, flag s.store.commissioning.locked,
        flag s.sl.startup])
    ∧ exec (.status tag []) s = .next ({ s with sl := { s.sl with lostReports := 0 } }.replyTo .status tag .ok
      (u8 s.ss.station.code ++ [flag s.ss.standing] ++ u32 s.smu.lastFreq ++ u16 s.gc.gateOut ++ u16 s.gc.gLim
        ++ u32 s.gc.capacity ++ u32 (s.da.table.map TableEntry.booking).sum ++ u8 s.da.table.length ++ u8 s.da.queue.length
        ++ i32 (clampInt (-2147483648) 2147483647 (20 * s.cu.teCycles)) ++ i8 s.cu.offset ++ [flag s.cu.teRange]
        ++ u16 s.sl.badFrames ++ u16 s.sl.overruns ++ u8 s.sl.lostReports
        ++ u8 ((if (s.input 0).latched then 1 else 0) + (if (s.input 1).latched then 2 else 0)
          + (if (s.input 2).latched then 4 else 0) + (if (s.input 3).latched then 8 else 0))))
    ∧ (s.sl.startup = false → s.ss.station ≠ .stopped → s.ss.station ≠ .tripped →
      exec (.reset tag []) s = .next (s.replyTo .reset tag .state []))
    ∧ (s.sl.startup = false → (s.ss.station = .stopped ∨ s.ss.station = .tripped) →
      exec (.reset tag []) s = .next
        ({ s with sl := { s.sl with inService := some { kind := 0x03, tag := tag, body := [] } } }.replyTo .reset tag .ok []))

/-- R187, R190, R191, R194: the transmitter. A report joins a queue of fewer than sixteen at its tail; an idle transmitter then
sends the reply that waits, or else the oldest report, which leaves the queue; a report that finds sixteen is dropped and
counted. After a report the reply that waits, else the oldest report, goes next. After a reply the slot is empty, the oldest
report goes next, and a command that waits is taken, as if its frame came then (log 15); after RESET's reply the part makes a
main-domain reset. TRANSMIT_COMPLETION is taken whatever time is left (log 28). -/
def Obligations.Transmission : Prop :=
  (∀ (r : Report) (s : State), s.powered = true →
    (16 ≤ s.sl.reports.length → post r s = { s with sl := { s.sl with lostReports := min 255 (s.sl.lostReports + 1) } })
    ∧ (s.sl.reports.length < 16 → s.sl.tx ≠ .idle →
      post r s = { s with sl := { s.sl with reports := s.sl.reports ++ [r] } })
    ∧ (s.sl.reports.length < 16 → s.sl.tx = .idle →
      (∀ f : Frame, s.sl.replySlot = some f → post r s = { s with sl := { s.sl with
        reports := s.sl.reports ++ [r], tx := .reply ((f.body.length + 6) * 2604) } })
      ∧ (s.sl.replySlot = none → s.sl.reports = [] → post r s = { s with sl := { s.sl with
        tx := .report r ((r.body.length + 6) * 2604) } })
      ∧ (∀ (first : Report) (rest : List Report), s.sl.replySlot = none → s.sl.reports = first :: rest →
        post r s = { s with sl := { s.sl with
          reports := rest ++ [r], tx := .report first ((first.body.length + 6) * 2604) } })))
  ∧ ∀ s : State, s.powered = true →
    (s.sl.tx = .idle → exec .transmitCompletion s = .next s)
    ∧ (∀ (r : Report) (left : Nat), s.sl.tx = .report r left →
      (∀ f : Frame, s.sl.replySlot = some f → exec .transmitCompletion s = .next { s with sl := { s.sl with
        tx := .reply ((f.body.length + 6) * 2604) } })
      ∧ (∀ (first : Report) (rest : List Report), s.sl.replySlot = none → s.sl.reports = first :: rest →
        exec .transmitCompletion s = .next { s with sl := { s.sl with
          reports := rest, tx := .report first ((first.body.length + 6) * 2604) } })
      ∧ (s.sl.replySlot = none → s.sl.reports = [] →
        exec .transmitCompletion s = .next { s with sl := { s.sl with tx := .idle } }))
    ∧ (∀ left : Nat, s.sl.tx = .reply left → s.sl.inService = none →
      (s.sl.inputQueue = [] → s.sl.reports = [] → exec .transmitCompletion s = .next { s with sl := { s.sl with
        tx := .idle, replySlot := none } })
      ∧ (∀ (first : Report) (rest : List Report), s.sl.inputQueue = [] → s.sl.reports = first :: rest →
        exec .transmitCompletion s = .next { s with sl := { s.sl with
          reports := rest, tx := .report first ((first.body.length + 6) * 2604), replySlot := none } }))
    ∧ (∀ (left : Nat) (c : Instr) (k : CommandKind) (tag : Byte) (body : List Byte) (rest : List Frame),
      s.sl.tx = .reply left → s.sl.inService = none → c.frame? = some (k, tag, body) →
      s.sl.inputQueue = { kind := k.code, tag := tag, body := body } :: rest →
      let sent : List Report → Transmitter → State := fun reports tx => { s with sl := { s.sl with
        tx := tx, reports := reports, replySlot := none, inputQueue := [] } }
      (rest = [] → s.sl.reports = [] → exec .transmitCompletion s = exec c (sent [] .idle))
      ∧ (∀ (first : Report) (after : List Report), rest = [] → s.sl.reports = first :: after →
        exec .transmitCompletion s = exec c (sent after (.report first ((first.body.length + 6) * 2604))))
      ∧ ∃ t : State, exec .transmitCompletion s = .next t ∧ t.sl.inputQueue = rest)
    ∧ (∀ (left : Nat) (tag : Byte) (body : List Byte), s.sl.tx = .reply left →
      s.sl.inService = some { kind := 0x03, tag := tag, body := body } →
      ∃ t : State, exec .transmitCompletion s = .next t ∧ t.MainReset ∧ t.powered = true
        ∧ t.store.commissioning = s.store.commissioning)

/-- R183, R184, R185, R186: the receive assembler. The characters of a frame of the computer's, one after another from HUNT,
offer exactly that frame to the input queue when the CRC-16 that they carry is that of the length, kind, tag and body, and the
kind is below 0x80; otherwise the frame is discarded, with the bad-frame count raised. In HUNT every character but a sync byte,
and every one with a framing error, is ignored; a sync byte starts a frame; inside a frame a framing error, a length byte
outside 2 to 242 and the gap timer's expiry each discard the frame. -/
def Obligations.FrameReception : Prop :=
  (∀ (f : Frame) (hi lo : Byte) (s : State), f.body.length ≤ 240 → s.powered = true → s.sl.rx = .hunt →
    let covered : List Byte := BitVec.ofNat 8 (f.body.length + 2) :: f.kind :: f.tag :: f.body
    let ended : State := { s with sl := { s.sl with rx := .hunt, rxFrame := [], gapTimer := none } }
    (0xA5 :: covered ++ [hi, lo]).foldl
        (fun (r : Answer) c => match r with
          | .next s => exec (.characterReceived c false) s
          | stopped => stopped)
        (.next s)
      = .next (if hi.toNat * 256 + lo.toNat = (crc16 covered).toNat ∧ f.kind.toNat < 0x80 then offerFrame f ended
          else { ended with sl := { ended.sl with badFrames := min 65535 (s.sl.badFrames + 1) } }))
  ∧ ∀ (c : Byte) (bad : Bool) (s : State), s.powered = true →
    let discarded : State := { s with sl := { s.sl with
      badFrames := min 65535 (s.sl.badFrames + 1), gapTimer := none, rx := .hunt, rxFrame := [] } }
    (s.sl.rx = .hunt → (c ≠ 0xA5 ∨ bad = true) → exec (.characterReceived c bad) s = .next s)
    ∧ (s.sl.rx = .hunt → exec (.characterReceived 0xA5 false) s = .next { s with sl := { s.sl with
        rx := .length, rxFrame := [], gapTimer := some 10 } })
    ∧ (s.sl.rx ≠ .hunt → exec (.characterReceived c true) s = .next discarded)
    ∧ (s.sl.rx = .length → (c.toNat < 2 ∨ 242 < c.toNat) → exec (.characterReceived c bad) s = .next discarded)
    ∧ (s.sl.rx ≠ .hunt → s.sl.gapTimer.isSome = true → exec .gapTimerExpiry s = .next discarded)
    ∧ (s.sl.rx = .hunt → exec .gapTimerExpiry s = .next s)

/-! ### The Allocation Table and the Standing Request Queue (chapter 4) -/

/-- R62, R63, R64, R65: a drive slot's entry is ineligible while any of the four conditions holds, and otherwise eligible; after
a main-domain reset no slot's cycle timer runs. A feeder's entry is eligible while its minimum-off timer stands still, the
rake's while no drive holds a table entry. An arbitration grants nothing and changes nothing while the spacing timer runs,
without an eligible entry, or when the first eligible entry does not fit beneath C less the reserve, whatever stands behind it;
and no arbitration raises the booking sum beyond that margin. -/
def Obligations.ArbitrationRule : Prop :=
  ∀ s : State,
    (∀ i : Fin 4,
      (s.eligible (.drive i) = false ↔
        s.lu.drivePause = true ∨ (∃ e ∈ s.da.queue, e.owner = .rake ∧ e.cls = 0)
          ∨ (∃ e ∈ s.da.table, e.owner = .rake) ∨ (s.slot i).cycleTimer.isSome = true)
      ∧ (s.powered = true → ∃ t : State, exec .resetLine s = .next t ∧ (t.slot i).cycleTimer = none))
    ∧ (∀ i : Fin 12, s.eligible (.feeder i) = true ↔ (s.feeder i).minOffTimer = none)
    ∧ (s.eligible .rake = true ↔ ∀ e ∈ s.da.table, ∀ i : Fin 4, e.owner ≠ .drive i)
    ∧ (s.da.spacingTimer.isSome = true → arbitrate s = s)
    ∧ ((∀ e ∈ s.da.queue, s.eligible e.owner = false) → arbitrate s = s)
    ∧ (∀ (front back : List QueueEntry) (e : QueueEntry), s.da.queue = front ++ e :: back →
        (∀ x ∈ front, s.eligible x.owner = false) → s.eligible e.owner = true →
        (s.da.capacity : Int) - s.da.params.reserve < s.bookingSum + e.booking → arbitrate s = s)
    ∧ (let t := arbitrate s
       t.da.capacity = s.da.capacity ∧ t.da.params = s.da.params
       ∧ (t.bookingSum ≤ s.bookingSum ∨ (t.bookingSum : Int) ≤ (s.da.capacity : Int) - s.da.params.reserve))

/-- R16, R58, R66, R67, R87, R109, R120: a spacing expiry grants the first eligible entry when it fits: the entry moves to the
end of the table, its owner into its granted state, a drive's feed-forward into the integrator, the GRANT report is posted, and
the spacing timer starts. (A DUE rake whose grace is spent is left out: the space notice forces it.) -/
def Obligations.SpacingExpiryGrants : Prop :=
  ∀ (s : State) (front back : List QueueEntry) (e : QueueEntry), s.powered = true → s.da.spacingTimer.isSome = true →
    s.da.queue = front ++ e :: back → (∀ x ∈ front, s.eligible x.owner = false) → s.eligible e.owner = true →
    (s.bookingSum + e.booking : Int) ≤ (s.da.capacity : Int) - s.da.params.reserve → s.tableHas e.owner = false →
    s.da.params.spacing ≠ 0 → ¬(s.rk.state = .due ∧ s.rk.graceSpent = true ∧ e.owner ≠ .rake) →
    let lead0 := fun i : Fin 4 => (s.slot i).profile.lead = 0
    ∃ t : State, exec .spacingTimerExpiry s = .next t
      ∧ t.da.table = s.da.table ++ [{
          owner := e.owner, booking := e.booking, grantTime := s.cu.e
          phase := match e.owner with
            | .drive i => if (s.slot i).profile.lead = 0 then .active else .lead
            | .feeder _ | .rake => .active }]
      ∧ t.da.spacingTimer = some (s.da.params.spacing * 1000) ∧ t.queueHas e.owner = false
      ∧ t.bookingSum = s.bookingSum + e.booking
      ∧ s.reportsSince t (.grant e.owner e.booking e.cls e.origin s.cu.e (s.bookingSum + e.booking) s.da.capacity
          (s.da.table.length + 1))
      ∧ (∀ i : Fin 4, e.owner = .drive i →
          t.slot i = { s.slot i with
            state := if (s.slot i).profile.lead = 0 then .clutching else .lead
            remaining := 0, strokes := 0, releaseFlag := false, rakeHalt := false
            cycleTimer :=
              if (s.slot i).profile.cycle = 0 then (s.slot i).cycleTimer else some ((s.slot i).profile.cycle * 1000)
            leadTimer := if lead0 i then none else some (s.slot i).profile.lead
            spinUpTimer := if lead0 i then some (s.slot i).profile.spinUp else (s.slot i).spinUpTimer }
          ∧ (let amount := e.booking * 10000000 / s.gc.params.pFull
             t.gc = { s.gc with
               integrator := clampInt (1000 * min s.gc.params.gMin s.gc.gLim) (1000 * s.gc.gLim) (s.gc.integrator + amount)
               feedForward := s.gc.feedForward ++ [(i, amount)] }))
      ∧ (∀ i : Fin 12, e.owner = .feeder i → t.feeder i = { (s.feeder i).enter .on with state := .on, capCounter := 0 }
          ∧ t.gc = s.gc)
      ∧ (e.owner = .rake → t.rk = { s.rk with
          state := .running, entryHeld := false, runTimer := some (s.rk.params.runTime * 1000) } ∧ t.gc = s.gc)

/-- R74, R75, R76, R130: a shortfall expiry with no candidate restarts the timer alone; otherwise the most recently granted
candidate goes: a drive to COASTING with cause SHORTFALL, a feeder to SHED with its shed count raised; and while the spacing
timer keeps new grants back the rest of the table stands and the timer runs again exactly while A > C. -/
def Obligations.ShortfallExpiry : Prop :=
  ∀ s : State, s.powered = true → s.da.shortfallTimer.isSome = true → s.Consistent →
    let stage : Owner → Nat := fun o => match o with
      | .drive i => (s.slot i).profile.shedStage
      | .feeder i => (s.feeder i).profile.shedStage
      | .rake => 0
    let candidate : TableEntry → Prop := fun e => 1 ≤ stage e.owner ∧ stage e.owner ≤ 3
    ((∀ e ∈ s.da.table, ¬candidate e) → exec .shortfallTimerExpiry s = .next
      { s with da := { s.da with shortfallTimer := some (s.da.params.grace * 1000) } })
    ∧ (∀ (front back : List TableEntry) (e : TableEntry), s.da.table = front ++ e :: back → candidate e →
        (∀ x ∈ back, ¬candidate x) → ∃ t : State, exec .shortfallTimerExpiry s = .next t
          ∧ (∀ i : Fin 4, e.owner = .drive i → s.TakenOut t i .shortfall)
          ∧ (∀ i : Fin 12, e.owner = .feeder i → s.fu.permit = false → s.Opened t i .shed
              ∧ (t.account i).shedCount = min 65535 ((s.account i).shedCount + 1)
              ∧ s.reportsSince t (.shedFeeder i .on .shortfall (min 65535 ((s.account i).shedCount + 1))))
          ∧ (s.da.spacingTimer.isSome = true → t.da.table = front ++ back
              ∧ t.da.shortfallTimer =
                (if s.da.capacity < t.bookingSum then some (s.da.params.grace * 1000) else none)))

/-- R68, R71: the wait timer's expiry and CANCEL remove an owner's entry with their causes; CANCEL of the rake is refused with
STATE, of an owner without an entry with NOT_FOUND, and of a byte that names no owner with BAD_ARG. -/
def Obligations.WaitExpiryAndCancel : Prop :=
  ∀ (tag : Byte) (s : State), (s.da.queue.map QueueEntry.owner).Nodup →
    (∀ e ∈ s.da.queue, e.owner ≠ .rake → s.powered = true → e.waitTimer.isSome = true →
      ∃ t : State, exec (.waitTimerExpiry e.owner) s = .next t ∧ s.Withdrawn t e .wait)
    ∧ (∀ o : Owner, (∀ e ∈ s.da.queue, e.owner = o → e.waitTimer = none) → exec (.waitTimerExpiry o) s = .next s)
    ∧ (s.LinkReady →
      (∀ e ∈ s.da.queue, e.owner ≠ .rake → ∃ t : State,
        exec (.cancel tag [BitVec.ofNat 8 (ownerByte e.owner)]) s = .next t ∧ s.Withdrawn t e .cancel
          ∧ t.Replied .cancel tag .ok [])
      ∧ (∀ o : Owner, o ≠ .rake → s.queueHas o = false →
        exec (.cancel tag [BitVec.ofNat 8 (ownerByte o)]) s = .next (s.replyTo .cancel tag .notFound []))
      ∧ exec (.cancel tag [0x20]) s = .next (s.replyTo .cancel tag .state [])
      ∧ (∀ b : Byte, (∀ o : Owner, b.toNat ≠ ownerByte o) →
        exec (.cancel tag [b]) s = .next (s.replyTo .cancel tag .badArg [])))

/-! ### Line-shaft drives (chapter 5) -/

/-- R84, R91, R94: SET_DRIVE in IDLE and FAULT: nine values clamped and in force, the profile present; in every other slot state
refused with BUSY, and nothing changed, whatever that reply carries (log 21); CUT and HALT, by the slot's state. That CUT's bad
flag is answered before the slot's state is tested, and what that reply carries, are the model's choices (logs 34 and 21). -/
def Obligations.SetDriveCutAndHalt : Prop :=
  ∀ (tag : Byte) (i : Fin 4) (s : State), s.LinkReady →
    (∀ fields : List Byte, fields.length = 16 →
      let sent := decodeFields DriveProfile.fields fields
      let v := clampFields DriveProfile.fields sent
      let n : Byte := BitVec.ofNat 8 i.val
      (((s.slot i).state = .idle ∨ (s.slot i).state = .fault) →
        exec (.setDrive tag (n :: fields)) s = .next
          ((s.onSlot i fun d => { d with profile := .ofList v, present := true }).replyTo .setDrive tag
            (if sent = v then .ok else .clamped) (n :: encodeFields DriveProfile.fields v)))
      ∧ ((s.slot i).state ≠ .idle → (s.slot i).state ≠ .fault →
        ∃ content : List Byte, exec (.setDrive tag (n :: fields)) s = .next (s.replyTo .setDrive tag .busy content))
      ∧ (∀ b : Byte, 3 < b.toNat → exec (.setDrive tag (b :: fields)) s = .next (s.replyTo .setDrive tag .badArg [])))
    ∧ (∀ n : Byte,
      let d := s.slot i
      let b : Byte := BitVec.ofNat 8 i.val
      let values : State → List Byte := fun s =>
        u8 i.val ++ u8 (s.slot i).state.code ++ u8 (s.slot i).remaining ++ u16 (s.slot i).strokes ++ u8 d.remaining
      (∀ flag : Byte, (flag = 0 ∨ flag = 1) →
        (d.state = .ready →
          let t := s.onSlot i fun d => { d with
            state := if s.ds.feedHold then .held else .cutting
            remaining := n.toNat, releaseFlag := decide (flag = 1), strokes := 0
            strokeTimer := some (d.profile.strokeTimeout * 1000) }
          exec (.cut tag [b, n, flag]) s = .next
            ((post (.drive i (t.slot i).state .ready .cut n.toNat 0) t).replyTo .cut tag .ok
              (u8 i.val ++ u8 (t.slot i).state.code ++ u8 n.toNat ++ u16 0 ++ u8 0)))
        ∧ ((d.state = .cutting ∨ d.state = .held) → d.rakeHalt = false →
          let t := s.onSlot i fun d => { d with remaining := n.toNat, releaseFlag := decide (flag = 1) }
          exec (.cut tag [b, n, flag]) s = .next (t.replyTo .cut tag .ok (values t)))
        ∧ ((d.state = .cutting ∨ d.state = .held) → d.rakeHalt = true →
          exec (.cut tag [b, n, flag]) s = .next (s.replyTo .cut tag .mode (values s)))
        ∧ ((d.state = .lead ∨ d.state = .clutching) →
          exec (.cut tag [b, n, flag]) s = .next (s.replyTo .cut tag .notReady (values s)))
        ∧ ((d.state = .idle ∨ d.state = .queued ∨ d.state = .coasting ∨ d.state = .fault) →
          exec (.cut tag [b, n, flag]) s = .next (s.replyTo .cut tag .state (values s))))
      ∧ (∀ flag : Byte, 1 < flag.toNat → exec (.cut tag [b, n, flag]) s = .next (s.replyTo .cut tag .badArg (values s)))
      ∧ ((d.state = .cutting ∨ d.state = .held) →
        let t := s.onSlot i fun d => { d with remaining := 1 }
        exec (.halt tag [b]) s = .next (t.replyTo .halt tag .ok (values t)))
      ∧ (d.state = .ready → exec (.halt tag [b]) s = .next (s.replyTo .halt tag .ok (values s)))
      ∧ (d.state ≠ .cutting → d.state ≠ .held → d.state ≠ .ready →
        exec (.halt tag [b]) s = .next (s.replyTo .halt tag .state (values s)))
      ∧ (∀ x : Byte, 3 < x.toNat → exec (.halt tag [x]) s = .next (s.replyTo .halt tag .badArg [])))

/-- R85: ENGAGE, its tests in their order; when they pass, the slot is queued at once, and while the spacing timer runs the
request alone has been made. -/
def Obligations.EngageCommand : Prop :=
  ∀ (tag : Byte) (i : Fin 4) (s : State), s.LinkReady → s.Consistent → queueOrdered s.da.queue →
    let c : Instr := .engage tag [BitVec.ofNat 8 i.val]
    let values : State → List Byte := fun s =>
      u8 i.val ++ u8 (s.slot i).state.code ++ u8 (s.slot i).remaining ++ u16 (s.slot i).strokes
    let p := (s.slot i).profile
    (s.ss.station ≠ .live → exec c s = .next (s.replyTo .engage tag .state (values s)))
    ∧ (s.ss.station = .live → s.ss.standing = true → exec c s = .next (s.replyTo .engage tag .mode (values s)))
    ∧ (s.ss.station = .live → s.ss.standing = false →
      ((s.slot i).state ≠ .idle → exec c s = .next (s.replyTo .engage tag .state (values s)))
      ∧ ((s.slot i).state = .idle →
        ((s.slot i).present = false → exec c s = .next (s.replyTo .engage tag .badArg (values s)))
        ∧ ((s.slot i).present = true →
          (8 ≤ s.da.queue.length → exec c s = .next (s.replyTo .engage tag .full (values s)))
          ∧ (s.da.queue.length < 8 → ∃ t : State, exec c s = .next t ∧ t.Replied .engage tag .queued (values t)
            ∧ t.still = { s with sl := t.sl }.still
            ∧ (s.da.spacingTimer.isSome = true → s.Enqueued t (.drive i) p.cls p.booking p.waitLimit .host
              ∧ t = { s.onSlot i (fun d => { d with state := .queued }) with da := t.da, sl := t.sl })))))

/-- R86, R98, R103: RELEASE of an engaged slot, of a queued one, and its refusals; CLEAR_DRIVE in FAULT and its refusals. That
the reports of both, and the reply of CLEAR_DRIVE, show the counts as cleared is the model's choice (log 14). -/
def Obligations.ReleaseAndClearDrive : Prop :=
  ∀ (tag : Byte) (i : Fin 4) (s : State), s.LinkReady → s.Consistent →
    let d := s.slot i
    let b : Byte := BitVec.ofNat 8 i.val
    let values : State → List Byte := fun s =>
      u8 i.val ++ u8 (s.slot i).state.code ++ u8 (s.slot i).remaining ++ u16 (s.slot i).strokes
    (d.state.engaged = true → ∃ t : State, exec (.release tag [b]) s = .next t ∧ s.TakenOut t i .host
      ∧ t.Replied .release tag .ok (values t) ∧ t.still = { s with sl := t.sl }.still
      ∧ ((d.state = .cutting ∨ d.state = .held) → s.reportsSince t (.stroke i .aborted d.strokes d.remaining))
      ∧ (s.da.spacingTimer.isSome = true → t.da.table = s.da.table.filter (fun e => decide (e.owner ≠ .drive i))
          ∧ ∀ amount : Nat, (i, amount) ∈ s.gc.feedForward →
            t.gc = { s.gc with
              feedForward := s.gc.feedForward.filter fun r => decide (r.1 ≠ i)
              integrator :=
                clampInt (1000 * min s.gc.params.gMin s.gc.gLim) (1000 * s.gc.gLim) (s.gc.integrator - amount) }))
    ∧ (∀ e ∈ s.da.queue, e.owner = .drive i → d.state = .queued → ∃ t : State, exec (.release tag [b]) s = .next t
      ∧ s.Withdrawn t e .cancel ∧ t.Replied .release tag .ok (values t))
    ∧ ((d.state = .idle ∨ d.state = .coasting ∨ d.state = .fault) →
      exec (.release tag [b]) s = .next (s.replyTo .release tag .state (values s)))
    ∧ (d.state = .fault →
      let t := s.onSlot i fun d => { d with
        state := .coasting, remaining := 0, releaseFlag := false, strokes := 0, coastTimer := some d.profile.coast }
      exec (.clearDrive tag [b]) s = .next
        ((post (.drive i .coasting .fault .clear 0 0) t).replyTo .clearDrive tag .ok (values t)))
    ∧ (d.state ≠ .fault → exec (.clearDrive tag [b]) s = .next (s.replyTo .clearDrive tag .state (values s)))

/-- R64, R67, R88, R89, R90, R102, R121: the lead, spin-up and coast timers expire in their own states, and in another state, or
while they are stopped, nothing happens; the expiry of a cycle timer or of a minimum-off timer stops it and arbitrates: with the
spacing timer running, or an empty queue, nothing else changes. A spacing expiry with nothing to grant stops its timer alone. -/
def Obligations.OwnerTimers : Prop :=
  ∀ s : State, s.powered = true →
    (∀ i : Fin 4,
      let d := s.slot i
      (d.state = .lead → d.leadTimer.isSome = true → exec (.leadTimerExpiry i) s = .next
        { s.onSlot i (fun d => { d with state := .clutching, leadTimer := none, spinUpTimer := some d.profile.spinUp }) with
          da := { s.da with table := s.da.table.map fun e =>
            if e.owner = .drive i then { e with phase := .active } else e } })
      ∧ (d.state = .clutching → d.spinUpTimer.isSome = true → exec (.spinUpTimerExpiry i) s = .next
        (post (.drive i .ready .clutching .spunUp d.remaining d.strokes)
          (s.onSlot i fun d => { d with state := .ready, spinUpTimer := none })))
      ∧ (d.state = .coasting → d.coastTimer.isSome = true → exec (.coastTimerExpiry i) s = .next
        (post (.drive i .idle .coasting .coasted d.remaining d.strokes)
          (s.onSlot i fun d => { d with state := .idle, coastTimer := none })))
      ∧ ((d.state ≠ .lead ∨ d.leadTimer = none) → exec (.leadTimerExpiry i) s = .next s)
      ∧ ((d.state ≠ .clutching ∨ d.spinUpTimer = none) → exec (.spinUpTimerExpiry i) s = .next s)
      ∧ ((d.state ≠ .coasting ∨ d.coastTimer = none) → exec (.coastTimerExpiry i) s = .next s))
    ∧ (∀ i : Fin 4, (s.slot i).cycleTimer.isSome = true → ∃ t : State, exec (.cycleTimerExpiry i) s = .next t
      ∧ t.still = s.still
      ∧ ((s.da.spacingTimer.isSome = true ∨ s.da.queue = []) → t = s.onSlot i fun d => { d with cycleTimer := none }))
    ∧ (∀ i : Fin 12, (s.feeder i).minOffTimer.isSome = true → ∃ t : State, exec (.minimumOffTimerExpiry i) s = .next t
      ∧ t.still = s.still
      ∧ ((s.da.spacingTimer.isSome = true ∨ s.da.queue = []) → t = s.onFeeder i fun d => { d with minOffTimer := none }))
    ∧ (s.da.spacingTimer.isSome = true → (∀ e ∈ s.da.queue, s.eligible e.owner = false) →
      exec .spacingTimerExpiry s = .next { s with da := { s.da with spacingTimer := none } })
    ∧ (s.da.spacingTimer = none → exec .spacingTimerExpiry s = .next s)

/-- R92, R93, R95: a stroke-end in CUTTING or HELD counts a stroke; it restarts the stroke timer, or with the last stroke ends
the cut, to READY or, with the release flag, to COASTING with the table entry gone; in every other state it is ignored. The
stroke timer's expiry in CUTTING: FAULT, the counts kept, the table entry gone, DRIVE JAM; in another state nothing. -/
def Obligations.Strokes : Prop :=
  ∀ (i : Fin 4) (s : State), s.powered = true →
    let d := s.slot i
    let strokes := min 65535 (d.strokes + 1)
    (d.state ≠ .cutting → d.state ≠ .held → exec (.strokeEnd i) s = .next s)
    ∧ ((d.state = .cutting ∨ d.state = .held) →
      (d.remaining ≠ 1 → exec (.strokeEnd i) s = .next
        (post (.stroke i .completed strokes (d.remaining - 1)) (s.onSlot i fun d => { d with
          strokes := strokes, remaining := d.remaining - 1, strokeTimer := some (d.profile.strokeTimeout * 1000) })))
      ∧ (d.remaining = 1 → d.releaseFlag = false → exec (.strokeEnd i) s = .next
        (post (.drive i .ready d.state .cutDone 0 strokes) (post (.stroke i .completed strokes 0) (s.onSlot i fun d => { d with
          state := .ready, strokes := strokes, remaining := 0, strokeTimer := none, rakeHalt := false
          releaseFlag := false }))))
      ∧ (d.remaining = 1 → d.releaseFlag = true → s.Consistent → ∃ t : State, exec (.strokeEnd i) s = .next t
        ∧ t.slot i = { d with
            state := .coasting, strokes := strokes, remaining := 0, releaseFlag := false, rakeHalt := false
            leadTimer := none, spinUpTimer := none, strokeTimer := none, coastTimer := some d.profile.coast }
        ∧ t.tableHas (.drive i) = false ∧ t.still = s.still
        ∧ s.reportsSince t (.stroke i .completed strokes 0)
        ∧ s.reportsSince t (.drive i .coasting d.state (if d.rakeHalt then .rake else .done) 0 strokes)))
    ∧ (d.state = .cutting → d.strokeTimer.isSome = true → s.Consistent → ∃ t : State, exec (.strokeTimerExpiry i) s = .next t
      ∧ t.slot i = { d with state := .fault, strokeTimer := none } ∧ t.tableHas (.drive i) = false ∧ t.still = s.still
      ∧ s.reportsSince t (.drive i .fault .cutting .jam d.remaining d.strokes))
    ∧ ((d.state ≠ .cutting ∨ d.strokeTimer = none) → exec (.strokeTimerExpiry i) s = .next s)

/-! ### The trash rake (chapter 6) -/

/-- R106, R107, R112: a due trigger acts in IDLE alone: the due timer stops, the grace timer starts, the rake is DUE and the
RAKE report posted; outside LIVE nothing else changes, and in LIVE the rake's request of class 3 is made. The due timer's expiry
and RAKE_NOW are both due triggers; RAKE_NOW's reply carries the rake's values as they then stand, in a layout
read from R112 and R196 (log 21). -/
def Obligations.RakeDue : Prop :=
  ∀ (tag : Byte) (s : State), s.powered = true →
    let k := s.rk
    let due : RakeUnit :=
      { k with state := .due, dueTimer := none, graceTimer := some (k.params.grace * 60000), graceSpent := false }
    let secs : Timer → List Byte := fun t => u16 ((t.getD 0 + 999) / 1000)
    let flag : Bool → Byte := fun b => if b then 1 else 0
    let values : RakeUnit → List Byte := fun k =>
      u8 k.state.code ++ u16 k.count ++ [flag k.entryHeld] ++ [flag k.graceSpent] ++ secs k.dueTimer ++ secs k.graceTimer
        ++ secs k.runTimer
    let asked : RakeCause → State → Prop := fun cause t =>
      t.still = { s with sl := t.sl }.still ∧ t.rk.state ≠ .idle ∧ s.reportsSince t (.rake .due .idle cause k.count false)
      ∧ (s.ss.station = .live → s.Consistent → queueOrdered s.da.queue → s.da.spacingTimer.isSome = true →
          s.da.queue.length < 8 → s.Enqueued t .rake 3 k.params.booking 0 .host ∧ t.rk = { due with entryHeld := true })
    (k.dueTimer = none → exec .dueTimerExpiry s = .next s)
    ∧ (k.dueTimer.isSome = true → k.state ≠ .idle →
      exec .dueTimerExpiry s = .next { s with rk := { k with dueTimer := none } })
    ∧ (k.dueTimer.isSome = true → k.state = .idle → ∃ t : State, exec .dueTimerExpiry s = .next t ∧ asked .interval t
      ∧ (s.ss.station ≠ .live → t = post (.rake .due .idle .interval k.count false) { s with rk := due }))
    ∧ (s.LinkReady →
      (k.state ≠ .idle → exec (.rakeNow tag []) s = .next (s.replyTo .rakeNow tag .ok (values k)))
      ∧ (k.state = .idle → ∃ t : State, exec (.rakeNow tag []) s = .next t ∧ asked .host t
        ∧ t.Replied .rakeNow tag .ok (values t.rk)
        ∧ (s.ss.station ≠ .live → t = (post (.rake .due .idle .host k.count false) { s with rk := due }).replyTo
            .rakeNow tag .ok (values due))))

/-- R70, R101, R108, R110: the grace timer's expiry in DUE forces the rake: FORCED with its report, its entry at the head in
class 0, a slot in CUTTING left one stroke and its release, and every other engaged slot taken out, while the spacing timer
keeps grants back; outside DUE it sets the grace-spent mark alone. The run timer's expiry in RUNNING ends the run: IDLE, the
count raised, the due timer started, the entry released, the report posted. -/
def Obligations.RakeGraceAndRun : Prop :=
  ∀ s : State, s.powered = true →
    let k := s.rk
    (k.graceTimer = none → exec .graceTimerExpiry s = .next s)
    ∧ (k.graceTimer.isSome = true → k.state ≠ .due →
      exec .graceTimerExpiry s = .next { s with rk := { k with graceTimer := none, graceSpent := true } })
    ∧ (k.graceTimer.isSome = true → k.state = .due → ∃ t : State, exec .graceTimerExpiry s = .next t
      ∧ t.still = s.still ∧ s.reportsSince t (.rake .forced .due .grace k.count true)
      ∧ (s.Consistent → s.da.spacingTimer.isSome = true →
        t.rk = { k with state := .forced, graceTimer := none, graceSpent := true }
        ∧ t.da.queue = (s.da.queue.filter fun e => decide (e.owner = .rake)).map (fun e => { e with cls := 0 })
            ++ s.da.queue.filter (fun e => decide (e.owner ≠ .rake))
        ∧ ∀ i : Fin 4,
          ((s.slot i).state = .cutting →
            t.slot i = { s.slot i with remaining := 1, releaseFlag := true, rakeHalt := true })
          ∧ ((s.slot i).state.engaged = true → (s.slot i).state ≠ .cutting → s.TakenOut t i .rake)
          ∧ ((s.slot i).state.engaged = false → t.slot i = s.slot i)))
    ∧ ((k.state ≠ .running ∨ k.runTimer = none) → exec .runTimerExpiry s = .next s)
    ∧ (k.state = .running → k.runTimer.isSome = true → s.Consistent → ∃ t : State, exec .runTimerExpiry s = .next t
      ∧ t.still = s.still
      ∧ t.rk = { k with
          state := .idle, runTimer := none, count := min 65535 (k.count + 1), graceTimer := none, graceSpent := false
          dueTimer := some (k.params.interval * 60000) }
      ∧ t.tableHas .rake = false ∧ s.reportsSince t (.rake .idle .running .done (min 65535 (k.count + 1)) false)
      ∧ (s.da.spacingTimer.isSome = true → t.da.table = s.da.table.filter fun e => decide (e.owner ≠ .rake)))

/-! ### Hamlet feeders and load shedding (chapter 7) -/

/-- R117, R118, R119, R124, R125, R126: SET_FEEDER, CONNECT, DISCONNECT, LOCK_FEEDER and UNLOCK_FEEDER, by the feeder's state,
each reply with the feeder and its state as it stands when the reply is built. That SET_FEEDER's reply carries the state of R117
before the eight values of R118 is the model's reading (log 21). -/
def Obligations.FeederCommands : Prop :=
  ∀ (tag : Byte) (i : Fin 12) (s : State), s.LinkReady → s.Consistent →
    let d := s.feeder i
    let n : Byte := BitVec.ofNat 8 (0x10 + i.val)
    let values : State → List Byte := fun s => [n, BitVec.ofNat 8 (s.feeder i).state.code]
    let named : FeederState → State := fun new => s.onFeeder i fun d => { d with state := new }
    (∀ (fields : List Byte) (auto : Bool), fields.length = 11 →
      let sent := decodeFields FeederProfile.fields fields
      let v := clampFields FeederProfile.fields sent
      let byte : Byte := if auto then 1 else 0
      exec (.setFeeder tag (n :: fields ++ [byte])) s = .next
        ((s.onFeeder i fun d => { d with profile := .ofList auto v }).replyTo .setFeeder tag
          (if sent = v then .ok else .clamped) (values s ++ encodeFields FeederProfile.fields v ++ [byte])))
    ∧ (∀ (fields : List Byte) (b : Byte), fields.length = 11 → 1 < b.toNat →
      exec (.setFeeder tag (n :: fields ++ [b])) s = .next (s.replyTo .setFeeder tag .badArg (values s)))
    ∧ (∀ b : Byte, (b.toNat < 0x10 ∨ 0x1B < b.toNat) →
      exec (.connect tag [b]) s = .next (s.replyTo .connect tag .badArg [])
      ∧ exec (.disconnect tag [b]) s = .next (s.replyTo .disconnect tag .badArg [])
      ∧ exec (.lockFeeder tag [b]) s = .next (s.replyTo .lockFeeder tag .badArg [])
      ∧ exec (.unlockFeeder tag [b]) s = .next (s.replyTo .unlockFeeder tag .badArg []))
    ∧ ((d.state = .capped ∨ d.state = .locked) →
      exec (.connect tag [n]) s = .next (s.replyTo .connect tag .locked (values s))
      ∧ exec (.disconnect tag [n]) s = .next (s.replyTo .disconnect tag .locked (values s))
      ∧ exec (.unlockFeeder tag [n]) s = .next ((named .off).replyTo .unlockFeeder tag .ok (values (named .off)))
      ∧ exec (.lockFeeder tag [n]) s = .next ((named .locked).replyTo .lockFeeder tag .ok (values (named .locked))))
    ∧ (d.state ≠ .capped → d.state ≠ .locked →
      exec (.unlockFeeder tag [n]) s = .next (s.replyTo .unlockFeeder tag .state (values s))
      ∧ (d.state = .on → exec (.connect tag [n]) s = .next (s.replyTo .connect tag .ok (values s)))
      ∧ (d.state ≠ .on → s.ss.station ≠ .live →
          exec (.connect tag [n]) s = .next (s.replyTo .connect tag .state (values s)))
      ∧ (s.ss.station = .live →
        (d.state = .queued → exec (.connect tag [n]) s = .next (s.replyTo .connect tag .duplicate (values s)))
        ∧ (d.state = .off ∨ d.state = .shed → 8 ≤ s.da.queue.length →
            exec (.connect tag [n]) s = .next (s.replyTo .connect tag .full (values s)))
        ∧ (d.state = .off ∨ d.state = .shed → s.da.queue.length < 8 → ∃ t : State, exec (.connect tag [n]) s = .next t
            ∧ t.Replied .connect tag .queued (values t) ∧ t.still = { s with sl := t.sl }.still
            ∧ (s.da.spacingTimer.isSome = true → queueOrdered s.da.queue →
              s.Enqueued t (.feeder i) d.profile.cls d.profile.booking d.profile.waitLimit .host
              ∧ t.feeder i = { d with state := .queued }
              ∧ (d.state = .off → t = { named .queued with da := t.da, sl := t.sl })))))
    ∧ (d.state = .on →
      (∃ t : State, exec (.disconnect tag [n]) s = .next t ∧ s.Opened t i .off ∧ t.Replied .disconnect tag .ok (values t)
        ∧ t.still = { s with sl := t.sl }.still)
      ∧ ∃ t : State, exec (.lockFeeder tag [n]) s = .next t ∧ s.Opened t i .locked
        ∧ t.Replied .lockFeeder tag .ok (values t) ∧ t.still = { s with sl := t.sl }.still)
    ∧ (∀ e ∈ s.da.queue, e.owner = .feeder i →
      (∃ t : State, exec (.disconnect tag [n]) s = .next t ∧ s.Withdrawn t e .cancel
        ∧ t.Replied .disconnect tag .ok (values t))
      ∧ ∃ t : State, exec (.lockFeeder tag [n]) s = .next t ∧ t.queueHas (.feeder i) = false
        ∧ t.feeder i = { d with state := .locked } ∧ s.reportsSince t (.expired e.owner e.cls e.origin .cancel)
        ∧ t.Replied .lockFeeder tag .ok (values t) ∧ t.still = { s with sl := t.sl }.still)
    ∧ (d.state = .off →
      exec (.disconnect tag [n]) s = .next (s.replyTo .disconnect tag .ok (values s))
      ∧ exec (.lockFeeder tag [n]) s = .next ((named .locked).replyTo .lockFeeder tag .ok (values (named .locked))))
    ∧ (d.state = .shed →
      (∃ t : State, exec (.disconnect tag [n]) s = .next t ∧ t.feeder i = { d with state := .off }
        ∧ t.Replied .disconnect tag .ok (values t) ∧ t.still = { s with sl := t.sl }.still ∧ t.da = s.da)
      ∧ ∃ t : State, exec (.lockFeeder tag [n]) s = .next t ∧ t.feeder i = { d with state := .locked }
        ∧ t.Replied .lockFeeder tag .ok (values t) ∧ t.still = { s with sl := t.sl }.still ∧ t.da = s.da)

/-- R128, R129: a stage timer's expiry in TIMING fires the stage with the last frequency: FIRED, the restore permit cleared,
STAGE_FIRED reported; every ON feeder it reaches is SHED with its shed count raised and reported, every queued one SHED with its
count as it was, every engaged slot it reaches taken out, every queued one IDLE. In another state of the stage, or with the
timer stopped, nothing happens. (A DUE rake whose grace is spent is left out: the space notice forces it.) -/
def Obligations.StageTimerFires : Prop :=
  ∀ (k : Fin 3) (s : State), s.powered = true →
    let reached : Nat → Prop := fun stage => 1 ≤ stage ∧ stage ≤ k.val + 1
    (((s.stage k).state ≠ .timing ∨ (s.stage k).timer = none) → exec (.stageTimerExpiry k) s = .next s)
    ∧ ((s.stage k).state = .timing → (s.stage k).timer.isSome = true → s.Consistent →
      ¬(s.rk.state = .due ∧ s.rk.graceSpent = true) →
      ∃ t : State, exec (.stageTimerExpiry k) s = .next t ∧ t.still = s.still
        ∧ t.stage k = { state := .fired, timer := none } ∧ t.fu.permit = false
        ∧ s.reportsSince t (.stageFired k s.smu.lastFreq)
        ∧ (∀ i : Fin 12, reached (s.feeder i).profile.shedStage →
            let n := min 65535 ((s.account i).shedCount + 1)
            ((s.feeder i).state = .on → s.Opened t i .shed ∧ (t.account i).shedCount = n
              ∧ s.reportsSince t (.shedFeeder i .on (.stage k) n))
            ∧ ((s.feeder i).state = .queued → t.feeder i = { s.feeder i with state := .shed }
              ∧ t.queueHas (.feeder i) = false ∧ t.account i = s.account i
              ∧ s.reportsSince t (.shedFeeder i .queued (.stage k) (s.account i).shedCount)))
        ∧ (∀ i : Fin 4, reached (s.slot i).profile.shedStage →
            ((s.slot i).state.engaged = true → s.TakenOut t i .shed)
            ∧ ((s.slot i).state = .queued → (t.slot i).state = .idle ∧ t.queueHas (.drive i) = false))
        ∧ (s.da.spacingTimer.isSome = true →
          (∀ i : Fin 12, ¬reached (s.feeder i).profile.shedStage → t.feeder i = s.feeder i)
          ∧ (∀ i : Fin 4, ¬reached (s.slot i).profile.shedStage → t.slot i = s.slot i)))

/-- R131, R132: the restore timer's expiry sets the restore permit; outside LIVE nothing else changes, and in LIVE, where the
queue has room for them all and the spacing timer keeps grants back, every SHED feeder is offered: QUEUED, with an entry of
origin RESTORE and no wait limit, and a RESTORE report. -/
def Obligations.RestoreTimerOffers : Prop :=
  ∀ s : State, s.powered = true →
    (s.fu.restoreTimer = none → exec .restoreTimerExpiry s = .next s)
    ∧ (s.fu.restoreTimer.isSome = true →
      (s.ss.station ≠ .live ∨ (∀ i : Fin 12, (s.feeder i).state ≠ .shed) → exec .restoreTimerExpiry s = .next
        { s with fu := { s.fu with permit := true, restoreTimer := none } })
      ∧ (s.ss.station = .live → ∃ t : State, exec .restoreTimerExpiry s = .next t ∧ t.still = s.still
        ∧ t.fu.restoreTimer = none
        ∧ (s.Consistent → s.ProfilesInRange → s.da.spacingTimer.isSome = true →
          s.da.queue.length + (allFeeders.filter fun i => decide ((s.feeder i).state = .shed)).length ≤ 8 →
          ∀ i : Fin 12,
            ((s.feeder i).state = .shed → t.feeder i = { s.feeder i with state := .queued }
              ∧ (∃ e ∈ t.da.queue, e.owner = .feeder i ∧ e.cls = (s.feeder i).profile.cls
                  ∧ e.booking = (s.feeder i).profile.booking ∧ e.waitTimer = none ∧ e.origin = .restore)
              ∧ s.reportsSince t (.restore i (s.feeder i).profile.cls (s.feeder i).profile.booking))
            ∧ ((s.feeder i).state ≠ .shed → t.feeder i = s.feeder i))))

/-! ### Calendar, trim and time error; metering (chapters 8 and 9) -/

/-- R138: a trim of t, from -511 to +511, changes the count of a window of 1,048,576 raw pulses by exactly t pulses; every raw
pulse adds its weight, 0, 1 or 2, to the sub-second count and moves the window position on by one. -/
def Obligations.TrimChangesTheCountByT : Prop :=
  (∀ t : Int, -511 ≤ t → t ≤ 511 →
    (((List.range 1048576).map fun pos => (pulseWeight t pos : Int)).sum = 1048576 + t)
    ∧ ∀ pos : Nat, (pulseWeight t pos = 1 ∨ pulseWeight t pos = if 0 < t then 2 else 0)
      ∧ (pulseWeight t pos ≠ 1 ↔ t ≠ 0 ∧ ∃ k : Nat, k < t.natAbs ∧ pos = k * 1048576 / t.natAbs))
  ∧ ∀ u : CalendarUnit, u.subSecond < 32768 → u.windowPos < 1048576 →
    rawPulse u =
      { u with subSecond := u.subSecond + pulseWeight u.trim u.windowPos, windowPos := u.windowPos + 1 }

/-- R140, R143, R146, R147: a calendar second, powered or not: the calendar moves on by one second of the date it shows, after a
pending hour shift, and keeps its weekday right; E rises by one, or with a zero request E and N become 0; TE_RANGE is set where
the time error passes the limit; without the main domain's supply nothing else changes, and with it the second reaches the
accounts, the feeders and, at a whole hour, the store alone. That the pulse counts go on from what is due is the model's choice
(log 9). -/
def Obligations.CalendarSecond : Prop :=
  ∀ (products : Vector (BitVec 24) 12) (s : State), ∃ t : State, exec (.calendarSecond products) s = .next t
    ∧ t.cu.e = (if s.cu.zeroRequest then 0 else s.cu.e + 1) ∧ t.cu.n = (if s.cu.zeroRequest then 0 else s.cu.n)
    ∧ t.cu =
      { s.cu with
        calendar := t.cu.calendar, subSecond := s.cu.subSecond - 32768, e := t.cu.e, n := t.cu.n, pendingShift := none
        zeroRequest := false, correction := t.cu.correction, teRange := t.cu.teRange, shedCopy := t.cu.shedCopy }
    ∧ t.cu.teRange =
      (!s.cu.zeroRequest && (s.cu.teRange || decide (s.cu.params.limit < (20 * t.cu.teCycles).natAbs)))
    ∧ (s.cu.zeroRequest = true → t.cu.correction = .inactive)
    ∧ (s.powered = false → t = { s with cu := t.cu })
    ∧ (s.powered = true → t.still = { s with cu := t.cu, mu := t.mu, store := t.store, sl := t.sl }.still
      ∧ (t.cu.calendar.minute ≠ 0 ∨ t.cu.calendar.second ≠ 0 → t.store = s.store))
    ∧ (let c : Calendar := { s.cu.calendar with
         hour := match s.cu.pendingShift with
           | none => s.cu.calendar.hour
           | some true => s.cu.calendar.hour + 1
           | some false => s.cu.calendar.hour - 1 }
       let d := t.cu.calendar
       validClock c.year c.month c.day c.hour c.minute c.second = true → c.weekday = weekdayOf c.year c.month c.day →
         validClock d.year d.month d.day d.hour d.minute d.second = true ∧ d.weekday = weekdayOf d.year d.month d.day
         ∧ d.seconds = if c.seconds = 3155759999 then 0 else c.seconds + 1)

/-- R134, R153, R154, R155, R157, R158: the account of every feeder at a calendar second with the main domain powered: the power
floor(Q K / 65,536), 0 below 0, of an ON feeder; the residue, the Wh register of the tariff index of the minute, the seconds and
the day maximum; and the check against the cap. -/
def Obligations.MeteringSecond : Prop :=
  ∀ (products : Vector (BitVec 24) 12) (s : State), s.powered = true →
    ∃ t : State, exec (.calendarSecond products) s = .next t ∧ t.mu.bands = s.mu.bands
      ∧ (let m := t.cu.calendar.hour * 60 + t.cu.calendar.minute
         (s.mu.bands = [] → t.mu.index = 0)
         ∧ (∀ (front back : List Band) (b : Band), s.mu.bands = front ++ b :: back → b.start ≤ m →
             (∀ x ∈ back, m < x.start) → t.mu.index = b.index)
         ∧ (∀ (front : List Band) (b : Band), s.mu.bands = front ++ [b] → (∀ x ∈ s.mu.bands, m < x.start) →
             t.mu.index = b.index))
      ∧ ∀ i : Fin 12,
        let d := s.feeder i
        let a := s.account i
        let product : Int := products[i].toInt * s.store.commissioning.factors[i]
        let midnight := t.cu.calendar.hour = 0 ∧ t.cu.calendar.minute = 0 ∧ t.cu.calendar.second = 0
        let p := (t.account i).power
        (d.state ≠ .on → p = 0 ∧ (t.account i).residue = a.residue ∧ (t.account i).wh = a.wh
          ∧ (t.account i).onSeconds = a.onSeconds ∧ (¬midnight → (t.account i).dayMax = a.dayMax)
          ∧ (t.account i).capTrips = a.capTrips)
        ∧ (d.state = .on →
          (product < 65536 → p = 0) ∧ (0 ≤ product → (p : Int) * 65536 ≤ product ∧ product < (p + 1) * 65536)
          ∧ (t.account i).residue = (a.residue + p) % 3600
          ∧ (∀ j : Fin 4, (t.account i).wh[j] =
              if j = t.mu.index then min 4294967295 (a.wh[j] + (a.residue + p) / 3600) else a.wh[j])
          ∧ (t.account i).onSeconds = min 4294967295 (a.onSeconds + 1)
          ∧ (¬midnight → (t.account i).dayMax = max a.dayMax p)
          ∧ (p ≤ d.profile.cap → s.Consistent → t.feeder i = { d with capCounter := 0 } ∧ (t.account i).capTrips = a.capTrips)
          ∧ (d.profile.cap < p → min 60 (d.capCounter + 1) < d.profile.capTime → s.Consistent →
              t.feeder i = { d with capCounter := min 60 (d.capCounter + 1) } ∧ (t.account i).capTrips = a.capTrips)
          ∧ (d.profile.cap < p → d.profile.capTime ≤ min 60 (d.capCounter + 1) → s.Consistent →
              s.Opened t i .capped ∧ (t.account i).capTrips = min 65535 (a.capTrips + 1)
              ∧ s.reportsSince t (.cap i p d.profile.cap d.profile.capTime (min 65535 (a.capTrips + 1)))))
        ∧ (midnight → (t.account i).dayMax = 0) ∧ (t.account i).shedCount = a.shedCount

/-- R138, R139, R142, R143, R145, R146, R147, R148: SET_CLOCK, SHIFT_HOUR, ZERO_TIME_ERROR and SET_TRIM with their refusals; the
start of a trim window; and a generator crossing, which counts in N while the field contactor is closed and evaluates the time
error and the correction. Model's choices: the fields of the pulses held back, of which SET_CLOCK moves `heldPulses` into
`windowPulses` and leaves 0 (log 9); the window position, which TRIM_WINDOW_START sets to 0 (log 9); the content of SET_TRIM's
BUSY reply, the trim, the pending trim and the time to the next window (log 21). -/
def Obligations.ClockCommands : Prop :=
  ∀ (tag : Byte) (s : State),
    (s.LinkReady →
      (∀ (year : Nat) (month day hour minute second : Byte), year < 65536 →
        let body := u16 year ++ [month, day, hour, minute, second]
        let length := if month.toNat = 2 then (if year % 4 = 0 then 29 else 28)
          else if month.toNat = 4 ∨ month.toNat = 6 ∨ month.toNat = 9 ∨ month.toNat = 11 then 30 else 31
        exec (.setClock tag body) s = .next
          (if 2000 ≤ year ∧ year ≤ 2099 ∧ 1 ≤ month.toNat ∧ month.toNat ≤ 12 ∧ 1 ≤ day.toNat ∧ day.toNat ≤ length
              ∧ hour.toNat ≤ 23 ∧ minute.toNat ≤ 59 ∧ second.toNat ≤ 59 then
            { s with cu := { s.cu with
              calendar :=
                { year := year, month := month.toNat, day := day.toNat, weekday := weekdayOf year month.toNat day.toNat
                  hour := hour.toNat, minute := minute.toNat, second := second.toNat }
              subSecond := 0, heldPulses := 0, windowPulses := s.cu.windowPulses + s.cu.heldPulses, pendingShift := none
              clockCold := false } }.replyTo .setClock tag .ok []
          else s.replyTo .setClock tag .badArg []))
      ∧ (∀ b : Byte,
        (b ≠ 0x01 → b ≠ 0xFF → exec (.shiftHour tag [b]) s = .next (s.replyTo .shiftHour tag .badArg []))
        ∧ (b = 0x01 ∨ b = 0xFF → exec (.shiftHour tag [b]) s = .next
          (if s.cu.pendingShift.isSome = true then s.replyTo .shiftHour tag .busy []
           else if s.cu.calendar.hour = (if b = 0x01 then 23 else 0) then s.replyTo .shiftHour tag .state []
           else { s with cu := { s.cu with pendingShift := some (decide (b = 0x01)) } }.replyTo .shiftHour tag .ok [])))
      ∧ exec (.zeroTimeError tag []) s = .next
          ({ s with cu := { s.cu with zeroRequest := true } }.replyTo .zeroTimeError tag .ok [])
      ∧ (∀ lo hi : Byte,
        let sent : Int := (hi ++ lo).toInt
        let taken : Int := max (-511) (min 511 sent)
        exec (.setTrim tag [lo, hi]) s = .next
          (if s.cu.pendingTrim.isSome = true then s.replyTo .setTrim tag .busy
             (i16 s.cu.trim ++ i16 (s.cu.pendingTrim.getD 0) ++ u8 ((1048576 - s.cu.windowPos + 32767) / 32768))
           else { s with cu := { s.cu with pendingTrim := some taken } }.replyTo .setTrim tag
             (if sent = taken then .ok else .clamped)
             (i16 s.cu.trim ++ i16 taken ++ u8 ((1048576 - s.cu.windowPos + 32767) / 32768)))))
    ∧ exec .trimWindowStart s = .next { s with cu := { s.cu with
        trim := s.cu.pendingTrim.getD s.cu.trim, pendingTrim := none, windowPos := 0 } }
    ∧ ((s.powered = false ∨ s.ss.fieldClosed = false) → exec .generatorCrossing s = .next s)
    ∧ (s.powered = true → s.ss.fieldClosed = true → ∃ t : State, exec .generatorCrossing s = .next t
      ∧ t = { s with cu := t.cu, sl := t.sl }
      ∧ (let te : Int := 20 * (s.cu.n + 1 - 50 * s.cu.e).toInt
         let range := s.cu.teRange || decide (s.cu.params.limit < te.natAbs)
         let permitted := s.cu.liveCopy && !s.cu.shedCopy && !range
         let kept : Bool := match s.cu.correction with
           | .inactive => false
           | .slow => decide (0 < te) && permitted
           | .fast => decide (te < 0) && permitted
         let starts : Bool := decide (s.cu.correction = .inactive) && permitted && decide (s.cu.params.deadband < te.natAbs)
         let offset : Int := if 0 < te then -(s.cu.params.off : Int) else s.cu.params.off
         t.cu = { s.cu with
           n := s.cu.n + 1, teRange := range
           correction := if kept then s.cu.correction else if starts then (if 0 < te then .slow else .fast) else .inactive }
         ∧ (starts = true → s.reportsSince t (.correctionStart (if 0 < te then .slow else .fast)
             (clampInt (-2147483648) 2147483647 te) offset))
         ∧ (s.cu.correction = .slow → te ≤ 0 → s.reportsSince t (.correctionEnd .slow .zero
             (clampInt (-2147483648) 2147483647 te) 0))
         ∧ (s.cu.correction = .fast → 0 ≤ te → s.reportsSince t (.correctionEnd .fast .zero
             (clampInt (-2147483648) 2147483647 te) 0))))

/-! ### The Account Store and the journal (chapter 10) -/

/-- R159, R170, R171, R173, R200: UNPROTECT, WRITE_COMMISSION (which leaves the block's lock and unused bytes alone), STORE_CONFIG
and SET_TARIFF, with their refusals in order; a taken STORE_CONFIG or SET_TARIFF makes its job and the erase of its sector, which an idle store starts at once with 400 ms to run. -/
def Obligations.StoreCommands : Prop :=
  ∀ (tag : Byte) (s : State), s.LinkReady → (s.store.state = .ready → s.store.erase = none) →
    let idle := s.store.state = .ready ∧ s.store.checkpoint = none ∧ s.store.configJob = none ∧ s.store.tariffJob = none
      ∧ s.store.waitingErases = [] ∧ s.store.readRequest = none
    exec (.unprotect tag []) s = .next ({ s with store := { s.store with protect := false } }.replyTo .unprotect tag .ok [])
    ∧ (∀ body : List Byte, body.length = 40 →
      (s.store.commissioning.locked = true →
        exec (.writeCommission tag body) s = .next (s.replyTo .writeCommission tag .locked []))
      ∧ (s.store.commissioning.locked = false → ∃ block : Commissioning,
          exec (.writeCommission tag body) s = .next
            ({ s with store := { s.store with commissioning := block } }.replyTo .writeCommission tag .ok [])
          ∧ block.identity = body.take 16 ∧ block.locked = false ∧ block.unused = s.store.commissioning.unused
          ∧ ∀ i : Fin 12, block.factors[i] =
              (body.getD (16 + 2 * i.val) 0).toNat + 256 * (body.getD (17 + 2 * i.val) 0).toNat))
    ∧ (s.store.protect = true → exec (.storeConfig tag []) s = .next (s.replyTo .storeConfig tag .protected_ []))
    ∧ (s.store.protect = false →
      (s.store.configJob.isSome = true → exec (.storeConfig tag []) s = .next (s.replyTo .storeConfig tag .busy []))
      ∧ (s.store.configJob = none → ∃ t : State, exec (.storeConfig tag []) s = .next t
        ∧ t = { s with store := t.store, sl := t.sl } ∧ t.Replied .storeConfig tag .ok []
        ∧ t.store.configJob =
          some
            { image := (currentImage s).bytes ++ u16 (crc16 (currentImage s).bytes).toNat, erased := false, started := 0 }
        ∧ t.store.erasePending 0 = true ∧ t.store.protect = false ∧ t.store.array = s.store.array
        ∧ (idle → t.store.state = .erasing ∧ t.store.erase = some { sector := 0, remaining := 400, progress := 0 })))
    ∧ (∀ bands : List (Nat × Byte), bands.length ≤ 79 → (∀ b ∈ bands, b.1 < 65536) →
      let body := u8 bands.length ++ bands.flatMap fun b => u16 b.1 ++ [b.2]
      let good := bands.length ≤ 8 ∧ (∀ b ∈ bands, b.1 ≤ 1439 ∧ b.2.toNat < 4) ∧ bands.Pairwise fun a b => a.1 < b.1
      (¬good → exec (.setTariff tag body) s = .next (s.replyTo .setTariff tag .badArg []))
      ∧ (good →
        (s.mu.pendingBands.isSome = true → exec (.setTariff tag body) s = .next (s.replyTo .setTariff tag .busy []))
        ∧ (s.mu.pendingBands = none → s.store.protect = true →
            exec (.setTariff tag body) s = .next (s.replyTo .setTariff tag .protected_ []))
        ∧ (s.mu.pendingBands = none → s.store.protect = false → ∃ (t : State) (taken : List Band),
            exec (.setTariff tag body) s = .next t ∧ t.Replied .setTariff tag .ok []
            ∧ t = { s with mu := { s.mu with pendingBands := some taken }, store := t.store, sl := t.sl }
            ∧ taken.map (fun b => (b.start, b.index.val)) = bands.map (fun b => (b.1, b.2.toNat))
            ∧ (s.store.tariffJob = none → t.store.tariffJob =
                some { record := body ++ u16 (crc16 body).toNat, erased := false, started := 0 }
              ∧ t.store.erasePending 1 = true
              ∧ (idle → t.store.state = .erasing
                ∧ t.store.erase = some { sector := 1, remaining := 400, progress := 0 })))))

/-- R171, R172, R198, R200: LOCK_COMMISSION with an empty body sets the lock and replies OK; with the lock set it replies OK and
changes nothing. From then on WRITE_COMMISSION is refused with LOCKED (R171), and no step, be it a main-domain reset, a cold start
of the calendar or a loss of the supply, changes the lock, the identity or a factor. HELLO carries the lock. No step, with the
lock set or clear, writes the 215 unused bytes of the block (R200). R172 says that the body is empty and not what answers another:
that LOCK_COMMISSION with a body that is not empty is refused with BAD_LENGTH is the model's reading of R196 (log 21). -/
def Obligations.LockCommission : Prop :=
  (∀ (tag : Byte) (s : State), s.LinkReady →
    exec (.lockCommission tag []) s = .next ({ s with store := { s.store with
        commissioning := { s.store.commissioning with locked := true } } }.replyTo .lockCommission tag .ok [])
    ∧ (s.store.commissioning.locked = true → exec (.lockCommission tag []) s = .next (s.replyTo .lockCommission tag .ok []))
    ∧ (∀ body : List Byte, body ≠ [] →
      exec (.lockCommission tag body) s = .next (s.replyTo .lockCommission tag .badLength []))
    ∧ (∀ body : List Byte, body.length = 40 → s.store.commissioning.locked = true →
      exec (.writeCommission tag body) s = .next (s.replyTo .writeCommission tag .locked []))
    ∧ ∃ content : List Byte, exec (.hello tag []) s = .next (s.replyTo .hello tag .ok content)
      ∧ content[7]? = some (if s.store.commissioning.locked then 1 else 0))
  ∧ ∀ s t : State, step s = .next t →
      (s.store.commissioning.locked = true → t.store.commissioning = s.store.commissioning)
      ∧ t.store.commissioning.unused = s.store.commissioning.unused

/-- R162, R176, R179: SAVE with its refusals, and the checkpoint it takes: its twelve sequences, the calendar, the snapshot of
the twelve accounts; READ_JOURNAL refused while its sequence lies in the sector being erased, answered at once with no record
where no page holds one, and in READY answered at once with the valid records at or above the sequence of the page that holds
the lowest such sequence, and, where these are fewer than seven, of the next page when it is RECORDS: in sequence order, the
first seven. -/
def Obligations.JournalCommands : Prop :=
  ∀ (tag : Byte) (s : State) (j : Journal), s.LinkReady → s.store.startup = .complete → s.store.journal = some j →
    j.nextSequence ≤ 4294967284 →
    (s.store.fault = true → exec (.save tag []) s = .next (s.replyTo .save tag .state []))
    ∧ (s.store.fault = false → s.store.checkpoint.isSome = true →
      exec (.save tag []) s = .next (s.replyTo .save tag .busy []))
    ∧ (s.store.fault = false → s.store.checkpoint = none → ∃ (t : State) (c : Checkpoint) (k : Journal),
      exec (.save tag []) s = .next t ∧ t = { s with store := t.store, sl := t.sl }
      ∧ t.Replied .save tag .ok (u32 j.nextSequence) ∧ t.store.checkpoint = some c ∧ t.store.journal = some k
      ∧ c.trigger = .save ∧ c.firstSequence = j.nextSequence ∧ c.time = s.cu.calendar.seconds ∧ c.cold = s.cu.clockCold
      ∧ k.nextSequence = j.nextSequence + 12 ∧ k.index = j.index ∧ t.store.array = s.store.array
      ∧ ∀ i : Fin 12, c.snapshots[i] =
          { wh := (s.account i).wh, shedCount := (s.account i).shedCount, capTrips := (s.account i).capTrips })
    ∧ (∀ q : Nat, q < 4294967296 →
      let content : List (List Byte) → List Byte := fun records =>
        u8 records.length ++ u32 s.store.oldestReadable ++ u32 j.nextSequence ++ records.flatten
      let inErased := ∃ (e : EraseRecord) (p r : Fin 224) (lo hi lo' hi' : Nat), s.store.erase = some e
        ∧ sectorOf p = e.sector ∧ j.index[p] = .records lo hi ∧ lo ≤ q
        ∧ sectorOf r = e.sector ∧ j.index[r] = .records lo' hi' ∧ q ≤ hi'
      (inErased → exec (.readJournal tag (u32 q)) s = .next (s.replyTo .readJournal tag .erasing []))
      ∧ (¬inErased → (∀ (p : Fin 224) (lo hi : Nat), j.index[p] = .records lo hi →
            s.store.beingErased (sectorOf p) = true ∨ hi < q) →
          exec (.readJournal tag (u32 q)) s = .next (s.replyTo .readJournal tag .ok (content [])))
      ∧ (¬inErased → s.store.state = .ready → s.store.erase = none → s.store.readRequest = none →
          ∃ (t : State) (records : List (List Byte)), exec (.readJournal tag (u32 q)) s = .next t
            ∧ t.Replied .readJournal tag .ok (content records) ∧ t = { s with store := t.store, sl := t.sl }
            ∧ t.store.array = s.store.array ∧ t.store.readJob = none ∧ records.length ≤ 7
            ∧ ∀ r ∈ records, ∃ (p : Fin 224) (place : Nat), place < 8
                ∧ r = Flash.readBytes s.store.array (journalBase p + 32 * place) 32
                ∧ crcField (r.take 30) = r.drop 30 ∧ q ≤ u32At r 0)
      ∧ (¬inErased → s.store.state = .ready → s.store.erase = none → s.store.readRequest = none →
          ∀ (p : Fin 224) (lo hi : Nat), j.index[p] = .records lo hi → q ≤ hi →
            (∀ (r : Fin 224) (lo' hi' : Nat), r ≠ p → j.index[r] = .records lo' hi' → q ≤ hi' → max lo q < max lo' q) →
          let held : Fin 224 → List (List Byte) := fun p =>
            ((List.range 8).map fun place => Flash.readBytes s.store.array (journalBase p + 32 * place) 32).filter fun r =>
              validRecord r && decide (q ≤ u32At r 0)
          let next : Fin 224 := if p = 223 then 0 else p + 1
          let goesOn := (held p).length < 7 ∧ j.index[next] ≠ .fresh ∧ j.index[next] ≠ .spoiled
          ∃ (t : State) (found : List (List Byte)), exec (.readJournal tag (u32 q)) s = .next t
            ∧ t.Replied .readJournal tag .ok (content (found.take 7))
            ∧ found.Pairwise (fun a b => u32At a 0 ≤ u32At b 0)
            ∧ found.Perm (if goesOn then held p ++ held next else held p)))

/-- R165, R167, R169, R173, R174, R175, R177: the completions of the array's operations: what each leaves in the array, in the
jobs, the flags and the journal index, and reports; a failed configuration job leaves no valid image, and a failed journal page
is not erased throughout; a failed one sets the store fault flag and ends its job; a completion of an operation that is not in
flight does nothing; a program that ends in a suspension lets the erase resume from a progress of 0; a failed erase ends its job
and leaves its pages FRESH; and an erase's suspension at 50 ms, with what starts after the latency. Model's choices: a failed
erase leaves some byte that is not erased and what a failed program leaves is free (log 4), a suspension brings the erase to 50
ms (log 8), where the STORE reports place their operation (log 20), and a completion is taken whatever time its operation has
left (log 28). -/
def Obligations.StoreCompletions : Prop :=
  ∀ s : State, s.powered = true →
    let a := s.store
    let wrote : State → Nat → List Byte → Prop := fun t base bytes => ∀ x : Nat, Flash.read t.store.array x =
      if base ≤ x ∧ x < base + 256 then bytes.getD (x - base) 0xFF else Flash.read a.array x
    let elsewhere : State → Nat → Nat → Prop := fun t base n => ∀ x : Nat, x < base ∨ base + n ≤ x →
      Flash.read t.store.array x = Flash.read a.array x
    let noImage : State → Prop := fun t =>
      Flash.readBytes t.store.array 311 2 ≠ u16 (crc16 (Flash.readBytes t.store.array 0 311)).toNat
    let running := a.state = .programming ∨ a.state = .programmingInSuspend
    (a.flight = none → ∀ passed : Bool, exec (.programCompletion passed) s = .next s)
    ∧ (∀ (f : Flight) (e : EraseRecord) (passed : Bool), a.state = .programmingInSuspend → a.flight = some f →
        a.erase = some e → ∃ t : State, exec (.programCompletion passed) s = .next t ∧ t.store.state = .erasing
          ∧ t.store.flight = none ∧ t.store.erase = some { e with progress := 0 })
    ∧ (a.state ≠ .erasing → ∀ passed : Bool, exec (.eraseCompletion passed) s = .next s)
    ∧ (a.state ≠ .readingInSuspend → exec .readCompletion s = .next s)
    ∧ ((a.state ≠ .erasing ∨ a.workOutside = false) → exec .eraseSuspension s = .next s)
    ∧ (a.state ≠ .eraseSuspended → exec .suspendLatencyEnd s = .next s)
    ∧ (∀ j : ConfigJob, running → a.flight = some (.configPage true) → a.configJob = some j →
      (∃ t : State, exec (.programCompletion true) s = .next t ∧ t.store.configJob = none
        ∧ t.store.configDefault = false ∧ t.store.protect = true ∧ t.store.fault = a.fault
        ∧ wrote t 256 ((j.image.drop 256).take 256) ∧ s.reportsSince t (.store .config true 0 (some 1) a.fault))
      ∧ ∃ t : State, exec (.programCompletion false) s = .next t ∧ t.store.configJob = none ∧ t.store.protect = true
        ∧ t.store.fault = true ∧ elsewhere t 256 256 ∧ s.reportsSince t (.store .config false 0 (some 1) true)
        ∧ noImage t ∧ (a.fault = false → t.store.checkpoint = none))
    ∧ (∀ j : ConfigJob, running → a.flight = some (.configPage false) → a.configJob = some j →
      (∃ t : State, exec (.programCompletion true) s = .next t ∧ wrote t 0 (j.image.take 256) ∧ t.store.fault = a.fault)
      ∧ ∃ t : State, exec (.programCompletion false) s = .next t ∧ t.store.configJob = none ∧ t.store.protect = true
        ∧ t.store.fault = true ∧ elsewhere t 0 256 ∧ s.reportsSince t (.store .config false 0 (some 0) true) ∧ noImage t)
    ∧ (∀ (j : TariffJob) (bands : List Band), running → a.flight = some .tariffPage →
      a.tariffJob = some j → s.mu.pendingBands = some bands → j.record.length ≤ 256 →
      (∃ t : State, exec (.programCompletion true) s = .next t ∧ t.store.tariffJob = none ∧ t.store.protect = true
        ∧ t.mu.bands = bands ∧ t.mu.pendingBands = none ∧ t.mu.accounts = s.mu.accounts
        ∧ t.mu.index = tariffIndex bands (s.cu.calendar.hour * 60 + s.cu.calendar.minute)
        ∧ wrote t 4096 j.record ∧ s.reportsSince t (.store .tariff true 1 (some 0) a.fault))
      ∧ ∃ t : State, exec (.programCompletion false) s = .next t ∧ t.store.tariffJob = none ∧ t.store.protect = true
        ∧ t.mu = { s.mu with pendingBands := none } ∧ t.store.fault = true ∧ elsewhere t 4096 256
        ∧ s.reportsSince t (.store .tariff false 1 (some 0) true))
    ∧ (∀ (c : Checkpoint) (j : Journal) (p : Fin 224) (second : Bool), running →
      a.flight = some (.checkpointPage p second) → a.checkpoint = some c → a.journal = some j →
      (∃ (t : State) (k : Journal), exec (.programCompletion true) s = .next t ∧ wrote t (journalBase p) (c.page second)
        ∧ t.store.journal = some k ∧ k.nextSequence = j.nextSequence
        ∧ k.index = j.index.set p (if second then .records (c.firstSequence + 8) (c.firstSequence + 11)
            else .records c.firstSequence (c.firstSequence + 7))
        ∧ (second = true → t.store.checkpoint = none
          ∧ s.reportsSince t (.checkpoint .written c.trigger c.firstSequence c.firstPage)))
      ∧ ∃ (t : State) (k : Journal), exec (.programCompletion false) s = .next t ∧ elsewhere t (journalBase p) 256
        ∧ t.store.journal = some k ∧ k.index = j.index.set p .spoiled ∧ t.store.fault = true
        ∧ (∃ x : Nat, journalBase p ≤ x ∧ x < journalBase p + 256 ∧ Flash.read t.store.array x ≠ 0xFF)
        ∧ t.store.checkpoint = none
        ∧ s.reportsSince t (.store .journalPage false (sectorOf p) (some (pageOf p)) true)
        ∧ s.reportsSince t (.checkpoint .failed c.trigger c.firstSequence (some p)))
    ∧ (∀ (e : EraseRecord) (j : Journal), a.state = .erasing → a.erase = some e → a.journal = some j →
      (∃ (t : State) (k : Journal), exec (.eraseCompletion true) s = .next t ∧ elsewhere t (sectorBase e.sector) 4096
        ∧ (∀ x : Nat, sectorBase e.sector ≤ x → x < sectorBase e.sector + 4096 → Flash.read t.store.array x = 0xFF)
        ∧ t.store.journal = some k ∧ (∀ p : Fin 224, k.index[p] = if sectorOf p = e.sector then .fresh else j.index[p])
        ∧ t.store.fault = a.fault
        ∧ (∀ c : ConfigJob, e.sector = 0 → a.configJob = some c → ∃ d : ConfigJob, t.store.configJob = some d
            ∧ d.erased = true ∧ d.image = c.image)
        ∧ (∀ c : TariffJob, e.sector = 1 → a.tariffJob = some c → ∃ d : TariffJob, t.store.tariffJob = some d
            ∧ d.erased = true ∧ d.record = c.record))
      ∧ ∃ (t : State) (k : Journal), exec (.eraseCompletion false) s = .next t ∧ t.store.fault = true
        ∧ elsewhere t (sectorBase e.sector) 4096 ∧ t.store.journal = some k
        ∧ (∀ p : Fin 224, k.index[p] = if sectorOf p = e.sector then .fresh else j.index[p])
        ∧ (e.sector = 0 → t.store.configJob = none) ∧ (e.sector = 1 → t.store.tariffJob = none)
        ∧ t.store.protect = (a.protect || decide (e.sector.val ≤ 1))
        ∧ t.mu = (if e.sector = 1 then { s.mu with pendingBands := none } else s.mu)
        ∧ (a.fault = false → t.store.checkpoint = none)
        ∧ (∃ x : Nat, sectorBase e.sector ≤ x ∧ x < sectorBase e.sector + 4096 ∧ Flash.read t.store.array x ≠ 0xFF)
        ∧ (e.sector = 0 → noImage t)
        ∧ s.reportsSince t
          (if e.sector = 0 then .store .config false 0 none true
           else if e.sector = 1 then .store .tariff false 1 none true
           else .store .eraseAhead false e.sector none true))
    ∧ (∀ (p : Fin 224) (e : EraseRecord), a.state = .readingInSuspend → a.flight = some (.readPage p) → a.erase = some e →
      ∃ t : State, exec .readCompletion s = .next t ∧ t.store.state = .erasing ∧ t.store.flight = none
        ∧ t.store.erase = some { e with progress := 0 } ∧ t.store.array = a.array ∧ t.mu = s.mu)
    ∧ (∀ e : EraseRecord, a.state = .erasing → a.workOutside = true → a.erase = some e →
      (50 - e.progress < e.remaining → exec .eraseSuspension s = .next { s with store := { a with
        state := .eraseSuspended
        erase := some
          { e with remaining := e.remaining - (50 - e.progress), progress := e.progress + (50 - e.progress) } } })
      ∧ (e.remaining ≤ 50 - e.progress → exec .eraseSuspension s = .next s))
    ∧ (∀ (p : Fin 224) (e : EraseRecord), a.state = .eraseSuspended → a.erase = some e →
      (a.readRequest = some p → exec .suspendLatencyEnd s = .next { s with store := { a with
        state := .readingInSuspend, flight := some (.readPage p), readRequest := none } })
      ∧ (a.readRequest = none → a.workOutside = false → exec .suspendLatencyEnd s = .next { s with store := { a with
        state := .erasing, flight := none, erase := some { e with progress := 0 } } })
      ∧ (a.readRequest = none → a.workOutside = true → ∃ (t : State) (f : Flight), exec .suspendLatencyEnd s = .next t
        ∧ t = { s with store := t.store } ∧ t.store.state = .programmingInSuspend ∧ t.store.flight = some f
        ∧ t.store.erase = some e ∧ t.store.array = a.array))

/-- R180, R181: the load completion: the blocks take a stored image, or, where the CRC-16 does not match, keep their defaults
with the configuration-default flag set; and the scan completion: the journal index, the accounts from each feeder's latest
valid record, the next sequence, the write position, the one erase that step 5 requests, the end of start-up and the STATION
report READY. Neither does anything a second time. The CRC-16 alone decides whether an image is taken, whatever it holds
(log 11); the order of a load (log 12), and that the completions are taken whatever time has passed (log 28), are the model's
choices. -/
def Obligations.StartUp : Prop :=
  ∀ s : State, s.powered = true →
    let b := Flash.readBytes s.store.array 0 311
    (s.store.startup ≠ .loading → exec .loadCompletion s = .next s)
    ∧ (s.store.startup ≠ .scanning → exec .scanCompletion s = .next s)
    ∧ (s.store.startup = .loading →
      (Flash.readBytes s.store.array 311 2 = u16 (crc16 b).toNat → ∃ t : State, exec .loadCompletion s = .next t
        ∧ t.store.startup = .scanning ∧ t.store.configDefault = s.store.configDefault)
      ∧ (∀ c : ConfigImage, c.InRange → b = c.bytes → Flash.readBytes s.store.array 311 2 = u16 (crc16 c.bytes).toNat →
        ∃ t : State, exec .loadCompletion s = .next t ∧ t.store.startup = .scanning
          ∧ t.store.configDefault = s.store.configDefault
          ∧ t.gc.params = c.gov ∧ t.lu.params = c.levels ∧ t.da.params = c.dispatch ∧ t.rk.params = c.rake
          ∧ t.fu.params = c.shedding ∧ t.cu.params = c.correction ∧ t.ss.alarmSource = c.alarmSource
          ∧ t.ss.alarmInverted = c.alarmInverted ∧ t.lu.gMaxCopy = c.gov.gMax
          ∧ (∀ i : Fin 4, (t.input i).setting = c.watch[i] ∧ (t.slot i).present = c.drives[i].isSome
            ∧ (t.slot i).profile = c.drives[i].getD .zero)
          ∧ ∀ i : Fin 12, (t.feeder i).profile = c.feeders[i])
      ∧ (Flash.readBytes s.store.array 311 2 ≠ u16 (crc16 b).toNat → s.lu.forebay.samples = [] →
        ∃ t : State, exec .loadCompletion s = .next t
          ∧ t = { s with
              store := { s.store with startup := .scanning, configDefault := true }
              lu := { s.lu with gMaxCopy := s.gc.params.gMax }, mu := t.mu }
          ∧ (Flash.read s.store.array 4096 = 0xFF → t.mu = s.mu)
          ∧ (∀ bands : List Band, Flash.readBytes s.store.array 4096 (1 + 3 * bands.length) = bandBytes bands →
              Flash.readBytes s.store.array (4097 + 3 * bands.length) 2 = u16 (crc16 (bandBytes bands)).toNat →
              bands.length ≤ 8 → (∀ x ∈ bands, x.start ≤ 1439) → bands.Pairwise (fun x y => x.start < y.start) →
              t.mu.bands = bands)))
    ∧ (s.store.startup = .scanning → s.ArrayCanonical → ∃ (t : State) (j : Journal), exec .scanCompletion s = .next t
      ∧ t.store.startup = .complete ∧ t.sl.startup = false ∧ t.store.array = s.store.array ∧ t.store.journal = some j
      ∧ (∀ p : Fin 224,
          (j.index[p] = .fresh ↔
              ∀ x : Nat, journalBase p ≤ x → x < journalBase p + 256 → Flash.read s.store.array x = 0xFF)
          ∧ (j.index[p] = .spoiled → ∀ place : Nat, place < 8 →
              validRecord (Flash.readBytes s.store.array (journalBase p + 32 * place) 32) = false))
      ∧ (∀ (p : Fin 224) (place : Nat), place < 8 →
          validRecord (Flash.readBytes s.store.array (journalBase p + 32 * place) 32) = true →
          u32At (Flash.readBytes s.store.array (journalBase p + 32 * place) 32) 0 < j.nextSequence)
      ∧ ((∀ x : Nat, 8192 ≤ x → Flash.read s.store.array x = 0xFF) → j.nextSequence = 1 ∧ ∀ i : Fin 12,
          t.account i = { s.account i with wh := Vector.replicate 4 0, shedCount := 0, capTrips := 0 })
      ∧ (let at_ : Fin 224 → Nat → List Byte := fun p place => Flash.readBytes s.store.array (journalBase p + 32 * place) 32
         let ofFeeder : Fin 12 → Fin 224 → Nat → Prop := fun i p place =>
           place < 8 ∧ validRecord (at_ p place) = true ∧ u8At (at_ p place) 8 = 16 + i.val
         (∀ (i : Fin 12) (p : Fin 224) (place : Nat), ofFeeder i p place →
           (∀ (p' : Fin 224) (place' : Nat), ofFeeder i p' place' →
             p' = p ∧ place' = place ∨ u32At (at_ p' place') 0 < u32At (at_ p place) 0) →
           let r := at_ p place
           t.account i = { s.account i with
             wh := #v[u32At r 10, u32At r 14, u32At r 18, u32At r 22], shedCount := u16At r 26, capTrips := u16At r 28 })
         ∧ (∀ i : Fin 12, (∀ (p : Fin 224) (place : Nat), ¬ofFeeder i p place) →
           t.account i = { s.account i with wh := Vector.replicate 4 0, shedCount := 0, capTrips := 0 })
         ∧ (∀ (p : Fin 224) (place : Nat), place < 8 → validRecord (at_ p place) = true →
           (∀ (p' : Fin 224) (place' : Nat), place' < 8 → validRecord (at_ p' place') = true →
             p' = p ∧ place' = place ∨ u32At (at_ p' place') 0 < u32At (at_ p place) 0) →
           j.nextSequence = u32At (at_ p place) 0 + 1
           ∧ (s.store.checkpoint = none → ∀ w : Fin 224, p < w → sectorOf w = sectorOf p → j.index[w] = .fresh →
               (∀ w' : Fin 224, p < w' → w' < w → j.index[w'] ≠ .fresh) → j.writePos = w)
           ∧ (s.store.checkpoint = none → (∀ w : Fin 224, p < w → sectorOf w = sectorOf p → j.index[w] ≠ .fresh) →
               j.writePos.val = (p.val / 16 + 1) % 14 * 16))
         ∧ ((∀ (p : Fin 224) (place : Nat), place < 8 → validRecord (at_ p place) = false) →
           j.nextSequence = 1 ∧ (s.store.checkpoint = none → j.writePos = 0))
         ∧ (s.store.state = .ready → s.store.erase = none → s.store.waitingErases = [] → s.store.checkpoint = none →
           s.store.configJob = none → s.store.tariffJob = none → s.store.readRequest = none →
           let own := sectorOf j.writePos
           let next : Fin 16 := if own = 15 then 2 else own + 1
           t.store.waitingErases = []
           ∧ (j.index[j.writePos] ≠ .fresh → t.store.erase = some { sector := own, remaining := 400, progress := 0 })
           ∧ (j.index[j.writePos] = .fresh → (∃ p : Fin 224, sectorOf p = next ∧ j.index[p] ≠ .fresh) →
             t.store.erase = some { sector := next, remaining := 400, progress := 0 })
           ∧ (j.index[j.writePos] = .fresh → (∀ p : Fin 224, sectorOf p = next → j.index[p] = .fresh) →
             t.store.erase = none ∧ t.store.state = .ready)))
      ∧ s.reportsSince t (.station .stopped .stopped false .ready))

/-! ### Resets and the whole part -/

/-- R6, R21, R40, R48, R55, R80, R104, R114, R136, R150, R151, R163, R182, R194, R195: every main-domain reset leaves every
block at the reset values of its chapter, the wires of the watch inputs, the commissioning block and what waits outside as they
were, and the calendar domain as R150 says; power-on makes a cold start where the validity flag is clear. Model's choices: a
loss of power gives the same values at once, without the supply (log 13), a reset line or a loss of power that finds no supply
changes nothing, and a power-on that finds the supply acts the same (log 18); and a cold start sets the model's own fields
`pulsePhase`, `heldPulses` and `windowPulses` to 0 (log 9). -/
def Obligations.Resets : Prop :=
  ∀ s : State,
    let kept : State → Prop := fun t => t.MainReset ∧ t.wu.pins = s.wu.pins ∧ t.pending = s.pending
      ∧ t.store.commissioning = s.store.commissioning
      ∧ (s.store.flight = none → s.store.erase = none → t.store.array = s.store.array)
    let runsOn : CalendarUnit := { s.cu with correction := .inactive, liveCopy := false, shedCopy := false }
    (s.powered = true →
      (∃ t : State, exec .resetLine s = .next t ∧ kept t ∧ t.powered = true ∧ t.cu = runsOn)
      ∧ ∃ t : State, exec .mainDomainPowerLoss s = .next t ∧ kept t ∧ t.powered = false ∧ t.cu = runsOn)
    ∧ (s.powered = false → exec .resetLine s = .next s ∧ exec .mainDomainPowerLoss s = .next s)
    ∧ ∀ failed : Bool, ∃ t : State, exec (.powerOnReset failed) s = .next t ∧ kept t ∧ t.powered = true
      ∧ (failed = false → s.cu.valid = true → t.cu = runsOn)
      ∧ ((failed = true ∨ s.cu.valid = false) → t.cu =
        { calendar := { year := 2000, month := 1, day := 1, weekday := .saturday, hour := 0, minute := 0, second := 0 }
          subSecond := 0, trim := 0, pendingTrim := none, windowPos := 0, pulsePhase := 0, heldPulses := 0
          windowPulses := 0, e := 0, n := 0, pendingShift := none
          zeroRequest := false, correction := .inactive, teRange := false, clockCold := true
          params := { off := 20, deadband := 2000, limit := 600000 }, valid := true, liveCopy := false
          shedCopy := false })

/-- R173, R175, R181, R182: what a reset or a loss of the supply leaves of an operation of the array that it cuts off; the bytes
are otherwise free (log 4). A configuration job's page, or the erase of sector 0, leaves no valid image; a journal page is not
FRESH, its valid records are those being written, at their places, and one of them is missing; a sector does not read erased
throughout, in a journal sector a valid record is one that it held before, and where the write position lies in it its page 0 is
not FRESH. That a loss of the supply acts at once is the model's choice (log 13). -/
def Obligations.CutOffWork : Prop :=
  ∀ (c : Instr) (s : State), (c = .resetLine ∨ c = .mainDomainPowerLoss ∨ c = .powerOnReset false) → s.powered = true →
    let before : Nat → List Byte := fun x => Flash.readBytes s.store.array x 32
    ∃ t : State, exec c s = .next t
      ∧ (let after : Nat → List Byte := fun x => Flash.readBytes t.store.array x 32
         let noValidImage := Flash.readBytes t.store.array 311 2 ≠ u16 (crc16 (Flash.readBytes t.store.array 0 311)).toNat
         (∀ second : Bool, s.store.flight = some (.configPage second) → noValidImage)
         ∧ (∀ (p : Fin 224) (second : Bool) (k : Checkpoint), s.store.flight = some (.checkpointPage p second) →
            s.store.checkpoint = some k → (∀ e : EraseRecord, s.store.erase = some e → e.sector ≠ sectorOf p) →
            (∃ x : Nat, journalBase p ≤ x ∧ x < journalBase p + 256 ∧ Flash.read t.store.array x ≠ 0xFF)
            ∧ (∀ place : Nat, place < 8 → validRecord (after (journalBase p + 32 * place)) = true →
                after (journalBase p + 32 * place) = ((k.page second).drop (32 * place)).take 32)
            ∧ ∃ place : Nat, place < (if second then 4 else 8)
                ∧ validRecord (after (journalBase p + 32 * place)) = false)
         ∧ (∀ e : EraseRecord, s.store.erase = some e →
            (∀ (p : Fin 224) (second : Bool), s.store.flight = some (.checkpointPage p second) → sectorOf p ≠ e.sector) →
            (∃ x : Nat, sectorBase e.sector ≤ x ∧ x < sectorBase e.sector + 4096 ∧ Flash.read t.store.array x ≠ 0xFF)
            ∧ (e.sector = 0 → noValidImage)
            ∧ (2 ≤ e.sector.val → ∀ place : Nat, place < 128 →
                validRecord (after (sectorBase e.sector + 32 * place)) = true →
                after (sectorBase e.sector + 32 * place) = before (sectorBase e.sector + 32 * place))
            ∧ (∀ j : Journal, s.store.journal = some j → sectorOf j.writePos = e.sector →
                ∃ x : Nat, sectorBase e.sector ≤ x ∧ x < sectorBase e.sector + 256 ∧ Flash.read t.store.array x ≠ 0xFF))
         ∧ (s.store.flight = none → ∀ x : Nat,
            (∀ e : EraseRecord, s.store.erase = some e → x < sectorBase e.sector ∨ sectorBase e.sector + 4096 ≤ x) →
            Flash.read t.store.array x = Flash.read s.store.array x))

/-- The state right after reset meets the reset values and every invariant stated below, and its commissioning block is the one
delivered: 256 bytes of 0 (R171, R200). Which state `State.reset` is, the one after a power-on reset with a cold start, an erased
array and a block as delivered, is the model's choice (log 1), and so are the low wires of its watch inputs (log 2). -/
def Obligations.ResetMeetsInvariants : Prop :=
  State.reset.MainReset ∧ State.reset.Bounded ∧ State.reset.ServiceWell ∧ State.reset.ArrayCanonical
    ∧ State.reset.ResiduesLow ∧ State.reset.FieldFollowsLive ∧ State.reset.StandingInLive ∧ State.reset.CaptureInTripped
    ∧ State.reset.RelayFollows ∧ State.reset.DrivenInLive ∧ State.reset.ParamsInRange ∧ State.reset.GateInRange
    ∧ State.reset.ProfilesInRange ∧ State.reset.Consistent ∧ State.reset.QueueWell ∧ State.reset.pending = []
    ∧ State.reset.store.commissioning.block = List.replicate 256 0

/-- R59, R186, R190; chapter 10; R155: every step keeps the bounds of the queues and of the link's counts, what may stay in
service, the canonical form of the array, and every residue below 3600. -/
def Obligations.StepKeepsBounds : Prop :=
  ∀ s t : State, step s = .next t →
    (s.Bounded → t.Bounded) ∧ (s.ServiceWell → t.ServiceWell) ∧ (s.ArrayCanonical → t.ArrayCanonical)
      ∧ (s.ResiduesLow → t.ResiduesLow)

/-- R26, R33, R36, R38: every step keeps the field contactor closed exactly in LIVE, the standing flag within LIVE, the capture
filled exactly in TRIPPED, and the alarm relay as its source's condition and its polarity ask. That
a loss of the supply gives the reset values at once is the model's choice (log 13). -/
def Obligations.StepKeepsStation : Prop :=
  ∀ s t : State, step s = .next t →
    (s.FieldFollowsLive → t.FieldFollowsLive) ∧ (s.StandingInLive → t.StandingInLive)
      ∧ (s.CaptureInTripped → t.CaptureInTripped) ∧ (s.RelayFollows → t.RelayFollows)

/-- R28: every step from a state whose owners agree with the collections keeps it so that outside LIVE no contactor is closed,
no clutch is in, no owner waits, and no one holds a table entry. That a loss of the supply gives the reset values at once is the
model's choice (log 13). -/
def Obligations.NothingIsDrivenOutsideLive : Prop :=
  ∀ s t : State, step s = .next t → s.Consistent → s.DrivenInLive → t.DrivenInLive

/-- R15, R43, R187: every step keeps every parameter group and every profile within its ranges, and the gate output, the gate
limits and the copy of G_max within 0 to 10,000 gate units. Model's choice (log 11): for the load of a stored image whose CRC-16
matches and which holds values out of range, no rule says what is then in force; the model puts a free value of the range there,
and the statement rests on that choice. -/
def Obligations.StepKeepsSettings : Prop :=
  ∀ s t : State, step s = .next t →
    (s.ParamsInRange → t.ParamsInRange) ∧ (s.ProfilesInRange → t.ProfilesInRange)
      ∧ (s.ParamsInRange → s.GateInRange → t.GateInRange)

/-- R18, R57, R59, R60: every step keeps the owners' states, the Allocation Table, the Standing Request Queue and the
feed-forward list in agreement, and the queue in its order. -/
def Obligations.StepKeepsCollections : Prop :=
  ∀ s t : State, step s = .next t → s.Consistent →
    t.Consistent ∧ (s.ProfilesInRange → s.QueueWell → t.QueueWell)

/-- R173, R200: the configuration image decodes, at every load, to the settings it was made from, and fills 311 bytes. -/
def Obligations.ConfigImageRoundTrip : Prop :=
  ∀ (choice : Nat) (c : ConfigImage), c.InRange → decodeImage choice c.bytes = c ∧ c.bytes.length = 311
end

