-- ==== Sys2Proof/Laws/Flash.lean ====
section
/-! SUPPORT. The flash array: every write keeps the canonical form, and a byte reads back what was written. -/

namespace Sys2Proof.Machine

theorem cellsFrom_mem {a : Nat} {bs : List Byte} {c : Host.Cell} (h : c ∈ cellsFrom a bs) :
    a ≤ c.1 ∧ c.1 < a + bs.length ∧ c.2 ≠ 0xFF := by
  induction bs generalizing a with
  | nil => simp [cellsFrom] at h
  | cons b rest ih =>
    unfold cellsFrom at h
    split at h
    · have := ih h; simp only [List.length_cons]; refine ⟨?_, ?_, this.2.2⟩ <;> omega
    · next hb =>
      rcases List.mem_cons.1 h with rfl | h
      · simpa using hb
      · have := ih h; simp only [List.length_cons]; refine ⟨?_, ?_, this.2.2⟩ <;> omega

theorem cellsFrom_pairwise (a : Nat) (bs : List Byte) : (cellsFrom a bs).Pairwise fun c d => c.1 < d.1 := by
  induction bs generalizing a with
  | nil => exact .nil
  | cons b rest ih =>
    unfold cellsFrom
    split
    · exact ih _
    · exact List.pairwise_cons.2 ⟨fun d hd => (cellsFrom_mem hd).1, ih _⟩

/-- A write of at most `n` bytes within the 64 KiB keeps the canonical form. -/
theorem Flash.wf_replace {m : Flash} (h : Flash.wf m) {a n : Nat} (hn : a + n ≤ 65536) (bs : List Byte) :
    Flash.wf (m.replace a n bs) := by
  obtain ⟨hp, hm⟩ := h
  have hc : ∀ c ∈ cellsFrom a (bs.take n), a ≤ c.1 ∧ c.1 < a + n ∧ c.2 ≠ 0xFF := fun c hc => by
    have := cellsFrom_mem hc
    have hl : (bs.take n).length ≤ n := List.length_take_le _ _
    exact ⟨this.1, by omega, this.2.2⟩
  constructor
  · unfold Flash.replace
    rw [List.append_assoc, List.pairwise_append, List.pairwise_append]
    refine ⟨hp.filter _, ⟨cellsFrom_pairwise _ _, hp.filter _, ?_⟩, ?_⟩
    · intro x hx y hy
      have := hc x hx
      simp only [List.mem_filter, decide_eq_true_eq] at hy; omega
    · intro x hx y hy
      simp only [List.mem_filter, decide_eq_true_eq] at hx
      rcases List.mem_append.1 hy with hy | hy
      · have := hc y hy; omega
      · simp only [List.mem_filter, decide_eq_true_eq] at hy; omega
  · intro c h
    unfold Flash.replace at h
    rcases List.mem_append.1 h with h | h
    · rcases List.mem_append.1 h with h | h
      · exact hm c (List.mem_of_mem_filter h)
      · have := hc c h; exact ⟨this.2.2, by omega⟩
    · exact hm c (List.mem_of_mem_filter h)

/-- What a list of cells reads at an address none of them has. -/
theorem find_none_of_forall {m : List Host.Cell} {a : Nat} (h : ∀ c ∈ m, c.1 ≠ a) :
    (m.find? fun c => c.1 == a) = none := by
  simpa [List.find?_eq_none] using h

theorem find_cellsFrom {a : Nat} {bs : List Byte} {x : Nat} :
    ((cellsFrom a bs).find? fun c => c.1 == x) =
      if a ≤ x ∧ x < a + bs.length ∧ bs.getD (x - a) 0xFF ≠ 0xFF then some (x, bs.getD (x - a) 0xFF) else none := by
  induction bs generalizing a with
  | nil => simp [cellsFrom]
  | cons b rest ih =>
    unfold cellsFrom
    by_cases hx : x = a
    · subst hx
      split
      · next hb => subst hb; rw [ih]; rw [if_neg (by omega)]; simp
      · next hb =>
        have hb' : ¬b = 255#8 := hb
        simp [hb']
    · have e : (a + 1 ≤ x ∧ x < a + 1 + rest.length ∧ rest.getD (x - (a + 1)) 0xFF ≠ 0xFF) ↔
          (a ≤ x ∧ x < a + (b :: rest).length ∧ (b :: rest).getD (x - a) 0xFF ≠ 0xFF) := by
        by_cases hl : a + 1 ≤ x
        · have : x - a = (x - (a + 1)) + 1 := by omega
          rw [this, List.getD_cons_succ, List.length_cons]
          constructor <;> rintro ⟨h1, h2, h3⟩ <;> refine ⟨by omega, by omega, h3⟩
        · constructor <;> rintro ⟨h1, h2, h3⟩ <;> omega
      have v : a + 1 ≤ x → rest.getD (x - (a + 1)) 0xFF = (b :: rest).getD (x - a) 0xFF := by
        intro hl
        have : x - a = (x - (a + 1)) + 1 := by omega
        rw [this, List.getD_cons_succ]
      have key : ((cellsFrom (a + 1) rest).find? fun c => c.1 == x) =
          if a ≤ x ∧ x < a + (b :: rest).length ∧ (b :: rest).getD (x - a) 0xFF ≠ 0xFF then
            some (x, (b :: rest).getD (x - a) 0xFF) else none := by
        rw [ih]
        by_cases hc : a + 1 ≤ x ∧ x < a + 1 + rest.length ∧ rest.getD (x - (a + 1)) 0xFF ≠ 0xFF
        · rw [if_pos hc, if_pos (e.1 hc), v hc.1]
        · rw [if_neg hc, if_neg (fun h => hc (e.2 h))]
      split
      · exact key
      · rw [List.find?_cons_of_neg (by simpa using fun h => hx h.symm)]; exact key

/-- R165: a byte reads back: within the written span what was written, and erased beyond it; elsewhere as before. -/
theorem Flash.read_replace (m : Flash) (a n x : Nat) (bs : List Byte) :
    (m.replace a n bs).read x = if a ≤ x ∧ x < a + n then (bs.take n).getD (x - a) 0xFF else m.read x := by
  have hf : ∀ p : Nat → Bool, ((m.filter fun c => p c.1).find? fun c => c.1 == x) =
      if p x then m.find? (fun c => c.1 == x) else none := by
    intro p
    rw [List.find?_filter]
    split
    · next hp =>
      congr 1; funext c
      by_cases hc : c.1 = x
      · simp [hc, hp]
      · simp [hc]
    · next hp =>
      rw [List.find?_eq_none]
      intro c _; by_cases hc : c.1 = x
      · simp [hc, hp]
      · simp [hc]
  have h1 := hf fun y => decide (y < a)
  have h2 := hf fun y => decide (a + n ≤ y)
  have hl : (bs.take n).length ≤ n := List.length_take_le _ _
  unfold Flash.read Flash.replace
  rw [List.find?_append, List.find?_append, h1, h2, find_cellsFrom]
  by_cases hlt : x < a
  · have hge : ¬(a + n ≤ x) := by omega
    have hin : ¬(a ≤ x ∧ x < a + (bs.take n).length ∧ (bs.take n).getD (x - a) 0xFF ≠ 0xFF) := by omega
    rw [if_neg (by omega : ¬(a ≤ x ∧ x < a + n)), if_neg hin, if_pos (decide_eq_true hlt),
      if_neg (by simpa using hge)]
    simp
  · by_cases hge : a + n ≤ x
    · have hin : ¬(a ≤ x ∧ x < a + (bs.take n).length ∧ (bs.take n).getD (x - a) 0xFF ≠ 0xFF) := by omega
      rw [if_neg (by omega : ¬(a ≤ x ∧ x < a + n)), if_neg hin, if_neg (by simpa using hlt),
        if_pos (decide_eq_true hge)]
      simp
    · rw [if_pos (by omega : a ≤ x ∧ x < a + n), if_neg (by simpa using hlt : ¬(decide (x < a) = true)),
        if_neg (by simpa using hge : ¬(decide (a + n ≤ x) = true))]
      by_cases hb : a ≤ x ∧ x < a + (bs.take n).length ∧ (bs.take n).getD (x - a) 0xFF ≠ 0xFF
      · rw [if_pos hb]; rfl
      · rw [if_neg hb]
        by_cases hin : x < a + (bs.take n).length
        · have : (bs.take n).getD (x - a) 0xFF = 0xFF := by
            by_contra hne; exact hb ⟨by omega, hin, hne⟩
          rw [this]; rfl
        · rw [List.getD_eq_default _ _ (by omega)]; rfl

/-- Every byte of the span reads erased exactly when `isErased` says so. -/
theorem Flash.isErased_read {m : Flash} {a n : Nat} (h : m.isErased a n = true) {x : Nat} (h1 : a ≤ x) (h2 : x < a + n) :
    m.read x = 0xFF := by
  unfold Flash.read
  rw [find_none_of_forall]
  intro c hc e
  simp only [Flash.isErased, Bool.not_eq_true', List.any_eq_false, decide_eq_true_eq] at h
  exact h c hc ⟨by omega, by omega⟩

/-- Reading back within what a replacement wrote gives the bytes written. -/
theorem Flash.readBytes_replace (m : Flash) (a n k l : Nat) (bs : List Byte) (hn : bs.length ≤ n) (hl : k + l ≤ bs.length) :
    (m.replace a n bs).readBytes (a + k) l = (bs.drop k).take l := by
  apply List.ext_getElem
  · simp [Flash.readBytes]; omega
  · intro i h1 h2
    have hi : i < l := by simpa [Flash.readBytes] using h1
    simp only [Flash.readBytes, List.getElem_map, List.getElem_range, Flash.read_replace, List.getElem_take, List.getElem_drop]
    rw [if_pos ⟨by omega, by omega⟩, List.take_of_length_le hn, List.getD_eq_getElem?_getD,
      show a + k + i - a = k + i by omega, List.getElem?_eq_getElem (by omega)]
    rfl

/-- An empty list of cells reads erased everywhere. -/
theorem Flash.readBytes_nil (a n : Nat) : Flash.readBytes [] a n = List.replicate n 0xFF := by
  apply List.ext_getElem <;> simp [Flash.readBytes, Flash.read]

end Sys2Proof.Machine
end

