-- ==== Sys2Proof/Laws/PerInstr.lean ====
section
/-! SUPPORT. Claims made of every command, one lemma for each constructor. -/

namespace Sys2Proof.Laws

/-- R187, R197: the kind that a command's frame carries is a command kind, is read back as that command, and can be given a reply
kind; a well-formed command has a body that fits a frame. Events carry no frame. -/
def FrameKind.Statement (i : Instr) : Prop :=
  match i.frame? with
  | some (k, _, body) =>
    CommandKind.ofCode k.code = some k ∧ k.code.toNat < 0x40 ∧ (i.wellFormed = true → body.length ≤ 240)
  | none => True

theorem FrameKind.toothEdge (ticks : Nat) : FrameKind.Statement (.toothEdge ticks) := trivial
theorem FrameKind.windowTimeout : FrameKind.Statement (.windowTimeout) := trivial
theorem FrameKind.startTimerExpiry : FrameKind.Statement (.startTimerExpiry) := trivial
theorem FrameKind.settleTimerExpiry : FrameKind.Statement (.settleTimerExpiry) := trivial
theorem FrameKind.underspeedTimerExpiry : FrameKind.Statement (.underspeedTimerExpiry) := trivial
theorem FrameKind.runDownTimerExpiry : FrameKind.Statement (.runDownTimerExpiry) := trivial
theorem FrameKind.levelSamplePeriod (pond forebay : BitVec 12) : FrameKind.Statement (.levelSamplePeriod pond forebay) := trivial
theorem FrameKind.watchSamplePeriod : FrameKind.Statement (.watchSamplePeriod) := trivial
theorem FrameKind.watchEdge (input : Fin 4) (high : Bool) : FrameKind.Statement (.watchEdge input high) := trivial
theorem FrameKind.spacingTimerExpiry : FrameKind.Statement (.spacingTimerExpiry) := trivial
theorem FrameKind.shortfallTimerExpiry : FrameKind.Statement (.shortfallTimerExpiry) := trivial
theorem FrameKind.waitTimerExpiry (owner : Owner) : FrameKind.Statement (.waitTimerExpiry owner) := trivial
theorem FrameKind.leadTimerExpiry (slot : Fin 4) : FrameKind.Statement (.leadTimerExpiry slot) := trivial
theorem FrameKind.spinUpTimerExpiry (slot : Fin 4) : FrameKind.Statement (.spinUpTimerExpiry slot) := trivial
theorem FrameKind.strokeEnd (slot : Fin 4) : FrameKind.Statement (.strokeEnd slot) := trivial
theorem FrameKind.strokeTimerExpiry (slot : Fin 4) : FrameKind.Statement (.strokeTimerExpiry slot) := trivial
theorem FrameKind.coastTimerExpiry (slot : Fin 4) : FrameKind.Statement (.coastTimerExpiry slot) := trivial
theorem FrameKind.cycleTimerExpiry (slot : Fin 4) : FrameKind.Statement (.cycleTimerExpiry slot) := trivial
theorem FrameKind.dueTimerExpiry : FrameKind.Statement (.dueTimerExpiry) := trivial
theorem FrameKind.graceTimerExpiry : FrameKind.Statement (.graceTimerExpiry) := trivial
theorem FrameKind.runTimerExpiry : FrameKind.Statement (.runTimerExpiry) := trivial
theorem FrameKind.minimumOffTimerExpiry (feeder : Fin 12) : FrameKind.Statement (.minimumOffTimerExpiry feeder) := trivial
theorem FrameKind.stageTimerExpiry (stage : Fin 3) : FrameKind.Statement (.stageTimerExpiry stage) := trivial
theorem FrameKind.restoreTimerExpiry : FrameKind.Statement (.restoreTimerExpiry) := trivial
theorem FrameKind.calendarSecond (products : Vector (BitVec 24) 12) : FrameKind.Statement (.calendarSecond products) := trivial
theorem FrameKind.trimWindowStart : FrameKind.Statement (.trimWindowStart) := trivial
theorem FrameKind.generatorCrossing : FrameKind.Statement (.generatorCrossing) := trivial
theorem FrameKind.loadCompletion : FrameKind.Statement (.loadCompletion) := trivial
theorem FrameKind.scanCompletion : FrameKind.Statement (.scanCompletion) := trivial
theorem FrameKind.programCompletion (passed : Bool) : FrameKind.Statement (.programCompletion passed) := trivial
theorem FrameKind.eraseCompletion (passed : Bool) : FrameKind.Statement (.eraseCompletion passed) := trivial
theorem FrameKind.readCompletion : FrameKind.Statement (.readCompletion) := trivial
theorem FrameKind.eraseSuspension : FrameKind.Statement (.eraseSuspension) := trivial
theorem FrameKind.suspendLatencyEnd : FrameKind.Statement (.suspendLatencyEnd) := trivial
theorem FrameKind.characterReceived (character : Byte) (framingError : Bool) : FrameKind.Statement (.characterReceived character framingError) := trivial
theorem FrameKind.gapTimerExpiry : FrameKind.Statement (.gapTimerExpiry) := trivial
theorem FrameKind.transmitCompletion : FrameKind.Statement (.transmitCompletion) := trivial
theorem FrameKind.powerOnReset (cellFailed : Bool) : FrameKind.Statement (.powerOnReset cellFailed) := trivial
theorem FrameKind.resetLine : FrameKind.Statement (.resetLine) := trivial
theorem FrameKind.unknownCommand (kind tag : Byte) (body : List Byte) : FrameKind.Statement (.unknownCommand kind tag body) := trivial
theorem FrameKind.hello (tag : Byte) (body : List Byte) : FrameKind.Statement (.hello tag body) := ⟨rfl, by decide, fun h => of_decide_eq_true h⟩
theorem FrameKind.status (tag : Byte) (body : List Byte) : FrameKind.Statement (.status tag body) := ⟨rfl, by decide, fun h => of_decide_eq_true h⟩
theorem FrameKind.reset (tag : Byte) (body : List Byte) : FrameKind.Statement (.reset tag body) := ⟨rfl, by decide, fun h => of_decide_eq_true h⟩
theorem FrameKind.start (tag : Byte) (body : List Byte) : FrameKind.Statement (.start tag body) := ⟨rfl, by decide, fun h => of_decide_eq_true h⟩
theorem FrameKind.stop (tag : Byte) (body : List Byte) : FrameKind.Statement (.stop tag body) := ⟨rfl, by decide, fun h => of_decide_eq_true h⟩
theorem FrameKind.clearTrip (tag : Byte) (body : List Byte) : FrameKind.Statement (.clearTrip tag body) := ⟨rfl, by decide, fun h => of_decide_eq_true h⟩
theorem FrameKind.readTrip (tag : Byte) (body : List Byte) : FrameKind.Statement (.readTrip tag body) := ⟨rfl, by decide, fun h => of_decide_eq_true h⟩
theorem FrameKind.setGovernor (tag : Byte) (body : List Byte) : FrameKind.Statement (.setGovernor tag body) := ⟨rfl, by decide, fun h => of_decide_eq_true h⟩
theorem FrameKind.standingOn (tag : Byte) (body : List Byte) : FrameKind.Statement (.standingOn tag body) := ⟨rfl, by decide, fun h => of_decide_eq_true h⟩
theorem FrameKind.standingOff (tag : Byte) (body : List Byte) : FrameKind.Statement (.standingOff tag body) := ⟨rfl, by decide, fun h => of_decide_eq_true h⟩
theorem FrameKind.setAlarm (tag : Byte) (body : List Byte) : FrameKind.Statement (.setAlarm tag body) := ⟨rfl, by decide, fun h => of_decide_eq_true h⟩
theorem FrameKind.setLevels (tag : Byte) (body : List Byte) : FrameKind.Statement (.setLevels tag body) := ⟨rfl, by decide, fun h => of_decide_eq_true h⟩
theorem FrameKind.setWatch (tag : Byte) (body : List Byte) : FrameKind.Statement (.setWatch tag body) := ⟨rfl, by decide, fun h => of_decide_eq_true h⟩
theorem FrameKind.ackWatch (tag : Byte) (body : List Byte) : FrameKind.Statement (.ackWatch tag body) := ⟨rfl, by decide, fun h => of_decide_eq_true h⟩
theorem FrameKind.readLevels (tag : Byte) (body : List Byte) : FrameKind.Statement (.readLevels tag body) := ⟨rfl, by decide, fun h => of_decide_eq_true h⟩
theorem FrameKind.setDispatch (tag : Byte) (body : List Byte) : FrameKind.Statement (.setDispatch tag body) := ⟨rfl, by decide, fun h => of_decide_eq_true h⟩
theorem FrameKind.listTable (tag : Byte) (body : List Byte) : FrameKind.Statement (.listTable tag body) := ⟨rfl, by decide, fun h => of_decide_eq_true h⟩
theorem FrameKind.listQueue (tag : Byte) (body : List Byte) : FrameKind.Statement (.listQueue tag body) := ⟨rfl, by decide, fun h => of_decide_eq_true h⟩
theorem FrameKind.cancel (tag : Byte) (body : List Byte) : FrameKind.Statement (.cancel tag body) := ⟨rfl, by decide, fun h => of_decide_eq_true h⟩
theorem FrameKind.setDrive (tag : Byte) (body : List Byte) : FrameKind.Statement (.setDrive tag body) := ⟨rfl, by decide, fun h => of_decide_eq_true h⟩
theorem FrameKind.engage (tag : Byte) (body : List Byte) : FrameKind.Statement (.engage tag body) := ⟨rfl, by decide, fun h => of_decide_eq_true h⟩
theorem FrameKind.cut (tag : Byte) (body : List Byte) : FrameKind.Statement (.cut tag body) := ⟨rfl, by decide, fun h => of_decide_eq_true h⟩
theorem FrameKind.halt (tag : Byte) (body : List Byte) : FrameKind.Statement (.halt tag body) := ⟨rfl, by decide, fun h => of_decide_eq_true h⟩
theorem FrameKind.release (tag : Byte) (body : List Byte) : FrameKind.Statement (.release tag body) := ⟨rfl, by decide, fun h => of_decide_eq_true h⟩
theorem FrameKind.clearDrive (tag : Byte) (body : List Byte) : FrameKind.Statement (.clearDrive tag body) := ⟨rfl, by decide, fun h => of_decide_eq_true h⟩
theorem FrameKind.setRake (tag : Byte) (body : List Byte) : FrameKind.Statement (.setRake tag body) := ⟨rfl, by decide, fun h => of_decide_eq_true h⟩
theorem FrameKind.rakeNow (tag : Byte) (body : List Byte) : FrameKind.Statement (.rakeNow tag body) := ⟨rfl, by decide, fun h => of_decide_eq_true h⟩
theorem FrameKind.setFeeder (tag : Byte) (body : List Byte) : FrameKind.Statement (.setFeeder tag body) := ⟨rfl, by decide, fun h => of_decide_eq_true h⟩
theorem FrameKind.setShedding (tag : Byte) (body : List Byte) : FrameKind.Statement (.setShedding tag body) := ⟨rfl, by decide, fun h => of_decide_eq_true h⟩
theorem FrameKind.connect (tag : Byte) (body : List Byte) : FrameKind.Statement (.connect tag body) := ⟨rfl, by decide, fun h => of_decide_eq_true h⟩
theorem FrameKind.disconnect (tag : Byte) (body : List Byte) : FrameKind.Statement (.disconnect tag body) := ⟨rfl, by decide, fun h => of_decide_eq_true h⟩
theorem FrameKind.lockFeeder (tag : Byte) (body : List Byte) : FrameKind.Statement (.lockFeeder tag body) := ⟨rfl, by decide, fun h => of_decide_eq_true h⟩
theorem FrameKind.unlockFeeder (tag : Byte) (body : List Byte) : FrameKind.Statement (.unlockFeeder tag body) := ⟨rfl, by decide, fun h => of_decide_eq_true h⟩
theorem FrameKind.setClock (tag : Byte) (body : List Byte) : FrameKind.Statement (.setClock tag body) := ⟨rfl, by decide, fun h => of_decide_eq_true h⟩
theorem FrameKind.readClock (tag : Byte) (body : List Byte) : FrameKind.Statement (.readClock tag body) := ⟨rfl, by decide, fun h => of_decide_eq_true h⟩
theorem FrameKind.setTrim (tag : Byte) (body : List Byte) : FrameKind.Statement (.setTrim tag body) := ⟨rfl, by decide, fun h => of_decide_eq_true h⟩
theorem FrameKind.shiftHour (tag : Byte) (body : List Byte) : FrameKind.Statement (.shiftHour tag body) := ⟨rfl, by decide, fun h => of_decide_eq_true h⟩
theorem FrameKind.zeroTimeError (tag : Byte) (body : List Byte) : FrameKind.Statement (.zeroTimeError tag body) := ⟨rfl, by decide, fun h => of_decide_eq_true h⟩
theorem FrameKind.setCorrection (tag : Byte) (body : List Byte) : FrameKind.Statement (.setCorrection tag body) := ⟨rfl, by decide, fun h => of_decide_eq_true h⟩
theorem FrameKind.readMeter (tag : Byte) (body : List Byte) : FrameKind.Statement (.readMeter tag body) := ⟨rfl, by decide, fun h => of_decide_eq_true h⟩
theorem FrameKind.setTariff (tag : Byte) (body : List Byte) : FrameKind.Statement (.setTariff tag body) := ⟨rfl, by decide, fun h => of_decide_eq_true h⟩
theorem FrameKind.save (tag : Byte) (body : List Byte) : FrameKind.Statement (.save tag body) := ⟨rfl, by decide, fun h => of_decide_eq_true h⟩
theorem FrameKind.readJournal (tag : Byte) (body : List Byte) : FrameKind.Statement (.readJournal tag body) := ⟨rfl, by decide, fun h => of_decide_eq_true h⟩
theorem FrameKind.storeConfig (tag : Byte) (body : List Byte) : FrameKind.Statement (.storeConfig tag body) := ⟨rfl, by decide, fun h => of_decide_eq_true h⟩
theorem FrameKind.unprotect (tag : Byte) (body : List Byte) : FrameKind.Statement (.unprotect tag body) := ⟨rfl, by decide, fun h => of_decide_eq_true h⟩
theorem FrameKind.writeCommission (tag : Byte) (body : List Byte) : FrameKind.Statement (.writeCommission tag body) := ⟨rfl, by decide, fun h => of_decide_eq_true h⟩
theorem FrameKind.lockCommission (tag : Byte) (body : List Byte) : FrameKind.Statement (.lockCommission tag body) := ⟨rfl, by decide, fun h => of_decide_eq_true h⟩
theorem FrameKind.readCommission (tag : Byte) (body : List Byte) : FrameKind.Statement (.readCommission tag body) := ⟨rfl, by decide, fun h => of_decide_eq_true h⟩
theorem FrameKind.mainDomainPowerLoss : FrameKind.Statement (.mainDomainPowerLoss) := trivial

end Sys2Proof.Laws
end

