-- ==== Sys2Proof/Laws/State.lean ====
section
/-! SUPPORT. One lemma for each field of the state under each of the updates of Machine/Ops.lean, all true by unfolding, so that no
proof unfolds a record update. -/

namespace Sys2Proof.Machine

@[simp] theorem State.onSmu_smu (s : State) (g : SpeedUnit → SpeedUnit) : (s.onSmu g).smu = g s.smu := rfl
@[simp] theorem State.onSmu_gc (s : State) (g : SpeedUnit → SpeedUnit) : (s.onSmu g).gc = s.gc := rfl
@[simp] theorem State.onSmu_ss (s : State) (g : SpeedUnit → SpeedUnit) : (s.onSmu g).ss = s.ss := rfl
@[simp] theorem State.onSmu_lu (s : State) (g : SpeedUnit → SpeedUnit) : (s.onSmu g).lu = s.lu := rfl
@[simp] theorem State.onSmu_wu (s : State) (g : SpeedUnit → SpeedUnit) : (s.onSmu g).wu = s.wu := rfl
@[simp] theorem State.onSmu_da (s : State) (g : SpeedUnit → SpeedUnit) : (s.onSmu g).da = s.da := rfl
@[simp] theorem State.onSmu_ds (s : State) (g : SpeedUnit → SpeedUnit) : (s.onSmu g).ds = s.ds := rfl
@[simp] theorem State.onSmu_rk (s : State) (g : SpeedUnit → SpeedUnit) : (s.onSmu g).rk = s.rk := rfl
@[simp] theorem State.onSmu_fu (s : State) (g : SpeedUnit → SpeedUnit) : (s.onSmu g).fu = s.fu := rfl
@[simp] theorem State.onSmu_cu (s : State) (g : SpeedUnit → SpeedUnit) : (s.onSmu g).cu = s.cu := rfl
@[simp] theorem State.onSmu_mu (s : State) (g : SpeedUnit → SpeedUnit) : (s.onSmu g).mu = s.mu := rfl
@[simp] theorem State.onSmu_store (s : State) (g : SpeedUnit → SpeedUnit) : (s.onSmu g).store = s.store := rfl
@[simp] theorem State.onSmu_sl (s : State) (g : SpeedUnit → SpeedUnit) : (s.onSmu g).sl = s.sl := rfl
@[simp] theorem State.onSmu_powered (s : State) (g : SpeedUnit → SpeedUnit) : (s.onSmu g).powered = s.powered := rfl
@[simp] theorem State.onSmu_choices (s : State) (g : SpeedUnit → SpeedUnit) : (s.onSmu g).choices = s.choices := rfl
@[simp] theorem State.onSmu_pending (s : State) (g : SpeedUnit → SpeedUnit) : (s.onSmu g).pending = s.pending := rfl

@[simp] theorem State.onGc_smu (s : State) (g : GateController → GateController) : (s.onGc g).smu = s.smu := rfl
@[simp] theorem State.onGc_gc (s : State) (g : GateController → GateController) : (s.onGc g).gc = g s.gc := rfl
@[simp] theorem State.onGc_ss (s : State) (g : GateController → GateController) : (s.onGc g).ss = s.ss := rfl
@[simp] theorem State.onGc_lu (s : State) (g : GateController → GateController) : (s.onGc g).lu = s.lu := rfl
@[simp] theorem State.onGc_wu (s : State) (g : GateController → GateController) : (s.onGc g).wu = s.wu := rfl
@[simp] theorem State.onGc_da (s : State) (g : GateController → GateController) : (s.onGc g).da = s.da := rfl
@[simp] theorem State.onGc_ds (s : State) (g : GateController → GateController) : (s.onGc g).ds = s.ds := rfl
@[simp] theorem State.onGc_rk (s : State) (g : GateController → GateController) : (s.onGc g).rk = s.rk := rfl
@[simp] theorem State.onGc_fu (s : State) (g : GateController → GateController) : (s.onGc g).fu = s.fu := rfl
@[simp] theorem State.onGc_cu (s : State) (g : GateController → GateController) : (s.onGc g).cu = s.cu := rfl
@[simp] theorem State.onGc_mu (s : State) (g : GateController → GateController) : (s.onGc g).mu = s.mu := rfl
@[simp] theorem State.onGc_store (s : State) (g : GateController → GateController) : (s.onGc g).store = s.store := rfl
@[simp] theorem State.onGc_sl (s : State) (g : GateController → GateController) : (s.onGc g).sl = s.sl := rfl
@[simp] theorem State.onGc_powered (s : State) (g : GateController → GateController) : (s.onGc g).powered = s.powered := rfl
@[simp] theorem State.onGc_choices (s : State) (g : GateController → GateController) : (s.onGc g).choices = s.choices := rfl
@[simp] theorem State.onGc_pending (s : State) (g : GateController → GateController) : (s.onGc g).pending = s.pending := rfl

@[simp] theorem State.onSs_smu (s : State) (g : Sequencer → Sequencer) : (s.onSs g).smu = s.smu := rfl
@[simp] theorem State.onSs_gc (s : State) (g : Sequencer → Sequencer) : (s.onSs g).gc = s.gc := rfl
@[simp] theorem State.onSs_ss (s : State) (g : Sequencer → Sequencer) : (s.onSs g).ss = g s.ss := rfl
@[simp] theorem State.onSs_lu (s : State) (g : Sequencer → Sequencer) : (s.onSs g).lu = s.lu := rfl
@[simp] theorem State.onSs_wu (s : State) (g : Sequencer → Sequencer) : (s.onSs g).wu = s.wu := rfl
@[simp] theorem State.onSs_da (s : State) (g : Sequencer → Sequencer) : (s.onSs g).da = s.da := rfl
@[simp] theorem State.onSs_ds (s : State) (g : Sequencer → Sequencer) : (s.onSs g).ds = s.ds := rfl
@[simp] theorem State.onSs_rk (s : State) (g : Sequencer → Sequencer) : (s.onSs g).rk = s.rk := rfl
@[simp] theorem State.onSs_fu (s : State) (g : Sequencer → Sequencer) : (s.onSs g).fu = s.fu := rfl
@[simp] theorem State.onSs_cu (s : State) (g : Sequencer → Sequencer) : (s.onSs g).cu = s.cu := rfl
@[simp] theorem State.onSs_mu (s : State) (g : Sequencer → Sequencer) : (s.onSs g).mu = s.mu := rfl
@[simp] theorem State.onSs_store (s : State) (g : Sequencer → Sequencer) : (s.onSs g).store = s.store := rfl
@[simp] theorem State.onSs_sl (s : State) (g : Sequencer → Sequencer) : (s.onSs g).sl = s.sl := rfl
@[simp] theorem State.onSs_powered (s : State) (g : Sequencer → Sequencer) : (s.onSs g).powered = s.powered := rfl
@[simp] theorem State.onSs_choices (s : State) (g : Sequencer → Sequencer) : (s.onSs g).choices = s.choices := rfl
@[simp] theorem State.onSs_pending (s : State) (g : Sequencer → Sequencer) : (s.onSs g).pending = s.pending := rfl

@[simp] theorem State.onLu_smu (s : State) (g : LevelUnit → LevelUnit) : (s.onLu g).smu = s.smu := rfl
@[simp] theorem State.onLu_gc (s : State) (g : LevelUnit → LevelUnit) : (s.onLu g).gc = s.gc := rfl
@[simp] theorem State.onLu_ss (s : State) (g : LevelUnit → LevelUnit) : (s.onLu g).ss = s.ss := rfl
@[simp] theorem State.onLu_lu (s : State) (g : LevelUnit → LevelUnit) : (s.onLu g).lu = g s.lu := rfl
@[simp] theorem State.onLu_wu (s : State) (g : LevelUnit → LevelUnit) : (s.onLu g).wu = s.wu := rfl
@[simp] theorem State.onLu_da (s : State) (g : LevelUnit → LevelUnit) : (s.onLu g).da = s.da := rfl
@[simp] theorem State.onLu_ds (s : State) (g : LevelUnit → LevelUnit) : (s.onLu g).ds = s.ds := rfl
@[simp] theorem State.onLu_rk (s : State) (g : LevelUnit → LevelUnit) : (s.onLu g).rk = s.rk := rfl
@[simp] theorem State.onLu_fu (s : State) (g : LevelUnit → LevelUnit) : (s.onLu g).fu = s.fu := rfl
@[simp] theorem State.onLu_cu (s : State) (g : LevelUnit → LevelUnit) : (s.onLu g).cu = s.cu := rfl
@[simp] theorem State.onLu_mu (s : State) (g : LevelUnit → LevelUnit) : (s.onLu g).mu = s.mu := rfl
@[simp] theorem State.onLu_store (s : State) (g : LevelUnit → LevelUnit) : (s.onLu g).store = s.store := rfl
@[simp] theorem State.onLu_sl (s : State) (g : LevelUnit → LevelUnit) : (s.onLu g).sl = s.sl := rfl
@[simp] theorem State.onLu_powered (s : State) (g : LevelUnit → LevelUnit) : (s.onLu g).powered = s.powered := rfl
@[simp] theorem State.onLu_choices (s : State) (g : LevelUnit → LevelUnit) : (s.onLu g).choices = s.choices := rfl
@[simp] theorem State.onLu_pending (s : State) (g : LevelUnit → LevelUnit) : (s.onLu g).pending = s.pending := rfl

@[simp] theorem State.onWu_smu (s : State) (g : WatchUnit → WatchUnit) : (s.onWu g).smu = s.smu := rfl
@[simp] theorem State.onWu_gc (s : State) (g : WatchUnit → WatchUnit) : (s.onWu g).gc = s.gc := rfl
@[simp] theorem State.onWu_ss (s : State) (g : WatchUnit → WatchUnit) : (s.onWu g).ss = s.ss := rfl
@[simp] theorem State.onWu_lu (s : State) (g : WatchUnit → WatchUnit) : (s.onWu g).lu = s.lu := rfl
@[simp] theorem State.onWu_wu (s : State) (g : WatchUnit → WatchUnit) : (s.onWu g).wu = g s.wu := rfl
@[simp] theorem State.onWu_da (s : State) (g : WatchUnit → WatchUnit) : (s.onWu g).da = s.da := rfl
@[simp] theorem State.onWu_ds (s : State) (g : WatchUnit → WatchUnit) : (s.onWu g).ds = s.ds := rfl
@[simp] theorem State.onWu_rk (s : State) (g : WatchUnit → WatchUnit) : (s.onWu g).rk = s.rk := rfl
@[simp] theorem State.onWu_fu (s : State) (g : WatchUnit → WatchUnit) : (s.onWu g).fu = s.fu := rfl
@[simp] theorem State.onWu_cu (s : State) (g : WatchUnit → WatchUnit) : (s.onWu g).cu = s.cu := rfl
@[simp] theorem State.onWu_mu (s : State) (g : WatchUnit → WatchUnit) : (s.onWu g).mu = s.mu := rfl
@[simp] theorem State.onWu_store (s : State) (g : WatchUnit → WatchUnit) : (s.onWu g).store = s.store := rfl
@[simp] theorem State.onWu_sl (s : State) (g : WatchUnit → WatchUnit) : (s.onWu g).sl = s.sl := rfl
@[simp] theorem State.onWu_powered (s : State) (g : WatchUnit → WatchUnit) : (s.onWu g).powered = s.powered := rfl
@[simp] theorem State.onWu_choices (s : State) (g : WatchUnit → WatchUnit) : (s.onWu g).choices = s.choices := rfl
@[simp] theorem State.onWu_pending (s : State) (g : WatchUnit → WatchUnit) : (s.onWu g).pending = s.pending := rfl

@[simp] theorem State.onDa_smu (s : State) (g : Arbiter → Arbiter) : (s.onDa g).smu = s.smu := rfl
@[simp] theorem State.onDa_gc (s : State) (g : Arbiter → Arbiter) : (s.onDa g).gc = s.gc := rfl
@[simp] theorem State.onDa_ss (s : State) (g : Arbiter → Arbiter) : (s.onDa g).ss = s.ss := rfl
@[simp] theorem State.onDa_lu (s : State) (g : Arbiter → Arbiter) : (s.onDa g).lu = s.lu := rfl
@[simp] theorem State.onDa_wu (s : State) (g : Arbiter → Arbiter) : (s.onDa g).wu = s.wu := rfl
@[simp] theorem State.onDa_da (s : State) (g : Arbiter → Arbiter) : (s.onDa g).da = g s.da := rfl
@[simp] theorem State.onDa_ds (s : State) (g : Arbiter → Arbiter) : (s.onDa g).ds = s.ds := rfl
@[simp] theorem State.onDa_rk (s : State) (g : Arbiter → Arbiter) : (s.onDa g).rk = s.rk := rfl
@[simp] theorem State.onDa_fu (s : State) (g : Arbiter → Arbiter) : (s.onDa g).fu = s.fu := rfl
@[simp] theorem State.onDa_cu (s : State) (g : Arbiter → Arbiter) : (s.onDa g).cu = s.cu := rfl
@[simp] theorem State.onDa_mu (s : State) (g : Arbiter → Arbiter) : (s.onDa g).mu = s.mu := rfl
@[simp] theorem State.onDa_store (s : State) (g : Arbiter → Arbiter) : (s.onDa g).store = s.store := rfl
@[simp] theorem State.onDa_sl (s : State) (g : Arbiter → Arbiter) : (s.onDa g).sl = s.sl := rfl
@[simp] theorem State.onDa_powered (s : State) (g : Arbiter → Arbiter) : (s.onDa g).powered = s.powered := rfl
@[simp] theorem State.onDa_choices (s : State) (g : Arbiter → Arbiter) : (s.onDa g).choices = s.choices := rfl
@[simp] theorem State.onDa_pending (s : State) (g : Arbiter → Arbiter) : (s.onDa g).pending = s.pending := rfl

@[simp] theorem State.onDs_smu (s : State) (g : DriveScheduler → DriveScheduler) : (s.onDs g).smu = s.smu := rfl
@[simp] theorem State.onDs_gc (s : State) (g : DriveScheduler → DriveScheduler) : (s.onDs g).gc = s.gc := rfl
@[simp] theorem State.onDs_ss (s : State) (g : DriveScheduler → DriveScheduler) : (s.onDs g).ss = s.ss := rfl
@[simp] theorem State.onDs_lu (s : State) (g : DriveScheduler → DriveScheduler) : (s.onDs g).lu = s.lu := rfl
@[simp] theorem State.onDs_wu (s : State) (g : DriveScheduler → DriveScheduler) : (s.onDs g).wu = s.wu := rfl
@[simp] theorem State.onDs_da (s : State) (g : DriveScheduler → DriveScheduler) : (s.onDs g).da = s.da := rfl
@[simp] theorem State.onDs_ds (s : State) (g : DriveScheduler → DriveScheduler) : (s.onDs g).ds = g s.ds := rfl
@[simp] theorem State.onDs_rk (s : State) (g : DriveScheduler → DriveScheduler) : (s.onDs g).rk = s.rk := rfl
@[simp] theorem State.onDs_fu (s : State) (g : DriveScheduler → DriveScheduler) : (s.onDs g).fu = s.fu := rfl
@[simp] theorem State.onDs_cu (s : State) (g : DriveScheduler → DriveScheduler) : (s.onDs g).cu = s.cu := rfl
@[simp] theorem State.onDs_mu (s : State) (g : DriveScheduler → DriveScheduler) : (s.onDs g).mu = s.mu := rfl
@[simp] theorem State.onDs_store (s : State) (g : DriveScheduler → DriveScheduler) : (s.onDs g).store = s.store := rfl
@[simp] theorem State.onDs_sl (s : State) (g : DriveScheduler → DriveScheduler) : (s.onDs g).sl = s.sl := rfl
@[simp] theorem State.onDs_powered (s : State) (g : DriveScheduler → DriveScheduler) : (s.onDs g).powered = s.powered := rfl
@[simp] theorem State.onDs_choices (s : State) (g : DriveScheduler → DriveScheduler) : (s.onDs g).choices = s.choices := rfl
@[simp] theorem State.onDs_pending (s : State) (g : DriveScheduler → DriveScheduler) : (s.onDs g).pending = s.pending := rfl

@[simp] theorem State.onRk_smu (s : State) (g : RakeUnit → RakeUnit) : (s.onRk g).smu = s.smu := rfl
@[simp] theorem State.onRk_gc (s : State) (g : RakeUnit → RakeUnit) : (s.onRk g).gc = s.gc := rfl
@[simp] theorem State.onRk_ss (s : State) (g : RakeUnit → RakeUnit) : (s.onRk g).ss = s.ss := rfl
@[simp] theorem State.onRk_lu (s : State) (g : RakeUnit → RakeUnit) : (s.onRk g).lu = s.lu := rfl
@[simp] theorem State.onRk_wu (s : State) (g : RakeUnit → RakeUnit) : (s.onRk g).wu = s.wu := rfl
@[simp] theorem State.onRk_da (s : State) (g : RakeUnit → RakeUnit) : (s.onRk g).da = s.da := rfl
@[simp] theorem State.onRk_ds (s : State) (g : RakeUnit → RakeUnit) : (s.onRk g).ds = s.ds := rfl
@[simp] theorem State.onRk_rk (s : State) (g : RakeUnit → RakeUnit) : (s.onRk g).rk = g s.rk := rfl
@[simp] theorem State.onRk_fu (s : State) (g : RakeUnit → RakeUnit) : (s.onRk g).fu = s.fu := rfl
@[simp] theorem State.onRk_cu (s : State) (g : RakeUnit → RakeUnit) : (s.onRk g).cu = s.cu := rfl
@[simp] theorem State.onRk_mu (s : State) (g : RakeUnit → RakeUnit) : (s.onRk g).mu = s.mu := rfl
@[simp] theorem State.onRk_store (s : State) (g : RakeUnit → RakeUnit) : (s.onRk g).store = s.store := rfl
@[simp] theorem State.onRk_sl (s : State) (g : RakeUnit → RakeUnit) : (s.onRk g).sl = s.sl := rfl
@[simp] theorem State.onRk_powered (s : State) (g : RakeUnit → RakeUnit) : (s.onRk g).powered = s.powered := rfl
@[simp] theorem State.onRk_choices (s : State) (g : RakeUnit → RakeUnit) : (s.onRk g).choices = s.choices := rfl
@[simp] theorem State.onRk_pending (s : State) (g : RakeUnit → RakeUnit) : (s.onRk g).pending = s.pending := rfl

@[simp] theorem State.onFu_smu (s : State) (g : FeederUnit → FeederUnit) : (s.onFu g).smu = s.smu := rfl
@[simp] theorem State.onFu_gc (s : State) (g : FeederUnit → FeederUnit) : (s.onFu g).gc = s.gc := rfl
@[simp] theorem State.onFu_ss (s : State) (g : FeederUnit → FeederUnit) : (s.onFu g).ss = s.ss := rfl
@[simp] theorem State.onFu_lu (s : State) (g : FeederUnit → FeederUnit) : (s.onFu g).lu = s.lu := rfl
@[simp] theorem State.onFu_wu (s : State) (g : FeederUnit → FeederUnit) : (s.onFu g).wu = s.wu := rfl
@[simp] theorem State.onFu_da (s : State) (g : FeederUnit → FeederUnit) : (s.onFu g).da = s.da := rfl
@[simp] theorem State.onFu_ds (s : State) (g : FeederUnit → FeederUnit) : (s.onFu g).ds = s.ds := rfl
@[simp] theorem State.onFu_rk (s : State) (g : FeederUnit → FeederUnit) : (s.onFu g).rk = s.rk := rfl
@[simp] theorem State.onFu_fu (s : State) (g : FeederUnit → FeederUnit) : (s.onFu g).fu = g s.fu := rfl
@[simp] theorem State.onFu_cu (s : State) (g : FeederUnit → FeederUnit) : (s.onFu g).cu = s.cu := rfl
@[simp] theorem State.onFu_mu (s : State) (g : FeederUnit → FeederUnit) : (s.onFu g).mu = s.mu := rfl
@[simp] theorem State.onFu_store (s : State) (g : FeederUnit → FeederUnit) : (s.onFu g).store = s.store := rfl
@[simp] theorem State.onFu_sl (s : State) (g : FeederUnit → FeederUnit) : (s.onFu g).sl = s.sl := rfl
@[simp] theorem State.onFu_powered (s : State) (g : FeederUnit → FeederUnit) : (s.onFu g).powered = s.powered := rfl
@[simp] theorem State.onFu_choices (s : State) (g : FeederUnit → FeederUnit) : (s.onFu g).choices = s.choices := rfl
@[simp] theorem State.onFu_pending (s : State) (g : FeederUnit → FeederUnit) : (s.onFu g).pending = s.pending := rfl

@[simp] theorem State.onCu_smu (s : State) (g : CalendarUnit → CalendarUnit) : (s.onCu g).smu = s.smu := rfl
@[simp] theorem State.onCu_gc (s : State) (g : CalendarUnit → CalendarUnit) : (s.onCu g).gc = s.gc := rfl
@[simp] theorem State.onCu_ss (s : State) (g : CalendarUnit → CalendarUnit) : (s.onCu g).ss = s.ss := rfl
@[simp] theorem State.onCu_lu (s : State) (g : CalendarUnit → CalendarUnit) : (s.onCu g).lu = s.lu := rfl
@[simp] theorem State.onCu_wu (s : State) (g : CalendarUnit → CalendarUnit) : (s.onCu g).wu = s.wu := rfl
@[simp] theorem State.onCu_da (s : State) (g : CalendarUnit → CalendarUnit) : (s.onCu g).da = s.da := rfl
@[simp] theorem State.onCu_ds (s : State) (g : CalendarUnit → CalendarUnit) : (s.onCu g).ds = s.ds := rfl
@[simp] theorem State.onCu_rk (s : State) (g : CalendarUnit → CalendarUnit) : (s.onCu g).rk = s.rk := rfl
@[simp] theorem State.onCu_fu (s : State) (g : CalendarUnit → CalendarUnit) : (s.onCu g).fu = s.fu := rfl
@[simp] theorem State.onCu_cu (s : State) (g : CalendarUnit → CalendarUnit) : (s.onCu g).cu = g s.cu := rfl
@[simp] theorem State.onCu_mu (s : State) (g : CalendarUnit → CalendarUnit) : (s.onCu g).mu = s.mu := rfl
@[simp] theorem State.onCu_store (s : State) (g : CalendarUnit → CalendarUnit) : (s.onCu g).store = s.store := rfl
@[simp] theorem State.onCu_sl (s : State) (g : CalendarUnit → CalendarUnit) : (s.onCu g).sl = s.sl := rfl
@[simp] theorem State.onCu_powered (s : State) (g : CalendarUnit → CalendarUnit) : (s.onCu g).powered = s.powered := rfl
@[simp] theorem State.onCu_choices (s : State) (g : CalendarUnit → CalendarUnit) : (s.onCu g).choices = s.choices := rfl
@[simp] theorem State.onCu_pending (s : State) (g : CalendarUnit → CalendarUnit) : (s.onCu g).pending = s.pending := rfl

@[simp] theorem State.onMu_smu (s : State) (g : MeteringUnit → MeteringUnit) : (s.onMu g).smu = s.smu := rfl
@[simp] theorem State.onMu_gc (s : State) (g : MeteringUnit → MeteringUnit) : (s.onMu g).gc = s.gc := rfl
@[simp] theorem State.onMu_ss (s : State) (g : MeteringUnit → MeteringUnit) : (s.onMu g).ss = s.ss := rfl
@[simp] theorem State.onMu_lu (s : State) (g : MeteringUnit → MeteringUnit) : (s.onMu g).lu = s.lu := rfl
@[simp] theorem State.onMu_wu (s : State) (g : MeteringUnit → MeteringUnit) : (s.onMu g).wu = s.wu := rfl
@[simp] theorem State.onMu_da (s : State) (g : MeteringUnit → MeteringUnit) : (s.onMu g).da = s.da := rfl
@[simp] theorem State.onMu_ds (s : State) (g : MeteringUnit → MeteringUnit) : (s.onMu g).ds = s.ds := rfl
@[simp] theorem State.onMu_rk (s : State) (g : MeteringUnit → MeteringUnit) : (s.onMu g).rk = s.rk := rfl
@[simp] theorem State.onMu_fu (s : State) (g : MeteringUnit → MeteringUnit) : (s.onMu g).fu = s.fu := rfl
@[simp] theorem State.onMu_cu (s : State) (g : MeteringUnit → MeteringUnit) : (s.onMu g).cu = s.cu := rfl
@[simp] theorem State.onMu_mu (s : State) (g : MeteringUnit → MeteringUnit) : (s.onMu g).mu = g s.mu := rfl
@[simp] theorem State.onMu_store (s : State) (g : MeteringUnit → MeteringUnit) : (s.onMu g).store = s.store := rfl
@[simp] theorem State.onMu_sl (s : State) (g : MeteringUnit → MeteringUnit) : (s.onMu g).sl = s.sl := rfl
@[simp] theorem State.onMu_powered (s : State) (g : MeteringUnit → MeteringUnit) : (s.onMu g).powered = s.powered := rfl
@[simp] theorem State.onMu_choices (s : State) (g : MeteringUnit → MeteringUnit) : (s.onMu g).choices = s.choices := rfl
@[simp] theorem State.onMu_pending (s : State) (g : MeteringUnit → MeteringUnit) : (s.onMu g).pending = s.pending := rfl

@[simp] theorem State.onStore_smu (s : State) (g : AccountStore → AccountStore) : (s.onStore g).smu = s.smu := rfl
@[simp] theorem State.onStore_gc (s : State) (g : AccountStore → AccountStore) : (s.onStore g).gc = s.gc := rfl
@[simp] theorem State.onStore_ss (s : State) (g : AccountStore → AccountStore) : (s.onStore g).ss = s.ss := rfl
@[simp] theorem State.onStore_lu (s : State) (g : AccountStore → AccountStore) : (s.onStore g).lu = s.lu := rfl
@[simp] theorem State.onStore_wu (s : State) (g : AccountStore → AccountStore) : (s.onStore g).wu = s.wu := rfl
@[simp] theorem State.onStore_da (s : State) (g : AccountStore → AccountStore) : (s.onStore g).da = s.da := rfl
@[simp] theorem State.onStore_ds (s : State) (g : AccountStore → AccountStore) : (s.onStore g).ds = s.ds := rfl
@[simp] theorem State.onStore_rk (s : State) (g : AccountStore → AccountStore) : (s.onStore g).rk = s.rk := rfl
@[simp] theorem State.onStore_fu (s : State) (g : AccountStore → AccountStore) : (s.onStore g).fu = s.fu := rfl
@[simp] theorem State.onStore_cu (s : State) (g : AccountStore → AccountStore) : (s.onStore g).cu = s.cu := rfl
@[simp] theorem State.onStore_mu (s : State) (g : AccountStore → AccountStore) : (s.onStore g).mu = s.mu := rfl
@[simp] theorem State.onStore_store (s : State) (g : AccountStore → AccountStore) : (s.onStore g).store = g s.store := rfl
@[simp] theorem State.onStore_sl (s : State) (g : AccountStore → AccountStore) : (s.onStore g).sl = s.sl := rfl
@[simp] theorem State.onStore_powered (s : State) (g : AccountStore → AccountStore) : (s.onStore g).powered = s.powered := rfl
@[simp] theorem State.onStore_choices (s : State) (g : AccountStore → AccountStore) : (s.onStore g).choices = s.choices := rfl
@[simp] theorem State.onStore_pending (s : State) (g : AccountStore → AccountStore) : (s.onStore g).pending = s.pending := rfl

@[simp] theorem State.onSl_smu (s : State) (g : StationLink → StationLink) : (s.onSl g).smu = s.smu := rfl
@[simp] theorem State.onSl_gc (s : State) (g : StationLink → StationLink) : (s.onSl g).gc = s.gc := rfl
@[simp] theorem State.onSl_ss (s : State) (g : StationLink → StationLink) : (s.onSl g).ss = s.ss := rfl
@[simp] theorem State.onSl_lu (s : State) (g : StationLink → StationLink) : (s.onSl g).lu = s.lu := rfl
@[simp] theorem State.onSl_wu (s : State) (g : StationLink → StationLink) : (s.onSl g).wu = s.wu := rfl
@[simp] theorem State.onSl_da (s : State) (g : StationLink → StationLink) : (s.onSl g).da = s.da := rfl
@[simp] theorem State.onSl_ds (s : State) (g : StationLink → StationLink) : (s.onSl g).ds = s.ds := rfl
@[simp] theorem State.onSl_rk (s : State) (g : StationLink → StationLink) : (s.onSl g).rk = s.rk := rfl
@[simp] theorem State.onSl_fu (s : State) (g : StationLink → StationLink) : (s.onSl g).fu = s.fu := rfl
@[simp] theorem State.onSl_cu (s : State) (g : StationLink → StationLink) : (s.onSl g).cu = s.cu := rfl
@[simp] theorem State.onSl_mu (s : State) (g : StationLink → StationLink) : (s.onSl g).mu = s.mu := rfl
@[simp] theorem State.onSl_store (s : State) (g : StationLink → StationLink) : (s.onSl g).store = s.store := rfl
@[simp] theorem State.onSl_sl (s : State) (g : StationLink → StationLink) : (s.onSl g).sl = g s.sl := rfl
@[simp] theorem State.onSl_powered (s : State) (g : StationLink → StationLink) : (s.onSl g).powered = s.powered := rfl
@[simp] theorem State.onSl_choices (s : State) (g : StationLink → StationLink) : (s.onSl g).choices = s.choices := rfl
@[simp] theorem State.onSl_pending (s : State) (g : StationLink → StationLink) : (s.onSl g).pending = s.pending := rfl

@[simp] theorem State.nextChoice_smu (s : State) : s.nextChoice.smu = s.smu := rfl
@[simp] theorem State.nextChoice_gc (s : State) : s.nextChoice.gc = s.gc := rfl
@[simp] theorem State.nextChoice_ss (s : State) : s.nextChoice.ss = s.ss := rfl
@[simp] theorem State.nextChoice_lu (s : State) : s.nextChoice.lu = s.lu := rfl
@[simp] theorem State.nextChoice_wu (s : State) : s.nextChoice.wu = s.wu := rfl
@[simp] theorem State.nextChoice_da (s : State) : s.nextChoice.da = s.da := rfl
@[simp] theorem State.nextChoice_ds (s : State) : s.nextChoice.ds = s.ds := rfl
@[simp] theorem State.nextChoice_rk (s : State) : s.nextChoice.rk = s.rk := rfl
@[simp] theorem State.nextChoice_fu (s : State) : s.nextChoice.fu = s.fu := rfl
@[simp] theorem State.nextChoice_cu (s : State) : s.nextChoice.cu = s.cu := rfl
@[simp] theorem State.nextChoice_mu (s : State) : s.nextChoice.mu = s.mu := rfl
@[simp] theorem State.nextChoice_store (s : State) : s.nextChoice.store = s.store := rfl
@[simp] theorem State.nextChoice_sl (s : State) : s.nextChoice.sl = s.sl := rfl
@[simp] theorem State.nextChoice_powered (s : State) : s.nextChoice.powered = s.powered := rfl
@[simp] theorem State.nextChoice_choices (s : State) : s.nextChoice.choices = s.choices + 1 := rfl
@[simp] theorem State.nextChoice_pending (s : State) : s.nextChoice.pending = s.pending := rfl

@[simp] theorem State.setPowered_smu (s : State) (b : Bool) : (s.setPowered b).smu = s.smu := rfl
@[simp] theorem State.setPowered_gc (s : State) (b : Bool) : (s.setPowered b).gc = s.gc := rfl
@[simp] theorem State.setPowered_ss (s : State) (b : Bool) : (s.setPowered b).ss = s.ss := rfl
@[simp] theorem State.setPowered_lu (s : State) (b : Bool) : (s.setPowered b).lu = s.lu := rfl
@[simp] theorem State.setPowered_wu (s : State) (b : Bool) : (s.setPowered b).wu = s.wu := rfl
@[simp] theorem State.setPowered_da (s : State) (b : Bool) : (s.setPowered b).da = s.da := rfl
@[simp] theorem State.setPowered_ds (s : State) (b : Bool) : (s.setPowered b).ds = s.ds := rfl
@[simp] theorem State.setPowered_rk (s : State) (b : Bool) : (s.setPowered b).rk = s.rk := rfl
@[simp] theorem State.setPowered_fu (s : State) (b : Bool) : (s.setPowered b).fu = s.fu := rfl
@[simp] theorem State.setPowered_cu (s : State) (b : Bool) : (s.setPowered b).cu = s.cu := rfl
@[simp] theorem State.setPowered_mu (s : State) (b : Bool) : (s.setPowered b).mu = s.mu := rfl
@[simp] theorem State.setPowered_store (s : State) (b : Bool) : (s.setPowered b).store = s.store := rfl
@[simp] theorem State.setPowered_sl (s : State) (b : Bool) : (s.setPowered b).sl = s.sl := rfl
@[simp] theorem State.setPowered_powered (s : State) (b : Bool) : (s.setPowered b).powered = b := rfl
@[simp] theorem State.setPowered_choices (s : State) (b : Bool) : (s.setPowered b).choices = s.choices := rfl
@[simp] theorem State.setPowered_pending (s : State) (b : Bool) : (s.setPowered b).pending = s.pending := rfl

@[simp] theorem State.onSlot_smu (s : State) (i : Fin 4) (g : Slot → Slot) : (s.onSlot i g).smu = s.smu := rfl
@[simp] theorem State.onSlot_gc (s : State) (i : Fin 4) (g : Slot → Slot) : (s.onSlot i g).gc = s.gc := rfl
@[simp] theorem State.onSlot_ss (s : State) (i : Fin 4) (g : Slot → Slot) : (s.onSlot i g).ss = s.ss := rfl
@[simp] theorem State.onSlot_lu (s : State) (i : Fin 4) (g : Slot → Slot) : (s.onSlot i g).lu = s.lu := rfl
@[simp] theorem State.onSlot_wu (s : State) (i : Fin 4) (g : Slot → Slot) : (s.onSlot i g).wu = s.wu := rfl
@[simp] theorem State.onSlot_da (s : State) (i : Fin 4) (g : Slot → Slot) : (s.onSlot i g).da = s.da := rfl
@[simp] theorem State.onSlot_rk (s : State) (i : Fin 4) (g : Slot → Slot) : (s.onSlot i g).rk = s.rk := rfl
@[simp] theorem State.onSlot_fu (s : State) (i : Fin 4) (g : Slot → Slot) : (s.onSlot i g).fu = s.fu := rfl
@[simp] theorem State.onSlot_cu (s : State) (i : Fin 4) (g : Slot → Slot) : (s.onSlot i g).cu = s.cu := rfl
@[simp] theorem State.onSlot_mu (s : State) (i : Fin 4) (g : Slot → Slot) : (s.onSlot i g).mu = s.mu := rfl
@[simp] theorem State.onSlot_store (s : State) (i : Fin 4) (g : Slot → Slot) : (s.onSlot i g).store = s.store := rfl
@[simp] theorem State.onSlot_sl (s : State) (i : Fin 4) (g : Slot → Slot) : (s.onSlot i g).sl = s.sl := rfl
@[simp] theorem State.onSlot_powered (s : State) (i : Fin 4) (g : Slot → Slot) : (s.onSlot i g).powered = s.powered := rfl
@[simp] theorem State.onSlot_choices (s : State) (i : Fin 4) (g : Slot → Slot) : (s.onSlot i g).choices = s.choices := rfl
@[simp] theorem State.onSlot_pending (s : State) (i : Fin 4) (g : Slot → Slot) : (s.onSlot i g).pending = s.pending := rfl
@[simp] theorem State.onSlot_slot (s : State) (i j : Fin 4) (g : Slot → Slot) :
    (s.onSlot i g).slot j = if i = j then g (s.slot i) else s.slot j := by
  by_cases h : i = j
  · subst h; simp [State.onSlot, State.slot]
  · have h' : (i : Nat) ≠ j := fun e => h (Fin.ext e)
    simp [State.onSlot, State.slot, h, h']

@[simp] theorem State.onFeeder_smu (s : State) (i : Fin 12) (g : Feeder → Feeder) : (s.onFeeder i g).smu = s.smu := rfl
@[simp] theorem State.onFeeder_gc (s : State) (i : Fin 12) (g : Feeder → Feeder) : (s.onFeeder i g).gc = s.gc := rfl
@[simp] theorem State.onFeeder_ss (s : State) (i : Fin 12) (g : Feeder → Feeder) : (s.onFeeder i g).ss = s.ss := rfl
@[simp] theorem State.onFeeder_lu (s : State) (i : Fin 12) (g : Feeder → Feeder) : (s.onFeeder i g).lu = s.lu := rfl
@[simp] theorem State.onFeeder_wu (s : State) (i : Fin 12) (g : Feeder → Feeder) : (s.onFeeder i g).wu = s.wu := rfl
@[simp] theorem State.onFeeder_da (s : State) (i : Fin 12) (g : Feeder → Feeder) : (s.onFeeder i g).da = s.da := rfl
@[simp] theorem State.onFeeder_ds (s : State) (i : Fin 12) (g : Feeder → Feeder) : (s.onFeeder i g).ds = s.ds := rfl
@[simp] theorem State.onFeeder_rk (s : State) (i : Fin 12) (g : Feeder → Feeder) : (s.onFeeder i g).rk = s.rk := rfl
@[simp] theorem State.onFeeder_cu (s : State) (i : Fin 12) (g : Feeder → Feeder) : (s.onFeeder i g).cu = s.cu := rfl
@[simp] theorem State.onFeeder_mu (s : State) (i : Fin 12) (g : Feeder → Feeder) : (s.onFeeder i g).mu = s.mu := rfl
@[simp] theorem State.onFeeder_store (s : State) (i : Fin 12) (g : Feeder → Feeder) : (s.onFeeder i g).store = s.store := rfl
@[simp] theorem State.onFeeder_sl (s : State) (i : Fin 12) (g : Feeder → Feeder) : (s.onFeeder i g).sl = s.sl := rfl
@[simp] theorem State.onFeeder_powered (s : State) (i : Fin 12) (g : Feeder → Feeder) : (s.onFeeder i g).powered = s.powered := rfl
@[simp] theorem State.onFeeder_choices (s : State) (i : Fin 12) (g : Feeder → Feeder) : (s.onFeeder i g).choices = s.choices := rfl
@[simp] theorem State.onFeeder_pending (s : State) (i : Fin 12) (g : Feeder → Feeder) : (s.onFeeder i g).pending = s.pending := rfl
@[simp] theorem State.onFeeder_feeder (s : State) (i j : Fin 12) (g : Feeder → Feeder) :
    (s.onFeeder i g).feeder j = if i = j then g (s.feeder i) else s.feeder j := by
  by_cases h : i = j
  · subst h; simp [State.onFeeder, State.feeder]
  · have h' : (i : Nat) ≠ j := fun e => h (Fin.ext e)
    simp [State.onFeeder, State.feeder, h, h']

@[simp] theorem State.onStage_smu (s : State) (i : Fin 3) (g : Stage → Stage) : (s.onStage i g).smu = s.smu := rfl
@[simp] theorem State.onStage_gc (s : State) (i : Fin 3) (g : Stage → Stage) : (s.onStage i g).gc = s.gc := rfl
@[simp] theorem State.onStage_ss (s : State) (i : Fin 3) (g : Stage → Stage) : (s.onStage i g).ss = s.ss := rfl
@[simp] theorem State.onStage_lu (s : State) (i : Fin 3) (g : Stage → Stage) : (s.onStage i g).lu = s.lu := rfl
@[simp] theorem State.onStage_wu (s : State) (i : Fin 3) (g : Stage → Stage) : (s.onStage i g).wu = s.wu := rfl
@[simp] theorem State.onStage_da (s : State) (i : Fin 3) (g : Stage → Stage) : (s.onStage i g).da = s.da := rfl
@[simp] theorem State.onStage_ds (s : State) (i : Fin 3) (g : Stage → Stage) : (s.onStage i g).ds = s.ds := rfl
@[simp] theorem State.onStage_rk (s : State) (i : Fin 3) (g : Stage → Stage) : (s.onStage i g).rk = s.rk := rfl
@[simp] theorem State.onStage_cu (s : State) (i : Fin 3) (g : Stage → Stage) : (s.onStage i g).cu = s.cu := rfl
@[simp] theorem State.onStage_mu (s : State) (i : Fin 3) (g : Stage → Stage) : (s.onStage i g).mu = s.mu := rfl
@[simp] theorem State.onStage_store (s : State) (i : Fin 3) (g : Stage → Stage) : (s.onStage i g).store = s.store := rfl
@[simp] theorem State.onStage_sl (s : State) (i : Fin 3) (g : Stage → Stage) : (s.onStage i g).sl = s.sl := rfl
@[simp] theorem State.onStage_powered (s : State) (i : Fin 3) (g : Stage → Stage) : (s.onStage i g).powered = s.powered := rfl
@[simp] theorem State.onStage_choices (s : State) (i : Fin 3) (g : Stage → Stage) : (s.onStage i g).choices = s.choices := rfl
@[simp] theorem State.onStage_pending (s : State) (i : Fin 3) (g : Stage → Stage) : (s.onStage i g).pending = s.pending := rfl
@[simp] theorem State.onStage_stage (s : State) (i j : Fin 3) (g : Stage → Stage) :
    (s.onStage i g).stage j = if i = j then g (s.stage i) else s.stage j := by
  by_cases h : i = j
  · subst h; simp [State.onStage, State.stage]
  · have h' : (i : Nat) ≠ j := fun e => h (Fin.ext e)
    simp [State.onStage, State.stage, h, h']

@[simp] theorem State.onInput_smu (s : State) (i : Fin 4) (g : WatchInput → WatchInput) : (s.onInput i g).smu = s.smu := rfl
@[simp] theorem State.onInput_gc (s : State) (i : Fin 4) (g : WatchInput → WatchInput) : (s.onInput i g).gc = s.gc := rfl
@[simp] theorem State.onInput_ss (s : State) (i : Fin 4) (g : WatchInput → WatchInput) : (s.onInput i g).ss = s.ss := rfl
@[simp] theorem State.onInput_lu (s : State) (i : Fin 4) (g : WatchInput → WatchInput) : (s.onInput i g).lu = s.lu := rfl
@[simp] theorem State.onInput_da (s : State) (i : Fin 4) (g : WatchInput → WatchInput) : (s.onInput i g).da = s.da := rfl
@[simp] theorem State.onInput_ds (s : State) (i : Fin 4) (g : WatchInput → WatchInput) : (s.onInput i g).ds = s.ds := rfl
@[simp] theorem State.onInput_rk (s : State) (i : Fin 4) (g : WatchInput → WatchInput) : (s.onInput i g).rk = s.rk := rfl
@[simp] theorem State.onInput_fu (s : State) (i : Fin 4) (g : WatchInput → WatchInput) : (s.onInput i g).fu = s.fu := rfl
@[simp] theorem State.onInput_cu (s : State) (i : Fin 4) (g : WatchInput → WatchInput) : (s.onInput i g).cu = s.cu := rfl
@[simp] theorem State.onInput_mu (s : State) (i : Fin 4) (g : WatchInput → WatchInput) : (s.onInput i g).mu = s.mu := rfl
@[simp] theorem State.onInput_store (s : State) (i : Fin 4) (g : WatchInput → WatchInput) : (s.onInput i g).store = s.store := rfl
@[simp] theorem State.onInput_sl (s : State) (i : Fin 4) (g : WatchInput → WatchInput) : (s.onInput i g).sl = s.sl := rfl
@[simp] theorem State.onInput_powered (s : State) (i : Fin 4) (g : WatchInput → WatchInput) : (s.onInput i g).powered = s.powered := rfl
@[simp] theorem State.onInput_choices (s : State) (i : Fin 4) (g : WatchInput → WatchInput) : (s.onInput i g).choices = s.choices := rfl
@[simp] theorem State.onInput_pending (s : State) (i : Fin 4) (g : WatchInput → WatchInput) : (s.onInput i g).pending = s.pending := rfl
@[simp] theorem State.onInput_input (s : State) (i j : Fin 4) (g : WatchInput → WatchInput) :
    (s.onInput i g).input j = if i = j then g (s.input i) else s.input j := by
  by_cases h : i = j
  · subst h; simp [State.onInput, State.input]
  · have h' : (i : Nat) ≠ j := fun e => h (Fin.ext e)
    simp [State.onInput, State.input, h, h']

@[simp] theorem State.onAccount_smu (s : State) (i : Fin 12) (g : Account → Account) : (s.onAccount i g).smu = s.smu := rfl
@[simp] theorem State.onAccount_gc (s : State) (i : Fin 12) (g : Account → Account) : (s.onAccount i g).gc = s.gc := rfl
@[simp] theorem State.onAccount_ss (s : State) (i : Fin 12) (g : Account → Account) : (s.onAccount i g).ss = s.ss := rfl
@[simp] theorem State.onAccount_lu (s : State) (i : Fin 12) (g : Account → Account) : (s.onAccount i g).lu = s.lu := rfl
@[simp] theorem State.onAccount_wu (s : State) (i : Fin 12) (g : Account → Account) : (s.onAccount i g).wu = s.wu := rfl
@[simp] theorem State.onAccount_da (s : State) (i : Fin 12) (g : Account → Account) : (s.onAccount i g).da = s.da := rfl
@[simp] theorem State.onAccount_ds (s : State) (i : Fin 12) (g : Account → Account) : (s.onAccount i g).ds = s.ds := rfl
@[simp] theorem State.onAccount_rk (s : State) (i : Fin 12) (g : Account → Account) : (s.onAccount i g).rk = s.rk := rfl
@[simp] theorem State.onAccount_fu (s : State) (i : Fin 12) (g : Account → Account) : (s.onAccount i g).fu = s.fu := rfl
@[simp] theorem State.onAccount_cu (s : State) (i : Fin 12) (g : Account → Account) : (s.onAccount i g).cu = s.cu := rfl
@[simp] theorem State.onAccount_store (s : State) (i : Fin 12) (g : Account → Account) : (s.onAccount i g).store = s.store := rfl
@[simp] theorem State.onAccount_sl (s : State) (i : Fin 12) (g : Account → Account) : (s.onAccount i g).sl = s.sl := rfl
@[simp] theorem State.onAccount_powered (s : State) (i : Fin 12) (g : Account → Account) : (s.onAccount i g).powered = s.powered := rfl
@[simp] theorem State.onAccount_choices (s : State) (i : Fin 12) (g : Account → Account) : (s.onAccount i g).choices = s.choices := rfl
@[simp] theorem State.onAccount_pending (s : State) (i : Fin 12) (g : Account → Account) : (s.onAccount i g).pending = s.pending := rfl
@[simp] theorem State.onAccount_account (s : State) (i j : Fin 12) (g : Account → Account) :
    (s.onAccount i g).account j = if i = j then g (s.account i) else s.account j := by
  by_cases h : i = j
  · subst h; simp [State.onAccount, State.account]
  · have h' : (i : Nat) ≠ j := fun e => h (Fin.ext e)
    simp [State.onAccount, State.account, h, h']

@[simp] theorem State.onSlot_feedHold (s : State) (i : Fin 4) (g : Slot → Slot) :
    (s.onSlot i g).ds.feedHold = s.ds.feedHold := rfl
@[simp] theorem State.onFeeder_params (s : State) (i : Fin 12) (g : Feeder → Feeder) :
    (s.onFeeder i g).fu.params = s.fu.params := rfl
@[simp] theorem State.onFeeder_permit (s : State) (i : Fin 12) (g : Feeder → Feeder) :
    (s.onFeeder i g).fu.permit = s.fu.permit := rfl
@[simp] theorem State.onFeeder_restoreTimer (s : State) (i : Fin 12) (g : Feeder → Feeder) :
    (s.onFeeder i g).fu.restoreTimer = s.fu.restoreTimer := rfl
@[simp] theorem State.onFeeder_stage (s : State) (i : Fin 12) (k : Fin 3) (g : Feeder → Feeder) :
    (s.onFeeder i g).stage k = s.stage k := rfl
@[simp] theorem State.onStage_feeder (s : State) (k : Fin 3) (i : Fin 12) (g : Stage → Stage) :
    (s.onStage k g).feeder i = s.feeder i := rfl
@[simp] theorem State.onStage_params (s : State) (k : Fin 3) (g : Stage → Stage) :
    (s.onStage k g).fu.params = s.fu.params := rfl
@[simp] theorem State.onStage_permit (s : State) (k : Fin 3) (g : Stage → Stage) :
    (s.onStage k g).fu.permit = s.fu.permit := rfl
@[simp] theorem State.onInput_pins (s : State) (i : Fin 4) (g : WatchInput → WatchInput) :
    (s.onInput i g).wu.pins = s.wu.pins := rfl
@[simp] theorem State.onAccount_index (s : State) (i : Fin 12) (g : Account → Account) :
    (s.onAccount i g).mu.index = s.mu.index := rfl
@[simp] theorem State.onAccount_bands (s : State) (i : Fin 12) (g : Account → Account) :
    (s.onAccount i g).mu.bands = s.mu.bands := rfl
@[simp] theorem State.onAccount_pendingBands (s : State) (i : Fin 12) (g : Account → Account) :
    (s.onAccount i g).mu.pendingBands = s.mu.pendingBands := rfl

end Sys2Proof.Machine
end

