-- ==== Sys2Proof/Laws/Shared.lean ====
section
/-! SUPPORT. What the shared operations of the link and of the two collections do, one lemma for each, so that a proof about a command
cites them instead of unfolding them. -/

namespace Sys2Proof.Machine

/-! ### The link -/

/-- R197: the table of command kinds reads back. -/
@[simp] theorem CommandKind.ofCode_code (k : CommandKind) : CommandKind.ofCode k.code = some k := by cases k <;> decide

/-- R187: on a link that can take a command, its frame's arrival is its owner's part, with the command in service. -/
theorem arrive_ready {s : State} (h : s.LinkReady) (k : CommandKind) (tag : Byte) (body : List Byte) :
    arrive k tag body s =
      serveCommand k body { s with sl := { s.sl with inService := some { kind := k.code, tag := tag, body := body } } } := by
  obtain ⟨hp, hs, hf, hr, hw, _⟩ := h
  cases s with
  | mk _ _ _ _ _ _ _ _ _ _ _ _ sl _ _ _ =>
    cases sl
    simp only at hp hs hf hr hw
    subst hp hs hf hr hw
    simp [arrive, whenPowered, offerFrame, takeNext, serve, State.onSl]

/-- R187, R191: the reply to the command in service, in the one shape that the statements use. -/
theorem reply_eq_replyTo {s : State} {k : CommandKind} {tag : Byte} {body : List Byte} (hp : s.sl.replySlot = none)
    (hi : s.sl.inService = some { kind := k.code, tag := tag, body := body }) (r : Result) (content : List Byte) :
    reply r content s = { s with sl := { s.sl with inService := none } }.replyTo k tag r content := by
  cases s with
  | mk _ _ _ _ _ _ _ _ _ _ _ _ sl _ _ _ =>
    cases sl with
    | mk _ _ _ _ _ _ _ tx _ _ _ _ =>
      simp only at hi hp
      subst hi hp
      cases tx <;>
        simp [reply, answer, replyFrame, transmitArbitrate, State.replyTo, State.onSl, Frame.airTime, Frame.length, Config.characterTime]

/-- R190: posting changes the link alone. -/
theorem post_eq (r : Report) (s : State) : ∃ l : StationLink, post r s = { s with sl := l } := by
  unfold post
  split
  · split
    · unfold transmitArbitrate
      repeat' split
      all_goals exact ⟨_, rfl⟩
    · exact ⟨_, rfl⟩
  · exact ⟨_, rfl⟩

/-! ### The collections -/

/-- R59: where an entry is inserted: behind every class up to its own, before every higher one. -/
theorem insertEntry_spec (e : QueueEntry) (q : List QueueEntry) (h : queueOrdered q) :
    ∃ front back : List QueueEntry, q = front ++ back ∧ insertEntry e q = front ++ e :: back
      ∧ (∀ x ∈ front, x.cls ≤ e.cls) ∧ ∀ x ∈ back, e.cls < x.cls := by
  refine ⟨_, _, (List.takeWhile_append_dropWhile (p := fun x => decide (x.cls ≤ e.cls))).symm, rfl, ?_, ?_⟩
  · intro x hx
    simpa using List.mem_takeWhile_imp hx
  · induction q with
    | nil => simp
    | cons a q ih =>
      have ha := List.pairwise_cons.mp h
      by_cases hc : a.cls ≤ e.cls
      · simpa [List.dropWhile_cons, hc] using ih ha.2
      · intro x hx
        rw [List.dropWhile_cons_of_neg (by simpa using hc)] at hx
        rcases List.mem_cons.mp hx with rfl | hx
        · omega
        · rcases ha.1 x hx with hlt | ⟨heq, _⟩ <;> omega

/-- R60: an enqueue request ends in one of three ways. -/
theorem enqueue_cases (arb : State → State) (r : Request) (moved : State → State) (s : State) :
    ((s.queueHas r.owner = true ∨ s.tableHas r.owner = true) ∧ enqueue arb r moved s = (.duplicate, s))
    ∨ (s.queueHas r.owner = false ∧ s.tableHas r.owner = false ∧ 8 ≤ s.da.queue.length ∧ enqueue arb r moved s = (.full, s))
    ∨ (s.queueHas r.owner = false ∧ s.tableHas r.owner = false ∧ s.da.queue.length < 8
      ∧ ∃ e : QueueEntry, e.owner = r.owner ∧ e.cls = r.cls ∧ e.booking = r.booking ∧ e.sequence = s.da.sequence
        ∧ e.waitLimit = r.waitLimit ∧ e.origin = r.origin
        ∧ e.waitTimer = (if r.waitLimit = 0 then none else some (r.waitLimit * 1000))
        ∧ enqueue arb r moved s = (.taken, arb (moved (s.onDa fun d =>
            { d with queue := insertEntry e d.queue, sequence := d.sequence + 1 })))) := by
  unfold enqueue
  by_cases h1 : (s.queueHas r.owner || s.tableHas r.owner) = true
  · exact .inl ⟨by simpa using h1, by simp [h1]⟩
  · have h1' : s.queueHas r.owner = false ∧ s.tableHas r.owner = false := by simpa using h1
    by_cases h2 : 8 ≤ s.da.queue.length
    · exact .inr (.inl ⟨h1'.1, h1'.2, h2, by simp [h1', h2]⟩)
    · refine .inr (.inr ⟨h1'.1, h1'.2, by omega, ?_⟩)
      have h3 : ¬s.da.queue.length ≥ 8 := h2
      exact ⟨{ owner := r.owner, cls := r.cls, booking := r.booking, sequence := s.da.sequence, waitLimit := r.waitLimit
               waitTimer := if r.waitLimit = 0 then none else some (r.waitLimit * 1000), origin := r.origin },
        rfl, rfl, rfl, rfl, rfl, rfl, rfl, by simp only [h1, h3, if_false, Bool.false_eq_true]⟩

/-- R65: what a walk answers: nothing while the spacing timer runs, and otherwise the first eligible entry where it fits. -/
theorem walk_eq_some {s : State} {e : QueueEntry} :
    walk s = some e ↔ s.da.spacingTimer = none ∧ (s.da.queue.find? fun e => s.eligible e.owner) = some e
      ∧ (s.bookingSum + e.booking : Int) ≤ (s.da.capacity : Int) - s.da.params.reserve := by
  unfold walk firstEligible
  cases hs : s.da.spacingTimer with
  | some n => simp
  | none =>
    simp only [Option.isSome_none, Bool.false_eq_true, if_false, true_and]
    cases hf : (s.da.queue.find? fun e => s.eligible e.owner) with
    | none => simp
    | some x =>
      simp only [fits, decide_eq_true_eq, Option.some.injEq]
      by_cases hx : (s.bookingSum + x.booking : Int) ≤ (s.da.capacity : Int) - s.da.params.reserve
      · rw [if_pos hx]
        constructor
        · intro he; cases he; exact ⟨rfl, hx⟩
        · rintro ⟨rfl, _⟩; rfl
      · rw [if_neg hx]
        constructor
        · intro he; cases he
        · rintro ⟨rfl, h⟩; exact absurd h hx

/-- R64: where the walk grants nothing, an arbitration changes nothing. -/
theorem arbitrate_of_walk_none {s : State} (h : walk s = none) : arbitrate s = s := by
  simp [arbitrate, arbitrateRounds, h]

/-- R72: a release notice for an owner that has no entry does nothing. -/
theorem releaseNotice_none (arb : State → State) {o : Owner} {s : State} (h : s.tableHas o = false) : releaseNotice arb o s = s := by
  simp [releaseNotice, h]

/-- R68: where no entry is named, a withdrawal does nothing. -/
theorem withdraw_none (arb notices : State → State) {named : QueueEntry → Bool} (cause : ExpiredCause)
    (tell : Owner → State → State) {s : State} (h : ∀ e ∈ s.da.queue, named e = false) :
    withdraw arb notices named cause tell s = s := by
  have : s.da.queue.filter named = [] := by simpa [List.filter_eq_nil_iff] using h
  simp [withdraw, this]

/-- R81: an expiry of a stopped timer does nothing. -/
@[simp] theorem whenRunning_none (s : State) (f : State → State) : whenRunning none s f = s := rfl

/-- An expiry of a running timer has its effect. -/
@[simp] theorem whenRunning_some (n : Nat) (s : State) (f : State → State) : whenRunning (some n) s f = f s := rfl

end Sys2Proof.Machine
end

