-- ==== Sys2Proof/Laws/Still.lean ====
section
/-! SUPPORT. What the shared operations leave alone: each of them keeps `State.still`. -/

namespace Sys2Proof.Machine

theorem map4_getElem {α : Type} (f : α → α) (v : Vector α 4) (j : Nat) (h : j < 4) : (map4 f v)[j] = f v[j] := by
  have h4 : j = 0 ∨ j = 1 ∨ j = 2 ∨ j = 3 := by omega
  rcases h4 with rfl | rfl | rfl | rfl <;> rfl

theorem map3_getElem {α : Type} (f : α → α) (v : Vector α 3) (j : Nat) (h : j < 3) : (map3 f v)[j] = f v[j] := by
  have h3 : j = 0 ∨ j = 1 ∨ j = 2 := by omega
  rcases h3 with rfl | rfl | rfl <;> rfl

theorem map12_getElem {α β : Type} (f : α → β) (v : Vector α 12) (j : Nat) (h : j < 12) : (map12 f v)[j] = f v[j] := by
  have h12 : j = 0 ∨ j = 1 ∨ j = 2 ∨ j = 3 ∨ j = 4 ∨ j = 5 ∨ j = 6 ∨ j = 7 ∨ j = 8 ∨ j = 9 ∨ j = 10 ∨ j = 11 := by omega
  rcases h12 with rfl | rfl | rfl | rfl | rfl | rfl | rfl | rfl | rfl | rfl | rfl | rfl <;> rfl

/-- A change of one of four things that a projection does not see. -/
theorem map4_set {α : Type} (f : α → α) (v : Vector α 4) (i : Fin 4) (x : α) (h : f x = f v[i]) :
    map4 f (v.set i x) = map4 f v := by
  ext j hj
  rw [map4_getElem _ _ _ hj, map4_getElem _ _ _ hj, Vector.getElem_set]
  split
  · next e => subst e; exact h
  · rfl

/-- A change of one of twelve things that a projection does not see. -/
theorem map12_set {α β : Type} (f : α → β) (v : Vector α 12) (i : Fin 12) (x : α) (h : f x = f v[i]) :
    map12 f (v.set i x) = map12 f v := by
  ext j hj
  rw [map12_getElem _ _ _ hj, map12_getElem _ _ _ hj, Vector.getElem_set]
  split
  · next e => subst e; exact h
  · rfl

theorem still_onSlot (s : State) (i : Fin 4) (g : Slot → Slot) (hp : ∀ d, (g d).profile = d.profile)
    (hq : ∀ d, (g d).present = d.present) : (s.onSlot i g).still = s.still := by
  have h : (s.onSlot i g).still.ds.slots = s.still.ds.slots :=
    map4_set (fun d : Slot => ({ slotReset with profile := d.profile, present := d.present } : Slot)) s.ds.slots i (g s.ds.slots[i])
      (by simp only [hp, hq])
  have e : (s.onSlot i g).still = { s.still with ds := { s.still.ds with slots := (s.onSlot i g).still.ds.slots } } := rfl
  rw [e, h]

theorem still_onFeeder (s : State) (i : Fin 12) (g : Feeder → Feeder) (hp : ∀ d, (g d).profile = d.profile) :
    (s.onFeeder i g).still = s.still := by
  have h : (s.onFeeder i g).still.fu.feeders = s.still.fu.feeders :=
    map12_set (fun d : Feeder => ({ feederReset with profile := d.profile } : Feeder)) s.fu.feeders i (g s.fu.feeders[i]) (by simp only [hp])
  have e : (s.onFeeder i g).still =
      { s.still with fu := { s.still.fu with feeders := (s.onFeeder i g).still.fu.feeders } } := rfl
  rw [e, h]

theorem still_onAccount (s : State) (i : Fin 12) (g : Account → Account)
    (hg : ∀ a, { g a with shedCount := 0, capTrips := 0 } = { a with shedCount := 0, capTrips := 0 }) :
    (s.onAccount i g).still = s.still := by
  have h : (s.onAccount i g).still.mu.accounts = s.still.mu.accounts := 
    map12_set (fun a : Account => ({ a with shedCount := 0, capTrips := 0 } : Account)) s.mu.accounts i (g s.mu.accounts[i]) (hg _)
  have e : (s.onAccount i g).still =
      { s.still with mu := { s.still.mu with accounts := (s.onAccount i g).still.mu.accounts } } := rfl
  rw [e, h]

/-! The updates of whole blocks. -/

theorem still_onSs (s : State) (g : Sequencer → Sequencer)
    (h : ∀ q, { g q with alarmRelay := false } = { q with alarmRelay := false }) : (s.onSs g).still = s.still := by
  have e : (s.onSs g).still = { s.still with ss := { g s.ss with alarmRelay := false } } := rfl
  rw [e, h]; rfl

theorem still_onGc (s : State) (g : GateController → GateController)
    (h : ∀ q, { g q with integrator := 0, feedForward := [] } = { q with integrator := 0, feedForward := [] }) :
    (s.onGc g).still = s.still := by
  have e : (s.onGc g).still = { s.still with gc := { g s.gc with integrator := 0, feedForward := [] } } := rfl
  rw [e, h]; rfl

theorem still_onDa (s : State) (g : Arbiter → Arbiter)
    (hp : ∀ d, (g d).params = d.params) (hc : ∀ d, (g d).capacity = d.capacity) : (s.onDa g).still = s.still := by
  have e : (s.onDa g).still = { s.still with da := { (g s.da) with table := [], queue := [], sequence := 0, spacingTimer := none, shortfallTimer := none } } := rfl
  rw [e]; unfold State.still; simp only [hp, hc]

theorem still_onRk (s : State) (g : RakeUnit → RakeUnit) (hp : ∀ k, (g k).params = k.params) :
    (s.onRk g).still = s.still := by
  have e : (s.onRk g).still = { s.still with rk := { rkReset with params := (g s.rk).params } } := rfl
  rw [e, hp]; rfl

theorem still_onFu (s : State) (g : FeederUnit → FeederUnit) (hp : ∀ u, (g u).params = u.params)
    (hf : ∀ u, (g u).feeders = u.feeders) : (s.onFu g).still = s.still := by
  unfold State.still; simp only [State.onFu, hp, hf]

theorem still_onCu (s : State) (g : CalendarUnit → CalendarUnit)
    (h : ∀ u, { g u with correction := .inactive, shedCopy := false } = { u with correction := .inactive, shedCopy := false }) :
    (s.onCu g).still = s.still := by
  have e : (s.onCu g).still = { s.still with cu := { g s.cu with correction := .inactive, shedCopy := false } } := rfl
  rw [e, h]; rfl

theorem still_onSl (s : State) (g : StationLink → StationLink)
    (h : ∀ l, { g l with reports := [], tx := .idle, lostReports := 0 } = { l with reports := [], tx := .idle, lostReports := 0 }) :
    (s.onSl g).still = s.still := by
  have e : (s.onSl g).still = { s.still with sl := { g s.sl with reports := [], tx := .idle, lostReports := 0 } } := rfl
  rw [e, h]; rfl

/-! The link. -/

@[simp] theorem still_transmitArbitrate (s : State) : (transmitArbitrate s).still = s.still := by
  unfold transmitArbitrate
  repeat' split
  all_goals rfl

@[simp] theorem still_post (r : Report) (s : State) : (post r s).still = s.still := by
  unfold post
  split
  · split
    · rw [still_transmitArbitrate]; exact still_onSl _ _ fun _ => rfl
    · exact still_onSl _ _ fun _ => rfl
  · rfl

/-! The alarm relay and the correction. -/

@[simp] theorem still_setAlarmRelay (s : State) : (setAlarmRelay s).still = s.still := still_onSs _ _ fun _ => rfl

@[simp] theorem still_alarmChanged (a : AlarmSource) (s : State) : (alarmChanged a s).still = s.still := by
  unfold alarmChanged; split <;> simp

@[simp] theorem still_endCorrection (c : EndCause) (s : State) : (endCorrection c s).still = s.still := by
  unfold endCorrection; rw [still_post]; exact still_onCu _ _ fun _ => rfl

@[simp] theorem still_startCorrection (d : CorrectionState) (s : State) : (startCorrection d s).still = s.still := by
  unfold startCorrection; rw [still_post]; exact still_onCu _ _ fun _ => rfl

@[simp] theorem still_evaluateCorrection (s : State) : (evaluateCorrection s).still = s.still := by
  unfold evaluateCorrection
  repeat' split
  all_goals simp

@[simp] theorem still_handShed (b : Bool) (s : State) : (handShed b s).still = s.still := by
  unfold handShed; rw [still_evaluateCorrection]; exact still_onCu _ _ fun _ => rfl

/-! The collections. -/

@[simp] theorem still_shortfallTest (s : State) : (shortfallTest s).still = s.still := by
  unfold shortfallTest
  repeat' split
  all_goals rfl

@[simp] theorem still_feedForwardAdd (i : Fin 4) (b : Nat) (s : State) : (feedForwardAdd i b s).still = s.still :=
  still_onGc _ _ fun _ => rfl

@[simp] theorem still_feedForwardRemove (i : Fin 4) (s : State) : (feedForwardRemove i s).still = s.still :=
  still_onGc _ _ fun g => by split <;> rfl

@[simp] theorem still_setQueue (q : List QueueEntry) (s : State) : (setQueue q s).still = s.still :=
  still_onDa _ _ (fun _ => rfl) fun _ => rfl

@[simp] theorem still_removeFromTable (o : Owner) (s : State) : (removeFromTable o s).still = s.still := by
  cases o <;> simp [removeFromTable] <;> exact still_onDa _ _ (fun _ => rfl) fun _ => rfl

@[simp] theorem still_clutchInNotice (i : Fin 4) (s : State) : (clutchInNotice i s).still = s.still :=
  still_onDa _ _ (fun _ => rfl) fun _ => rfl

/-- A function on states keeps `still`. -/
abbrev KeepsStill (f : State → State) : Prop := ∀ s, (f s).still = s.still

section arb
variable {arb : State → State} (ha : KeepsStill arb)
include ha

theorem still_releaseNotice (o : Owner) (s : State) : (releaseNotice arb o s).still = s.still := by
  unfold releaseNotice; split <;> simp [ha _]

theorem still_enqueue (r : Request) {moved : State → State} (hm : KeepsStill moved) (s : State) :
    (enqueue arb r moved s).2.still = s.still := by
  unfold enqueue
  repeat' split
  · rfl
  · rfl
  all_goals exact ((ha _).trans (hm _)).trans (still_onDa _ _ (fun _ => rfl) fun _ => rfl)

theorem still_forceRakeEntry (s : State) : (forceRakeEntry arb s).still = s.still := by
  unfold forceRakeEntry
  split
  · rw [ha]; exact still_onDa _ _ (fun _ => rfl) fun _ => rfl
  · rfl

omit ha in
theorem still_foldl {α : Type} (f : State → α → State) (hf : ∀ s a, (f s a).still = s.still) (l : List α) (s : State) :
    (l.foldl f s).still = s.still := by
  induction l generalizing s with
  | nil => rfl
  | cons a l ih => rw [List.foldl_cons, ih, hf]

theorem still_withdraw {notices : State → State} (hn : KeepsStill notices) (named : QueueEntry → Bool)
    (cause : ExpiredCause) {tell : Owner → State → State} (ht : ∀ o, KeepsStill (tell o)) (s : State) :
    (withdraw arb notices named cause tell s).still = s.still := by
  unfold withdraw
  simp only []
  split
  · rfl
  · rw [ha, hn, still_foldl]
    · simp
    · intro s e; rw [ht]; simp [postExpired]

/-! The drives. -/

omit ha in
@[simp] theorem still_postDrive (i : Fin 4) (p : SlotState) (c : DriveCause) (s : State) :
    (postDrive i p c s).still = s.still := by unfold postDrive; simp

omit ha in
@[simp] theorem still_slotUnqueued (i : Fin 4) (s : State) : (slotUnqueued i s).still = s.still :=
  still_onSlot _ _ _ (fun _ => rfl) fun _ => rfl

omit ha in
@[simp] theorem still_clutchIn (i : Fin 4) (s : State) : (clutchIn i s).still = s.still := by
  unfold clutchIn; rw [still_clutchInNotice]; exact still_onSlot _ _ _ (fun _ => rfl) fun _ => rfl

omit ha in
@[simp] theorem still_slotGranted (i : Fin 4) (s : State) : (slotGranted i s).still = s.still := by
  unfold slotGranted
  simp only []
  split
  · rw [still_clutchIn]; exact still_onSlot _ _ _ (fun _ => rfl) fun _ => rfl
  · refine Eq.trans (still_onSlot _ _ _ (fun _ => rfl) fun _ => rfl) ?_
    exact still_onSlot _ _ _ (fun _ => rfl) fun _ => rfl

omit ha in
@[simp] theorem still_toCoasting (i : Fin 4) (s : State) : (s.onSlot i Slot.toCoasting).still = s.still :=
  still_onSlot _ _ _ (fun _ => rfl) fun _ => rfl

omit ha in
@[simp] theorem still_postAborted (i : Fin 4) (b : Slot) (s : State) : (postAborted i b s).still = s.still := by
  unfold postAborted; split <;> simp

omit ha in
theorem still_takeOut {release : State → State} (hr : KeepsStill release) (c : DriveCause) (i : Fin 4) (s : State) :
    (takeOut release c i s).still = s.still := by unfold takeOut; simp [hr _]

theorem still_forcedOut (c : DriveCause) (i : Fin 4) (s : State) : (forcedOut arb c i s).still = s.still := by
  unfold forcedOut
  split
  · apply still_takeOut
    split
    · exact fun _ => rfl
    · exact still_releaseNotice ha _
  · rfl

theorem still_forcedOutAll (c : DriveCause) (r : Slot → Bool) (s : State) : (forcedOutAll arb c r s).still = s.still := by
  unfold forcedOutAll
  exact still_foldl _ (fun s i => by split; exacts [still_forcedOut ha _ _ _, rfl]) _ _

theorem still_rakeForcesDrives (s : State) : (rakeForcesDrives arb s).still = s.still := by
  unfold rakeForcesDrives
  refine still_foldl _ (fun s i => ?_) _ _
  unfold rakeForcesSlot
  split
  · exact still_onSlot _ _ _ (fun _ => rfl) fun _ => rfl
  all_goals first | exact still_forcedOut ha _ _ _ | rfl

/-! The rake. -/

omit ha in
@[simp] theorem still_postRake (p : RakeState) (c : RakeCause) (s : State) : (postRake p c s).still = s.still := by
  unfold postRake; simp

theorem still_forceRake (s : State) : (forceRake arb s).still = s.still := by
  unfold forceRake
  simp only []
  rw [still_rakeForcesDrives ha, still_forceRakeEntry ha, still_postRake]
  exact still_onRk _ _ fun _ => rfl

theorem still_rakeRequest (s : State) : (rakeRequest arb s).still = s.still := by
  unfold rakeRequest
  split
  · simp only []
    rw [still_enqueue ha]
    · split
      · exact still_forceRake ha _
      · rfl
    · exact fun _ => still_onRk _ _ fun _ => rfl
  · rfl

theorem still_dueTrigger (c : RakeCause) (s : State) : (dueTrigger arb c s).still = s.still := by
  unfold dueTrigger
  split
  · simp only []
    rw [still_rakeRequest ha, still_postRake]; exact still_onRk _ _ fun _ => rfl
  · rfl

theorem still_graceExpired (s : State) : (graceExpired arb s).still = s.still := by
  unfold graceExpired
  simp only []
  split
  · rw [still_forceRake ha]; exact still_onRk _ _ fun _ => rfl
  · exact still_onRk _ _ fun _ => rfl

omit ha in
@[simp] theorem still_rakeGranted (s : State) : (rakeGranted s).still = s.still := still_onRk _ _ fun _ => rfl

omit ha in
@[simp] theorem still_rakeEntryGone (s : State) : (rakeEntryGone s).still = s.still := still_onRk _ _ fun _ => rfl

theorem still_runComplete (s : State) : (runComplete arb s).still = s.still := by
  unfold runComplete
  simp only []
  rw [still_postRake, still_releaseNotice ha]; exact still_onRk _ _ fun _ => rfl

theorem still_rakeStop (c : RakeCause) (s : State) : (rakeStop arb c s).still = s.still := by
  unfold rakeStop
  split
  · rw [still_postRake, still_releaseNotice ha]; exact still_onRk _ _ fun _ => rfl
  · rfl

/-! The feeders. -/

omit ha in
@[simp] theorem still_shedChanged (b : Bool) (s : State) : (shedChanged b s).still = s.still := by
  unfold shedChanged
  split
  · rfl
  · simp only [still_handShed, still_alarmChanged]
    split
    · rfl
    · exact still_onFu _ _ (fun _ => rfl) fun _ => rfl

omit ha in
@[simp] theorem still_setFeederState (i : Fin 12) (n : FeederState) (s : State) :
    (setFeederState i n s).still = s.still := by
  unfold setFeederState; rw [still_shedChanged]; exact still_onFeeder _ _ _ fun _ => rfl

theorem still_autoConnectList (l : List (Fin 12)) (s : State) : (autoConnectList arb l s).still = s.still := by
  induction l generalizing s with
  | nil => rfl
  | cons i l ih =>
    unfold autoConnectList
    have he := still_enqueue ha (hostRequest s i) (moved := setFeederState i .queued) (still_setFeederState i .queued) s
    split
    · split
      all_goals (rename_i h; rw [h] at he; simp_all)
    · exact ih s

theorem still_autoConnect (s : State) : (autoConnect arb s).still = s.still := still_autoConnectList ha _ _

theorem still_offerList (l : List (Fin 12)) (s : State) : (offerList arb l s).still = s.still := by
  induction l generalizing s with
  | nil => rfl
  | cons i l ih =>
    unfold offerList
    split
    · simp only []
      have he := still_enqueue ha (restoreRequest s i)
        (moved := fun s' => setFeederState i .queued
          (post (.restore i (s.feeder i).profile.cls (s.feeder i).profile.booking) s')) (by intro s; simp) s
      split
      all_goals (rename_i h; rw [h] at he; simp_all)
    · exact ih s

theorem still_feederOffer (s : State) : (feederOffer arb s).still = s.still := by
  unfold feederOffer; split; exacts [still_offerList ha _ _, rfl]

theorem still_setPermit (s : State) : (setPermit arb s).still = s.still := by
  unfold setPermit; rw [still_feederOffer ha]; exact still_onFu _ _ (fun _ => rfl) fun _ => rfl

omit ha in
@[simp] theorem still_raiseShedCount (i : Fin 12) (s : State) : (raiseShedCount i s).still = s.still :=
  still_onAccount _ _ _ fun _ => rfl

omit ha in
@[simp] theorem still_raiseCapTrips (i : Fin 12) (s : State) : (raiseCapTrips i s).still = s.still :=
  still_onAccount _ _ _ fun _ => rfl

omit ha in
@[simp] theorem still_postShedFeeder (i : Fin 12) (p : FeederState) (c : ShedCause) (s : State) :
    (postShedFeeder i p c s).still = s.still := by unfold postShedFeeder; simp

theorem still_openFeeder (i : Fin 12) (n : FeederState) (s : State) : (openFeeder arb i n s).still = s.still := by
  unfold openFeeder; rw [still_setFeederState, still_releaseNotice ha]

theorem still_shedOnFeeder (k : Fin 3) (i : Fin 12) (s : State) : (shedOnFeeder arb k i s).still = s.still := by
  unfold shedOnFeeder; simp [still_releaseNotice ha]

theorem still_feederShortfall (i : Fin 12) (s : State) : (feederShortfall arb i s).still = s.still := by
  unfold feederShortfall; simp [still_feederOffer ha]

omit ha in
@[simp] theorem still_stageTells (k : Fin 3) (o : Owner) (s : State) : (stageTells k o s).still = s.still := by
  cases o <;> simp [stageTells, feederWithdrawnByStage]

theorem still_fireStage {notices : State → State} (hn : KeepsStill notices) (k : Fin 3) (f : Nat) (s : State) :
    (fireStage arb notices k f s).still = s.still := by
  unfold fireStage
  simp only []
  rw [still_forcedOutAll ha, still_foldl, still_withdraw ha hn _ _ (still_stageTells k), still_post]
  · rfl
  · intro s i; split; exacts [still_shedOnFeeder ha _ _ _, rfl]

theorem still_feederStep {notices : State → State} (hn : KeepsStill notices) (f : Nat) (s : State) :
    (feederStep arb notices f s).still = s.still := by
  have h1 : ∀ s k, (testStage arb notices f s k).still = s.still := by
    intro s k; unfold testStage
    repeat' split
    · exact still_fireStage ha hn _ _ _
    · exact Eq.trans (still_onFu _ _ (fun _ => rfl) fun _ => rfl) (still_onFu _ _ (fun _ => rfl) fun _ => rfl)
    · rfl
    · rfl
    · exact still_onFu _ _ (fun _ => rfl) fun _ => rfl
    · exact still_onFu _ _ (fun _ => rfl) fun _ => rfl
    · rfl
  have h2 : ∀ s, (testRestore arb f s).still = s.still := by
    intro s; unfold testRestore
    repeat' split
    · exact still_setPermit ha _
    · exact still_onFu _ _ (fun _ => rfl) fun _ => rfl
    · rfl
    · exact still_onFu _ _ (fun _ => rfl) fun _ => rfl
  unfold feederStep
  split
  · rw [h2, still_foldl _ h1]
  · rfl

theorem still_capCheck (i : Fin 12) (s : State) : (capCheck arb i s).still = s.still := by
  unfold capCheck
  simp only []
  repeat' split
  · simp only [still_post, still_setFeederState, still_raiseCapTrips, still_releaseNotice ha]
    exact still_onFeeder _ _ _ fun _ => rfl
  · exact still_onFeeder _ _ _ fun _ => rfl
  · exact still_onFeeder _ _ _ fun _ => rfl
  · rfl

theorem still_feedersStop (s : State) : (feedersStop arb s).still = s.still := by
  unfold feedersStop
  simp only []
  refine Eq.trans (still_onFu _ _ (fun _ => rfl) (fun _ => rfl)) ?_
  rw [still_foldl]
  intro s i; unfold feederStop
  split
  · exact still_openFeeder ha _ _ _
  all_goals first | exact still_setFeederState _ _ _ | rfl

/-! Arbitration. -/

theorem still_spaceNotice (s : State) : (spaceNotice arb s).still = s.still := by
  unfold spaceNotice; rw [still_feederOffer ha, still_rakeRequest ha]

end arb

@[simp] theorem still_grant (e : QueueEntry) (s : State) : (grant e s).still = s.still := by
  have h1 : (moveToTable e s).still = s.still := by
    unfold moveToTable
    simp only []
    exact Eq.trans (still_onDa _ _ (fun _ => rfl) fun _ => rfl) (still_setQueue _ _)
  have h2 : ∀ s, (grantFeedForward e s).still = s.still := by intro s; unfold grantFeedForward; split <;> simp
  have h3 : ∀ s, (ownerGranted e.owner s).still = s.still := by
    intro s; unfold ownerGranted; split <;> simp [feederGranted]
  unfold grant startSpacing postGrant
  simp only []
  refine Eq.trans (still_onDa _ _ (fun _ => rfl) fun _ => rfl) ?_
  simp [h1, h2, h3]

theorem still_arbitrateRounds (n : Nat) : KeepsStill (arbitrateRounds n) := by
  induction n with
  | zero => intro s; rfl
  | succ n ih =>
    intro s; unfold arbitrateRounds
    split
    · rw [ih, still_spaceNotice ih, still_grant]
    · rfl

/-- An arbitration keeps everything that a grant cannot change. -/
@[simp] theorem still_arbitrate (s : State) : (arbitrate s).still = s.still := still_arbitrateRounds 18 s

theorem arbitrate_keeps : KeepsStill arbitrate := still_arbitrate

@[simp] theorem still_giveSpace (s : State) : (giveSpace s).still = s.still := still_spaceNotice arbitrate_keeps s

@[simp] theorem still_tellGone (o : Owner) (s : State) : (tellGone o s).still = s.still := by
  cases o <;> simp [tellGone]

@[simp] theorem still_withdrawOwner (o : Owner) (c : ExpiredCause) (s : State) : (withdrawOwner o c s).still = s.still :=
  still_withdraw arbitrate_keeps still_giveSpace _ _ still_tellGone _

@[simp] theorem still_withdrawDrives (c : ExpiredCause) (s : State) : (withdrawDrives c s).still = s.still :=
  still_withdraw arbitrate_keeps still_giveSpace _ _ still_tellGone _

@[simp] theorem still_withdrawAll (c : ExpiredCause) (s : State) : (withdrawAll c s).still = s.still := by
  unfold withdrawAll
  rw [still_withdraw arbitrate_keeps still_giveSpace _ _ still_tellGone]
  exact still_onDa _ _ (fun _ => rfl) fun _ => rfl

@[simp] theorem still_shortfallExpired (s : State) : (shortfallExpired s).still = s.still := by
  have h : ∀ o s, (tellShortfall o s).still = s.still := by
    intro o s; cases o <;> simp [tellShortfall, still_forcedOut arbitrate_keeps, still_feederShortfall arbitrate_keeps]
  unfold shortfallExpired
  simp only []
  split
  · simp only [still_arbitrate, still_shortfallTest, h, still_removeFromTable]
    exact still_onDa _ _ (fun _ => rfl) fun _ => rfl
  · exact Eq.trans (still_onDa _ _ (fun _ => rfl) fun _ => rfl) (still_onDa _ _ (fun _ => rfl) fun _ => rfl)

/-- The loads taken down at a stop or a trip. -/
@[simp] theorem still_takeDownLoads (c : DownCause) (s : State) : (takeDownLoads c s).still = s.still := by
  unfold takeDownLoads
  simp only []
  rw [still_rakeStop arbitrate_keeps, still_forcedOutAll arbitrate_keeps, still_feedersStop arbitrate_keeps,
    still_withdrawAll]

/-- What a publication of capacity leaves alone beyond the capacity held. -/
theorem still_publishCapacity (s : State) :
    (publishCapacity s).still = { s.still with da := { s.still.da with capacity := s.gc.capacity } } := by
  have h : (s.onDa fun d => { d with capacity := s.gc.capacity }).still
      = { s.still with da := { s.still.da with capacity := s.gc.capacity } } := rfl
  unfold publishCapacity
  simp only []
  repeat' split
  · rw [still_arbitrate, still_shortfallTest, h]
  · rw [still_shortfallTest, h]
  · have : s.gc.capacity = s.da.capacity := by omega
    rw [this]; rfl

end Sys2Proof.Machine
end

