-- ==== Sys2Proof/Laws/Store.lean ====
section
/-! SUPPORT. What the CRC-16, the array's unfinished operations, the image's fields, the held pulses and the held rack loss do, one lemma
for each. -/

namespace Sys2Proof.Machine

/-! ### The CRC-16 -/

/-- R185: a shift of the CRC-16 register loses nothing. -/
theorem crcShift_injective : Function.Injective crcShift := by
  have back : ∀ x : BitVec 16, (if (crcShift x).getLsbD 0 then ((crcShift x ^^^ 0x1021#16) >>> 1) ||| 0x8000#16
      else crcShift x >>> 1) = x := by
    intro x
    unfold crcShift
    cases h : x.msb <;> rw [BitVec.msb_eq_getLsbD_last] at h <;> simp only [Bool.false_eq_true, if_false, if_true] <;>
      · ext i hi
        interval_cases i <;> simp_all
  intro a b h
  rw [← back a, ← back b, h]

/-- R185: a byte moves different registers to different ones. -/
theorem crcByte_injective_left (b : Byte) : Function.Injective fun r => crcByte r b := by
  intro r t h
  simpa only [crcByte, crcShift_injective.eq_iff, BitVec.xor_left_inj] using h

/-- R185: different bytes move a register to different ones. -/
theorem crcByte_injective_right (r : BitVec 16) : Function.Injective (crcByte r) := by
  intro a b h
  simp only [crcByte, crcShift_injective.eq_iff, BitVec.xor_right_inj] at h
  have h := congrArg BitVec.toNat h
  have ha := a.isLt
  have hb := b.isLt
  apply BitVec.eq_of_toNat_eq
  simp [BitVec.toNat_shiftLeft, Nat.shiftLeft_eq] at h
  omega

/-- R185: the bytes after a difference keep it. -/
theorem crc_foldl_injective (l : List Byte) : Function.Injective fun r => l.foldl crcByte r := by
  induction l with
  | nil => exact fun _ _ h => h
  | cons b l ih => exact fun r t h => crcByte_injective_left b (ih h)

/-- R185: one changed byte changes the CRC-16. -/
theorem crc16_set_ne {l : List Byte} {k : Nat} {b : Byte} (hk : k < l.length) (hb : b ≠ l[k]) : crc16 (l.set k b) ≠ crc16 l := by
  intro h
  have hl : l = l.take k ++ l[k] :: l.drop (k + 1) := by simp
  have hs : l.set k b = l.take k ++ b :: l.drop (k + 1) := by simp [List.set_eq_take_append_cons_drop, hk]
  rw [hs] at h
  conv at h => rhs; rw [hl]
  simp only [crc16, List.foldl_append, List.foldl_cons] at h
  exact hb (crcByte_injective_right _ (crc_foldl_injective _ h))

/-! ### The array -/

/-- A page that has been through `notErased` does not read erased throughout. -/
theorem notErased_spec (choice : Nat) {page : List Byte} (h : page.length = 256) :
    ∃ k : Nat, k < 256 ∧ (notErased choice page).getD k 0xFF ≠ 0xFF := by
  unfold notErased
  split
  · refine ⟨((Config.spoiledPlace choice).val + 1) % 256, Nat.mod_lt _ (by decide), ?_⟩
    have hk : ((Config.spoiledPlace choice).val + 1) % 256 < page.length := by rw [h]; exact Nat.mod_lt _ (by decide)
    have hv := (Config.spoiledBy choice).isLt
    simp only [List.getD_eq_getElem?_getD, List.getElem?_set_self hk, Option.getD_some]
    intro e
    have := congrArg BitVec.toNat e
    simp at this
    omega
  · next hp =>
    simp only [List.all_eq_true, beq_iff_eq, not_forall] at hp
    obtain ⟨b, hb, hne⟩ := hp
    obtain ⟨k, hk, rfl⟩ := List.getElem_of_mem hb
    exact ⟨k, by omega, by simpa [List.getD_eq_getElem?_getD, hk] using hne⟩

/-- A byte of a list of bytes read back. -/
theorem Flash.readBytes_getElem (m : Flash) (a n i : Nat) (h : i < (m.readBytes a n).length) :
    (m.readBytes a n)[i] = m.read (a + i) := by simp [Flash.readBytes]

/-- One byte replaced is one byte of a span set. -/
theorem Flash.readBytes_replace_one (m : Flash) (a n k : Nat) (b : Byte) :
    (m.replace (a + k) 1 [b]).readBytes a n = (m.readBytes a n).set k b := by
  apply List.ext_getElem
  · simp [Flash.readBytes]
  · intro i h1 h2
    rw [List.getElem_set, Flash.readBytes_getElem, Flash.read_replace]
    by_cases hi : k = i
    · simp [hi]
    · rw [if_neg (by omega), if_neg hi, Flash.readBytes_getElem]

/-- The stored form of a CRC-16 reads back. -/
theorem crcField_inj {l l' : List Byte} (h : crcField l = crcField l') : crc16 l = crc16 l' := by
  have a := (crc16 l).isLt
  have b := (crc16 l').isLt
  simp only [crcField, u16, List.cons.injEq, and_true] at h
  have h1 := congrArg BitVec.toNat h.1
  have h2 := congrArg BitVec.toNat h.2
  simp only [BitVec.toNat_ofNat] at h1 h2
  apply BitVec.eq_of_toNat_eq
  omega

/-- R185, R200: a valid image with one byte of it, or of its CRC-16, changed is no valid image. -/
theorem Flash.imageValid_changed {x : Nat} (hx : x < 313) {m : Flash} (hv : m.imageValid = true) :
    Flash.imageValid (m.replace x 1 [m.read x + 1]) = false := by
  have hne : m.read x + 1 ≠ m.read x := by
    intro h
    have h := congrArg BitVec.toNat h
    have := (m.read x).isLt
    rw [BitVec.toNat_add, show (1 : Byte).toNat = 1 from rfl] at h
    omega
  refine decide_eq_false ?_
  have hv : m.readBytes 311 2 = crcField (m.readBytes 0 311) := of_decide_eq_true hv
  have same : ∀ a n : Nat, (x < a ∨ a + n ≤ x) → (m.replace x 1 [m.read x + 1]).readBytes a n = m.readBytes a n := by
    intro a n ha
    simp only [Flash.readBytes, Flash.read_replace]
    apply List.map_congr_left
    intro i hi
    have := List.mem_range.mp hi
    rw [if_neg (by omega)]
  intro h
  by_cases hi : x < 311
  · have h1 := Flash.readBytes_replace_one m 0 311 x (m.read x + 1)
    rw [Nat.zero_add] at h1
    rw [h1, same 311 2 (by omega), hv] at h
    have hl : x < (m.readBytes 0 311).length := by simpa [Flash.readBytes] using hi
    exact crc16_set_ne hl (by rw [Flash.readBytes_getElem, Nat.zero_add]; exact hne) (crcField_inj h).symm
  · have h1 := Flash.readBytes_replace_one m 311 2 (x - 311) (m.read x + 1)
    rw [show 311 + (x - 311) = x by omega] at h1
    rw [h1, same 0 311 (by omega), ← hv] at h
    have hl : x - 311 < (m.readBytes 311 2).length := by simp [Flash.readBytes]; omega
    have h := congrArg (fun l : List Byte => l[x - 311]?) h
    simp only [List.getElem?_set_self hl, List.getElem?_eq_getElem hl, Flash.readBytes_getElem, Option.some.injEq,
      show 311 + (x - 311) = x by omega] at h
    exact hne h

/-- R173: an array that has been through `noImage`, at a byte of the image or of its CRC-16, holds no valid image. -/
theorem noImage_spec {x : Nat} (hx : x < 313) (s : State) : Flash.imageValid (noImage x s).store.array = false := by
  unfold noImage
  split
  · next hv => exact Flash.imageValid_changed hx hv
  · next hv => simpa using hv

/-! ### The image's fields -/

/-- R180, R200: a stored number within its field's range is taken as it stands. -/
theorem settle_eq {choice place v : Nat} {f : Field} (h : f.lo ≤ v ∧ v ≤ f.hi) : settle choice place f v = v := if_pos h

/-- Log 11: whatever is stored, the number in force lies within its field's range. -/
theorem settle_range (choice place v : Nat) {f : Field} (h : f.lo ≤ f.hi) :
    f.lo ≤ settle choice place f v ∧ settle choice place f v ≤ f.hi := by
  unfold settle clampTo
  split <;> omega

/-! ### The pulses -/

/-- R138: a raw pulse is counted in the window, or held back; none is lost. -/
theorem rawPulse_conserves (u : CalendarUnit) :
    (rawPulse u).windowPos + (rawPulse u).heldPulses = u.windowPos + u.heldPulses + 1 := by
  unfold rawPulse
  split <;> simp only <;> omega

/-- R138: nor is any of a number of raw pulses. -/
theorem rawPulses_conserve (n : Nat) (u : CalendarUnit) :
    (rawPulses n u).windowPos + (rawPulses n u).heldPulses = u.windowPos + u.heldPulses + n := by
  induction n generalizing u with
  | zero => rfl
  | succ n ih => rw [rawPulses, ih, rawPulse_conserves]; omega

/-- R142: a SET_CLOCK loses no pulse of the window, and begins the second with none. -/
theorem beginSecond_conserves (u : CalendarUnit) : u.beginSecond.windowPos = u.windowPos ∧ u.beginSecond.subSecond = 0
    ∧ u.beginSecond.heldPulses = 0 ∧ u.beginSecond.windowPulses + u.beginSecond.heldPulses = u.windowPulses + u.heldPulses :=
  ⟨rfl, rfl, rfl, rfl⟩

/-- R138, R142: the pulses that count in the window alone move it on, up to its end, and leave the second as it is. -/
theorem moveWindow_conserves (u : CalendarUnit) : u.moveWindow.windowPos + u.moveWindow.windowPulses = u.windowPos + u.windowPulses
    ∧ u.moveWindow.subSecond = u.subSecond ∧ u.moveWindow.heldPulses = u.heldPulses
    ∧ (u.moveWindow.windowPulses = 0 ∨ trimWindow ≤ u.moveWindow.windowPos) := by
  refine ⟨?_, rfl, rfl, ?_⟩ <;> simp only [CalendarUnit.moveWindow] <;> omega

/-! ### The rack loss -/

/-- R44: a fault on a filled channel holds the rack loss and its flag. -/
theorem evaluateRack_held {s : State} (h : s.lu.rackHeld = true) : evaluateRack s = s := by simp [evaluateRack, h]

/-- R44: otherwise the rack loss is computed. -/
theorem evaluateRack_follows {s : State} (h : s.lu.rackHeld = false) : evaluateRack s = followRack s := by
  simp [evaluateRack, h]

end Sys2Proof.Machine
end

