-- ==== Sys2Proof/Tests/Slice0.lean ====
section
/-! SUPPORT. Tests: what WellFormed refuses, values worked in the manual, and for each statement with hypotheses a state and
operands that meet them. -/

namespace Sys2Proof.Tests

-- One test at a time: elaborated all at once, these small kernel evaluations need more threads than the check's memory holds.
set_option Elab.async false

open Sys2Proof Sys2Proof.Machine

/-! ### What WellFormed refuses -/

/-- R1: an interval of 200,000 ticks is no interval inside a window. -/
theorem test_wellFormed_tooth : Instr.wellFormed (.toothEdge 200000) = false ∧ Instr.wellFormed (.toothEdge 199999) = true := by
  decide

/-- R196: a body of 241 bytes does not fit a frame. -/
theorem test_wellFormed_body : Instr.wellFormed (.hello 1 (List.replicate 241 0)) = false
    ∧ Instr.wellFormed (.hello 1 (List.replicate 240 0)) = true := by decide +kernel

/-- R185, R187: an unknown command's kind is below 0x80 and no command kind, and its body fits. -/
theorem test_wellFormed_unknown : Instr.wellFormed (.unknownCommand 0x80 1 []) = false
    ∧ Instr.wellFormed (.unknownCommand 0x01 1 []) = false ∧ Instr.wellFormed (.unknownCommand 0x7F 1 []) = true
    ∧ Instr.wellFormed (.unknownCommand 0x7F 1 (List.replicate 241 0)) = false := by decide +kernel

/-- No row of the table has bits: no word spells a command. -/
theorem test_no_word_spells : decodeTableWord 8 1 = none := by decide

/-! ### States for the tests -/

/-- The state that a command leaves. -/
def after (c : Instr) (s : State) : State :=
  match exec c s with
  | .next t => t
  | _ => s

/-- The state after one step of an idle block. -/
def runIdle (s : State) : State :=
  match step s with
  | .next t => t
  | _ => s

/-- Whether the link can take a command, as a Bool. -/
def linkFree (s : State) : Bool :=
  s.powered && !s.sl.startup && s.sl.inService.isNone && s.sl.replySlot.isNone && s.sl.inputQueue.isEmpty
    && s.store.readJob.isNone

/-- `linkFree` says `LinkReady`. -/
theorem linkReady_of {s : State} (h : linkFree s = true) : s.LinkReady := by
  simp only [linkFree, Bool.and_eq_true, Bool.not_eq_true', Option.isNone_iff_eq_none, List.isEmpty_iff] at h
  obtain ⟨⟨⟨⟨⟨a, b⟩, c⟩, d⟩, e⟩, f⟩ := h
  exact ⟨a, b, c, d, e, f⟩

/-- Whether the owners' states and the collections agree, as a Bool. -/
def agrees (s : State) : Bool :=
  decide (∀ i : Fin 4, s.tableHas (.drive i) = (s.slot i).state.engaged)
    && decide (∀ i : Fin 12, s.tableHas (.feeder i) = decide ((s.feeder i).state = .on))
    && decide (s.tableHas .rake = decide (s.rk.state = .running))
    && decide (∀ i : Fin 4, s.queueHas (.drive i) = decide ((s.slot i).state = .queued))
    && decide (∀ i : Fin 12, s.queueHas (.feeder i) = decide ((s.feeder i).state = .queued))
    && decide (s.queueHas .rake = s.rk.entryHeld) && decide (s.rk.entryHeld = true → s.rk.state.asks = true)
    && decide (s.da.table.map TableEntry.owner).Nodup && decide (s.da.queue.map QueueEntry.owner).Nodup
    && decide (s.gc.feedForward.map Prod.fst = s.drivesInTable)

/-- `agrees` says `Consistent`. -/
theorem consistent_of {s : State} (h : agrees s = true) : s.Consistent := by
  simp only [agrees, Bool.and_eq_true, decide_eq_true_eq] at h
  obtain ⟨⟨⟨⟨⟨⟨⟨⟨⟨a, b⟩, c⟩, d⟩, e⟩, f⟩, g⟩, i⟩, j⟩, k⟩ := h
  exact ⟨a, b, c, d, e, f, g, i, j, k⟩

/-- After start-up, the station STOPPED, the link free. -/
def ready : State :=
  { State.reset with
    sl := { slReset with startup := false }
    store :=
      { State.reset.store with
        startup := .complete, journal := some { index := Vector.replicate 224 .fresh, writePos := 0, nextSequence := 1 } } }

/-- The profile of the frame saw (section 5.8). -/
def saw : DriveProfile :=
  { booking := 6000, lead := 1500, spinUp := 4000, coast := 20000, cycle := 300, strokeTimeout := 90, waitLimit := 600,
    shedStage := 2, cls := 2 }

/-- The station state alone. -/
def at_ (st : StationState) (s : State) : State := s.onSs fun q => { q with station := st }

/-- LIVE with nothing driven, every profile present, and the spacing timer running. -/
def live : State :=
  { (at_ .live ready) with
    ss := { (at_ .live ready).ss with fieldClosed := true }
    cu := { cuCold with liveCopy := true }
    gc := { gcReset with integrator := 5195000, gateOut := 6800, gFF := 8000, gLim := 8000, capacity := 19200 }
    lu := { luReset with drivePause := false, gFF := some 8000 }
    da := { daReset with capacity := 19200, spacingTimer := some 1500 }
    ds := { dsReset with slots := Vector.replicate 4 { slotReset with present := true, profile := saw } } }

/-- A queue entry. -/
def entry (o : Owner) (cls booking n : Nat) : QueueEntry :=
  { owner := o, cls := cls, booking := booking, sequence := n, waitLimit := 600, waitTimer := some 600000, origin := .host }

/-- LIVE and at work: D0 CUTTING, D1 QUEUED, D3 COASTING; F0 ON, F1 QUEUED, F2 SHED, F3 CAPPED, F4 LOCKED. -/
def busy : State :=
  { live with
    da := { live.da with
      table := [{ owner := .feeder 0, booking := 500, grantTime := 5, phase := .active }, { owner := .drive 0, booking := 6000, grantTime := 9, phase := .active }]
      queue := [entry (.drive 1) 2 6000 0, entry (.feeder 1) 2 800 1], sequence := 2 }
    gc := { live.gc with feedForward := [(0, 2500000)] }
    ds := { live.ds with slots := #v[
      { slotReset with present := true, profile := saw, state := .cutting, remaining := 2, strokeTimer := some 90000 },
      { slotReset with present := true, profile := saw, state := .queued },
      { slotReset with present := true, profile := saw },
      { slotReset with present := true, profile := saw, state := .coasting, coastTimer := some 0 }] }
    fu := { live.fu with feeders := #v[{ feederReset with state := .on }, { feederReset with state := .queued },
      { feederReset with state := .shed }, { feederReset with state := .capped }, { feederReset with state := .locked },
      feederReset, feederReset, feederReset, feederReset, feederReset, feederReset, feederReset] }
    cu := { live.cu with shedCopy := true } }

/-- D0 in another engaged state. -/
def withD0 (st : SlotState) : State := busy.onSlot 0 fun d => { d with state := st }

/-- Slot 2 in a state that holds no entry. -/
def withD2 (st : SlotState) : State := busy.onSlot 2 fun d => { d with state := st }

/-- LIVE with the rake RUNNING. -/
def raking : State :=
  { live with
    rk := { rkReset with state := .running, runTimer := some 0, dueTimer := none }
    da := { live.da with table := [{ owner := .rake, booking := 800, grantTime := 1, phase := .active }] } }

/-- The rake DUE with its entry held, and the slots and feeders of `busy`. -/
def dueBusy : State :=
  { busy with
    rk := { rkReset with state := .due, entryHeld := true, dueTimer := none, graceTimer := some 0 }
    da := { busy.da with queue := busy.da.queue ++ [entry .rake 3 800 2], sequence := 3 } }

/-- The last window is one tooth short. -/
def turning (ticks : Nat) (s : State) : State :=
  s.onSmu fun u => { u with window := .timing, toothCount := 23, ticks := ticks }

/-- A capture by watch input 1. -/
def tripOne : TripRecord :=
  { cause := .watch 1, time := 0, freq := 50000, gateOut := 0, bookings := 0, entries := 0, overflow := false }

/-- TRIPPED by watch input 1, which is latched or not. -/
def tripped (latched : Bool) : State :=
  ((at_ .tripped ready).onSs fun q => { q with capture := some tripOne }).onInput 1 fun w => { w with latched := latched }

/-- A watch input with a mode and an action. -/
def watching (i : Fin 4) (m : WatchMode) (a : WatchAction) (s : State) : State :=
  s.onInput i fun w => { w with setting := { mode := m, filterCount := 4, action := a } }

/-- The store in another state. -/
def storing (g : AccountStore → AccountStore) : State := ready.onStore g

/-- The journal of section 10.6 in little: sequences 1 to 12 in the first two pages of sector 2. -/
def journal12 : Journal :=
  { index := ((Vector.replicate 224 .fresh).set 0 (.records 1 8)).set 1 (.records 9 12), writePos := 2, nextSequence := 13 }

/-- A checkpoint that waits. -/
def checkpoint1 : Checkpoint :=
  { trigger := .save, firstSequence := 13, time := 0, cold := true, snapshots := snapshots muReset, started := 1,
    firstPage := some 2 }

/-! ### Values worked in the manual -/

/-- Section 1.8, steps 1 and 3, and event 2: the PI step and the feed-forward amount. -/
theorem test_governor :
    let g : GateController := { live.gc with feedForward := [] }
    let one := g.piStep 50000 (windowFrequency 20408)
    (one.integrator, one.gateOut, one.capacityNow) = (5200000, 6850, 19200) ∧ g.feedForwardOf 6000 = 2500000
    ∧ (let three := { one with integrator := 7700000 }.piStep 50000 (windowFrequency 20200)
       (three.integrator, three.gateOut) = (7702475, 6900)) := by decide +kernel

/-- Section 3.5, periods 1 and 2: G_ff 9750, C 23,400, and a rack loss of 160 that makes the rake DUE. -/
theorem test_levels :
    let s := { live with
      gc := { live.gc with gFF := 10000, gLim := 10000, capacity := 24000 }
      lu := { luReset with
        pond := { channelReset with samples := List.replicate 8 1350 }
        forebay := { channelReset with samples := List.replicate 8 1220 }, gFF := some 10000, drivePause := false } }
    let one := after (.levelSamplePeriod 1350 1100) s
    let two := after (.levelSamplePeriod 1350 1100) one
    (one.lu.forebayMean, one.lu.rackLoss, one.gc.capacity) = (1205, 145, 24000)
    ∧ (two.lu.forebayMean, two.lu.rackLoss, two.lu.gFF, two.da.capacity, two.rk.state) = (1190, 160, some 9750, 23400, .due)
    ∧ (after (.levelSamplePeriod 1350 4095) two).lu.forebayMean = 1190 := by decide +kernel

/-- R44: a fault on POND holds the loss while FOREBAY's mean falls; the first good sample of POND computes it again. -/
theorem test_rack_held :
    let s := live.onLu fun u => { u with
      pond := { channelReset with samples := List.replicate 8 1350 }
      forebay := { channelReset with samples := List.replicate 8 1220 }, rackLoss := 130 }
    let one := after (.levelSamplePeriod 0 900) s
    let two := after (.levelSamplePeriod 1350 1220) one
    (one.lu.forebayMean, one.lu.rackLoss, one.lu.rackHigh, one.rk.state) = (1180, 130, false, .idle)
    ∧ (two.lu.rackLoss, two.lu.rackHigh, two.rk.state) = (170, true, .due) := by decide +kernel

/-- Section 3.8: W1 rises with action RAKE; it stays deaf while latched; ACK_WATCH with W1 still high detects it again. -/
theorem test_watch :
    let s := after (.watchEdge 1 true) (watching 1 .edgeRising .rake live)
    (s.input 1).latched = true ∧ s.rk.state = .due
    ∧ (after (.watchEdge 1 true) (after (.watchEdge 1 false) s)).sl.reports = s.sl.reports
    ∧ (after (.ackWatch 7 [1]) s).sl.replySlot = some { kind := CommandKind.code .ackWatch + 0x80, tag := 7, body := [0, 1] } := by
  decide +kernel

/-- Section 4.10, event 1: D1 is passed over in the drive pause and F9 is granted: A = 7800. -/
theorem test_arbitration :
    let old := fun (i : Fin 12) (b : Nat) => ({ owner := .feeder i, booking := b, grantTime := 1, phase := .active } : TableEntry)
    let s := { live with
      lu := { live.lu with drivePause := true }
      da := { live.da with
        table := [old 0 1200, old 1 800, old 4 2500, old 7 1500]
        queue := [entry (.drive 1) 2 6000 14, entry (.feeder 9) 2 1800 15, entry .rake 3 800 16], sequence := 17 } }
    let t := after .spacingTimerExpiry s
    t.bookingSum = 7800 ∧ (t.feeder 9).state = .on ∧ t.da.queue.map QueueEntry.owner = [.drive 1, .rake]
    ∧ t.da.spacingTimer = some 2000 := by decide +kernel

/-- Section 5.8 at 0 s and 1.5 s: ENGAGE D1 grants at once, into LEAD, with 2,500,000 mgu; then the clutch goes in. -/
theorem test_engage :
    let s := { live with
      gc := { live.gc with integrator := 5200000 }, da := { live.da with spacingTimer := none } }
    let t := after (.engage 12 [1]) s
    (t.slot 1).state = .lead ∧ (t.slot 1).cycleTimer = some 300000 ∧ t.gc.integrator = 7700000 ∧ t.driveClutch 1 = false
    ∧ t.sl.replySlot = some { kind := CommandKind.code .engage + 0x80, tag := 12, body := [2, 1, 2, 0, 0, 0] }
    ∧ (let u := after (.leadTimerExpiry 1) t
       u.driveClutch 1 = true ∧ (u.slot 1).spinUpTimer = some 4000 ∧ u.da.table.map TableEntry.phase = [.active]) := by
  decide +kernel

/-- Section 5.8 at 64 s and 195 s to 240 s: strokes count down; the last with the release flag set ends in COASTING. -/
theorem test_strokes :
    let one := after (.strokeEnd 0) busy
    ((one.slot 0).state, (one.slot 0).strokes, (one.slot 0).remaining) = (.cutting, 1, 1)
    ∧ (let end_ := after (.strokeEnd 0) (one.onSlot 0 fun d => { d with releaseFlag := true })
       ((end_.slot 0).state, (end_.slot 0).strokes, (end_.slot 0).remaining) = (.coasting, 2, 0)
       ∧ end_.tableHas (.drive 0) = false ∧ end_.gc.feedForward = []) := by decide +kernel

/-- Section 7.7: the last second of the worked cap trip; 3500 W reach the cap time of 5 s. -/
theorem test_cap_trip :
    let s := ((live.onDa fun u => { u with table := [{ owner := .feeder 7, booking := 1500, grantTime := 1, phase := .active }] }).onFeeder
      7 fun d => { d with state := .on, capCounter := 4, profile := { d.profile with cap := 3000, capTime := 5 } }).onStore
      fun a => { a with commissioning := { a.commissioning with factors := Vector.replicate 12 32768 } }
    let t := after (.calendarSecond (Vector.replicate 12 7000)) s
    (t.feeder 7).state = .capped ∧ (t.feeder 7).capCounter = 0 ∧ (t.account 7).capTrips = 1 ∧ (t.account 7).power = 3500
    ∧ t.bookingSum = 0 := by decide +kernel

/-- Section 8.2, the worked trim: 21 marked pulses at 0, 49,932, 99,864 ... 998,643. -/
theorem test_trim_positions :
    [0, 49932, 99864, 998643].all (pulseMarked 21) = true ∧ pulseMarked 21 1 = false ∧ pulseWeight 21 49932 = 2
    ∧ pulseWeight (-21) 49932 = 0 := by decide +kernel

/-- R138: a second that comes due holds the rest of the millisecond's pulses back, and the next millisecond counts them. -/
theorem test_held_pulses :
    let s := ready.onCu fun u => { u with subSecond := 32760, windowPos := 500 }
    let due := (runIdle s).cu
    let next := (runIdle (after (.calendarSecond (Vector.replicate 12 0)) (runIdle s))).cu
    (due.subSecond, due.windowPos, due.heldPulses) = (32768, 508, 24)
    ∧ (next.subSecond, next.windowPos, next.heldPulses) = (57, 565, 0) := by decide +kernel

/-- R142: a SET_CLOCK while a second is due begins the second with none of the pulses from before it: the 24 held pulses count in the
window alone, and a millisecond later the sub-second count is that millisecond's 33. -/
theorem test_set_clock_begins_second :
    let due := runIdle (ready.onCu fun u => { u with subSecond := 32760, windowPos := 500 })
    let next := (runIdle (after (.setClock 1 [0xD0, 0x07, 1, 1, 0, 0, 0]) due)).cu
    (due.cu.subSecond, due.cu.heldPulses) = (32768, 24)
    ∧ (next.subSecond, next.windowPos, next.heldPulses, next.windowPulses) = (33, 565, 0, 0) := by decide +kernel

/-- R33: a watch TRIP that finds the station TRIPPED keeps the record and sets its overflow flag. -/
theorem test_second_trip :
    (after (.watchEdge 0 true) (watching 0 .edgeRising .trip (tripped true))).ss.capture = some { tripOne with overflow := true } := by
  decide +kernel

/-- R139: a SET_TRIM that finds a trim pending is answered BUSY with the trim in force, the pending one and the time left. -/
theorem test_set_trim_busy :
    (after (.setTrim 9 [5, 0]) (ready.onCu fun u => { u with trim := -2, pendingTrim := some 21, windowPos := 32768 })).sl.replySlot
      = some { kind := CommandKind.code .setTrim + 0x80, tag := 9, body := [0x14, 0xFE, 0xFF, 21, 0, 31] } := by decide +kernel

/-- R143: a shift of +1 taken at 22:59:59 gives 00:00:00 of the next day; a shift of -1 taken at 23:59:59 gives 23:00:00. -/
theorem test_shift_hour :
    let clock := fun (h : Nat) => ready.onCu fun u => { u with calendar := { u.calendar with hour := h, minute := 59, second := 59 } }
    let q := Vector.replicate 12 0
    let up := (after (.calendarSecond q) (after (.shiftHour 1 [0x01]) (clock 22))).cu.calendar
    let down := (after (.calendarSecond q) (after (.shiftHour 1 [0xFF]) (clock 23))).cu.calendar
    (up.day, up.hour, up.minute, up.second, up.weekday) = (2, 0, 0, 0, .sunday)
    ∧ (down.day, down.hour, down.minute, down.second) = (1, 23, 0, 0) := by decide +kernel

/-- Section 8.7 at 14:20:00: no feeder SHED and TE_ms = +3200: SLOW with c = -20 and f_ref 49,980. -/
theorem test_correction :
    let t := handShed false (live.onCu fun u => { u with n := 160, shedCopy := true })
    t.cu.correction = .slow ∧ t.cu.offset = -20 ∧ t.fRef = 49980 ∧ t.cu.teMs = 3200 := by decide +kernel

/-- Section 9.2, the worked power: 1507 W, and nothing for a negative product. -/
theorem test_power : powerOf 1234567 80 = 1507 ∧ powerOf (BitVec.ofInt 24 (-5000)) 80 = 0 := by decide +kernel

/-- Section 9.8: the account of F4 at 06:59:58 and at 07:00:00. -/
theorem test_account :
    let a : Account := { accountReset with wh := #v[812345, 401200, 90011, 0], residue := 3000, onSeconds := 51840, dayMax := 1200 }
    let b := a.count 0 1507
    (b.wh[0], b.residue, b.onSeconds, b.dayMax) = (812346, 907, 51841, 1507)
    ∧ (let c := (b.count 0 1507).count 1 1519
       (c.wh[0], c.wh[1], c.residue, c.onSeconds) = (812346, 401201, 333, 51843)) := by decide +kernel

/-- R158: the table of tariff lookups. -/
theorem test_tariff :
    let day : List Band := [⟨0, 0⟩, ⟨420, 1⟩, ⟨660, 2⟩, ⟨1080, 3⟩, ⟨1320, 0⟩]
    let short : List Band := [⟨360, 1⟩, ⟨1320, 0⟩]
    [419, 420, 1410].map (tariffIndex day) = [0, 1, 0] ∧ [180, 360].map (tariffIndex short) = [0, 1] ∧ tariffIndex [] 5 = 0 := by
  decide +kernel

/-- Section 10.6 at 10, 50, 51 and 54: a SAVE waits for an erase, which is suspended at 50 ms with 350 left; the page is
programmed and the erase resumes. -/
theorem test_erase_suspension :
    let s := storing fun a => { a with state := .erasing, erase := some { sector := 3, remaining := 390, progress := 10 } }
    let save := after (.save 1 []) s
    let hold := after .eraseSuspension save
    let write := after .suspendLatencyEnd hold
    let done := after (.programCompletion true) write
    save.store.state = .erasing ∧ save.store.checkpoint.isSome = true
    ∧ hold.store.state = .eraseSuspended ∧ hold.store.erase = some { sector := 3, remaining := 350, progress := 50 }
    ∧ write.store.state = .programmingInSuspend ∧ write.store.flight = some (.checkpointPage 0 false)
    ∧ done.store.state = .erasing ∧ done.store.erase = some { sector := 3, remaining := 350, progress := 0 }
    ∧ done.store.array.length ≤ 256 ∧ (done.store.journal.map fun j => (j.index[0], j.writePos)) = some (.records 1 8, 1) := by
  decide +kernel

/-- R179: with the records of a checkpoint, sequences 1 to 12, in the first two pages, READ_JOURNAL from 5 answers with the seven
records 5 to 11, oldest 1 and next 13. -/
theorem test_read_journal :
    let c : Checkpoint := { checkpoint1 with firstSequence := 1 }
    let s := storing fun a => { a with
      journal := some journal12, array := Flash.replace (Flash.replace [] 8192 256 (c.page false)) 8448 256 (c.page true) }
    (after (.readJournal 1 [5, 0, 0, 0]) s).sl.replySlot.map (fun f => (f.body.length, f.body.take 10,
      ([0, 1, 2, 3, 4, 5, 6] : List Nat).map fun k => u32At f.body (10 + 32 * k)))
      = some (234, [0, 7, 1, 0, 0, 0, 13, 0, 0, 0], [5, 6, 7, 8, 9, 10, 11]) := by decide +kernel

/-- R185: the nine characters "123456789" give 0x29B1. -/
theorem test_crc : crc16 [0x31, 0x32, 0x33, 0x34, 0x35, 0x36, 0x37, 0x38, 0x39] = 0x29B1#16 := by decide +kernel

/-- Section 11.6: a STATUS reply waits behind a LEVEL report, two frames wait behind it, and the fourth is an overrun. -/
theorem test_link_sequence :
    let s := live.onSl fun l => { l with tx := .report (.level .rackHigh none 0 0 0 0) 50000 }
    let three := after (.connect 13 [0x13]) (after (.engage 12 [1]) (after (.status 11 []) s))
    let four := after (.setDrive 14 [2]) three
    three.sl.inputQueue.map Frame.tag = [12, 13] ∧ three.sl.replySlot.map Frame.tag = some 11
    ∧ (four.sl.overruns, four.sl.inputQueue.length) = (1, 2)
    ∧ (match (after .transmitCompletion four).sl.tx with | .reply _ => true | _ => false) = true := by decide +kernel

/-- R197, R198: the body of HELLO's reply is ten bytes that begin with OK, 0x0314, 0x0418 and the revision. -/
theorem test_hello :
    (after (.hello 5 []) ready).sl.replySlot
      = some { kind := 0x81, tag := 5, body := [0, 0x14, 0x03, 0x18, 0x04, 0x01, 0, 0, 0, 0] } := by decide +kernel

/-- R196, R185: the six characters of a HELLO frame of tag 5, with its CRC worked by hand, are answered. -/
theorem test_hello_characters :
    let t := [0xA5, 0x02, 0x01, 0x05, 0xC1, 0x68].foldl (fun s c => after (.characterReceived c false) s) ready
    (t.sl.rx, t.sl.badFrames) = (.hunt, 0) ∧ t.sl.replySlot.map Frame.kind = some 0x81 ∧ t.sl.replySlot.map Frame.tag = some 5 := by
  decide +kernel

/-- R32, R33: the underspeed timer trips the station: F0 and D0 with 6500 W are in the capture, and every load is down. -/
theorem test_trip :
    let t := after .underspeedTimerExpiry (busy.onSs fun q => { q with underspeedTimer := some 0 })
    t.ss.station = .tripped ∧ t.ss.capture = some
      { cause := .underspeed, time := 0, freq := 0, gateOut := 6800, bookings := 6500, entries := 2, overflow := false }
    ∧ (t.slot 0).state = .coasting ∧ (t.slot 1).state = .idle ∧ (t.feeder 0).state = .off ∧ (t.feeder 1).state = .off
    ∧ (t.feeder 2).state = .off ∧ (t.feeder 3).state = .capped ∧ (t.feeder 4).state = .locked ∧ t.da.table = [] := by decide +kernel

/-- Section 7.10 at 700 in little: stage 2 takes D0 and D1, whose shed stage is 2, and leaves F0 and F1, whose shed stage is 3. -/
theorem test_stage_two :
    let t := after (.stageTimerExpiry 1) (busy.onStage 1 fun k => { k with state := .timing, timer := some 0 })
    (t.slot 0).state = .coasting ∧ (t.slot 1).state = .idle ∧ (t.feeder 0).state = .on ∧ (t.feeder 1).state = .queued
    ∧ t.bookingSum = 500 ∧ (t.stage 1).state = .fired := by decide +kernel

/-- R110: the end of a run: the count rises and the due timer starts for 240 minutes. -/
theorem test_rake_run :
    let t := after .runTimerExpiry raking
    t.rk.state = .idle ∧ t.rk.count = 1 ∧ t.rk.dueTimer = some 14400000 ∧ t.rakeClutch = false ∧ t.bookingSum = 0 := by
  decide +kernel

/-- R140: after 2099-12-31 23:59:59 comes 2000-01-01 00:00:00, a Saturday; 2000 has a 29th of February. -/
theorem test_calendar_ends :
    Calendar.advance { year := 2099, month := 12, day := 31, weekday := .thursday, hour := 23, minute := 59, second := 59 }
      = cuCold.calendar
    ∧ (Calendar.advance { year := 2000, month := 2, day := 28, weekday := .monday, hour := 23, minute := 59, second := 59 }).day = 29 := by
  decide

/-! ### States and operands that meet the hypotheses of the statements -/

/-- The states that most of the statements below start from are ready and consistent. -/
theorem test_states_ready : (ready.LinkReady ∧ ready.Consistent) ∧ (live.LinkReady ∧ live.Consistent)
    ∧ (busy.LinkReady ∧ busy.Consistent) ∧ (raking.LinkReady ∧ raking.Consistent) ∧ (dueBusy.LinkReady ∧ dueBusy.Consistent) :=
  ⟨⟨linkReady_of (by decide +kernel), consistent_of (by decide +kernel)⟩, ⟨linkReady_of (by decide +kernel), consistent_of (by decide +kernel)⟩,
    ⟨linkReady_of (by decide +kernel), consistent_of (by decide +kernel)⟩, ⟨linkReady_of (by decide +kernel), consistent_of (by decide +kernel)⟩,
    ⟨linkReady_of (by decide +kernel), consistent_of (by decide +kernel)⟩⟩

/-- IdleStepIsAMillisecond: powered, unpowered, and while an erase has one millisecond left; a second due, a window due, and room
for the pulses in both. -/
theorem test_witness_idle :
    (32768 ≤ (ready.onCu fun u => { u with subSecond := 32768 }).cu.subSecond
      ∧ 1048576 ≤ (ready.onCu fun u => { u with windowPos := 1048576 }).cu.windowPos
      ∧ ready.cu.subSecond + 2 * (ready.cu.heldPulses + (ready.cu.pulsePhase + 4096) / 125) ≤ 32768) ∧
    ready.pending = [] ∧ ready.powered = true ∧ ready.store.state ≠ .erasing
    ∧ (ready.setPowered false).pending = [] ∧ (ready.setPowered false).powered = false
    ∧ (let s := storing fun a => { a with state := .erasing, erase := some { sector := 2, remaining := 1, progress := 49 } }
       s.pending = [] ∧ s.powered = true ∧ s.store.state = .erasing
       ∧ s.store.erase = some { sector := 2, remaining := 1, progress := 49 }) := by decide +kernel

/-- WindowFrequencyRounds, MeasurementWindow: WAITING, the 22nd and the 24th edge, a running and a stopped timeout timer. -/
theorem test_witness_window :
    ready.powered = true ∧ ready.smu.window = .waiting ∧ ready.smu.timeout.isSome = true
    ∧ (let s := ready.onSmu fun u => { u with window := .timing, toothCount := 22 }
       s.smu.window = .timing ∧ s.smu.toothCount < 23)
    ∧ (turning 4600000 ready).smu.window = .timing ∧ (turning 4600000 ready).smu.toothCount = 23
    ∧ (ready.onSmu fun u => { u with timeout := none }).smu.timeout = none := by decide +kernel

/-- RunUpStepIsPI: the last tooth edge at both ends of the settle band. -/
theorem test_witness_runUp :
    let s := at_ .runUp (turning 19000 live)
    s.powered = true ∧ s.smu.window = .timing ∧ s.smu.toothCount = 23 ∧ s.ss.station = .runUp ∧ s.da.queue = []
    ∧ windowFrequency (s.smu.ticks + 1202) = 49500 ∧ windowFrequency (s.smu.ticks + 802) = 50500 := by decide +kernel

/-- FixedTargetStep: in each of the four states, a completed window on either side of 45,000 and of 55,000 mHz, and a timeout. -/
theorem test_witness_fixedTarget :
    ∀ st ∈ [StationState.stopped, .starting, .stopping, .tripped],
      (∀ x ∈ [(22222, 44998), (22221, 45000), (18181, 54999), (18180, 55002)],
        let s := at_ st (turning x.1 ready)
        s.powered = true ∧ isControlStep (.toothEdge 1) s x.2 ∧ s.da.queue = [] ∧ s.ss.station = st)
      ∧ isControlStep .windowTimeout (at_ st ready) 0 ∧ st ≠ .runUp ∧ st ≠ .live := by
  have key : ∀ x ∈ [(22222, 44998), (22221, 45000), (18181, 54999), (18180, 55002)], x.2 = windowFrequency (x.1 + 1) := by decide
  intro st hst
  exact ⟨fun x hx => ⟨rfl, .inl ⟨1, rfl, rfl, Nat.le_refl 23, key x hx⟩, rfl, rfl⟩, .inr ⟨rfl, rfl, rfl⟩,
    by rintro rfl; simp at hst, by rintro rfl; simp at hst⟩

/-- GateMovesOnlyAtControlSteps: a control step with the gate at the limit, a tooth edge that completes no window, a command of
another kind, and a reset with a supply and without one. -/
theorem test_witness_gate :
    let s := live.onGc fun g => { g with gateOut := 8000 }
    (∃ t, exec .windowTimeout s = .next t) ∧ isControlStep .windowTimeout s 0 ∧ s.gc.gLim ≤ s.gc.gateOut
    ∧ (∃ t, exec (.toothEdge 1) s = .next t) ∧ (∀ f, ¬isControlStep (.toothEdge 1) s f) ∧ ¬isReset (.toothEdge 1) s
    ∧ (∃ t, exec .trimWindowStart s = .next t) ∧ (∀ f, ¬isControlStep .trimWindowStart s f) ∧ ¬isReset .trimWindowStart s
    ∧ (∃ t, exec .resetLine s = .next t) ∧ isReset .resetLine s ∧ s.powered = true
    ∧ (∃ t, exec .resetLine (s.setPowered false) = .next t) ∧ (s.setPowered false).powered = false :=
  ⟨⟨_, rfl⟩, .inr ⟨rfl, rfl, rfl⟩, by decide, ⟨_, rfl⟩, (fun f h => by
      obtain ⟨k, _, h, _⟩ | ⟨h, _⟩ := h <;> cases h), by simp [isReset],
    ⟨_, rfl⟩, by simp [isControlStep], by simp [isReset], ⟨_, rfl⟩, .inl rfl, rfl, ⟨_, rfl⟩, rfl⟩

/-- StationTestsAtControlStep: a control step in each station state, at 45,000, 49,500, 50,000 and 55,002 mHz, and a timeout at 0;
the gate closed and open; the mark set. -/
theorem test_witness_station_tests :
    (∀ st : StationState, ∀ x ∈ [(22221, 45000), (20201, 49500), (19999, 50000), (18180, 55002)],
      let s := at_ st (turning x.1 ready)
      s.powered = true ∧ isControlStep (.toothEdge 1) s x.2 ∧ s.da.queue = [] ∧ s.ss.station = st ∧ s.ss.capture = none
      ∧ s.Consistent ∧ ¬(s.rk.state = .due ∧ s.rk.graceSpent = true))
    ∧ isControlStep .windowTimeout ready 0
    ∧ (let s := (at_ .live (turning 18181 live)); s.da.spacingTimer.isSome = true ∧ s.Consistent)
    ∧ (let s := (at_ .stopping ready).onSs fun q => { q with runDownMark := true }
       s.gc.gateOut = 0 ∧ s.ss.runDownMark = true ∧ s.gc.gateOut ≤ s.gc.params.closeRate)
    ∧ (let s := (at_ .stopping ready).onGc fun g => { g with gateOut := 8000 }
       s.gc.params.closeRate < s.gc.gateOut ∧ s.ss.runDownMark = false) := by
  have key : ∀ st : StationState, ∀ x ∈ [(22221, 45000), (20201, 49500), (19999, 50000), (18180, 55002)],
      (let s := at_ st (turning x.1 ready)
       agrees s && decide (s.powered = true ∧ s.smu.window = .timing ∧ 23 ≤ s.smu.toothCount
        ∧ x.2 = windowFrequency (s.smu.ticks + 1) ∧ s.da.queue = [] ∧ s.ss.station = st ∧ s.ss.capture = none
        ∧ ¬(s.rk.state = .due ∧ s.rk.graceSpent = true))) = true := by
    intro st
    cases st <;> decide +kernel
  refine ⟨fun st x hx => ?_, .inr ⟨rfl, rfl, rfl⟩, ⟨rfl, consistent_of (by decide +kernel)⟩, by decide, by decide⟩
  obtain ⟨hc, h⟩ := (Bool.and_eq_true _ _).mp (key st x hx)
  obtain ⟨h1, h2, h3, h4, h5, h6, h7, h8⟩ := of_decide_eq_true h
  exact ⟨h1, .inl ⟨1, rfl, h2, h3, h4⟩, h5, h6, h7, consistent_of hc, h8⟩

/-- LiveControlStep: the feed hold taken and left with a slot CUTTING, one under a rake halt, and one HELD; a stage armed, fired at
once, and timing; the restore timer not running, with a feeder SHED. -/
theorem test_witness_live_step :
    let at_freq := fun (ticks : Nat) => turning ticks busy
    let fired := (turning 20832 busy).onFu fun u => { u with params := { u.params with delay1 := 0 } }
    let halted := (turning 20832 busy).onSlot 0 fun d => { d with rakeHalt := true }
    (∀ x ∈ [(19999, 50000), (20832, 48001), (99999, 10000)], isControlStep (.toothEdge 1) (at_freq x.1) x.2)
    ∧ (at_freq 1).powered = true ∧ (at_freq 1).ss.station = .live ∧ (at_freq 1).da.spacingTimer.isSome = true
    ∧ (at_freq 1).fu.permit = false ∧ (at_freq 1).anyShed = true ∧ (at_freq 1).fu.restoreTimer = none
    ∧ (at_freq 1).fu.params.restoreThreshold ≤ 50000 ∧ (∀ k : Fin 3, (at_freq 1).fu.params.threshold k ≤ 50000)
    ∧ 48001 < fired.fu.params.threshold 0 ∧ fired.fu.params.delay 0 = 0 ∧ (fired.stage 0).state = .armed
    ∧ 48001 < (at_freq 1).fu.params.threshold 0 ∧ (at_freq 1).fu.params.delay 0 ≠ 0 ∧ (at_freq 1).fu.params.restoreDelay ≠ 0
    ∧ ((at_freq 1).slot 0).state = .cutting ∧ ((at_freq 1).slot 0).rakeHalt = false ∧ (halted.slot 0).rakeHalt = true
    ∧ halted.Consistent ∧ 10000 < (at_freq 1).fu.params.holdThreshold ∧ (at_freq 1).ds.feedHold = false
    ∧ (at_freq 1).fu.params.holdRelease ≤ 50000 ∧ (withD0 .held).ss.station = .live ∧ ((withD0 .held).slot 0).state = .held := by
  refine ⟨fun x hx => .inl ⟨1, rfl, rfl, le_refl 23, by fin_cases hx <;> decide +kernel⟩, rfl, rfl, rfl, ?_⟩
  refine ⟨rfl, by decide, rfl, by decide, by decide, by decide, by decide, rfl, by decide, by decide, by decide, rfl, rfl, rfl,
    consistent_of (by decide +kernel), by decide, rfl, by decide, rfl, rfl⟩

/-- StartTripAndAlarmCommands: STOPPED, LIVE, TRIPPED by an input that is latched and by one that is not. -/
theorem test_witness_station_commands :
    ready.ss.station = .stopped ∧ live.ss.station ≠ .stopped ∧ live.ss.station ≠ .tripped
    ∧ (tripped true).LinkReady ∧ (tripped true).ss.capture = some tripOne ∧ ((tripped true).input 1).latched = true
    ∧ (tripped false).LinkReady ∧ (tripped false).ss.station = .tripped ∧ (tripped false).ss.capture = some tripOne
    ∧ ((tripped false).input 1).latched = false ∧ (4 : Byte).toNat = AlarmSource.code .store
    ∧ 4 < (5 : Byte).toNat ∧ 1 < (2 : Byte).toNat :=
  ⟨rfl, by decide, by decide, linkReady_of (by decide), rfl, rfl, linkReady_of (by decide), rfl, rfl, rfl, rfl, by decide, by decide⟩

/-- StopCommand: each station state. -/
theorem test_witness_stop :
    ∀ st : StationState, (at_ st ready).LinkReady ∧ (at_ st ready).Consistent ∧ (at_ st ready).ss.station = st := by
  intro st
  cases st <;> exact ⟨linkReady_of (by decide +kernel), consistent_of (by decide +kernel), rfl⟩

/-- StationTimers: a start timer and an underspeed timer that run, in and out of their states; a run-down with the gate at 0 and
with the gate open. -/
theorem test_witness_station_timers :
    let run := ready.onSs fun q => { q with startTimer := some 0, underspeedTimer := some 0, runDownTimer := some 0 }
    (∀ st : StationState, (at_ st run).Consistent ∧ (at_ st run).ss.station = st)
    ∧ run.powered = true ∧ run.ss.capture = none ∧ run.ss.startTimer.isSome = true ∧ run.ss.underspeedTimer.isSome = true
    ∧ ready.ss.startTimer = none ∧ ready.ss.underspeedTimer = none ∧ run.ss.runDownTimer.isSome = true ∧ run.gc.gateOut = 0
    ∧ (run.onGc fun g => { g with gateOut := 1 }).gc.gateOut ≠ 0 :=
  ⟨fun st => by cases st <;> exact ⟨consistent_of (by decide +kernel), rfl⟩, by decide +kernel⟩

/-- SettleExpiryEntersLive. -/
theorem test_witness_settle :
    let s := (at_ .runUp ready).onSs fun q => { q with settleTimer := some 0 }
    s.powered = true ∧ s.ss.station = .runUp ∧ s.ss.settleTimer.isSome = true := by decide

/-- SettleExpiryEntersLive: nothing can be granted, the capacity being 0; feeders with and without the auto-connect flag, ten of them
asking in two classes, and a rake DUE or not. -/
theorem test_witness_settle_requests :
    let ten := fun (i : Fin 12) => { feederReset with
      profile := { FeederProfile.default with auto := decide (i.val < 10), cls := if i.val < 3 then 2 else 1 } }
    let s := ((at_ .runUp ready).onSs fun q => { q with settleTimer := some 0 }).onFu fun u => { u with feeders := Vector.ofFn ten }
    let due := s.onRk fun k => { k with state := .due, dueTimer := none }
    s.Consistent ∧ s.ProfilesInRange ∧ due.Consistent ∧ due.ProfilesInRange ∧ due.rk.state = .due ∧ s.rk.state = .idle
    ∧ s.da.queue = [] ∧ s.da.table = [] ∧ s.da.capacity < s.da.params.reserve ∧ s.ss.station = .runUp
    ∧ (s.feeder 9).profile.auto = true ∧ (s.feeder 10).profile.auto = false
    ∧ (autoConnect arbitrate s).da.queue.map QueueEntry.owner
        = [.feeder 3, .feeder 4, .feeder 5, .feeder 6, .feeder 7, .feeder 8, .feeder 9, .feeder 0] :=
  ⟨consistent_of (by decide +kernel), ⟨by decide +kernel, by decide +kernel⟩, consistent_of (by decide +kernel),
    ⟨by decide +kernel, by decide +kernel⟩, rfl, rfl, rfl, rfl, by decide, rfl, rfl, rfl, by decide +kernel⟩

/-- StandingCommands: outside LIVE; LIVE with a slot engaged or COASTING; LIVE with none, the flag clear and set, and a drive
queued. -/
theorem test_witness_standing :
    let calm := live.onDa fun u => { u with queue := [entry (.drive 1) 2 6000 0], sequence := 1 }
    let standing := calm.onSs fun q => { q with standing := true }
    ready.ss.station ≠ .live ∧ busy.ss.station = .live ∧ (busy.slot 0).state.engaged = true
    ∧ (live.onSlot 3 fun d => { d with state := .coasting }).LinkReady
    ∧ calm.LinkReady ∧ calm.ss.station = .live ∧ (∀ i : Fin 4, (calm.slot i).state.engaged = false ∧ (calm.slot i).state ≠ .coasting)
    ∧ calm.ss.standing = false ∧ calm.queueHas (.drive 1) = true ∧ standing.LinkReady ∧ standing.ss.standing = true :=
  ⟨by decide, rfl, rfl, linkReady_of (by decide +kernel), linkReady_of (by decide +kernel), rfl, by decide +kernel, rfl, rfl,
    linkReady_of (by decide +kernel), rfl⟩

/-- LevelSample: raw values at the ends of the range, and means at L_low, at L_min, between them and around the pause level. -/
theorem test_witness_levelSample :
    let at_level := fun n => live.onLu fun u => { u with
      pond := { u.pond with samples := List.replicate 8 1350 }, forebay := { u.forebay with samples := List.replicate 8 n } }
    live.powered = true ∧ live.lu.sampleTimer.isSome = true ∧ live.lu.pond.fault = false
    ∧ (let t := after (.levelSamplePeriod 0 1200) (at_level 1200)
       t.lu.pond.fault = true ∧ t.lu.pond.samples ≠ [] ∧ t.lu.forebay.samples ≠ [])
    ∧ (after (.levelSamplePeriod 0 1200) live).lu.pond.samples = []
    ∧ (after (.levelSamplePeriod 1 1200) (at_level 1200)).lu.gFF = some 10000
    ∧ (after (.levelSamplePeriod 4094 800) (at_level 800)).lu.gFF = some 0
    ∧ (after (.levelSamplePeriod 0 801) (at_level 801)).lu.gFF = some 25
    ∧ (after (.levelSamplePeriod 4095 999) (at_level 999)).lu.drivePause = true
    ∧ (after (.levelSamplePeriod 4095 0) (at_level 999)).lu.gFF = some 8000 := by decide +kernel

/-- WatchEdge: latched, not armed, and armed with each action, in LIVE and in STOPPED. -/
theorem test_witness_watchEdge :
    (tripped true).powered = true ∧ ((tripped true).input 1).latched = true ∧ (ready.input 0).setting.mode ≠ .edgeRising
    ∧ (∀ a : WatchAction, ((watching 0 .edgeRising a live).input 0).latched = false
        ∧ ((watching 0 .edgeRising a live).input 0).setting = { mode := .edgeRising, filterCount := 4, action := a }
        ∧ (watching 0 .edgeFalling a ready).Consistent ∧ (watching 0 .edgeRising a live).Consistent)
    ∧ live.ss.capture = none ∧ live.ss.station = .live ∧ ready.ss.station = .stopped :=
  ⟨rfl, rfl, by decide, fun a => by cases a <;> exact ⟨rfl, rfl, consistent_of (by decide +kernel), consistent_of (by decide +kernel)⟩,
    rfl, rfl, rfl⟩

/-- WatchEdge: a TRIP input that is armed while the station is TRIPPED. -/
theorem test_witness_watchEdge_tripped :
    let s := watching 0 .edgeRising .trip (tripped true)
    s.powered = true ∧ s.ss.station = .tripped ∧ s.ss.capture = some tripOne ∧ (s.input 0).latched = false
    ∧ (s.input 0).setting.mode = .edgeRising ∧ (s.input 0).setting.action = .trip := by decide

/-- WatchSample: an input that counts, one that is taken, one that is not active, and one that is latched. -/
theorem test_witness_watchSample :
    let s := (watching 0 .levelHigh .report ready).onWu fun u => { u with pins := u.pins.set 0 true }
    let n := fun k => s.onInput 0 fun w => { w with counter := k }
    s.powered = true ∧ s.wu.sampleTimer.isSome = true ∧ s.wu.pins[0] = true ∧ (s.input 0).latched = false
    ∧ ((n 2).input 0).counter + 1 < ((n 2).input 0).setting.filterCount
    ∧ ((n 3).input 0).setting.filterCount ≤ ((n 3).input 0).counter + 1
    ∧ (watching 0 .levelHigh .report ready).wu.pins[0] = false ∧ ((tripped true).input 1).latched = true
    ∧ ((tripped true).wu.sampleTimer.isSome = true) := by decide +kernel

/-- WatchCommands: bad bytes; SET_WATCH that waits and that does not; ACK_WATCH of a clear flag, of a set one, and of one that is
detected again. -/
theorem test_witness_watchCommands :
    let high := ready.onWu fun u => { u with pins := u.pins.set 1 true }
    let armed := (watching 1 .edgeRising .report high).onInput 1 fun w => { w with latched := true }
    3 < (4 : Byte).toNat ∧ 4 < (5 : Byte).toNat ∧ ((3 : Byte) = 3 ∧ (5 : Byte) ≠ 2 ∧ (5 : Byte) ≠ 4 ∧ (5 : Byte) ≠ 8)
    ∧ (ready.input 1).latched = false ∧ ready.wu.pins[1] = false ∧ high.LinkReady ∧ high.wu.pins[1] = true
    ∧ (high.input 1).latched = false ∧ armed.LinkReady ∧ (armed.input 1).latched = true
    ∧ (armed.input 1).setting.mode = .edgeRising ∧ armed.wu.pins[1] = true
    ∧ ((tripped true).input 1).latched = true ∧ ((tripped true).input 1).setting.mode = .disabled :=
  ⟨by decide, by decide, by decide, rfl, rfl, linkReady_of (by decide), rfl, rfl, linkReady_of (by decide), rfl, rfl, rfl, rfl, rfl⟩

/-- LengthAndStartUpRefusals, FrameArrival: wrong lengths, the start-up, a full queue, one place left, and an unknown kind. -/
theorem test_witness_frames :
    (Instr.hello 1 [0]).frame? = some (.hello, 1, [0]) ∧ fixedLength .hello = some 0
    ∧ (Instr.setTariff 1 [1, 0, 0]).frame? = some (.setTariff, 1, [1, 0, 0]) ∧ [1, 0, 0].length ≠ 1 + 3 * ((1 : Byte)).toNat
    ∧ State.reset.powered = true ∧ State.reset.sl.startup = true ∧ State.reset.sl.inService = none
    ∧ State.reset.sl.replySlot = none ∧ State.reset.sl.inputQueue = []
    ∧ (let f : Frame := { kind := CommandKind.code .start, tag := 1, body := [] }
       let s := ready.onSl fun l => { l with inputQueue := [f, f], replySlot := some f }
       (Instr.start 1 []).frame? = some (.start, f.tag, f.body) ∧ s.powered = true ∧ 2 ≤ s.sl.inputQueue.length
       ∧ (let t := ready.onSl fun l => { l with inputQueue := [f], replySlot := some f }
          t.sl.inputQueue.length < 2 ∧ t.sl.replySlot.isSome = true))
    ∧ CommandKind.ofCode 0x7F = none := by decide +kernel

/-- ClampTakesNearerLimit: a value at each side of a range. -/
theorem test_witness_clamp :
    let fs := RakeParams.fields
    fs.length = [0, 0, 70000, 800].length ∧ (∀ f ∈ fs, f.lo ≤ f.hi) ∧ fieldsInRange fs RakeParams.default.toList = true
    ∧ fs[0]?.map (fun f => decide (0 < f.lo)) = some true ∧ fs[2]?.map (fun f => decide (f.hi < 70000)) = some true := by
  decide +kernel

/-- GovernorAndLevelCommands: FOREBAY filled, POND in fault, and the G_FF that SET_LEVELS finds the same or changed. -/
theorem test_witness_setLevels_fault :
    let s := live.onLu fun u => { u with
      pond := { u.pond with samples := List.replicate 8 1350, fault := true }
      forebay := { u.forebay with samples := List.replicate 8 1200 } }
    let same := encodeFields LevelParams.fields LevelParams.default.toList
    s.LinkReady ∧ s.lu.pond.fault = true ∧ s.lu.pond.samples ≠ [] ∧ s.lu.forebay.samples ≠ [] ∧ s.lu.gFF ≠ some 10000
    ∧ (after (.setLevels 1 same) s).lu.gFF = some 10000 ∧ (after (.setLevels 1 same) s).gc.gLim = 10000 :=
  ⟨linkReady_of (by decide +kernel), rfl, by decide, by decide, by decide, by decide +kernel, by decide +kernel⟩

/-- ParameterCommands, GovernorAndLevelCommands: bodies of the commands' lengths, with values that change and values that stay,
in range and out of range, in order and out of order; and the spacing timer running. -/
theorem test_witness_parameters :
    (List.replicate 7 (0 : Byte)).length = 7 ∧ (List.replicate 32 (0 : Byte)).length = 32 ∧ live.da.spacingTimer.isSome = true
    ∧ (let same := encodeFields GovParams.fields GovParams.default.toList
       same.length = 19 ∧ GovParams.ofList (clampFields GovParams.fields (decodeFields GovParams.fields same)) = .default
       ∧ (GovParams.ofList (clampFields GovParams.fields (List.replicate 10 0))).gMax ≠ GovParams.default.gMax)
    ∧ (let same := encodeFields LevelParams.fields LevelParams.default.toList
       same.length = 16 ∧ (let p := LevelParams.ofList (clampFields LevelParams.fields (decodeFields LevelParams.fields same))
        p.lMin < p.lLow ∧ p.pondLow < p.pondHigh ∧ p.forebayLow < p.forebayHigh))
    ∧ (let p := LevelParams.ofList (clampFields LevelParams.fields (List.replicate 8 0))
       ¬(p.lMin < p.lLow ∧ p.pondLow < p.pondHigh ∧ p.forebayLow < p.forebayHigh))
    ∧ (let p := SheddingParams.ofList (clampFields SheddingParams.fields SheddingParams.default.toList)
       p.threshold2 < p.threshold1 ∧ p.threshold3 < p.threshold2 ∧ p.threshold1 < p.restoreThreshold
        ∧ p.holdThreshold < p.holdRelease) := by decide +kernel

/-- ReadCommands, LinkCommands: bad feeder bytes, the start-up, and a station that may be reset or not. -/
theorem test_witness_reads :
    (0x0F : Byte).toNat < 0x10 ∧ 0x1B < (0x1C : Byte).toNat ∧ State.reset.sl.startup = true ∧ ready.sl.startup = false
    ∧ ready.ss.station = .stopped ∧ live.sl.startup = false ∧ live.ss.station ≠ .stopped ∧ live.ss.station ≠ .tripped
    ∧ live.powered = true ∧ live.sl.inService = none ∧ live.sl.replySlot = none ∧ live.sl.inputQueue = [] := by decide

/-- Transmission: a full queue, a busy transmitter, a reply that waits, a report that waits, neither; a command that waits, alone and
with one behind it; and the reply to RESET. -/
theorem test_witness_transmitter :
    let r : Report := .trip .overspeed true
    let f : Frame := { kind := 0x83, tag := 1, body := [0] }
    let l := fun (tx : Transmitter) (slot : Option Frame) (n : Nat) => ready.onSl fun l => { l with
      tx := tx, replySlot := slot, reports := List.replicate n r }
    16 ≤ (l .idle none 16).sl.reports.length ∧ (l (.reply 1) none 15).sl.reports.length < 16 ∧ (l (.reply 1) none 15).sl.tx ≠ .idle
    ∧ (l .idle (some f) 1).sl.replySlot = some f ∧ (l .idle (some f) 1).sl.tx = .idle
    ∧ (l .idle none 0).sl.reports = [] ∧ (l (.report r 0) none 2).sl.reports = r :: [r]
    ∧ (l (.reply 0) (some f) 1).sl.tx = .reply 0 ∧ (l (.reply 0) (some f) 1).sl.inService = none
    ∧ (l (.reply 0) (some f) 1).sl.inputQueue = [] ∧ (l .idle none 0).powered = true
    ∧ (let g : Frame := { kind := CommandKind.code .status, tag := 2, body := [] }
       let s := fun after n => (l (.reply 0) (some f) n).onSl fun l => { l with inputQueue := g :: after }
       (Instr.status 2 []).frame? = some (.status, 2, []) ∧ (s [] 0).sl.inputQueue = g :: [] ∧ (s [] 0).sl.inService = none
       ∧ (s [g] 1).sl.inputQueue = g :: [g] ∧ (s [] 1).sl.reports = r :: [])
    ∧ (let s := (l (.reply 0) (some f) 0).onSl fun l => { l with inService := some { kind := 0x03, tag := 1, body := [] } }
       s.sl.tx = .reply 0 ∧ s.sl.inService = some { kind := 0x03, tag := 1, body := [] }) := by decide +kernel

/-- FrameReception: HUNT, LENGTH with a length byte at either side of its range, a gap; a frame of 240 body bytes; the CRC-16 that
matches a frame, one that does not, and a kind of 0x80. -/
theorem test_witness_receiver :
    let l := ready.onSl fun l => { l with rx := .length, gapTimer := some 0 }
    ready.sl.rx = .hunt ∧ ready.powered = true ∧ (0x01 : Byte).toNat < 0x80 ∧ (List.replicate 240 (0 : Byte)).length ≤ 240
    ∧ l.sl.rx = .length ∧ l.sl.rx ≠ .hunt ∧ l.sl.gapTimer.isSome = true ∧ (1 : Byte).toNat < 2 ∧ 242 < (243 : Byte).toNat
    ∧ (0xC1 : Byte).toNat * 256 + (0x68 : Byte).toNat = (crc16 [0x02, 0x01, 0x05]).toNat
    ∧ (0xC1 : Byte).toNat * 256 + (0x69 : Byte).toNat ≠ (crc16 [0x02, 0x01, 0x05]).toNat ∧ ¬(0x80 : Byte).toNat < 0x80 := by
  decide +kernel

/-- ArbitrationRule: a powered state; a running spacing timer, nothing eligible, and a first eligible entry that is one watt too large. -/
theorem test_witness_arbitration :
    let q := fun b => live.onDa fun u => { u with spacingTimer := none, queue := [entry (.feeder 0) 2 b 0] }
    live.powered = true ∧ live.da.spacingTimer.isSome = true
    ∧ (let held := (q 500).onFeeder 0 fun d => { d with minOffTimer := some 1 }
       (∀ e ∈ held.da.queue, held.eligible e.owner = false))
    ∧ (q 17701).da.queue = [] ++ entry (.feeder 0) 2 17701 0 :: [] ∧ (q 17701).eligible (.feeder 0) = true
    ∧ ((q 17701).da.capacity : Int) - (q 17701).da.params.reserve < (q 17701).bookingSum + 17701 := by decide +kernel

/-- SpacingExpiryGrants: for a drive with a lead and without one, a feeder, and the rake, each with the last watt that fits. -/
theorem test_witness_grant :
    (∀ o ∈ [Owner.drive 1, .feeder 0, .rake],
      let s := live.onDa fun u => { u with queue := [entry o 2 17700 0] }
      s.powered = true ∧ s.da.spacingTimer.isSome = true ∧ s.da.queue = [] ++ entry o 2 17700 0 :: [] ∧ s.eligible o = true
      ∧ (s.bookingSum + 17700 : Int) ≤ (s.da.capacity : Int) - s.da.params.reserve ∧ s.tableHas o = false
      ∧ s.da.params.spacing ≠ 0 ∧ ¬(s.rk.state = .due ∧ s.rk.graceSpent = true ∧ o ≠ .rake))
    ∧ (live.slot 1).profile.lead ≠ 0
    ∧ ((live.onSlot 1 fun d => { d with profile := .zero }).slot 1).profile.lead = 0 := by decide +kernel

/-- ShortfallExpiry: no candidate; a drive last; a feeder last, with the permit clear. -/
theorem test_witness_shortfall :
    let short := busy.onDa fun u => { u with shortfallTimer := some 0 }
    let none_ := live.onDa fun u => { u with shortfallTimer := some 0 }
    let feeder := (live.onDa fun u => { u with
      shortfallTimer := some 0, table := [{ owner := .feeder 0, booking := 500, grantTime := 5, phase := .active }] }).onFeeder 0
      fun d => { d with state := .on }
    short.Consistent ∧ none_.Consistent ∧ feeder.Consistent ∧ short.powered = true ∧ short.da.shortfallTimer.isSome = true
    ∧ none_.da.table = [] ∧ (short.slot 0).profile.shedStage = 2 ∧ (feeder.feeder 0).profile.shedStage = 3
    ∧ feeder.fu.permit = false ∧ short.da.table.map TableEntry.owner = [.feeder 0, .drive 0] ∧ short.da.spacingTimer.isSome = true :=
  ⟨consistent_of (by decide +kernel), consistent_of (by decide +kernel), consistent_of (by decide +kernel), rfl, rfl, rfl, rfl, rfl, rfl,
    rfl, rfl⟩

/-- WaitExpiryAndCancel: queued owners with their timers, an owner that is not queued, and a byte that names no owner. -/
theorem test_witness_wait :
    (busy.da.queue.map QueueEntry.owner).Nodup ∧ (∀ e ∈ busy.da.queue, e.owner ≠ .rake ∧ e.waitTimer.isSome = true)
    ∧ busy.powered = true ∧ busy.queueHas (.drive 2) = false ∧ busy.queueHas (.feeder 11) = false
    ∧ (∀ i : Fin 4, (0x04 : Byte).toNat ≠ ownerByte (.drive i)) ∧ (∀ i : Fin 12, (0x1C : Byte).toNat ≠ ownerByte (.feeder i)) := by
  decide +kernel

/-- SetDriveCutAndHalt, EngageCommand, ReleaseAndClearDrive: every slot state; a full queue and one with one place left; a slot
without a profile; standing mode. -/
theorem test_witness_drive_commands :
    (∀ st ∈ [SlotState.lead, .clutching, .ready, .cutting, .held], (withD0 st).LinkReady ∧ (withD0 st).Consistent
      ∧ ((withD0 st).slot 0).state = st)
    ∧ (∀ st ∈ [SlotState.idle, .coasting, .fault], (withD2 st).LinkReady ∧ (withD2 st).Consistent ∧ ((withD2 st).slot 2).state = st)
    ∧ (busy.slot 1).state = .queued ∧ entry (.drive 1) 2 6000 0 ∈ busy.da.queue ∧ (0, 2500000) ∈ busy.gc.feedForward
    ∧ busy.ss.station = .live ∧ busy.ss.standing = false ∧ (busy.slot 2).present = true ∧ busy.da.queue.length < 8
    ∧ queueOrdered busy.da.queue ∧ (List.replicate 16 (0 : Byte)).length = 16 := by
  refine ⟨?_, ?_, by decide +kernel, by decide +kernel, by decide +kernel, rfl, rfl, rfl, by decide, by unfold queueOrdered; decide, rfl⟩ <;>
    · intro st h
      fin_cases h <;> exact ⟨linkReady_of (by decide +kernel), consistent_of (by decide +kernel), rfl⟩

/-- EngageCommand: the queue full, the profile absent, and standing mode. -/
theorem test_witness_engage_refused :
    let full := (live.onDa fun u => { u with
      queue := ([0, 1, 2, 3, 4, 5, 6, 7] : List (Fin 12)).map fun i => entry (.feeder i) 2 500 i.val, sequence := 8 }).onFu
      fun u => { u with feeders := Vector.ofFn fun i => if i.val < 8 then { feederReset with state := .queued } else feederReset }
    full.LinkReady ∧ full.Consistent ∧ queueOrdered full.da.queue ∧ 8 ≤ full.da.queue.length ∧ (full.slot 2).present = true
    ∧ (full.slot 2).state = .idle ∧ (live.onSlot 2 fun d => { d with present := false }).Consistent
    ∧ (live.onSs fun q => { q with standing := true }).Consistent :=
  ⟨linkReady_of (by decide +kernel), consistent_of (by decide +kernel), by unfold queueOrdered; decide +kernel, by decide +kernel, by decide +kernel,
    by decide +kernel, consistent_of (by decide +kernel), consistent_of (by decide +kernel)⟩

/-- OwnerTimers: a lead, spin-up, coast, cycle and minimum-off timer that runs out in its state, and out of it. -/
theorem test_witness_owner_timers :
    let t := fun (st : SlotState) => live.onSlot 0 fun d => { d with
      state := st, leadTimer := some 0, spinUpTimer := some 0, coastTimer := some 0, cycleTimer := some 0 }
    (t .lead).powered = true ∧ ((t .lead).slot 0).state = .lead ∧ ((t .lead).slot 0).leadTimer.isSome = true
    ∧ ((t .clutching).slot 0).spinUpTimer.isSome = true ∧ ((t .coasting).slot 0).coastTimer.isSome = true
    ∧ ((t .idle).slot 0).cycleTimer.isSome = true ∧ (live.slot 0).leadTimer = none
    ∧ ((live.onFeeder 11 fun d => { d with minOffTimer := some 0 }).feeder 11).minOffTimer.isSome = true
    ∧ live.da.spacingTimer.isSome = true ∧ (∀ e ∈ live.da.queue, live.eligible e.owner = false)
    ∧ ready.da.spacingTimer = none := by decide +kernel

/-- Strokes: CUTTING with two strokes left and with the last one, with and without the release flag; a stroke timer that runs. -/
theorem test_witness_strokes :
    let last := fun b => busy.onSlot 0 fun d => { d with remaining := 1, releaseFlag := b }
    busy.powered = true ∧ (busy.slot 0).state = .cutting ∧ (busy.slot 0).remaining ≠ 1 ∧ (busy.slot 0).strokeTimer.isSome = true
    ∧ ((last false).slot 0).remaining = 1 ∧ ((last false).slot 0).releaseFlag = false ∧ (last true).Consistent
    ∧ ((last true).slot 0).releaseFlag = true ∧ (busy.slot 3).state ≠ .cutting ∧ (busy.slot 3).state ≠ .held :=
  ⟨rfl, rfl, by decide, rfl, rfl, rfl, consistent_of (by decide +kernel), rfl, by decide, by decide⟩

/-- RakeDue, RakeGraceAndRun: an IDLE rake in and out of LIVE, a DUE one with its entry held, a RUNNING one. -/
theorem test_witness_rake :
    live.rk.state = .idle ∧ live.rk.dueTimer.isSome = true ∧ ready.ss.station ≠ .live ∧ busy.da.queue.length < 8
    ∧ queueOrdered busy.da.queue ∧ busy.da.spacingTimer.isSome = true ∧ (busy.slot 0).state = .cutting
    ∧ raking.rk.dueTimer = none ∧ raking.rk.state = .running ∧ raking.rk.runTimer.isSome = true ∧ raking.powered = true
    ∧ dueBusy.rk.graceTimer.isSome = true ∧ dueBusy.rk.state = .due ∧ dueBusy.da.spacingTimer.isSome = true
    ∧ (raking.onRk fun k => { k with graceTimer := some 0, dueTimer := some 0 }).rk.state ≠ .due ∧ live.rk.graceTimer = none := by
  refine ⟨rfl, rfl, by decide, by decide, by unfold queueOrdered; decide, rfl, rfl, rfl, rfl, rfl, rfl, rfl, rfl, rfl, by decide, rfl⟩

/-- FeederCommands: every feeder state in LIVE, and bytes that name no feeder. -/
theorem test_witness_feeder_commands :
    ((busy.feeder 0).state, (busy.feeder 1).state, (busy.feeder 2).state, (busy.feeder 3).state, (busy.feeder 4).state,
      (busy.feeder 5).state) = (FeederState.on, .queued, .shed, .capped, .locked, .off)
    ∧ entry (.feeder 1) 2 800 1 ∈ busy.da.queue ∧ busy.da.queue.length < 8 ∧ busy.ss.station = .live ∧ ready.ss.station ≠ .live
    ∧ (0x0F : Byte).toNat < 0x10 ∧ 0x1B < (0x1C : Byte).toNat ∧ (List.replicate 11 (0 : Byte)).length = 11 ∧ 1 < (2 : Byte).toNat := by
  decide +kernel

/-- StageTimerFires: a stage that times, with a feeder ON and one QUEUED, a slot engaged and one queued within its reach, and
owners outside it; a stage that is armed. -/
theorem test_witness_stage :
    let s := (busy.onStage 1 fun k => { k with state := .timing, timer := some 0 }).onFu fun u => { u with
      feeders := map12 (fun d => { d with profile := { d.profile with shedStage := 2 } }) u.feeders }
    s.powered = true ∧ s.Consistent ∧ (s.stage 1).state = .timing ∧ (s.stage 1).timer.isSome = true
    ∧ ¬(s.rk.state = .due ∧ s.rk.graceSpent = true) ∧ (s.feeder 0).state = .on ∧ (s.feeder 1).state = .queued
    ∧ (1 ≤ (s.feeder 0).profile.shedStage ∧ (s.feeder 0).profile.shedStage ≤ 2) ∧ (s.slot 0).state.engaged = true
    ∧ (s.slot 1).state = .queued ∧ (s.slot 0).profile.shedStage = 2 ∧ s.da.spacingTimer.isSome = true ∧ (s.stage 0).state ≠ .timing
    ∧ ¬(busy.feeder 0).profile.shedStage ≤ 2 :=
  ⟨rfl, consistent_of (by decide +kernel), rfl, rfl, by decide, rfl, rfl, by decide, rfl, rfl, rfl, rfl, by decide, by decide⟩

/-- RestoreTimerOffers: outside LIVE; in LIVE with room for every SHED feeder, every profile in range. -/
theorem test_witness_restore :
    let s := busy.onFu fun u => { u with restoreTimer := some 0 }
    s.powered = true ∧ s.fu.restoreTimer.isSome = true ∧ s.ss.station = .live ∧ s.Consistent ∧ s.ProfilesInRange
    ∧ s.da.spacingTimer.isSome = true ∧ (s.feeder 2).state = .shed ∧ (s.feeder 0).state ≠ .shed
    ∧ s.da.queue.length + (allFeeders.filter fun i => decide ((s.feeder i).state = .shed)).length ≤ 8
    ∧ ready.ss.station ≠ .live ∧ ready.fu.restoreTimer = none :=
  ⟨rfl, rfl, rfl, consistent_of (by decide +kernel), ⟨by decide +kernel, by decide +kernel⟩, rfl, rfl, by decide, by decide +kernel,
    by decide, rfl⟩

/-- TrimChangesTheCountByT, CalendarSecond: the last date that a calendar holds is a date with its right weekday, with and without
a shift; with and without a supply. -/
theorem test_witness_calendar :
    validClock 2099 12 31 23 59 59 = true ∧ Weekday.thursday = weekdayOf 2099 12 31 ∧ cuCold.subSecond < 32768
    ∧ cuCold.windowPos < 1048576 ∧ cuCold.calendar.weekday = weekdayOf 2000 1 1 ∧ (ready.setPowered false).powered = false
    ∧ (ready.onCu fun u => { u with zeroRequest := true }).cu.zeroRequest = true := by decide +kernel

/-- MeteringSecond: a feeder that is ON and one that is not; powers at and over the cap; a table with a band before and a table
with every band after the minute. -/
theorem test_witness_metering :
    let k := busy.onStore fun a => { a with commissioning := { a.commissioning with factors := Vector.replicate 12 32768 } }
    let a := after (.calendarSecond (Vector.replicate 12 60000)) k
    let b := after (.calendarSecond (Vector.replicate 12 60002)) k
    let c := after (.calendarSecond (Vector.replicate 12 60002)) (k.onFeeder 0 fun d => { d with capCounter := 59 })
    k.powered = true ∧ (k.feeder 0).state = .on ∧ (k.feeder 5).state ≠ .on
    ∧ ((a.account 0).power, (a.feeder 0).capCounter) = (30000, 0) ∧ ((b.account 0).power, (b.feeder 0).capCounter) = (30001, 1)
    ∧ (c.feeder 0).state = .capped ∧ (b.account 5).power = 0
    ∧ tariffIndex [⟨0, 2⟩] 0 = 2 ∧ tariffIndex [⟨1, 3⟩] 0 = 3 := by decide +kernel

/-- ClockCommands: a trim that waits and none, a shift that waits, hours 0 and 23, and a crossing with the contactor closed and
open, at each state of the correction. -/
theorem test_witness_clock :
    (ready.onCu fun u => { u with pendingTrim := some 21 }).cu.pendingTrim.isSome = true
    ∧ ready.cu.pendingTrim = none ∧ ready.cu.pendingShift = none ∧ ready.cu.calendar.hour = 0 ∧ live.powered = true
    ∧ live.ss.fieldClosed = true ∧ ready.ss.fieldClosed = false
    ∧ (let slow := live.onCu fun u => { u with correction := .slow, n := 4294967295 }
       slow.cu.correction = .slow ∧ (slow.cu.n + 1 - 50 * slow.cu.e).toInt = 0)
    ∧ (let early := live.onCu fun u => { u with n := 100 }
       early.cu.correction = .inactive ∧ early.cu.params.deadband < (20 * (early.cu.n + 1 - 50 * early.cu.e).toInt).natAbs) := by
  decide +kernel

/-- StoreCommands: the protection and the lock, set and clear; an idle store; jobs that are present; a good and a bad table. -/
theorem test_witness_store_commands :
    let open_ := storing fun a => { a with protect := false }
    let job : ConfigJob := { image := [], erased := false, started := 0 }
    ready.store.protect = true ∧ ready.store.commissioning.locked = false
    ∧ (storing fun a => { a with commissioning := { a.commissioning with locked := true } }).store.commissioning.locked = true
    ∧ open_.LinkReady ∧ open_.store.protect = false ∧ open_.store.configJob = none ∧ open_.mu.pendingBands = none
    ∧ (open_.store.state = .ready ∧ open_.store.checkpoint = none ∧ open_.store.configJob = none ∧ open_.store.tariffJob = none
      ∧ open_.store.waitingErases = [] ∧ open_.store.readRequest = none ∧ open_.store.erase = none)
    ∧ (open_.onStore fun a => { a with configJob := some job }).store.configJob.isSome = true
    ∧ (open_.onMu fun u => { u with pendingBands := some [] }).mu.pendingBands.isSome = true
    ∧ (List.replicate 40 (0 : Byte)).length = 40
    ∧ (let good : List (Nat × Byte) := [(0, 0), (1439, 3)]
       good.length ≤ 8 ∧ (∀ b ∈ good, b.1 ≤ 1439 ∧ b.2.toNat < 4) ∧ good.Pairwise fun a b => a.1 < b.1)
    ∧ ¬([((0 : Nat), (0 : Byte)), (0, 1)].Pairwise fun a b => a.1 < b.1) :=
  ⟨rfl, rfl, rfl, linkReady_of (by decide), rfl, rfl, rfl, by decide, rfl, rfl, rfl, by decide, by decide⟩

/-- R200: the delivered block has 256 bytes, of which READ_COMMISSION returns 41; WRITE_COMMISSION writes the first 40 alone. -/
theorem test_commissioning_block :
    let s := ready.onStore fun a => { a with commissioning := { a.commissioning with unused := Vector.replicate 215 7 } }
    commissioningDelivered.block.length = 256 ∧ commissioningDelivered.bytes.length = 41
    ∧ (after (.writeCommission 1 (List.replicate 40 9)) s).store.commissioning.block =
      List.replicate 40 9 ++ 0 :: List.replicate 215 7 := by decide +kernel

/-- LockCommission: the lock clear and set; a reset and a loss of the supply with the lock set. -/
theorem test_witness_lock :
    let s := storing fun a => { a with commissioning := { a.commissioning with locked := true } }
    ready.LinkReady ∧ s.LinkReady ∧ s.store.commissioning.locked = true ∧ ready.store.commissioning.locked = false
    ∧ (∃ t, step { s with pending := [.resetLine] } = .next t) ∧ (∃ t, step { s with pending := [.mainDomainPowerLoss] } = .next t)
    ∧ (∃ t, step { ready with pending := [.writeCommission 1 (List.replicate 40 9)] } = .next t)
    ∧ (after .mainDomainPowerLoss s).store.commissioning.locked = true ∧ (List.replicate 40 (0 : Byte)).length = 40 :=
  ⟨linkReady_of (by decide), linkReady_of (by decide), rfl, rfl, ⟨_, rfl⟩, ⟨_, rfl⟩, ⟨_, rfl⟩, rfl, rfl⟩

/-- JournalCommands: a checkpoint to take, one that waits, the fault; a sequence in the sector that is being erased at each end of
its range, one above every record, and one that is read at once. -/
theorem test_witness_journal :
    let s := storing fun a => { a with journal := some journal12 }
    let e := storing fun a => { a with
      journal := some journal12, state := .erasing, erase := some { sector := 2, remaining := 400, progress := 0 } }
    s.LinkReady ∧ e.LinkReady ∧ s.store.startup = .complete ∧ s.store.journal = some journal12
    ∧ journal12.nextSequence ≤ 4294967284 ∧ s.store.fault = false ∧ s.store.checkpoint = none
    ∧ e.store.erase = some { sector := 2, remaining := 400, progress := 0 } ∧ sectorOf 0 = 2 ∧ sectorOf 1 = 2
    ∧ journal12.index[0] = .records 1 8 ∧ journal12.index[1] = .records 9 12 ∧ s.store.state = .ready ∧ s.store.erase = none
    ∧ s.store.readRequest = none
    ∧ (storing fun a => { a with fault := true }).store.fault = true
    ∧ (storing fun a => { a with checkpoint := some checkpoint1 }).store.checkpoint.isSome = true :=
  ⟨linkReady_of (by decide +kernel), linkReady_of (by decide +kernel), rfl, rfl, by decide, rfl, rfl, rfl, by decide, by decide,
    by decide +kernel, by decide +kernel, rfl, rfl, rfl, rfl, rfl⟩

/-- CutOffWork: each configuration page in flight; a checkpoint's page in flight with no erase and with one elsewhere; an erase in
flight of sector 0 and of the sector of the write position; nothing in flight. -/
theorem test_witness_cutOff :
    let page := fun (q : Fin 224) (e : Option EraseRecord) => storing fun a => { a with
      state := .programming, flight := some (.checkpointPage q true), erase := e, checkpoint := some checkpoint1
      journal := some journal12 }
    let erase := fun (k : Fin 16) => storing fun a => { a with
      state := .erasing, erase := some { sector := k, remaining := 9, progress := 0 }, journal := some journal12 }
    (∀ second : Bool, (storing fun a => { a with flight := some (.configPage second) }).store.flight
      = some (.configPage second))
    ∧ (page 2 none).store.flight = some (.checkpointPage 2 true) ∧ (page 2 none).store.checkpoint = some checkpoint1
    ∧ (page 2 none).store.erase = none ∧ (3 : Fin 16) ≠ sectorOf 2
    ∧ (page 2 (some { sector := 3, remaining := 9, progress := 50 })).store.flight = some (.checkpointPage 2 true)
    ∧ (erase 0).store.erase = some { sector := 0, remaining := 9, progress := 0 } ∧ (erase 0).store.flight = none
    ∧ (erase 2).store.journal = some journal12 ∧ sectorOf journal12.writePos = 2 ∧ ready.powered = true := by decide +kernel

/-- JournalCommands: among the pages of `journal12`, page 0 holds the lowest sequence from 5 up, and page 1 from 9 up; each is the only
such page. -/
theorem test_witness_journal_page :
    let s := storing fun a => { a with journal := some journal12 }
    s.LinkReady ∧ s.store.state = .ready ∧ s.store.erase = none ∧ s.store.readRequest = none
    ∧ journal12.index[(0 : Fin 224)] = .records 1 8 ∧ journal12.index[(1 : Fin 224)] = .records 9 12
    ∧ (∀ r : Fin 224, r ≠ 0 → journal12.index[r] ≠ .fresh → r = 1) ∧ max 1 5 < max 9 5
    ∧ (∀ r : Fin 224, r ≠ 1 → journal12.index[r] ≠ .fresh → r = 0) ∧ 8 < 9 :=
  ⟨linkReady_of (by decide +kernel), rfl, rfl, rfl, by decide +kernel, by decide +kernel, by decide +kernel, by decide,
    by decide +kernel, by decide⟩

/-- StoreCompletions: a program in a suspension, and a failing erase of sector 0 with its job. -/
theorem test_witness_completions_suspended :
    let job : ConfigJob := { image := [], erased := false, started := 0 }
    let page := storing fun a => { a with
      state := .programmingInSuspend, flight := some (.checkpointPage 2 true), checkpoint := some checkpoint1
      journal := some journal12, erase := some { sector := 3, remaining := 350, progress := 50 } }
    let erase := storing fun a => { a with
      state := .erasing, erase := some { sector := 0, remaining := 0, progress := 400 }, configJob := some job
      journal := some journal12 }
    page.store.state = .programmingInSuspend ∧ page.store.flight = some (.checkpointPage 2 true)
    ∧ page.store.erase = some { sector := 3, remaining := 350, progress := 50 } ∧ page.store.checkpoint = some checkpoint1
    ∧ page.store.journal = some journal12 ∧ erase.store.state = .erasing ∧ erase.store.configJob = some job
    ∧ erase.store.erase = some { sector := 0, remaining := 0, progress := 400 } ∧ erase.store.journal = some journal12
    ∧ (after (.programCompletion true) page).store.erase = some { sector := 3, remaining := 350, progress := 0 } := by decide +kernel

/-- StoreCompletions: the first page of a configuration, and an erase of sector 1 with its job. -/
theorem test_witness_completions_first :
    let config := storing fun a => { a with
      state := .programming, flight := some (.configPage false), configJob := some { image := [], erased := true, started := 1 } }
    let job : TariffJob := { record := List.replicate 256 0, erased := false, started := 0 }
    let erase := storing fun a => { a with
      state := .erasing, erase := some { sector := 1, remaining := 0, progress := 400 }, tariffJob := some job, journal := some journal12 }
    config.store.state = .programming ∧ config.store.flight = some (.configPage false) ∧ config.store.fault = false
    ∧ erase.store.tariffJob = some job ∧ erase.store.erase = some { sector := 1, remaining := 0, progress := 400 }
    ∧ erase.store.state = .erasing ∧ erase.store.journal = some journal12 := by decide +kernel

/-- StoreCompletions: the operations in flight, at their last page, and an erase at either side of what a suspension leaves. -/
theorem test_witness_completions :
    let config := storing fun a => { a with
      state := .programming, flight := some (.configPage true), configJob := some { image := [], erased := true, started := 2 } }
    let tariff := (storing fun a => { a with
      state := .programming, flight := some .tariffPage
      tariffJob := some { record := List.replicate 256 0, erased := true, started := 1 } }).onMu fun u => { u with pendingBands := some [] }
    let page := storing fun a => { a with
      state := .programming, flight := some (.checkpointPage 2 true), checkpoint := some checkpoint1, journal := some journal12 }
    let erase := fun n => storing fun a => { a with
      state := .erasing, erase := some { sector := 0, remaining := n, progress := 0 }, readRequest := some 100 }
    let suspended := storing fun a => { a with
      state := .eraseSuspended, erase := some { sector := 3, remaining := 350, progress := 50 }, readRequest := some 100 }
    ready.powered = true ∧ ready.store.flight = none ∧ ready.store.state ≠ .erasing ∧ ready.store.state ≠ .readingInSuspend
    ∧ ready.store.state ≠ .eraseSuspended ∧ config.store.flight = some (.configPage true) ∧ config.store.state = .programming
    ∧ tariff.store.flight = some .tariffPage ∧ tariff.mu.pendingBands = some []
    ∧ page.store.flight = some (.checkpointPage 2 true) ∧ page.store.checkpoint = some checkpoint1
    ∧ page.store.journal = some journal12 ∧ (erase 51).store.workOutside = true ∧ (erase 51).store.state = .erasing
    ∧ (50 - 0 < 51 ∧ 50 ≤ 50 - 0) ∧ (erase 50).store.erase = some { sector := 0, remaining := 50, progress := 0 }
    ∧ suspended.store.state = .eraseSuspended ∧ suspended.store.readRequest = some 100
    ∧ (suspended.onStore fun a => { a with readRequest := none }).store.workOutside = false
    ∧ (suspended.onStore fun a => { a with readRequest := none, checkpoint := some checkpoint1 }).store.workOutside = true
    ∧ (suspended.onStore fun a => { a with state := .readingInSuspend, flight := some (.readPage 100) }).store.flight
        = some (.readPage 100) := by decide +kernel

/-- The bytes of an image with its CRC-16. -/
def closed (c : ConfigImage) : List Byte := c.bytes ++ u16 (crc16 c.bytes).toNat

/-- StartUp: an array that holds a stored image. -/
theorem test_witness_stored_image :
    let c := currentImage live
    let s := State.reset.onStore fun a => { a with array := Flash.replace [] 0 4096 (closed c) }
    s.powered = true ∧ s.store.startup = .loading ∧ Flash.readBytes s.store.array 0 311 = c.bytes
    ∧ Flash.readBytes s.store.array 311 2 = u16 (crc16 c.bytes).toNat := by
  have hl : (currentImage live).bytes.length = 311 := by decide +kernel
  have hc : (closed (currentImage live)).length = 313 := by simp [closed, hl, u16]
  refine ⟨rfl, rfl, ?_, ?_⟩
  · have := Flash.readBytes_replace [] 0 4096 0 311 (closed (currentImage live)) (by omega) (by omega)
    simpa [closed, State.onStore, hl] using this
  · have := Flash.readBytes_replace [] 0 4096 311 2 (closed (currentImage live)) (by omega) (by omega)
    simpa [closed, State.onStore, hl, u16] using this

/-- The CRC-16 of 311 erased bytes is not the erased one. -/
theorem crc_erased : crc16 (List.replicate 311 0xFF) = 0xD148#16 := by
  have e : List.replicate 311 (0xFF : Byte) = List.replicate 64 0xFF ++ (List.replicate 64 0xFF ++ (List.replicate 64 0xFF
      ++ (List.replicate 64 0xFF ++ List.replicate 55 0xFF))) := by rw [← List.replicate_add, ← List.replicate_add,
    ← List.replicate_add, ← List.replicate_add]
  have h1 : (List.replicate 64 (0xFF : Byte)).foldl crcByte 0xFFFF#16 = 0xF154#16 := by decide +kernel
  have h2 : (List.replicate 64 (0xFF : Byte)).foldl crcByte 0xF154#16 = 0x1DA3#16 := by decide +kernel
  have h3 : (List.replicate 64 (0xFF : Byte)).foldl crcByte 0x1DA3#16 = 0x12C3#16 := by decide +kernel
  have h4 : (List.replicate 64 (0xFF : Byte)).foldl crcByte 0x12C3#16 = 0x5B2F#16 := by decide +kernel
  have h5 : (List.replicate 55 (0xFF : Byte)).foldl crcByte 0x5B2F#16 = 0xD148#16 := by decide +kernel
  unfold crc16
  rw [e]
  simp only [List.foldl_append]
  rw [h1, h2, h3, h4, h5]

/-- StartUp: the array as delivered holds no image, no tariff table and no record. -/
theorem test_witness_erased :
    State.reset.powered = true ∧ State.reset.store.startup = .loading ∧ State.reset.lu.forebay.samples = []
    ∧ Flash.readBytes State.reset.store.array 311 2 ≠ u16 (crc16 (Flash.readBytes State.reset.store.array 0 311)).toNat
    ∧ Flash.read State.reset.store.array 4096 = 0xFF ∧ State.reset.ArrayCanonical
    ∧ (let s := State.reset.onStore fun a => { a with startup := .scanning }
       s.store.startup = .scanning ∧ s.ArrayCanonical) := by
  refine ⟨rfl, rfl, rfl, ?_, rfl, ⟨by decide, by decide⟩, rfl, ⟨by decide, by decide⟩⟩
  have h : State.reset.store.array = [] := rfl
  rw [h, Flash.readBytes_nil, Flash.readBytes_nil, crc_erased]
  decide

/-- A record of F2 with the sequence 7. -/
def record7 : List Byte := { checkpoint1 with firstSequence := 5 }.record 2

/-- The 32 bytes at a place of an array that holds `record7` in page 3 at place 1, and no other byte. -/
theorem record7_alone (p : Fin 224) (place : Nat) (hp : place < 8) :
    Flash.readBytes (Flash.replace [] 8992 32 record7) (journalBase p + 32 * place) 32
      = if p = 3 ∧ place = 1 then record7 else List.replicate 32 0xFF := by
  have hl : record7.length = 32 := by decide +kernel
  have hb : journalBase p = 8192 + 256 * p.val := by simp [journalBase, pageBase, sectorOf, pageOf]; omega
  split
  · next h =>
    obtain ⟨rfl, rfl⟩ := h
    rw [show journalBase 3 + 32 * 1 = 8992 + 0 from rfl, Flash.readBytes_replace [] 8992 32 0 32 record7 (by omega) (by omega),
      List.drop_zero, List.take_of_length_le (by omega)]
  · next h =>
    apply List.ext_getElem
    · simp [Flash.readBytes]
    · intro i h1 h2
      have hi : i < 32 := by simpa using h2
      rw [Flash.readBytes_getElem, Flash.read_replace, if_neg]
      · rw [List.getElem_replicate]; rfl
      · intro hx
        exact h ⟨Fin.ext (by rw [hb] at hx; show p.val = 3; omega), by rw [hb] at hx; omega⟩

/-- StartUp: an array with one record: it is the only record of F2, and the one with the highest sequence; no other feeder has one; the
store is idle. And in an erased array no place holds one. -/
theorem test_witness_scan :
    let m := Flash.replace [] 8992 32 record7
    let s := State.reset.onStore fun a => { a with startup := .scanning, array := m }
    s.store.startup = .scanning ∧ s.ArrayCanonical ∧ s.store.state = .ready ∧ s.store.checkpoint = none
    ∧ validRecord (Flash.readBytes m (journalBase 3 + 32 * 1) 32) = true
    ∧ u8At (Flash.readBytes m (journalBase 3 + 32 * 1) 32) 8 = 18 ∧ u32At (Flash.readBytes m (journalBase 3 + 32 * 1) 32) 0 = 7
    ∧ (∀ (p : Fin 224) (place : Nat), place < 8 → validRecord (Flash.readBytes m (journalBase p + 32 * place) 32) = true →
        p = 3 ∧ place = 1)
    ∧ ∀ (p : Fin 224) (place : Nat), validRecord (Flash.readBytes [] (journalBase p + 32 * place) 32) = false := by
  have hv : validRecord (List.replicate 32 (0xFF : Byte)) = false := by decide
  have h3 := record7_alone 3 1 (by decide)
  rw [if_pos ⟨rfl, rfl⟩] at h3
  refine ⟨rfl, Flash.wf_replace ⟨.nil, by simp⟩ (by decide) _, rfl, rfl, ?_, ?_, ?_, ?_, ?_⟩
  · rw [h3]; decide +kernel
  · rw [h3]; decide +kernel
  · rw [h3]; decide +kernel
  · intro p place hp h
    by_contra hne
    rw [record7_alone p place hp, if_neg hne, hv] at h
    cases h
  · intro p place
    rw [Flash.readBytes_nil, hv]

/-- StartUp: an array that holds a table of one band and no image. -/
theorem test_witness_stored_bands :
    let b : List Band := [⟨360, 1⟩]
    let m : Flash := [(4096, 1), (4097, 0x68), (4098, 1), (4099, 1)] ++ cellsFrom 4100 (u16 (crc16 (bandBytes b)).toNat)
    Flash.readBytes m 4096 4 = bandBytes b ∧ Flash.readBytes m 4100 2 = u16 (crc16 (bandBytes b)).toNat
    ∧ Flash.wf m := by decide +kernel

/-- StartUp, ConfigImageRoundTrip: the image of the settings in force stands in range. -/
theorem test_witness_image : (currentImage live).InRange :=
  ⟨by decide +kernel, by decide +kernel, by decide +kernel, by decide +kernel, by decide +kernel, by decide +kernel, by decide +kernel,
    by decide +kernel, by decide +kernel⟩

/-- Resets: with a supply and without, the validity flag set and clear, an operation in flight and none. -/
theorem test_witness_resets :
    ready.powered = true ∧ (ready.setPowered false).powered = false ∧ ready.cu.valid = true
    ∧ (ready.onCu fun u => { u with valid := false }).cu.valid = false ∧ ready.store.flight = none ∧ ready.store.erase = none := by
  decide

/-- NothingIsDrivenOutsideLive: a consistent state outside LIVE, and one in it with a slot in LEAD whose timer runs. -/
theorem test_witness_driven :
    ready.Consistent ∧ ready.DrivenInLive ∧ ready.ss.station ≠ .live
    ∧ (withD0 .lead).Consistent ∧ (withD0 .lead).DrivenInLive ∧ ((withD0 .lead).slot 0).state = .lead
    ∧ (∃ t, step { ready with pending := [.leadTimerExpiry 0] } = .next t) :=
  ⟨consistent_of (by decide +kernel), fun _ => ⟨by constructor <;> decide +kernel, rfl⟩, by decide,
    consistent_of (by decide +kernel), fun h => absurd rfl h, rfl, _, rfl⟩

/-- The statements about every step: states of the kind they speak of, with a command in front. -/
theorem test_witness_steps :
    (∃ t, step { busy with pending := [.strokeEnd 0] } = .next t) ∧ busy.Bounded ∧ busy.ServiceWell ∧ busy.ArrayCanonical
    ∧ busy.ResiduesLow ∧ busy.FieldFollowsLive ∧ busy.StandingInLive ∧ busy.CaptureInTripped ∧ busy.RelayFollows
    ∧ busy.DrivenInLive ∧ busy.ParamsInRange ∧ busy.ProfilesInRange ∧ busy.GateInRange ∧ busy.Consistent ∧ busy.QueueWell := by
  refine ⟨⟨_, rfl⟩, ⟨by decide, by decide, by decide, by decide, by decide, by decide⟩,
    ⟨fun h => Bool.noConfusion h, fun _ h => Option.noConfusion rfl (heq_of_eq h)⟩, ⟨by decide, by decide⟩,
    by unfold State.ResiduesLow; decide +kernel, rfl, fun _ => rfl, rfl, by unfold State.RelayFollows; decide +kernel,
    fun h => absurd rfl h, ?_, ?_, ?_, consistent_of (by decide +kernel), ?_⟩
  · exact ⟨by decide, by decide, by decide, by decide, by decide, by decide⟩
  · exact ⟨by decide +kernel, by decide +kernel⟩
  · exact ⟨by decide, by decide, by decide, by decide⟩
  · exact ⟨by unfold queueOrdered; decide, by decide +kernel, by decide, by decide, by decide⟩
end Sys2Proof.Tests
end

/-! PROOFS. Speed measurement and gate control (chapter 1): the conversion of a window, and the gate outside RUN_UP and LIVE. -/

namespace Sys2Proof.Machine

/-! ### The conversion of a window (R3) -/

/-- R3: below T = 10,000 the result is set. -/
theorem windowFrequency_of_lt {t : Nat} (h : t < 10000) : windowFrequency t = 100000 := if_pos h

/-- R3: from T = 10,000 on the formula holds. -/
theorem windowFrequency_of_ge {t : Nat} (h : 10000 ≤ t) : windowFrequency t = (1000000000 + t / 2) / t :=
  if_neg (Nat.not_lt.mpr h)

/-- R3: the formula is 10^9 / T rounded half up: f lies above 10^9 / T - 1/2 and at most 1/2 above it. -/
theorem windowFrequency_rounds {t : Nat} (h : 10000 ≤ t) :
    2 * windowFrequency t * t ≤ 2000000000 + t ∧ 2000000000 + t < (2 * windowFrequency t + 2) * t := by
  rw [windowFrequency_of_ge h]
  have hlow := Nat.div_mul_le_self (1000000000 + t / 2) t
  have hhigh := Nat.lt_mul_of_div_lt (Nat.lt_succ_self ((1000000000 + t / 2) / t)) (by omega : 0 < t)
  generalize (1000000000 + t / 2) / t = f at hlow hhigh
  rw [Nat.succ_mul] at hhigh
  rw [Nat.add_mul, Nat.mul_assoc]
  omega

/-- R3: a window that can complete gives at least 208 mHz. -/
theorem le_windowFrequency {t : Nat} (h : t < 4800000) : 208 ≤ windowFrequency t := by
  by_cases hlow : t < 10000
  · rw [windowFrequency_of_lt hlow]; omega
  · rw [windowFrequency_of_ge (by omega), Nat.le_div_iff_mul_le (by omega)]; omega

/-! ### What trips, stops and changes of station state leave alone of the shaft -/

/-- What a control step reads of the shaft: the speed unit, the governor's settings, the gate output and the station state. -/
def State.shaft (s : State) : SpeedUnit × GovParams × Nat × StationState := (s.smu, s.gc.params, s.gc.gateOut, s.ss.station)

/-- Whatever keeps `still` keeps the shaft. -/
theorem shaft_of_still {s t : State} (h : t.still = s.still) : t.shaft = s.shaft := by
  have hs : t.still.shaft = s.still.shaft := congrArg State.shaft h
  exact hs

theorem onDs_shaft (s : State) (g : DriveScheduler → DriveScheduler) : (s.onDs g).shaft = s.shaft := rfl

theorem onSs_shaft (s : State) (g : Sequencer → Sequencer) (hg : ∀ q, (g q).station = q.station) :
    (s.onSs g).shaft = s.shaft := by
  unfold State.shaft
  rw [State.onSs_ss, hg]; rfl

/-- An operation that keeps the shaft keeps it where a condition guards it. -/
theorem shaft_ite {p : Prop} [Decidable p] {g : State → State} (hg : ∀ s, (g s).shaft = s.shaft) (s : State) :
    (if p then g s else s).shaft = s.shaft := by
  split
  · exact hg s
  · rfl

theorem shaft_eq_iff {s : State} {u : SpeedUnit} {p : GovParams} {g : Nat} {st : StationState} :
    s.shaft = (u, p, g, st) ↔ s.smu = u ∧ s.gc.params = p ∧ s.gc.gateOut = g ∧ s.ss.station = st := by
  simp [State.shaft]

/-- Steps that each keep the shaft keep it together. -/
theorem foldl_shaft {α : Type} {g : State → α → State} (hg : ∀ s a, (g s a).shaft = s.shaft) (l : List α) (s : State) :
    (l.foldl g s).shaft = s.shaft :=
  List.foldlRecOn (motive := fun t => t.shaft = s.shaft) l g rfl fun t ht a _ => (hg t a).trans ht

@[simp] theorem post_shaft (r : Report) (s : State) : (post r s).shaft = s.shaft := shaft_of_still (still_post r s)

@[simp] theorem publishCapacity_shaft (s : State) : (publishCapacity s).shaft = s.shaft := by
  have hs := congrArg State.shaft (still_publishCapacity s)
  exact hs

@[simp] theorem computeCapacity_shaft (s : State) : (computeCapacity s).shaft = s.shaft := publishCapacity_shaft _

@[simp] theorem recomputeLimit_shaft (s : State) : (recomputeLimit s).shaft = s.shaft := computeCapacity_shaft _

@[simp] theorem handLive_shaft (live : Bool) (s : State) : (handLive live s).shaft = s.shaft :=
  shaft_of_still (s := s.onCu fun u => { u with liveCopy := live }) (still_evaluateCorrection _)

@[simp] theorem takeDownLoads_shaft (c : DownCause) (s : State) : (takeDownLoads c s).shaft = s.shaft :=
  shaft_of_still (still_takeDownLoads c s)

/-- R38: a change of a condition reaches the alarm relay at most. -/
theorem alarmChanged_frame (source : AlarmSource) (s : State) :
    ∃ relay : Bool, alarmChanged source s = s.onSs fun q => { q with alarmRelay := relay } := by
  unfold alarmChanged setAlarmRelay
  split
  · exact ⟨_, rfl⟩
  · exact ⟨s.ss.alarmRelay, rfl⟩

/-- R23: a change of the station state is one of the sequencer's state and alarm relay, and of the link. -/
theorem setStation_frame (new : StationState) (cause : StationCause) (s : State) : ∃ (relay : Bool) (l : StationLink),
    setStation new cause s = { s with ss := { s.ss with station := new, alarmRelay := relay }, sl := l } := by
  obtain ⟨relay, hrelay⟩ := alarmChanged_frame .trip (s.onSs fun q => { q with station := new })
  unfold setStation
  simp only []
  split
  · rw [hrelay]; exact ⟨relay, post_eq _ _⟩
  · exact ⟨s.ss.alarmRelay, post_eq _ _⟩

@[simp] theorem setStation_shaft (new : StationState) (cause : StationCause) (s : State) :
    (setStation new cause s).shaft = (s.smu, s.gc.params, s.gc.gateOut, new) := by
  obtain ⟨relay, l, h⟩ := setStation_frame new cause s
  rw [h]; rfl

/-- R29, R32: leaving for STOPPING or TRIPPED moves the station alone of the shaft. -/
theorem leaveFor_shaft (new : StationState) (cause : StationCause) (c : DownCause) (s : State) :
    (leaveFor new cause c s).shaft = (s.smu, s.gc.params, s.gc.gateOut, new) := by
  have hset := setStation_shaft new cause (s.onSs fun q => { q with standing := false })
  have hdown : ∀ x : State, (((takeDownLoads c x).onDs fun d => { d with feedHold := false }).onSs
      fun q => { q with fieldClosed := false }).shaft = x.shaft := by
    intro x
    rw [onSs_shaft, onDs_shaft, takeDownLoads_shaft]
    exact fun _ => rfl
  unfold leaveFor
  simp only []
  rw [shaft_ite recomputeLimit_shaft, hdown, shaft_ite (handLive_shaft false)]
  exact hset

/-- R32: a trip brings the station to TRIPPED and moves nothing else of the shaft. -/
theorem takeTrip_shaft (cause : TripCause) (f : Nat) (s : State) :
    (takeTrip cause f s).shaft = (s.smu, s.gc.params, s.gc.gateOut, .tripped) := by
  unfold takeTrip
  simp only []
  rw [post_shaft]
  split
  · next h => rw [← h]; rfl
  · exact leaveFor_shaft _ _ _ _

/-! ### The end of a run-down -/

/-- The state is another one in the link and the account store alone. -/
def OnlyLinkAndStore (s t : State) : Prop := t = { s with store := t.store, sl := t.sl }

theorem OnlyLinkAndStore.refl (s : State) : OnlyLinkAndStore s s := rfl

theorem OnlyLinkAndStore.trans {s t u : State} (h : OnlyLinkAndStore s t) (h' : OnlyLinkAndStore t u) : OnlyLinkAndStore s u := by
  unfold OnlyLinkAndStore at *
  rw [h', h]

theorem onlyLinkAndStore_onStore (s : State) (g : AccountStore → AccountStore) : OnlyLinkAndStore s (s.onStore g) := rfl

theorem onlyLinkAndStore_post (r : Report) (s : State) : OnlyLinkAndStore s (post r s) := by
  obtain ⟨l, h⟩ := post_eq r s
  rw [h]; rfl

theorem onlyLinkAndStore_reply (r : Result) (content : List Byte) (s : State) : OnlyLinkAndStore s (reply r content s) := by
  unfold reply answer transmitArbitrate
  repeat' split
  all_goals rfl

theorem onlyLinkAndStore_pageRead (p : Fin 224) (s : State) : OnlyLinkAndStore s (pageRead p s) := by
  unfold pageRead
  simp only []
  repeat' split
  · rfl
  · refine .trans ?_ (onlyLinkAndStore_reply _ _ _)
    rfl
  · rfl

theorem onlyLinkAndStore_serveReads (n : Nat) (s : State) : OnlyLinkAndStore s (serveReads n s) := by
  induction n generalizing s with
  | zero => exact .refl s
  | succ n ih =>
    unfold serveReads
    split
    · exact .trans (onlyLinkAndStore_pageRead _ s) (ih _)
    · exact .refl s

theorem onlyLinkAndStore_kick (s : State) : OnlyLinkAndStore s (kick s) := by
  unfold kick
  repeat' split
  · exact .trans (onlyLinkAndStore_serveReads 2 s) (onlyLinkAndStore_onStore _ _)
  all_goals rfl

/-- R176: a trigger of a checkpoint, taken or dropped, reaches the link and the account store alone. -/
theorem onlyLinkAndStore_checkpointTrigger (t : Trigger) (s : State) : OnlyLinkAndStore s (checkpointTrigger t s) := by
  unfold checkpointTrigger postSkipped takeCheckpoint
  repeat' split
  case isFalse => exact .trans (onlyLinkAndStore_onStore s _) (onlyLinkAndStore_kick _)
  all_goals exact onlyLinkAndStore_post _ s

/-- R30: entry to STOPPED reaches the sequencer, the link and the account store alone. -/
theorem enterStopped_frame (cause : StationCause) (s : State) : ∃ (q : Sequencer) (a : AccountStore) (l : StationLink),
    q.station = .stopped ∧ enterStopped cause s = { s with ss := q, store := a, sl := l } := by
  obtain ⟨relay, l, hset⟩ := setStation_frame .stopped cause (s.onSs fun q => { q with runDownTimer := none, runDownMark := false })
  have htrigger : ∀ x : State, checkpointTrigger .stop x =
      { x with store := (checkpointTrigger .stop x).store, sl := (checkpointTrigger .stop x).sl } :=
    onlyLinkAndStore_checkpointTrigger .stop
  unfold enterStopped
  simp only []
  rw [htrigger, hset]
  exact ⟨_, _, _, rfl, rfl⟩

/-! ### The parts of a control step -/

/-- R10 to R14: in the Gate Controller, a control step moves the gate by the rule of the station state and nothing else of the shaft. -/
theorem governorStep_shaft (f : Nat) (s : State) :
    (governorStep f s).shaft = (s.smu, s.gc.params, (s.gc.step s.ss.station s.fRef f).gateOut, s.ss.station) := by
  unfold governorStep
  rw [computeCapacity_shaft]
  unfold State.shaft
  simp only [State.onGc_smu, State.onGc_gc, State.onGc_ss]
  cases s.ss.station <;> rfl

/-- R65: an empty queue grants nothing. -/
theorem walk_of_queue_nil {s : State} (h : s.da.queue = []) : walk s = none := by
  simp [walk, firstEligible, h]

/-- R73: with an empty queue a publication of capacity reaches the arbiter alone. -/
theorem publishCapacity_gc {s : State} (h : s.da.queue = []) : (publishCapacity s).gc = s.gc := by
  have htest : ∀ x : State, (shortfallTest x).gc = x.gc ∧ (shortfallTest x).da.queue = x.da.queue := by
    intro x
    unfold shortfallTest
    repeat' split
    all_goals exact ⟨rfl, rfl⟩
  have hgot := htest (s.onDa fun d => { d with capacity := s.gc.capacity })
  unfold publishCapacity
  simp only []
  repeat' split
  · rw [arbitrate_of_walk_none (walk_of_queue_nil (hgot.2.trans h))]
    exact hgot.1
  · exact hgot.1
  · rfl

/-- R9 to R14: with an empty queue the step of the Gate Controller and the capacity are all that a control step does there. -/
theorem governorStep_gc (f : Nat) {s : State} (h : s.da.queue = []) :
    (governorStep f s).gc = { s.gc.step s.ss.station s.fRef f with
      capacity := (s.gc.step s.ss.station s.fRef f).capacityNow } :=
  publishCapacity_gc h

/-- R30: the run-down test leaves the state alone, or ends STOPPING with the gate at 0. -/
theorem runDownTest_cases (f : Nat) (s : State) :
    runDownTest f s = s
    ∨ s.gc.gateOut = 0 ∧ ∃ (q : Sequencer) (a : AccountStore) (l : StationLink),
        q.station = .stopped ∧ runDownTest f s = { s with ss := q, store := a, sl := l } := by
  unfold runDownTest
  split
  · next h => exact .inr ⟨h.1, enterStopped_frame .runDown s⟩
  · exact .inl rfl

/-- R13, R25: entry to RUN_UP loads the integrator from the gate output; beyond it, it reaches the sequencer and the link alone. -/
theorem enterRunUp_frame (s : State) : ∃ (q : Sequencer) (l : StationLink), q.station = .runUp
    ∧ enterRunUp s = { s with gc := { s.gc with integrator := 1000 * s.gc.gateOut }, ss := q, sl := l } := by
  obtain ⟨relay, l, h⟩ := setStation_frame .runUp .speed (bumpless s)
  exact ⟨_, l, rfl, h⟩

/-- R25, R26, R30, R31: the sequencer's tests move the station alone of the shaft, and bring it to LIVE from nowhere else. -/
theorem stationStep_shaft (f : Nat) (s : State) : ∃ st : StationState, (s.ss.station ≠ .live → st ≠ .live)
    ∧ (stationStep f s).shaft = (s.smu, s.gc.params, s.gc.gateOut, st) := by
  have hstay : ∃ st : StationState, (s.ss.station ≠ .live → st ≠ .live) ∧ s.shaft = (s.smu, s.gc.params, s.gc.gateOut, st) :=
    ⟨_, id, rfl⟩
  have htrip : ∃ st : StationState, (s.ss.station ≠ .live → st ≠ .live)
      ∧ (takeTrip .overspeed f s).shaft = (s.smu, s.gc.params, s.gc.gateOut, st) :=
    ⟨.tripped, fun _ => StationState.noConfusion, takeTrip_shaft _ _ _⟩
  unfold stationStep
  split
  · repeat' split
    · exact htrip
    · obtain ⟨q, l, hq, h⟩ := enterRunUp_frame s
      exact ⟨.runUp, fun _ => StationState.noConfusion, by rw [h, ← hq]; rfl⟩
    · exact hstay
  · repeat' split
    exacts [htrip, hstay, hstay]
  · repeat' split
    exacts [htrip, hstay, hstay]
  · split
    · exact htrip
    · obtain h | ⟨_, q, a, l, hq, h⟩ := runDownTest_cases f s
      · rw [h]; exact hstay
      · exact ⟨.stopped, fun _ => StationState.noConfusion, by rw [h, ← hq]; rfl⟩
  · exact hstay
  · exact hstay

/-- R96: outside LIVE a control step does nothing in the Drive Scheduler. -/
theorem feedHoldStep_of_ne_live (arb : State → State) (f : Nat) {s : State} (h : s.ss.station ≠ .live) :
    feedHoldStep arb f s = s := if_neg h

/-- R128: outside LIVE a control step does nothing in the Feeder Unit. -/
theorem feederStep_of_ne_live (arb notices : State → State) (f : Nat) {s : State} (h : s.ss.station ≠ .live) :
    feederStep arb notices f s = s := if_neg h

/-- R96, R97: the feed hold leaves the shaft alone. -/
theorem feedHoldStep_shaft (f : Nat) (s : State) : (feedHoldStep arbitrate f s).shaft = s.shaft := by
  have hstate : ∀ (i : Fin 4) (g : Slot → Slot) (x : State), (x.onSlot i g).shaft = x.shaft := fun _ _ _ => rfl
  have hhold : ∀ (x : State) (i : Fin 4), (holdSlot arbitrate i x).shaft = x.shaft := by
    intro x i
    unfold holdSlot postDrive
    repeat' split
    · exact shaft_of_still (still_forcedOut arbitrate_keeps _ _ _)
    · rw [post_shaft, hstate]
    · rfl
  have hresume : ∀ (x : State) (i : Fin 4), (resumeSlot i x).shaft = x.shaft := by
    intro x i
    unfold resumeSlot postDrive
    split
    · rw [post_shaft, hstate]
    · rfl
  unfold feedHoldStep
  repeat' split
  · rfl
  · rw [foldl_shaft hhold, onDs_shaft]
  · rw [foldl_shaft hresume, onDs_shaft]
  · rfl
  · rfl

/-- R128, R131: the Feeder Unit's tests leave the shaft alone. -/
theorem feederStep_shaft (f : Nat) (s : State) : (feederStep arbitrate giveSpace f s).shaft = s.shaft :=
  shaft_of_still (still_feederStep arbitrate_keeps still_giveSpace f s)

/-! ### The orders of a control step (log 3) -/

/-- An order of four parts holds no other part. -/
theorem mem_order4 {α : Type} {a b c d x : α} {n : Fin 24} (h : x ∈ order4 a b c d n) : x = a ∨ x = b ∨ x = c ∨ x = d := by
  fin_cases n <;> simp [order4] at h <;> tauto

/-- A projection that each of four parts keeps is kept by the four in any order. -/
theorem foldl_order4_keeps {β : Type} (proj : State → β) {a b c d : State → State} (ha : ∀ s, proj (a s) = proj s)
    (hb : ∀ s, proj (b s) = proj s) (hc : ∀ s, proj (c s) = proj s) (hd : ∀ s, proj (d s) = proj s) (n : Fin 24) (s : State) :
    proj ((order4 a b c d n).foldl (fun s part => part s) s) = proj s := by
  refine List.foldlRecOn (motive := fun t => proj t = proj s) _ _ rfl fun t ht part hpart => ?_
  obtain rfl | rfl | rfl | rfl := mem_order4 hpart
  exacts [(ha t).trans ht, (hb t).trans ht, (hc t).trans ht, (hd t).trans ht]

/-- Where two of four parts do nothing on states that the other two keep to, the four in any order are those two in either. -/
theorem foldl_order4_of_idle {P : State → Prop} {a b c d : State → State} (ha : ∀ s, P s → P (a s)) (hb : ∀ s, P s → P (b s))
    (hc : ∀ s, P s → c s = s) (hd : ∀ s, P s → d s = s) (n : Fin 24) {s : State} (hs : P s) :
    (order4 a b c d n).foldl (fun s part => part s) s = b (a s)
    ∨ (order4 a b c d n).foldl (fun s part => part s) s = a (b s) := by
  have hab := ha _ (hb _ hs)
  have hba := hb _ (ha _ hs)
  fin_cases n <;> simp [order4, hc, hd, hs, ha _ hs, hb _ hs, hab, hba]

/-- R5: a control step is the event of the speed unit alone; the four blocks that it reaches leave that unit as it is. -/
theorem controlStep_smu (f : Nat) (s : State) : (controlStep f s).smu = s.smu :=
  foldl_order4_keeps State.smu (fun x => (shaft_eq_iff.mp (governorStep_shaft f x)).1)
    (fun x => by obtain ⟨_, _, h⟩ := stationStep_shaft f x; exact (shaft_eq_iff.mp h).1)
    (fun x => (shaft_eq_iff.mp (feederStep_shaft f x)).1) (fun x => (shaft_eq_iff.mp (feedHoldStep_shaft f x)).1) _ _

/-- R5: outside LIVE a control step is the governor's step and the sequencer's tests, in either order. -/
theorem controlStep_of_ne_live (f : Nat) {s : State} (h : s.ss.station ≠ .live) :
    controlStep f s = stationStep f (governorStep f s.nextChoice) ∨ controlStep f s = governorStep f (stationStep f s.nextChoice) := by
  refine foldl_order4_of_idle (P := fun x => x.ss.station ≠ .live) (fun x hx => ?_) (fun x hx => ?_)
    (fun x hx => feederStep_of_ne_live _ _ f hx) (fun x hx => feedHoldStep_of_ne_live _ f hx) _ h
  · obtain ⟨_, _, _, hsame⟩ := shaft_eq_iff.mp (governorStep_shaft f x)
    rwa [hsame]
  · obtain ⟨st, hst, hshaft⟩ := stationStep_shaft f x
    obtain ⟨_, _, _, hnew⟩ := shaft_eq_iff.mp hshaft
    rw [hnew]; exact hst hx

theorem exec_toothEdge (ticks : Nat) (s : State) : exec (.toothEdge ticks) s = execToothEdge ticks s := rfl

theorem exec_windowTimeout (s : State) : exec .windowTimeout s = execWindowTimeout s := rfl

/-- R2, R4, R5: a command that is a control step stores the frequency that it carries and hands it on. -/
theorem exec_of_isControlStep {c : Instr} {f : Nat} {s : State} (hp : s.powered = true) (h : isControlStep c s f) :
    ∃ u : SpeedUnit, u.lastFreq = f ∧ exec c s = .next (controlStep f (s.onSmu fun _ => u)) := by
  obtain ⟨ticks, rfl, hw, hcount, rfl⟩ | ⟨rfl, hrun, rfl⟩ := h
  · refine ⟨{ s.smu.edge ticks with lastFreq := windowFrequency (s.smu.ticks + ticks), ticks := 0, toothCount := 0 }, rfl, ?_⟩
    have hedge : s.smu.edge ticks = { s.smu with
        toothCount := s.smu.toothCount + 1, ticks := s.smu.ticks + ticks, timeout := some Config.windowTimeout } := by
      simp [SpeedUnit.edge, hw]
    have hfull : (s.smu.edge ticks).toothCount ≥ 24 := by rw [hedge]; exact Nat.succ_le_succ hcount
    have hticks : (s.smu.edge ticks).ticks = s.smu.ticks + ticks := by rw [hedge]
    simp [exec_toothEdge, execToothEdge, whenPowered, hp, toothEdge, hfull, hticks]
  · exact ⟨{ window := .waiting, toothCount := 0, ticks := 0, lastFreq := 0, timeout := some Config.windowTimeout }, rfl,
      by simp [exec_windowTimeout, execWindowTimeout, whenPowered, hp, whenRunning, hrun, windowTimeout]⟩

/-- Settles O4: the two branches of the conversion, the rounding of its quotient, and what a window timeout stores. -/
theorem windowFrequencyRounds : Obligations.WindowFrequencyRounds := by
  refine ⟨fun t => windowFrequency_of_lt, fun t => windowFrequency_rounds, fun t => le_windowFrequency,
    fun t => windowFrequency_of_ge, by decide, fun s hp hrun => ?_⟩
  obtain ⟨u, hu, hexec⟩ := exec_of_isControlStep (c := .windowTimeout) hp (.inr ⟨rfl, hrun, rfl⟩)
  exact ⟨_, hexec, by rw [controlStep_smu]; exact hu⟩

/-! ### The gate outside RUN_UP and LIVE (R14) -/

/-- R14: the gate after a control step toward the fixed target of a station state. -/
def GateController.fixedGate (g : GateController) (st : StationState) : Nat :=
  moveGate g.gateOut (g.fixedTarget st) g.params.openRate (g.fixedCloseRate st)

/-- R10 to R14: outside RUN_UP and LIVE the gate output is all that a step changes. -/
theorem GateController.step_of_fixed (g : GateController) {st : StationState} (fRef : Int) (f : Nat) (h1 : st ≠ .runUp)
    (h2 : st ≠ .live) : g.step st fRef f = { g with gateOut := g.fixedGate st } := by
  cases st
  case runUp => exact absurd rfl h1
  case live => exact absurd rfl h2
  all_goals rfl

/-- R14: toward a target not above it, the gate moves down by the closing rate and not past the target. -/
theorem moveGate_of_not_lt {prev target : Nat} (openRate closeRate : Nat) (h : ¬prev < target) :
    moveGate prev target openRate closeRate = max target (prev - closeRate) := by
  unfold moveGate
  rw [if_neg h]
  split <;> omega

/-- R14: toward 0 the gate moves down by the closing rate. -/
theorem moveGate_zero (prev openRate closeRate : Nat) : moveGate prev 0 openRate closeRate = prev - closeRate := by
  rw [moveGate_of_not_lt _ _ (Nat.not_lt_zero prev), Nat.zero_max]

/-- R14: in STARTING the gate moves toward min(G_start, G_lim). -/
theorem GateController.fixedGate_starting (g : GateController) :
    g.fixedGate .starting =
      if g.gateOut < min g.params.gStart g.gLim then min (min g.params.gStart g.gLim) (g.gateOut + g.params.openRate)
      else max (min g.params.gStart g.gLim) (g.gateOut - g.params.closeRate) := by
  split
  · next h => exact if_pos h
  · next h => exact moveGate_of_not_lt _ _ h

/-- R14: in every state but STARTING the gate moves down toward 0. -/
theorem GateController.fixedGate_of_ne_starting (g : GateController) {st : StationState} (h : st ≠ .starting) :
    g.fixedGate st = g.gateOut - g.fixedCloseRate st := by
  have htarget : g.fixedTarget st = 0 := by
    cases st
    case starting => exact absurd rfl h
    all_goals rfl
  unfold fixedGate
  rw [htarget, moveGate_zero]

/-- R9, R14: with an empty queue the governor's step outside RUN_UP and LIVE sets the gate and the capacity alone. -/
theorem governorStep_gc_of_fixed (f : Nat) {s : State} (hq : s.da.queue = []) (h1 : s.ss.station ≠ .runUp)
    (h2 : s.ss.station ≠ .live) :
    (governorStep f s).gc = { s.gc with capacity := s.gc.capacityNow, gateOut := s.gc.fixedGate s.ss.station } := by
  rw [governorStep_gc f hq, s.gc.step_of_fixed _ f h1 h2]
  rfl

/-- R14: the sequencer's tests that neither trip nor bring to speed leave the Gate Controller and the queue alone, and give the
gate no other step to take: the end of a run-down finds it at 0. -/
theorem stationStep_of_quiet {f : Nat} {s : State} (h1 : s.ss.station ≠ .runUp) (h2 : s.ss.station ≠ .live)
    (hstart : s.ss.station = .starting → f < 45000) (hstop : s.ss.station = .stopping → f < 55000) :
    ∃ (q : Sequencer) (a : AccountStore) (l : StationLink), q.station ≠ .runUp ∧ q.station ≠ .live
      ∧ s.gc.fixedGate q.station = s.gc.fixedGate s.ss.station ∧ stationStep f s = { s with ss := q, store := a, sl := l } := by
  have hidle : ∃ (q : Sequencer) (a : AccountStore) (l : StationLink), q.station ≠ .runUp ∧ q.station ≠ .live
      ∧ s.gc.fixedGate q.station = s.gc.fixedGate s.ss.station ∧ s = { s with ss := q, store := a, sl := l } :=
    ⟨s.ss, s.store, s.sl, h1, h2, rfl, rfl⟩
  unfold stationStep
  split
  · next h =>
    have := hstart h
    rwa [if_neg (by omega), if_neg (by omega)]
  · next h => exact absurd h h1
  · next h => exact absurd h h2
  · next h =>
    have := hstop h
    rw [if_neg (by omega)]
    obtain hsame | ⟨hclosed, q, a, l, hq, hdown⟩ := runDownTest_cases f s
    · rwa [hsame]
    · refine ⟨q, a, l, by simp [hq], by simp [hq], ?_, hdown⟩
      rw [GateController.fixedGate_of_ne_starting _ (by simp [hq]), GateController.fixedGate_of_ne_starting _ (by simp [h]),
        hclosed, Nat.zero_sub, Nat.zero_sub]
  all_goals exact hidle

/-- R14: a control step outside RUN_UP and LIVE that neither trips nor brings to speed sets the gate and the capacity alone. -/
theorem controlStep_gc_of_quiet {f : Nat} {s : State} (hq : s.da.queue = []) (h1 : s.ss.station ≠ .runUp)
    (h2 : s.ss.station ≠ .live) (hstart : s.ss.station = .starting → f < 45000) (hstop : s.ss.station = .stopping → f < 55000) :
    (controlStep f s).gc = { s.gc with capacity := s.gc.capacityNow, gateOut := s.gc.fixedGate s.ss.station } := by
  obtain h | h := controlStep_of_ne_live f h2
  · obtain ⟨_, _, _, hstation⟩ := shaft_eq_iff.mp (governorStep_shaft f s.nextChoice)
    have hstation : (governorStep f s.nextChoice).ss.station = s.ss.station := hstation
    obtain ⟨q, a, l, _, _, _, hstep⟩ := stationStep_of_quiet (f := f) (s := governorStep f s.nextChoice)
      (hstation ▸ h1) (hstation ▸ h2) (hstation ▸ hstart) (hstation ▸ hstop)
    rw [h, hstep]
    exact governorStep_gc_of_fixed f (s := s.nextChoice) hq h1 h2
  · obtain ⟨q, a, l, hq1, hq2, hgate, hstep⟩ := stationStep_of_quiet (f := f) (s := s.nextChoice) h1 h2 hstart hstop
    rw [h, hstep]
    have hgov := governorStep_gc_of_fixed f (s := { s.nextChoice with ss := q, store := a, sl := l }) hq hq1 hq2
    rwa [hgate] at hgov

/-- R14, R15: taken before the sequencer's tests, the governor's step is the one of the state before them. -/
theorem gateOut_of_governor_first (f : Nat) {s : State} (h1 : s.ss.station ≠ .runUp) (h2 : s.ss.station ≠ .live) :
    (stationStep f (governorStep f s)).gc.gateOut = s.gc.fixedGate s.ss.station := by
  obtain ⟨_, _, hgov, _⟩ := shaft_eq_iff.mp (governorStep_shaft f s)
  obtain ⟨_, _, hshaft⟩ := stationStep_shaft f (governorStep f s)
  obtain ⟨_, _, hsame, _⟩ := shaft_eq_iff.mp hshaft
  rw [hsame, hgov, s.gc.step_of_fixed _ f h1 h2]

/-- R5, R14, R31: where the event of a step trips STARTING or STOPPING, the gate takes the step of the state before it or of
TRIPPED. -/
theorem controlStep_gateOut_of_overspeed {f : Nat} {s : State} (hst : s.ss.station = .starting ∨ s.ss.station = .stopping)
    (hf : 55000 ≤ f) :
    (controlStep f s).gc.gateOut = s.gc.fixedGate s.ss.station ∨ (controlStep f s).gc.gateOut = s.gc.fixedGate .tripped := by
  have h1 : s.ss.station ≠ .runUp := by obtain h | h := hst <;> simp [h]
  have h2 : s.ss.station ≠ .live := by obtain h | h := hst <;> simp [h]
  obtain h | h := controlStep_of_ne_live f h2 <;> rw [h]
  · exact .inl (gateOut_of_governor_first f h1 h2)
  · right
    have htrip : stationStep f s.nextChoice = takeTrip .overspeed f s.nextChoice := by
      unfold stationStep
      obtain h | h := hst <;> simp [h, hf]
    rw [htrip]
    obtain ⟨_, hparams, hgate, hstation⟩ := shaft_eq_iff.mp (takeTrip_shaft .overspeed f s.nextChoice)
    obtain ⟨_, _, hgov, _⟩ := shaft_eq_iff.mp (governorStep_shaft f (takeTrip .overspeed f s.nextChoice))
    rw [hgov, hstation, GateController.step_of_fixed _ _ _ StationState.noConfusion StationState.noConfusion]
    simp only [GateController.fixedGate_of_ne_starting _ (st := .tripped) StationState.noConfusion,
      GateController.fixedCloseRate, hparams, hgate, State.nextChoice_gc]

/-- R13: where the event of a step brings STARTING to RUN_UP, the gate takes the step of STARTING or the PI step from the bumpless
transfer. -/
theorem controlStep_gateOut_of_speed {f : Nat} {s : State} (hst : s.ss.station = .starting) (hlow : 45000 ≤ f) (hhigh : f < 55000) :
    (controlStep f s).gc.gateOut = s.gc.fixedGate .starting
    ∨ (controlStep f s).gc.gateOut =
        (({ s.gc with integrator := 1000 * s.gc.gateOut } : GateController).piStep s.fRef f).gateOut := by
  have h1 : s.ss.station ≠ .runUp := by simp [hst]
  have h2 : s.ss.station ≠ .live := by simp [hst]
  obtain h | h := controlStep_of_ne_live f h2 <;> rw [h]
  · exact .inl (hst ▸ gateOut_of_governor_first f (s := s.nextChoice) h1 h2)
  · right
    have hspeed : stationStep f s.nextChoice = enterRunUp s.nextChoice := by
      unfold stationStep
      simp [hst, hlow, hhigh]
    obtain ⟨q, l, hq, hrun⟩ := enterRunUp_frame s.nextChoice
    rw [hspeed, hrun]
    obtain ⟨_, _, hgov, _⟩ := shaft_eq_iff.mp (governorStep_shaft f
      { s.nextChoice with gc := { s.nextChoice.gc with integrator := 1000 * s.nextChoice.gc.gateOut }, ss := q, sl := l })
    rw [hgov, hq]
    rfl

/-- Settles O7: outside LIVE a control step is the governor's step and the sequencer's tests in either order, and the tests change
which step the governor takes only at a trip or at the speed of RUN_UP. -/
theorem fixedTargetStep : Obligations.FixedTargetStep := by
  intro c f s hp hc hq h1 h2 g p target moved
  have hmoved : ∀ st : StationState, moved st = s.gc.fixedGate st := by
    intro st
    cases st
    case starting => exact s.gc.fixedGate_starting.symm
    all_goals
      symm
      exact s.gc.fixedGate_of_ne_starting (by simp)
  obtain ⟨u, _, hexec⟩ := exec_of_isControlStep hp hc
  refine ⟨_, hexec, fun hstart hstop => ?_, fun hst hf => ?_, fun hst hlow hhigh => ?_⟩
  · rw [hmoved]
    exact controlStep_gc_of_quiet (s := s.onSmu fun _ => u) hq h1 h2 hstart hstop
  · exact (controlStep_gateOut_of_overspeed (s := s.onSmu fun _ => u) hst hf).imp
      (·.trans (hmoved _).symm) (·.trans (hmoved _).symm)
  · exact (controlStep_gateOut_of_speed (s := s.onSmu fun _ => u) hst hlow hhigh).imp_left (·.trans (hmoved _).symm)

end Sys2Proof.Machine

/-! PROOFS. What the shared operations change, block by block: a report, the alarm relay, the correction, a feeder's state. -/

namespace Sys2Proof.Machine

/-! ### A report changes the link alone (R190) -/

@[simp] theorem post_smu (r : Report) (s : State) : (post r s).smu = s.smu := by
  obtain ⟨l, h⟩ := post_eq r s; rw [h]
@[simp] theorem post_gc (r : Report) (s : State) : (post r s).gc = s.gc := by
  obtain ⟨l, h⟩ := post_eq r s; rw [h]
@[simp] theorem post_ss (r : Report) (s : State) : (post r s).ss = s.ss := by
  obtain ⟨l, h⟩ := post_eq r s; rw [h]
@[simp] theorem post_lu (r : Report) (s : State) : (post r s).lu = s.lu := by
  obtain ⟨l, h⟩ := post_eq r s; rw [h]
@[simp] theorem post_wu (r : Report) (s : State) : (post r s).wu = s.wu := by
  obtain ⟨l, h⟩ := post_eq r s; rw [h]
@[simp] theorem post_da (r : Report) (s : State) : (post r s).da = s.da := by
  obtain ⟨l, h⟩ := post_eq r s; rw [h]
@[simp] theorem post_ds (r : Report) (s : State) : (post r s).ds = s.ds := by
  obtain ⟨l, h⟩ := post_eq r s; rw [h]
@[simp] theorem post_rk (r : Report) (s : State) : (post r s).rk = s.rk := by
  obtain ⟨l, h⟩ := post_eq r s; rw [h]
@[simp] theorem post_fu (r : Report) (s : State) : (post r s).fu = s.fu := by
  obtain ⟨l, h⟩ := post_eq r s; rw [h]
@[simp] theorem post_cu (r : Report) (s : State) : (post r s).cu = s.cu := by
  obtain ⟨l, h⟩ := post_eq r s; rw [h]
@[simp] theorem post_mu (r : Report) (s : State) : (post r s).mu = s.mu := by
  obtain ⟨l, h⟩ := post_eq r s; rw [h]
@[simp] theorem post_store (r : Report) (s : State) : (post r s).store = s.store := by
  obtain ⟨l, h⟩ := post_eq r s; rw [h]
@[simp] theorem post_powered (r : Report) (s : State) : (post r s).powered = s.powered := by
  obtain ⟨l, h⟩ := post_eq r s; rw [h]
@[simp] theorem post_choices (r : Report) (s : State) : (post r s).choices = s.choices := by
  obtain ⟨l, h⟩ := post_eq r s; rw [h]
@[simp] theorem post_pending (r : Report) (s : State) : (post r s).pending = s.pending := by
  obtain ⟨l, h⟩ := post_eq r s; rw [h]
@[simp] theorem post_slot (r : Report) (s : State) (i : Fin 4) : (post r s).slot i = s.slot i := by simp [State.slot]
@[simp] theorem post_feeder (r : Report) (s : State) (i : Fin 12) : (post r s).feeder i = s.feeder i := by simp [State.feeder]
@[simp] theorem post_stage (r : Report) (s : State) (k : Fin 3) : (post r s).stage k = s.stage k := by simp [State.stage]
@[simp] theorem post_input (r : Report) (s : State) (i : Fin 4) : (post r s).input i = s.input i := by simp [State.input]
@[simp] theorem post_account (r : Report) (s : State) (i : Fin 12) : (post r s).account i = s.account i := by simp [State.account]

/-! ### The alarm relay (R38) -/

@[simp] theorem alarmChanged_smu (a : AlarmSource) (s : State) : (alarmChanged a s).smu = s.smu := by
  obtain ⟨x, h⟩ := alarmChanged_frame a s; rw [h]; rfl
@[simp] theorem alarmChanged_gc (a : AlarmSource) (s : State) : (alarmChanged a s).gc = s.gc := by
  obtain ⟨x, h⟩ := alarmChanged_frame a s; rw [h]; rfl
@[simp] theorem alarmChanged_lu (a : AlarmSource) (s : State) : (alarmChanged a s).lu = s.lu := by
  obtain ⟨x, h⟩ := alarmChanged_frame a s; rw [h]; rfl
@[simp] theorem alarmChanged_wu (a : AlarmSource) (s : State) : (alarmChanged a s).wu = s.wu := by
  obtain ⟨x, h⟩ := alarmChanged_frame a s; rw [h]; rfl
@[simp] theorem alarmChanged_da (a : AlarmSource) (s : State) : (alarmChanged a s).da = s.da := by
  obtain ⟨x, h⟩ := alarmChanged_frame a s; rw [h]; rfl
@[simp] theorem alarmChanged_ds (a : AlarmSource) (s : State) : (alarmChanged a s).ds = s.ds := by
  obtain ⟨x, h⟩ := alarmChanged_frame a s; rw [h]; rfl
@[simp] theorem alarmChanged_rk (a : AlarmSource) (s : State) : (alarmChanged a s).rk = s.rk := by
  obtain ⟨x, h⟩ := alarmChanged_frame a s; rw [h]; rfl
@[simp] theorem alarmChanged_fu (a : AlarmSource) (s : State) : (alarmChanged a s).fu = s.fu := by
  obtain ⟨x, h⟩ := alarmChanged_frame a s; rw [h]; rfl
@[simp] theorem alarmChanged_cu (a : AlarmSource) (s : State) : (alarmChanged a s).cu = s.cu := by
  obtain ⟨x, h⟩ := alarmChanged_frame a s; rw [h]; rfl
@[simp] theorem alarmChanged_mu (a : AlarmSource) (s : State) : (alarmChanged a s).mu = s.mu := by
  obtain ⟨x, h⟩ := alarmChanged_frame a s; rw [h]; rfl
@[simp] theorem alarmChanged_store (a : AlarmSource) (s : State) : (alarmChanged a s).store = s.store := by
  obtain ⟨x, h⟩ := alarmChanged_frame a s; rw [h]; rfl
@[simp] theorem alarmChanged_sl (a : AlarmSource) (s : State) : (alarmChanged a s).sl = s.sl := by
  obtain ⟨x, h⟩ := alarmChanged_frame a s; rw [h]; rfl
@[simp] theorem alarmChanged_powered (a : AlarmSource) (s : State) : (alarmChanged a s).powered = s.powered := by
  obtain ⟨x, h⟩ := alarmChanged_frame a s; rw [h]; rfl
@[simp] theorem alarmChanged_choices (a : AlarmSource) (s : State) : (alarmChanged a s).choices = s.choices := by
  obtain ⟨x, h⟩ := alarmChanged_frame a s; rw [h]; rfl
@[simp] theorem alarmChanged_pending (a : AlarmSource) (s : State) : (alarmChanged a s).pending = s.pending := by
  obtain ⟨x, h⟩ := alarmChanged_frame a s; rw [h]; rfl

/-! ### The correction (R148) -/

/-- R148: an evaluation of the correction reaches the correction state and the link alone. -/
theorem evaluateCorrection_frame (s : State) : ∃ (c : CorrectionState) (l : StationLink),
    evaluateCorrection s = { s with cu := { s.cu with correction := c }, sl := l } := by
  have hstart : ∀ d, ∃ (c : CorrectionState) (l : StationLink),
      startCorrection d s = { s with cu := { s.cu with correction := c }, sl := l } := by
    intro d
    unfold startCorrection
    obtain ⟨l, h⟩ := post_eq _ (s.onCu fun u => { u with correction := d })
    exact ⟨d, l, h⟩
  have hend : ∀ d, ∃ (c : CorrectionState) (l : StationLink),
      endCorrection d s = { s with cu := { s.cu with correction := c }, sl := l } := by
    intro d
    unfold endCorrection
    obtain ⟨l, h⟩ := post_eq _ (s.onCu fun u => { u with correction := .inactive })
    exact ⟨_, l, h⟩
  have hsame : ∃ (c : CorrectionState) (l : StationLink), s = { s with cu := { s.cu with correction := c }, sl := l } :=
    ⟨s.cu.correction, s.sl, rfl⟩
  unfold evaluateCorrection
  repeat' split
  all_goals first | exact hsame | exact hstart _ | exact hend _

@[simp] theorem evaluateCorrection_smu (s : State) : (evaluateCorrection s).smu = s.smu := by
  obtain ⟨c, l, h⟩ := evaluateCorrection_frame s; rw [h]
@[simp] theorem evaluateCorrection_gc (s : State) : (evaluateCorrection s).gc = s.gc := by
  obtain ⟨c, l, h⟩ := evaluateCorrection_frame s; rw [h]
@[simp] theorem evaluateCorrection_ss (s : State) : (evaluateCorrection s).ss = s.ss := by
  obtain ⟨c, l, h⟩ := evaluateCorrection_frame s; rw [h]
@[simp] theorem evaluateCorrection_lu (s : State) : (evaluateCorrection s).lu = s.lu := by
  obtain ⟨c, l, h⟩ := evaluateCorrection_frame s; rw [h]
@[simp] theorem evaluateCorrection_wu (s : State) : (evaluateCorrection s).wu = s.wu := by
  obtain ⟨c, l, h⟩ := evaluateCorrection_frame s; rw [h]
@[simp] theorem evaluateCorrection_da (s : State) : (evaluateCorrection s).da = s.da := by
  obtain ⟨c, l, h⟩ := evaluateCorrection_frame s; rw [h]
@[simp] theorem evaluateCorrection_ds (s : State) : (evaluateCorrection s).ds = s.ds := by
  obtain ⟨c, l, h⟩ := evaluateCorrection_frame s; rw [h]
@[simp] theorem evaluateCorrection_rk (s : State) : (evaluateCorrection s).rk = s.rk := by
  obtain ⟨c, l, h⟩ := evaluateCorrection_frame s; rw [h]
@[simp] theorem evaluateCorrection_fu (s : State) : (evaluateCorrection s).fu = s.fu := by
  obtain ⟨c, l, h⟩ := evaluateCorrection_frame s; rw [h]
@[simp] theorem evaluateCorrection_mu (s : State) : (evaluateCorrection s).mu = s.mu := by
  obtain ⟨c, l, h⟩ := evaluateCorrection_frame s; rw [h]
@[simp] theorem evaluateCorrection_store (s : State) : (evaluateCorrection s).store = s.store := by
  obtain ⟨c, l, h⟩ := evaluateCorrection_frame s; rw [h]
@[simp] theorem evaluateCorrection_powered (s : State) : (evaluateCorrection s).powered = s.powered := by
  obtain ⟨c, l, h⟩ := evaluateCorrection_frame s; rw [h]
@[simp] theorem evaluateCorrection_choices (s : State) : (evaluateCorrection s).choices = s.choices := by
  obtain ⟨c, l, h⟩ := evaluateCorrection_frame s; rw [h]
@[simp] theorem evaluateCorrection_pending (s : State) : (evaluateCorrection s).pending = s.pending := by
  obtain ⟨c, l, h⟩ := evaluateCorrection_frame s; rw [h]

/-! ### A feeder's state (R116, R121) -/

/-- R116, R133: what a change of the shed condition can reach. -/
theorem shedChanged_frame (had : Bool) (s : State) :
    ∃ (relay permit : Bool) (restore : Timer) (c : CorrectionState) (shed : Bool) (l : StationLink),
      shedChanged had s = { s with
        ss := { s.ss with alarmRelay := relay }, fu := { s.fu with restoreTimer := restore, permit := permit }
        cu := { s.cu with correction := c, shedCopy := shed }, sl := l } := by
  unfold shedChanged
  split
  · exact ⟨s.ss.alarmRelay, s.fu.permit, s.fu.restoreTimer, s.cu.correction, s.cu.shedCopy, s.sl, rfl⟩
  · simp only []
    split
    · obtain ⟨relay, hr⟩ := alarmChanged_frame .shed s
      obtain ⟨c, l, hc⟩ := evaluateCorrection_frame ((alarmChanged .shed s).onCu fun u => { u with shedCopy := s.anyShed })
      unfold handShed
      rw [hc, hr]
      exact ⟨relay, s.fu.permit, s.fu.restoreTimer, c, _, l, rfl⟩
    · obtain ⟨relay, hr⟩ := alarmChanged_frame .shed (s.onFu fun u => { u with restoreTimer := none, permit := false })
      generalize hb : (s.onFu fun u => { u with restoreTimer := none, permit := false }).anyShed = b
      obtain ⟨c, l, hc⟩ := evaluateCorrection_frame
        ((alarmChanged .shed (s.onFu fun u => { u with restoreTimer := none, permit := false })).onCu fun u => { u with shedCopy := b })
      unfold handShed
      rw [hc, hr]
      exact ⟨relay, false, none, c, b, l, rfl⟩

/-- R115, R116: a change of a feeder's state, and what it can reach beyond that feeder. -/
theorem setFeederState_frame (i : Fin 12) (new : FeederState) (s : State) :
    ∃ (relay permit : Bool) (restore : Timer) (c : CorrectionState) (shed : Bool) (l : StationLink),
      setFeederState i new s = { s with
        ss := { s.ss with alarmRelay := relay }
        fu := { (s.onFeeder i fun d => d.enter new).fu with restoreTimer := restore, permit := permit }
        cu := { s.cu with correction := c, shedCopy := shed }, sl := l } :=
  shedChanged_frame _ (s.onFeeder i fun d => d.enter new)

@[simp] theorem setFeederState_smu (i : Fin 12) (new : FeederState) (s : State) : (setFeederState i new s).smu = s.smu := by
  obtain ⟨_, _, _, _, _, _, h⟩ := setFeederState_frame i new s; rw [h]
@[simp] theorem setFeederState_gc (i : Fin 12) (new : FeederState) (s : State) : (setFeederState i new s).gc = s.gc := by
  obtain ⟨_, _, _, _, _, _, h⟩ := setFeederState_frame i new s; rw [h]
@[simp] theorem setFeederState_lu (i : Fin 12) (new : FeederState) (s : State) : (setFeederState i new s).lu = s.lu := by
  obtain ⟨_, _, _, _, _, _, h⟩ := setFeederState_frame i new s; rw [h]
@[simp] theorem setFeederState_wu (i : Fin 12) (new : FeederState) (s : State) : (setFeederState i new s).wu = s.wu := by
  obtain ⟨_, _, _, _, _, _, h⟩ := setFeederState_frame i new s; rw [h]
@[simp] theorem setFeederState_da (i : Fin 12) (new : FeederState) (s : State) : (setFeederState i new s).da = s.da := by
  obtain ⟨_, _, _, _, _, _, h⟩ := setFeederState_frame i new s; rw [h]
@[simp] theorem setFeederState_ds (i : Fin 12) (new : FeederState) (s : State) : (setFeederState i new s).ds = s.ds := by
  obtain ⟨_, _, _, _, _, _, h⟩ := setFeederState_frame i new s; rw [h]
@[simp] theorem setFeederState_rk (i : Fin 12) (new : FeederState) (s : State) : (setFeederState i new s).rk = s.rk := by
  obtain ⟨_, _, _, _, _, _, h⟩ := setFeederState_frame i new s; rw [h]
@[simp] theorem setFeederState_mu (i : Fin 12) (new : FeederState) (s : State) : (setFeederState i new s).mu = s.mu := by
  obtain ⟨_, _, _, _, _, _, h⟩ := setFeederState_frame i new s; rw [h]
@[simp] theorem setFeederState_store (i : Fin 12) (new : FeederState) (s : State) : (setFeederState i new s).store = s.store := by
  obtain ⟨_, _, _, _, _, _, h⟩ := setFeederState_frame i new s; rw [h]
@[simp] theorem setFeederState_powered (i : Fin 12) (new : FeederState) (s : State) : (setFeederState i new s).powered = s.powered := by
  obtain ⟨_, _, _, _, _, _, h⟩ := setFeederState_frame i new s; rw [h]
@[simp] theorem setFeederState_choices (i : Fin 12) (new : FeederState) (s : State) : (setFeederState i new s).choices = s.choices := by
  obtain ⟨_, _, _, _, _, _, h⟩ := setFeederState_frame i new s; rw [h]
@[simp] theorem setFeederState_pending (i : Fin 12) (new : FeederState) (s : State) : (setFeederState i new s).pending = s.pending := by
  obtain ⟨_, _, _, _, _, _, h⟩ := setFeederState_frame i new s; rw [h]
@[simp] theorem setFeederState_slot (i : Fin 12) (new : FeederState) (s : State) (j : Fin 4) :
    (setFeederState i new s).slot j = s.slot j := by simp [State.slot]
@[simp] theorem setFeederState_account (i : Fin 12) (new : FeederState) (s : State) (j : Fin 12) :
    (setFeederState i new s).account j = s.account j := by simp [State.account]
@[simp] theorem setFeederState_stage (i : Fin 12) (new : FeederState) (s : State) (k : Fin 3) :
    (setFeederState i new s).stage k = s.stage k := by
  obtain ⟨_, _, _, _, _, _, h⟩ := setFeederState_frame i new s; rw [h]; rfl
@[simp] theorem setFeederState_params (i : Fin 12) (new : FeederState) (s : State) :
    (setFeederState i new s).fu.params = s.fu.params := by
  obtain ⟨_, _, _, _, _, _, h⟩ := setFeederState_frame i new s; rw [h]; rfl
@[simp] theorem setFeederState_station (i : Fin 12) (new : FeederState) (s : State) :
    (setFeederState i new s).ss.station = s.ss.station := by
  obtain ⟨_, _, _, _, _, _, h⟩ := setFeederState_frame i new s; rw [h]

/-- R115: the feeder enters its new state, and every other feeder stays. -/
@[simp] theorem setFeederState_feeder (i j : Fin 12) (new : FeederState) (s : State) :
    (setFeederState i new s).feeder j = if i = j then (s.feeder i).enter new else s.feeder j := by
  obtain ⟨_, _, _, _, _, _, h⟩ := setFeederState_frame i new s
  rw [h]
  exact State.onFeeder_feeder s i j fun d => d.enter new

@[simp] theorem Feeder.enter_state (d : Feeder) (new : FeederState) : (d.enter new).state = new := rfl
@[simp] theorem Feeder.enter_profile (d : Feeder) (new : FeederState) : (d.enter new).profile = d.profile := rfl

end Sys2Proof.Machine

/-! PROOFS. Reports that have been posted stay in sight; the alarm relay follows its condition through the shared operations. -/

namespace Sys2Proof.Machine

/-! ### Reports in sight (R190, R191) -/

/-- A report stands in the queue or is being sent. -/
def State.carries (s : State) (r : Report) : Prop := r ∈ s.sl.reports ∨ ∃ left, s.sl.tx = .report r left

/-- From `s` to `t` the link has taken reports and nothing else: none that it carried is lost to sight, and its bounds hold. -/
structure ReportsOnly (s t : State) : Prop where
  link : t.sl = { s.sl with reports := t.sl.reports, tx := t.sl.tx, lostReports := t.sl.lostReports }
  kept : ∀ r, s.carries r → t.carries r
  busy : s.sl.tx ≠ .idle → t.sl.tx = s.sl.tx
  lost : s.sl.lostReports ≤ t.sl.lostReports ∨ t.sl.lostReports = 255
  queued : s.sl.reports.length ≤ 16 → t.sl.reports.length ≤ 16
  counted : s.sl.lostReports ≤ 255 → t.sl.lostReports ≤ 255
  power : t.powered = s.powered

theorem ReportsOnly.refl (s : State) : ReportsOnly s s := ⟨rfl, fun _ h => h, fun _ => rfl, .inl le_rfl, id, id, rfl⟩

theorem ReportsOnly.trans {s t u : State} (h : ReportsOnly s t) (k : ReportsOnly t u) : ReportsOnly s u where
  link := by rw [k.link, h.link]
  kept r hr := k.kept r (h.kept r hr)
  busy hs := (k.busy (h.busy hs ▸ hs)).trans (h.busy hs)
  lost := by
    have := h.lost
    have := k.lost
    have := k.counted
    omega
  queued hs := k.queued (h.queued hs)
  counted hs := k.counted (h.counted hs)
  power := k.power.trans h.power

/-- An operation that leaves the link and the supply alone posts nothing. -/
theorem ReportsOnly.of_sl {s t : State} (h : t.sl = s.sl) (hp : t.powered = s.powered) : ReportsOnly s t := by
  refine ⟨by rw [h], fun r hr => ?_, fun _ => by rw [h], h ▸ .inl le_rfl, fun hs => h ▸ hs, fun hs => h ▸ hs, hp⟩
  unfold State.carries at *
  rwa [h]

/-- A report that is carried when others are posted is still in sight. -/
theorem ReportsOnly.reportsSince {s t u : State} {r : Report} (h : s.reportsSince t r) (k : ReportsOnly t u) :
    s.reportsSince u r := by
  obtain h | h | h | h := h
  · exact (k.kept r (.inl h)).imp_right .inl
  · exact (k.kept r (.inr h)).imp_right .inl
  · have := k.lost
    exact .inr (.inr (by omega))
  · have := k.lost
    have := k.counted h.le
    exact .inr (.inr (by omega))

/-- A report posted after others counts as posted since the beginning. -/
theorem ReportsOnly.since {s t u : State} {r : Report} (h : ReportsOnly s t) (hu : ReportsOnly t u) (k : t.reportsSince u r) :
    s.reportsSince u r := by
  obtain k | k | k | k := k
  · exact .inl k
  · exact .inr (.inl k)
  · have := h.lost
    have := hu.counted
    exact .inr (.inr (by omega))
  · exact .inr (.inr (.inr k))

/-- R191: the arbitration of the transmitter keeps every report in sight. -/
theorem transmitArbitrate_carries (s : State) (r : Report) (h : s.carries r) : (transmitArbitrate s).carries r := by
  obtain h | ⟨left, h⟩ := h
  · unfold transmitArbitrate
    repeat' split
    · exact .inl h
    · next x rest heq =>
      rw [heq] at h
      obtain rfl | h := List.mem_cons.mp h
      · exact .inr ⟨_, rfl⟩
      · exact .inl h
    · exact .inl h
    · exact .inl h
  · have : transmitArbitrate s = s := by unfold transmitArbitrate; rw [h]
    rw [this]
    exact .inr ⟨left, h⟩

/-- R190: posting a report posts that report. -/
theorem post_reportsSince (r : Report) {s : State} (hp : s.powered = true) : s.reportsSince (post r s) r := by
  unfold post
  rw [if_pos hp]
  split
  · exact (transmitArbitrate_carries _ r (.inl (by simp))).imp_right .inl
  · by_cases h : s.sl.lostReports < 255
    · exact .inr (.inr (.inl (by simp [saturate]; omega)))
    · exact .inr (.inr (.inr (by simp [saturate]; omega)))

/-- R191: what the arbitration of the transmitter changes of the link. -/
theorem transmitArbitrate_frame (s : State) : ∃ (tx : Transmitter) (rs : List Report),
    transmitArbitrate s = { s with sl := { s.sl with tx := tx, reports := rs } } ∧ rs.length ≤ s.sl.reports.length
      ∧ (s.sl.tx ≠ .idle → tx = s.sl.tx) := by
  unfold transmitArbitrate
  split
  · next hidle =>
    repeat' split
    · exact ⟨_, s.sl.reports, rfl, le_rfl, fun h => absurd hidle h⟩
    · next hr => exact ⟨_, _, rfl, by simp [hr], fun h => absurd hidle h⟩
    · exact ⟨s.sl.tx, s.sl.reports, rfl, le_rfl, fun _ => rfl⟩
  · exact ⟨s.sl.tx, s.sl.reports, rfl, le_rfl, fun _ => rfl⟩

theorem post_reportsOnly (r : Report) (s : State) : ReportsOnly s (post r s) := by
  unfold post
  split
  · split
    · next hlen =>
      obtain ⟨tx, rs, h, hle, hbusy⟩ := transmitArbitrate_frame (s.onSl fun l => { l with reports := l.reports ++ [r] })
      have hkept := transmitArbitrate_carries (s.onSl fun l => { l with reports := l.reports ++ [r] })
      rw [h] at hkept ⊢
      refine ⟨rfl, fun x hx => hkept x ?_, hbusy, .inl le_rfl, fun _ => ?_, id, rfl⟩
      · exact hx.imp_left (List.mem_append_left _)
      · have : rs.length ≤ s.sl.reports.length + 1 := by simpa using hle
        exact this.trans hlen
    · refine ⟨rfl, fun x hx => hx, fun _ => rfl, ?_, id, fun _ => ?_, rfl⟩
      · simp [saturate]; omega
      · simp [saturate]
  · exact .refl s

/-- A report posted on the way from one state to another is in sight at the end. -/
theorem reportsSince_of_post {s t u : State} {r : Report} (hp : t.powered = true) (h : ReportsOnly s t)
    (k : ReportsOnly (post r t) u) : s.reportsSince u r :=
  k.reportsSince (h.since (post_reportsOnly r t) (post_reportsSince r hp))

theorem foldl_reportsOnly {α : Type} {g : State → α → State} (hg : ∀ s a, ReportsOnly s (g s a)) (l : List α) (s : State) :
    ReportsOnly s (l.foldl g s) :=
  List.foldlRecOn (motive := fun t => ReportsOnly s t) l g (.refl s) fun t ht a _ => ht.trans (hg t a)

theorem alarmChanged_reportsOnly (a : AlarmSource) (s : State) : ReportsOnly s (alarmChanged a s) := .of_sl (by simp) (by simp)

theorem evaluateCorrection_reportsOnly (s : State) : ReportsOnly s (evaluateCorrection s) := by
  have hstart : ∀ d, ReportsOnly s (startCorrection d s) := fun d =>
    .trans (t := s.onCu fun u => { u with correction := d }) (.of_sl rfl rfl) (post_reportsOnly _ _)
  have hend : ∀ d, ReportsOnly s (endCorrection d s) := fun d =>
    .trans (t := s.onCu fun u => { u with correction := .inactive }) (.of_sl rfl rfl) (post_reportsOnly _ _)
  unfold evaluateCorrection
  repeat' split
  all_goals first | exact .refl s | exact hstart _ | exact hend _

theorem shedChanged_reportsOnly (had : Bool) (s : State) : ReportsOnly s (shedChanged had s) := by
  have hhand : ∀ (b : Bool) (x : State), x.sl = s.sl → x.powered = s.powered →
      ReportsOnly s (handShed b (alarmChanged .shed x)) := fun b x hx hp =>
    .trans (t := (alarmChanged .shed x).onCu fun u => { u with shedCopy := b }) (.of_sl (by simp [hx]) (by simp [hp]))
      (evaluateCorrection_reportsOnly _)
  unfold shedChanged
  split
  · exact .refl s
  · simp only []
    split
    · exact hhand _ _ rfl rfl
    · exact hhand _ _ rfl rfl

theorem setFeederState_reportsOnly (i : Fin 12) (new : FeederState) (s : State) : ReportsOnly s (setFeederState i new s) :=
  .trans (t := s.onFeeder i fun d => d.enter new) (.of_sl rfl rfl) (shedChanged_reportsOnly _ _)

/-! ### The alarm relay follows its condition (R38) -/

/-- R38: an operation that leaves the relay, its setting and its conditions alone keeps it as they ask. -/
theorem State.RelayFollows.of_eq {s t : State} (h : s.RelayFollows) (hss : t.ss = s.ss) (hshed : t.anyShed = s.anyShed)
    (hlatched : ∀ i, (t.input i).latched = (s.input i).latched) (hfault : t.store.fault = s.store.fault) : t.RelayFollows := by
  have hcond : ∀ a, t.alarmCondition a = s.alarmCondition a := by
    intro a
    cases a <;> simp [State.alarmCondition, State.anyLatched, hss, hshed, hlatched, hfault]
  unfold State.RelayFollows at *
  rw [hss, hcond, h]

/-- R38: setting the relay makes it stand as asked. -/
theorem setAlarmRelay_follows (s : State) : (setAlarmRelay s).RelayFollows := by
  have hcond : ∀ a, (setAlarmRelay s).alarmCondition a = s.alarmCondition a := by intro a; cases a <;> rfl
  unfold State.RelayFollows
  rw [hcond]; rfl

/-- R38: a change of one condition, handed on, keeps the relay as asked. -/
theorem alarmChanged_follows {s t : State} {a : AlarmSource} (h : s.RelayFollows) (hsource : t.ss.alarmSource = s.ss.alarmSource)
    (hinv : t.ss.alarmInverted = s.ss.alarmInverted) (hrelay : t.ss.alarmRelay = s.ss.alarmRelay)
    (hother : ∀ b, b ≠ a → t.alarmCondition b = s.alarmCondition b) : (alarmChanged a t).RelayFollows := by
  unfold alarmChanged
  split
  · exact setAlarmRelay_follows t
  · next hne =>
    unfold State.RelayFollows at *
    rw [hrelay, hinv, hother _ hne, hsource, h]

theorem post_anyShed (r : Report) (s : State) : (post r s).anyShed = s.anyShed := by simp [State.anyShed]

theorem post_follows (r : Report) {s : State} (h : s.RelayFollows) : (post r s).RelayFollows :=
  h.of_eq (by simp) (post_anyShed r s) (by simp) (by simp)

theorem evaluateCorrection_follows {s : State} (h : s.RelayFollows) : (evaluateCorrection s).RelayFollows := by
  obtain ⟨c, l, hc⟩ := evaluateCorrection_frame s
  rw [hc]
  exact h.of_eq rfl rfl (fun _ => rfl) rfl

/-- R38, R116: a change of a feeder's state reaches the relay where it changes the shed condition. -/
theorem setFeederState_follows (i : Fin 12) (new : FeederState) {s : State} (h : s.RelayFollows) :
    (setFeederState i new s).RelayFollows := by
  have hother : ∀ (x : State), x.ss = s.ss → x.wu = s.wu → x.store = s.store → ∀ b, b ≠ AlarmSource.shed →
      x.alarmCondition b = s.alarmCondition b := by
    intro x hss hwu hst b hb
    cases b <;> simp [State.alarmCondition, State.anyLatched, State.input, hss, hwu, hst] at hb ⊢
  have hgo : ∀ (b : Bool) (x : State), x.ss = s.ss → x.wu = s.wu → x.store = s.store →
      (handShed b (alarmChanged .shed x)).RelayFollows := by
    intro b x hss hwu hst
    have hx : (alarmChanged .shed x).RelayFollows :=
      alarmChanged_follows h (by rw [hss]) (by rw [hss]) (by rw [hss]) (hother x hss hwu hst)
    exact evaluateCorrection_follows (hx.of_eq rfl rfl (fun _ => rfl) rfl)
  unfold setFeederState shedChanged
  split
  · next hsame => exact h.of_eq rfl hsame (fun _ => rfl) rfl
  · simp only []
    split
    · exact hgo _ _ rfl rfl rfl
    · exact hgo _ _ rfl rfl rfl

end Sys2Proof.Machine

/-! PROOFS. What happens in an arbitration and in all that ends in one, said once: the elementary changes of the dispatch side,
of which every such operation is a chain. -/

namespace Sys2Proof.Machine

/-! ### The owners in the two collections -/

/-- The owners of the Allocation Table, in order of grant. -/
def State.tableOwners (s : State) : List Owner := s.da.table.map TableEntry.owner

/-- The owners in the Standing Request Queue, head first. -/
def State.queueOwners (s : State) : List Owner := s.da.queue.map QueueEntry.owner

/-- The owner's own block has it in a granted state (R57). -/
def State.GrantedAt (s : State) : Owner → Prop
  | .drive i => (s.slot i).state.engaged = true
  | .feeder i => (s.feeder i).state = .on
  | .rake => s.rk.state = .running

/-- The owner's own block has it waiting for a grant (R60). -/
def State.QueuedAt (s : State) : Owner → Prop
  | .drive i => (s.slot i).state = .queued
  | .feeder i => (s.feeder i).state = .queued
  | .rake => s.rk.entryHeld = true

theorem tableHas_iff {s : State} {o : Owner} : s.tableHas o = true ↔ o ∈ s.tableOwners := by
  simp [State.tableHas, State.tableOwners]

theorem queueHas_iff {s : State} {o : Owner} : s.queueHas o = true ↔ o ∈ s.queueOwners := by
  simp [State.queueHas, State.queueOwners]

theorem tableHas_false_iff {s : State} {o : Owner} : s.tableHas o = false ↔ o ∉ s.tableOwners := by
  rw [← tableHas_iff, Bool.not_eq_true]

theorem queueHas_false_iff {s : State} {o : Owner} : s.queueHas o = false ↔ o ∉ s.queueOwners := by
  rw [← queueHas_iff, Bool.not_eq_true]

/-! ### The elementary changes -/

/-- R60: an entry joins the queue. -/
def insertRequest (e : QueueEntry) (s : State) : State :=
  s.onDa fun d => { d with queue := insertEntry e d.queue, sequence := d.sequence + 1 }

/-- R72: the owner's table entry, where it has one, is removed. -/
def dropEntry (o : Owner) (s : State) : State := if s.tableHas o then removeFromTable o s else s

/-- A slot state that holds neither a table entry nor a queue entry. -/
def SlotState.free (t : SlotState) : Prop := t.engaged = false ∧ t ≠ .queued

/-- A feeder state that holds neither a table entry nor a queue entry. -/
def FeederState.free (t : FeederState) : Prop := t ≠ .on ∧ t ≠ .queued

/-- The elementary changes of the dispatch side. Beside the state stand the owners in transit: those whose entry has left the table or
the queue, and whose own block has not followed yet. -/
inductive Disp : List Owner × State → List Owner × State → Prop
  | post (L : List Owner) (s : State) (r : Report) : Disp (L, s) (L, post r s)
  /-- the arbiter's timers and the phases of table entries -/
  | arbiter (L : List Owner) (s : State) (g : Arbiter → Arbiter)
      (table : (g s.da).table.map TableEntry.owner = s.tableOwners) (queue : (g s.da).queue = s.da.queue)
      (sequence : (g s.da).sequence = s.da.sequence) (params : ∀ d, (g d).params = d.params)
      (capacity : ∀ d, (g d).capacity = d.capacity) : Disp (L, s) (L, s.onDa g)
  /-- a slot moves between states that hold the same entries -/
  | slot (L : List Owner) (s : State) (i : Fin 4) (g : Slot → Slot)
      (engaged : (g (s.slot i)).state.engaged = (s.slot i).state.engaged)
      (queued : (g (s.slot i)).state = .queued ↔ (s.slot i).state = .queued) (profile : ∀ d, (g d).profile = d.profile)
      (present : ∀ d, (g d).present = d.present) : Disp (L, s) (L, s.onSlot i g)
  /-- an engaged slot leaves engagement, and its table entry goes -/
  | slotLeaves (L : List Owner) (s : State) (i : Fin 4) (g : Slot → Slot) (here : Owner.drive i ∉ L)
      (engaged : (s.slot i).state.engaged = true) (free : (g (s.slot i)).state.free) (profile : ∀ d, (g d).profile = d.profile)
      (present : ∀ d, (g d).present = d.present) : Disp (L, s) (L, dropEntry (.drive i) (s.onSlot i g))
  /-- a slot in transit follows its entry -/
  | slotTold (L : List Owner) (s : State) (i : Fin 4) (g : Slot → Slot) (free : (g (s.slot i)).state.free)
      (profile : ∀ d, (g d).profile = d.profile) (present : ∀ d, (g d).present = d.present) :
      Disp (.drive i :: L, s) (L, s.onSlot i g)
  /-- an entry leaves the table before its owner does -/
  | remove (L : List Owner) (s : State) (o : Owner) (has : s.tableHas o = true) (notRake : o ≠ .rake) :
      Disp (L, s) (o :: L, removeFromTable o s)
  /-- an entry leaves the table that its owner does not know of -/
  | unbook (L : List Owner) (s : State) (o : Owner) (has : s.tableHas o = true) (stray : ¬s.GrantedAt o) :
      Disp (L, s) (L, removeFromTable o s)
  /-- a feeder in transit follows its entry -/
  | feederTold (L : List Owner) (s : State) (i : Fin 12) (new : FeederState) (free : new.free) :
      Disp (.feeder i :: L, s) (L, setFeederState i new s)
  /-- a feeder without an entry changes its state -/
  | feeder (L : List Owner) (s : State) (i : Fin 12) (new : FeederState) (here : Owner.feeder i ∉ L)
      (table : (s.feeder i).state = .on → s.tableHas (.feeder i) = false)
      (queue : (s.feeder i).state = .queued → s.queueHas (.feeder i) = false) (free : new.free) :
      Disp (L, s) (L, setFeederState i new s)
  /-- the rake in transit follows its entry -/
  | rakeTold (L : List Owner) (s : State) : Disp (.rake :: L, s) (L, rakeEntryGone s)
  /-- the rake moves between states that hold the same entries -/
  | rake (L : List Owner) (s : State) (g : RakeUnit → RakeUnit)
      (running : (g s.rk).state = .running ↔ s.rk.state = .running) (held : (g s.rk).entryHeld = s.rk.entryHeld)
      (asks : s.rk.state.asks = true → (g s.rk).state.asks = true) (busy : s.rk.state ≠ .idle → (g s.rk).state ≠ .idle)
      (params : ∀ k, (g k).params = k.params) : Disp (L, s) (L, s.onRk g)
  /-- a run is broken off, and the rake's table entry goes -/
  | rakeLeaves (L : List Owner) (s : State) (g : RakeUnit → RakeUnit) (here : Owner.rake ∉ L) (running : s.rk.state = .running)
      (asks : (g s.rk).state.asks = true) (held : (g s.rk).entryHeld = s.rk.entryHeld) (params : ∀ k, (g k).params = k.params) :
      Disp (L, s) (L, dropEntry .rake (s.onRk g))
  /-- the shed counts and the cap trips of an account -/
  | account (L : List Owner) (s : State) (i : Fin 12) (g : Account → Account)
      (rest : ∀ a, { g a with shedCount := 0, capTrips := 0 } = { a with shedCount := 0, capTrips := 0 }) :
      Disp (L, s) (L, s.onAccount i g)
  /-- the stages, the restore timer and the restore permit, and a feeder's own timer and counter -/
  | stages (L : List Owner) (s : State) (g : FeederUnit → FeederUnit) (params : ∀ u, (g u).params = u.params)
      (feeders : ∀ u, (g u).feeders = u.feeders) : Disp (L, s) (L, s.onFu g)
  | feederTimers (L : List Owner) (s : State) (i : Fin 12) (g : Feeder → Feeder) (state : ∀ d, (g d).state = d.state)
      (profile : ∀ d, (g d).profile = d.profile) : Disp (L, s) (L, s.onFeeder i g)
  /-- entries leave the queue without a grant -/
  | leaveQueue (L : List Owner) (s : State) (named : QueueEntry → Bool) :
      Disp (L, s) ((s.da.queue.filter named).map QueueEntry.owner ++ L, setQueue (s.da.queue.filter fun e => !named e) s)
  /-- a slot asks for a grant -/
  | slotAsks (L : List Owner) (s : State) (i : Fin 4) (e : QueueEntry) (owner : e.owner = .drive i)
      (live : s.ss.station = .live) (idle : (s.slot i).state = .idle) (present : (s.slot i).present = true)
      (cls : e.cls = (s.slot i).profile.cls) (sequence : e.sequence = s.da.sequence) (room : s.da.queue.length < 8)
      (table : s.tableHas (.drive i) = false) (queue : s.queueHas (.drive i) = false) :
      Disp (L, s) (L, (insertRequest e s).onSlot i fun d => { d with state := .queued })
  /-- a feeder asks for a grant, posting that it is offered where it is -/
  | feederAsks (L : List Owner) (s : State) (i : Fin 12) (e : QueueEntry) (rs : List Report) (owner : e.owner = .feeder i)
      (live : s.ss.station = .live) (off : (s.feeder i).state ≠ .on) (here : (s.feeder i).state = .queued → Owner.feeder i ∉ L)
      (cls : e.cls = (s.feeder i).profile.cls) (sequence : e.sequence = s.da.sequence) (room : s.da.queue.length < 8)
      (table : s.tableHas (.feeder i) = false) (queue : s.queueHas (.feeder i) = false) :
      Disp (L, s) (L, setFeederState i .queued (rs.foldl (fun s r => Machine.post r s) (insertRequest e s)))
  /-- the rake asks for a grant -/
  | rakeAsks (L : List Owner) (s : State) (e : QueueEntry) (owner : e.owner = .rake) (live : s.ss.station = .live)
      (busy : s.rk.state ≠ .idle) (here : Owner.rake ∉ L) (sequence : e.sequence = s.da.sequence) (room : s.da.queue.length < 8)
      (table : s.tableHas .rake = false) (queue : s.queueHas .rake = false) :
      Disp (L, s) (L, (insertRequest e s).onRk fun k => { k with entryHeld := true })
  /-- the rake's entry moves to the head -/
  | rakeFirst (L : List Owner) (s : State) (e : QueueEntry) (found : (s.da.queue.find? fun e => decide (e.owner = .rake)) = some e) :
      Disp (L, s) (L, s.onDa fun d =>
        { d with queue := { e with cls := 0 } :: d.queue.filter fun x => decide (x.owner ≠ .rake) })
  | grant (L : List Owner) (s : State) (e : QueueEntry) (walked : walk s = some e) : Disp (L, s) (L, grant e s)

/-- A chain of elementary changes. -/
abbrev Disps : List Owner × State → List Owner × State → Prop := Relation.ReflTransGen Disp

/-- A property of a state that every elementary change passes on is passed on by a chain of them. -/
theorem Disps.keeps {P : List Owner × State → Prop} (hP : ∀ a b, Disp a b → P a → P b) {a b : List Owner × State} (h : Disps a b)
    (ha : P a) : P b := by
  induction h with
  | refl => exact ha
  | tail _ hstep ih => exact hP _ _ hstep ih

/-- Whatever a chain of elementary changes keeps alone of `still`. -/
theorem Disp.still {a b : List Owner × State} (h : Disp a b) : b.2.still = a.2.still := by
  have hdrop : ∀ o (s : State), (dropEntry o s).still = s.still := by
    intro o s; unfold dropEntry; split <;> simp
  have hposts : ∀ (rs : List Report) (s : State), (rs.foldl (fun s r => Machine.post r s) s).still = s.still :=
    fun rs s => still_foldl _ (fun _ _ => still_post _ _) rs s
  have hask : ∀ (e : QueueEntry) (s : State), (insertRequest e s).still = s.still :=
    fun e s => still_onDa _ _ (fun _ => rfl) fun _ => rfl
  cases h with
  | arbiter _ _ g _ _ _ hp hc => exact still_onDa _ _ hp hc
  | slot _ _ i g _ _ hp hq => exact still_onSlot _ _ _ hp hq
  | slotLeaves _ _ i g _ _ _ hp hq => exact (hdrop _ _).trans (still_onSlot _ _ _ hp hq)
  | slotTold _ _ i g _ hp hq => exact still_onSlot _ _ _ hp hq
  | rake _ _ g _ _ _ _ hp => exact still_onRk _ _ hp
  | rakeLeaves _ _ g _ _ _ _ hp => exact (hdrop _ _).trans (still_onRk _ _ hp)
  | account _ _ i g hr => exact still_onAccount _ _ _ hr
  | stages _ _ g hp hf => exact still_onFu _ _ hp hf
  | feederTimers _ _ i g _ hp => exact still_onFeeder _ _ _ hp
  | slotAsks _ _ i e =>
    exact (still_onSlot _ i (fun d => { d with state := .queued }) (fun _ => rfl) fun _ => rfl).trans (hask e _)
  | feederAsks => exact ((still_setFeederState _ _ _).trans (hposts _ _)).trans (hask _ _)
  | rakeAsks => exact (still_onRk _ _ fun _ => rfl).trans (hask _ _)
  | rakeFirst => exact still_onDa _ _ (fun _ => rfl) fun _ => rfl
  | post | remove | unbook | feederTold | feeder | rakeTold | leaveQueue | grant => simp

theorem Disps.still {a b : List Owner × State} (h : Disps a b) : b.2.still = a.2.still :=
  Disps.keeps (P := fun x => x.2.still = a.2.still) (fun _ _ hstep hx => hstep.still.trans hx) h rfl

end Sys2Proof.Machine

/-! PROOFS. What every elementary change of the dispatch side keeps: the reports in sight, the bounds of the queues, the alarm relay, and,
outside LIVE, that nothing is driven. -/

namespace Sys2Proof.Machine

/-! ### The shared operations, field by field -/

@[simp] theorem feedForwardRemove_da (i : Fin 4) (s : State) : (feedForwardRemove i s).da = s.da := rfl
@[simp] theorem feedForwardRemove_sl (i : Fin 4) (s : State) : (feedForwardRemove i s).sl = s.sl := rfl

/-- R56, R17: the removal of a table entry reaches the table and, for a slot, the feed-forward. -/
theorem removeFromTable_frame (o : Owner) (s : State) : ∃ g : GateController, removeFromTable o s =
    { s with da := { s.da with table := s.da.table.filter fun e => decide (e.owner ≠ o) }, gc := g } := by
  cases o <;> exact ⟨_, rfl⟩

/-- R72: dropping an entry reaches the table and the feed-forward. -/
theorem dropEntry_frame (o : Owner) (s : State) : ∃ g : GateController, dropEntry o s =
    { s with da := { s.da with table := s.da.table.filter fun e => decide (e.owner ≠ o) }, gc := g } := by
  unfold dropEntry
  split
  · exact removeFromTable_frame o s
  · next h =>
    have hall : s.da.table.filter (fun e => decide (e.owner ≠ o)) = s.da.table := by
      rw [List.filter_eq_self]
      intro e he
      simp only [decide_eq_true_eq]
      intro heq
      exact h (by simpa [State.tableHas] using ⟨e, he, heq⟩)
    exact ⟨s.gc, by rw [hall]⟩

/-- R87, R88: the grant of a slot reaches that slot, and the phase of its table entry. -/
theorem slotGranted_frame (i : Fin 4) (s : State) : ∃ (d : Slot) (table : List TableEntry),
    slotGranted i s = { s with
      ds := { s.ds with slots := s.ds.slots.set i d }, da := { s.da with table := table } }
    ∧ table.map TableEntry.owner = s.tableOwners ∧ d.state.engaged = true
    ∧ d.profile = (s.slot i).profile ∧ d.present = (s.slot i).present := by
  have hset : ∀ (x : State) (g h : Slot → Slot), (x.onSlot i g).onSlot i h =
      { x with ds := { x.ds with slots := x.ds.slots.set i (h (g (x.slot i))) } } := by
    intro x g h
    simp [State.onSlot, State.onDs, State.slot]
  have hphase : ∀ l : List TableEntry, (l.map fun e => if e.owner = .drive i then { e with phase := .active } else e).map
      TableEntry.owner = l.map TableEntry.owner := by
    intro l
    rw [List.map_map]
    apply List.map_congr_left
    intro e _
    simp only [Function.comp]
    split <;> rfl
  unfold slotGranted
  simp only []
  split
  · unfold clutchIn clutchInNotice
    rw [hset]
    exact ⟨_, _, rfl, hphase _, rfl, rfl, rfl⟩
  · rw [hset]
    exact ⟨_, s.da.table, rfl, rfl, rfl, rfl, rfl⟩

/-- R57: the grant reaches the owner's block, and for a slot the phase of its table entry. -/
theorem ownerGranted_reportsOnly (o : Owner) (s : State) : ReportsOnly s (ownerGranted o s) := by
  cases o with
  | drive i =>
    obtain ⟨d, table, h, _⟩ := slotGranted_frame i s
    exact .of_sl (by rw [ownerGranted, h]) (by rw [ownerGranted, h])
  | feeder i => exact setFeederState_reportsOnly _ _ _
  | rake => exact .of_sl rfl rfl

theorem ownerGranted_follows (o : Owner) {s : State} (hs : s.RelayFollows) : (ownerGranted o s).RelayFollows := by
  cases o with
  | drive i =>
    obtain ⟨d, table, h, _⟩ := slotGranted_frame i s
    rw [ownerGranted, h]
    exact hs.of_eq rfl rfl (fun _ => rfl) rfl
  | feeder i => exact setFeederState_follows _ _ hs
  | rake => exact hs.of_eq rfl rfl (fun _ => rfl) rfl

/-- R66: the part of a grant up to the owner's part. -/
def grantEntry (e : QueueEntry) (s : State) : State := grantFeedForward e (shortfallTest (moveToTable e s))

theorem grant_eq (e : QueueEntry) (s : State) : grant e s = startSpacing (postGrant e (ownerGranted e.owner (grantEntry e s))) := rfl

/-- R74: the shortfall test reaches the shortfall timer alone. -/
theorem shortfallTest_frame (s : State) : ∃ t : Timer, shortfallTest s = { s with da := { s.da with shortfallTimer := t } } := by
  unfold shortfallTest
  repeat' split
  · exact ⟨s.da.shortfallTimer, rfl⟩
  · exact ⟨_, rfl⟩
  · exact ⟨_, rfl⟩

/-- R16, R66: the entry goes from the queue to the end of the table; for a slot the feed-forward is added. -/
theorem grantEntry_frame (e : QueueEntry) (s : State) : ∃ (t : Timer) (g : GateController), grantEntry e s = { s with
    gc := g
    da := { s.da with
      queue := s.da.queue.filter fun x => decide (x.owner ≠ e.owner)
      sequence := if s.da.queue.filter (fun x => decide (x.owner ≠ e.owner)) = [] then 0 else s.da.sequence
      table := s.da.table ++ [{ owner := e.owner, booking := e.booking, grantTime := s.cu.e, phase := grantPhase e.owner }]
      shortfallTimer := t } }
    ∧ g.feedForward.map Prod.fst = s.gc.feedForward.map Prod.fst ++ (match e.owner with
      | .drive i => [i]
      | .feeder _ | .rake => []) := by
  obtain ⟨t, h⟩ := shortfallTest_frame (moveToTable e s)
  unfold grantEntry grantFeedForward
  rw [h]
  cases heq : e.owner with
  | drive i => exact ⟨t, _, by simp only [moveToTable, setQueue, heq, feedForwardAdd]; rfl, by simp⟩
  | feeder i => exact ⟨t, _, by simp only [moveToTable, setQueue, heq]; rfl, by simp⟩
  | rake => exact ⟨t, _, by simp only [moveToTable, setQueue, heq]; rfl, by simp⟩

/-! ### The reports -/

theorem grant_reportsOnly (e : QueueEntry) (s : State) : ReportsOnly s (grant e s) := by
  obtain ⟨t, g, h, _⟩ := grantEntry_frame e s
  have hentry : ReportsOnly s (grantEntry e s) := .of_sl (by rw [h]) (by rw [h])
  rw [grant_eq]
  exact ((hentry.trans (ownerGranted_reportsOnly _ _)).trans (post_reportsOnly _ _)).trans (.of_sl rfl rfl)

theorem dropEntry_reportsOnly (o : Owner) (s : State) : ReportsOnly s (dropEntry o s) := by
  obtain ⟨g, h⟩ := dropEntry_frame o s
  exact .of_sl (by rw [h]) (by rw [h])

theorem removeFromTable_reportsOnly (o : Owner) (s : State) : ReportsOnly s (removeFromTable o s) := by
  obtain ⟨g, h⟩ := removeFromTable_frame o s
  exact .of_sl (by rw [h]) (by rw [h])

/-- R190: an elementary change posts reports and does nothing else to the link. -/
theorem Disp.reportsOnly {a b : List Owner × State} (h : Disp a b) : ReportsOnly a.2 b.2 := by
  cases h with
  | post _ _ r => exact post_reportsOnly r _
  | slotLeaves _ s i g => exact .trans (t := s.onSlot i g) (.of_sl rfl rfl) (dropEntry_reportsOnly _ _)
  | rakeLeaves _ s g => exact .trans (t := s.onRk g) (.of_sl rfl rfl) (dropEntry_reportsOnly _ _)
  | remove | unbook => exact removeFromTable_reportsOnly _ _
  | feederTold | feeder => exact setFeederState_reportsOnly _ _ _
  | feederAsks _ s i e rs =>
    have hask : ReportsOnly s (insertRequest e s) := .of_sl rfl rfl
    have hposts := foldl_reportsOnly (fun s r => post_reportsOnly r s) rs (insertRequest e s)
    exact (hask.trans hposts).trans (setFeederState_reportsOnly _ _ _)
  | grant _ _ e => exact grant_reportsOnly e _
  | arbiter | slot | slotTold | rakeTold | rake | account | stages | feederTimers | leaveQueue | slotAsks | rakeAsks | rakeFirst =>
    exact .of_sl rfl rfl

theorem Disps.reportsOnly {a b : List Owner × State} (h : Disps a b) : ReportsOnly a.2 b.2 :=
  Disps.keeps (P := fun x => ReportsOnly a.2 x.2) (fun _ _ hstep hx => hx.trans hstep.reportsOnly) h (.refl _)

/-! ### The alarm relay -/

theorem onFeeder_follows {s : State} (hs : s.RelayFollows) (i : Fin 12) (g : Feeder → Feeder) (hg : ∀ d, (g d).state = d.state) :
    (s.onFeeder i g).RelayFollows := by
  refine hs.of_eq rfl ?_ (fun _ => rfl) rfl
  have hall : ∀ j, ((s.onFeeder i g).feeder j).state = (s.feeder j).state := by
    intro j
    rw [State.onFeeder_feeder]
    split
    · next h => rw [hg, h]
    · rfl
  simp only [State.anyShed, hall]

theorem Disp.follows {a b : List Owner × State} (h : Disp a b) (ha : a.2.RelayFollows) : b.2.RelayFollows := by
  have hdrop : ∀ o (s : State), s.RelayFollows → (dropEntry o s).RelayFollows := by
    intro o s hs
    obtain ⟨g, h⟩ := dropEntry_frame o s
    rw [h]
    exact hs.of_eq rfl rfl (fun _ => rfl) rfl
  have hposts : ∀ (rs : List Report) (s : State), s.RelayFollows → (rs.foldl (fun s r => Machine.post r s) s).RelayFollows :=
    fun rs s hs => List.foldlRecOn rs _ hs fun _ ht r _ => post_follows r ht
  cases h with
  | post _ _ r => exact post_follows r ha
  | slotLeaves _ s i g => exact hdrop _ (s.onSlot i g) (ha.of_eq rfl rfl (fun _ => rfl) rfl)
  | rakeLeaves _ s g => exact hdrop _ (s.onRk g) (ha.of_eq rfl rfl (fun _ => rfl) rfl)
  | remove _ s o | unbook _ s o =>
    obtain ⟨g, h⟩ := removeFromTable_frame o s
    simp only [h]
    exact ha.of_eq rfl rfl (fun _ => rfl) rfl
  | feederTold | feeder => exact setFeederState_follows _ _ ha
  | feederAsks _ s i e rs =>
    have hask : (insertRequest e s).RelayFollows := ha.of_eq rfl rfl (fun _ => rfl) rfl
    exact setFeederState_follows _ _ (hposts rs _ hask)
  | feederTimers _ _ i g hg => exact onFeeder_follows ha i g hg
  | stages _ s g _ hf =>
    have hshed : (s.onFu g).anyShed = s.anyShed :=
      congrArg (fun v : Vector Feeder 12 => allFeeders.any fun i => decide (v[i].state = .shed)) (hf s.fu)
    exact ha.of_eq rfl hshed (fun _ => rfl) rfl
  | grant _ s e =>
    obtain ⟨t, g, h, _⟩ := grantEntry_frame e s
    have hentry : (grantEntry e s).RelayFollows := by rw [h]; exact ha.of_eq rfl rfl (fun _ => rfl) rfl
    rw [grant_eq]
    exact (post_follows _ (ownerGranted_follows e.owner hentry)).of_eq rfl rfl (fun _ => rfl) rfl
  | arbiter | slot | slotTold | rakeTold | rake | account | leaveQueue | slotAsks | rakeAsks | rakeFirst =>
    exact ha.of_eq rfl rfl (fun _ => rfl) rfl

theorem Disps.follows {a b : List Owner × State} (h : Disps a b) (ha : a.2.RelayFollows) : b.2.RelayFollows :=
  Disps.keeps (P := fun x => x.2.RelayFollows) (fun _ _ hstep => hstep.follows) h ha

end Sys2Proof.Machine

/-! PROOFS. The agreement of the owners' own blocks with the two collections, and that every elementary change keeps it. -/

namespace Sys2Proof.Machine

/-! ### Owners, table and queue, without the state around them -/

/-- Beside the owners in transit, an owner stands in the table `T` exactly where its block has it granted, and in the queue `Q`
exactly where its block has it waiting; one in transit stands in neither, and its block has not followed yet. -/
structure Matched (L T Q : List Owner) (G W : Owner → Prop) : Prop where
  table : ∀ o, o ∉ L → (o ∈ T ↔ G o)
  queue : ∀ o, o ∉ L → (o ∈ Q ↔ W o)
  gone : ∀ o ∈ L, o ∉ T ∧ o ∉ Q
  marked : ∀ o ∈ L, G o ∨ W o
  once : L.Nodup
  tableOnce : T.Nodup
  queueOnce : Q.Nodup
  apart : ∀ o, ¬(G o ∧ W o)

namespace Matched
variable {L T Q : List Owner} {G W G' W' : Owner → Prop} {o : Owner}

theorem congr (h : Matched L T Q G W) (hG : ∀ x, G' x ↔ G x) (hW : ∀ x, W' x ↔ W x) : Matched L T Q G' W' := by
  have e1 : G' = G := funext fun x => propext (hG x)
  have e2 : W' = W := funext fun x => propext (hW x)
  rwa [e1, e2]

theorem permQueue {Q' : List Owner} (h : Matched L T Q G W) (hQ : Q'.Perm Q) : Matched L T Q' G W :=
  ⟨h.table, fun x hx => hQ.mem_iff.trans (h.queue x hx), fun x hx => ⟨(h.gone x hx).1, fun hq => (h.gone x hx).2 (hQ.mem_iff.mp hq)⟩,
    h.marked, h.once, h.tableOnce, hQ.nodup_iff.mpr h.queueOnce, h.apart⟩

/-- Outside one owner the blocks have not moved. -/
abbrev Same (o : Owner) (G W G' W' : Owner → Prop) : Prop := ∀ x, x ≠ o → (G' x ↔ G x) ∧ (W' x ↔ W x)

theorem apart_of_same (h : Matched L T Q G W) (hsame : Same o G W G' W') (ho : ¬(G' o ∧ W' o)) (x : Owner) : ¬(G' x ∧ W' x) := by
  by_cases hx : x = o
  · rw [hx]; exact ho
  · rw [(hsame x hx).1, (hsame x hx).2]; exact h.apart x

theorem told (h : Matched (o :: L) T Q G W) (hsame : Same o G W G' W') (hG : ¬G' o) (hW : ¬W' o) : Matched L T Q G' W' := by
  have hgone := h.gone o List.mem_cons_self
  obtain ⟨hoL, hL⟩ := List.nodup_cons.mp h.once
  have hne : ∀ x ∈ L, x ≠ o := fun x hx e => hoL (e ▸ hx)
  refine ⟨fun x hx => ?_, fun x hx => ?_, fun x hx => h.gone x (List.mem_cons_of_mem _ hx), fun x hx => ?_, hL, h.tableOnce,
    h.queueOnce, h.apart_of_same hsame fun k => hG k.1⟩
  · by_cases he : x = o
    · subst he; exact iff_of_false hgone.1 hG
    · rw [(hsame x he).1]; exact h.table x (by simp [he, hx])
  · by_cases he : x = o
    · subst he; exact iff_of_false hgone.2 hW
    · rw [(hsame x he).2]; exact h.queue x (by simp [he, hx])
  · rw [(hsame x (hne x hx)).1, (hsame x (hne x hx)).2]
    exact h.marked x (List.mem_cons_of_mem _ hx)

theorem remove (h : Matched L T Q G W) (ho : o ∈ T) : Matched (o :: L) (T.filter fun x => decide (x ≠ o)) Q G W := by
  have hoL : o ∉ L := fun hx => (h.gone o hx).1 ho
  have hG : G o := (h.table o hoL).mp ho
  have hW : ¬W o := fun hW => h.apart o ⟨hG, hW⟩
  refine ⟨fun x hx => ?_, fun x hx => h.queue x (by simp_all), fun x hx => ?_, fun x hx => ?_, List.nodup_cons.mpr ⟨hoL, h.once⟩,
    h.tableOnce.filter _, h.queueOnce, h.apart⟩
  · have hx' : x ≠ o ∧ x ∉ L := by simpa using hx
    rw [← h.table x hx'.2]; simp [hx'.1]
  · obtain rfl | hx := List.mem_cons.mp hx
    · exact ⟨by simp, fun hq => hW ((h.queue x hoL).mp hq)⟩
    · exact ⟨fun ht => (h.gone x hx).1 (List.mem_of_mem_filter ht), (h.gone x hx).2⟩
  · obtain rfl | hx := List.mem_cons.mp hx
    · exact .inl hG
    · exact h.marked x hx

/-- An owner that is granted leaves the table, and its block follows at once. -/
theorem leaves (h : Matched L T Q G W) (hoL : o ∉ L) (ho : G o) (hsame : Same o G W G' W') (hG : ¬G' o) (hW : ¬W' o) :
    Matched L (T.filter fun x => decide (x ≠ o)) Q G' W' :=
  (h.remove ((h.table o hoL).mpr ho)).told hsame hG hW

/-- An owner with no entry moves. -/
theorem moves (h : Matched L T Q G W) (hoL : o ∉ L) (hT : o ∉ T) (hQ : o ∉ Q) (hsame : Same o G W G' W') (hG : ¬G' o)
    (hW : ¬W' o) : Matched L T Q G' W' := by
  have hne : ∀ x ∈ L, x ≠ o := fun x hx e => hoL (e ▸ hx)
  refine ⟨fun x hx => ?_, fun x hx => ?_, h.gone, fun x hx => ?_, h.once, h.tableOnce, h.queueOnce,
    h.apart_of_same hsame fun k => hG k.1⟩
  · by_cases he : x = o
    · subst he; exact iff_of_false hT hG
    · rw [(hsame x he).1]; exact h.table x hx
  · by_cases he : x = o
    · subst he; exact iff_of_false hQ hW
    · rw [(hsame x he).2]; exact h.queue x hx
  · rw [(hsame x (hne x hx)).1, (hsame x (hne x hx)).2]; exact h.marked x hx

/-- Some owners leave the queue, and their blocks have not followed yet. -/
theorem leaveQueue {A B : List Owner} (h : Matched L T Q G W) (hQ : Q.Perm (A ++ B)) : Matched (A ++ L) T B G W := by
  have hmem : ∀ x, x ∈ Q ↔ x ∈ A ∨ x ∈ B := fun x => by rw [hQ.mem_iff, List.mem_append]
  have hnodup := List.nodup_append'.mp (hQ.nodup_iff.mp h.queueOnce)
  obtain ⟨hA, hB, hdisj⟩ := hnodup
  have hAL : List.Disjoint A L := fun x hx hl => (h.gone x hl).2 ((hmem x).mpr (.inl hx))
  have hWA : ∀ x ∈ A, W x := fun x hx => (h.queue x fun hl => hAL hx hl).mp ((hmem x).mpr (.inl hx))
  refine ⟨fun x hx => h.table x fun hl => hx (List.mem_append_right _ hl), fun x hx => ?_, fun x hx => ?_, fun x hx => ?_,
    List.nodup_append'.mpr ⟨hA, h.once, hAL⟩, h.tableOnce, hB, h.apart⟩
  · have hx' : x ∉ A ∧ x ∉ L := by simpa using hx
    rw [← h.queue x hx'.2, hmem]; simp [hx'.1]
  · obtain hx | hx := List.mem_append.mp hx
    · have hxL : x ∉ L := fun hl => hAL hx hl
      exact ⟨fun ht => h.apart x ⟨(h.table x hxL).mp ht, hWA x hx⟩, fun hb => hdisj hx hb⟩
    · exact ⟨(h.gone x hx).1, fun hb => (h.gone x hx).2 ((hmem x).mpr (.inr hb))⟩
  · obtain hx | hx := List.mem_append.mp hx
    · exact .inr (hWA x hx)
    · exact h.marked x hx

/-- An owner with no entry asks for a grant. -/
theorem asks {Q' : List Owner} (h : Matched L T Q G W) (hoL : o ∉ L) (hT : o ∉ T) (hQ : o ∉ Q) (hQ' : Q'.Perm (o :: Q))
    (hsame : Same o G W G' W') (hG : ¬G' o) (hW : W' o) : Matched L T Q' G' W' := by
  have hne : ∀ x ∈ L, x ≠ o := fun x hx e => hoL (e ▸ hx)
  have hmem : ∀ x, x ∈ Q' ↔ x = o ∨ x ∈ Q := fun x => by rw [hQ'.mem_iff, List.mem_cons]
  refine ⟨fun x hx => ?_, fun x hx => ?_, fun x hx => ⟨(h.gone x hx).1, ?_⟩, fun x hx => ?_, h.once, h.tableOnce,
    hQ'.nodup_iff.mpr (List.nodup_cons.mpr ⟨hQ, h.queueOnce⟩), h.apart_of_same hsame fun k => hG k.1⟩
  · by_cases he : x = o
    · subst he; exact iff_of_false hT hG
    · rw [(hsame x he).1]; exact h.table x hx
  · by_cases he : x = o
    · subst he; exact iff_of_true ((hmem x).mpr (.inl rfl)) hW
    · rw [(hsame x he).2, hmem, ← h.queue x hx]; simp [he]
  · rw [hmem]; exact not_or.mpr ⟨hne x hx, (h.gone x hx).2⟩
  · rw [(hsame x (hne x hx)).1, (hsame x (hne x hx)).2]; exact h.marked x hx

/-- A waiting owner is granted. -/
theorem grant (h : Matched L T Q G W) (ho : o ∈ Q) (hsame : Same o G W G' W') (hG : G' o) (hW : ¬W' o) :
    Matched L (T ++ [o]) (Q.filter fun x => decide (x ≠ o)) G' W' := by
  have hoL : o ∉ L := fun hl => (h.gone o hl).2 ho
  have hoT : o ∉ T := fun ht => h.apart o ⟨(h.table o hoL).mp ht, (h.queue o hoL).mp ho⟩
  have hne : ∀ x ∈ L, x ≠ o := fun x hx e => hoL (e ▸ hx)
  refine ⟨fun x hx => ?_, fun x hx => ?_, fun x hx => ⟨?_, fun hq => (h.gone x hx).2 (List.mem_of_mem_filter hq)⟩,
    fun x hx => ?_, h.once, ?_, h.queueOnce.filter _, h.apart_of_same hsame fun k => hW k.2⟩
  · by_cases he : x = o
    · subst he; exact iff_of_true (by simp) hG
    · rw [(hsame x he).1, ← h.table x hx]; simp [he]
  · by_cases he : x = o
    · subst he; exact iff_of_false (by simp) hW
    · rw [(hsame x he).2, ← h.queue x hx]; simp [he]
  · simp [(h.gone x hx).1, hne x hx]
  · rw [(hsame x (hne x hx)).1, (hsame x (hne x hx)).2]; exact h.marked x hx
  · rw [List.nodup_append']
    exact ⟨h.tableOnce, List.nodup_singleton _, fun x hx hy => hoT (by rwa [← List.mem_singleton.mp hy])⟩

end Matched

/-! ### The agreement of a state -/

/-- The drive slot that an owner is. -/
def Owner.slot? : Owner → Option (Fin 4)
  | .drive i => some i
  | .feeder _ | .rake => none

theorem drivesInTable_eq (s : State) : s.drivesInTable = s.tableOwners.filterMap Owner.slot? := by
  unfold State.drivesInTable State.tableOwners
  rw [List.filterMap_map]
  apply List.filterMap_congr
  intro e _
  cases h : e.owner <;> simp [h, Owner.slot?]

/-- R18, R57, R59, R60: the blocks and the collections agree, beside the owners in transit. -/
structure Agree (L : List Owner) (s : State) : Prop where
  owners : Matched L s.tableOwners s.queueOwners s.GrantedAt s.QueuedAt
  held : s.rk.entryHeld = true → s.rk.state.asks = true
  fed : s.gc.feedForward.map Prod.fst = s.tableOwners.filterMap Owner.slot?
  /-- the rake is in transit from the queue alone -/
  waited : Owner.rake ∈ L → s.rk.state ≠ .running

/-- With no owner in transit the agreement is the statements' own. -/
theorem consistent_iff (s : State) : s.Consistent ↔ Agree [] s := by
  have bool : ∀ (a : Bool) (p : Prop) [Decidable p], a = decide p ↔ (a = true ↔ p) := by
    intro a p _; cases a <;> simp
  constructor
  · intro h
    have hheld := h.rakeHeld
    refine ⟨⟨fun o _ => ?_, fun o _ => ?_, by simp, by simp, List.nodup_nil, h.tableOnce, h.queueOnce, fun o ho => ?_⟩, hheld,
      by rw [h.fedForward, drivesInTable_eq], by simp⟩
    · rw [← tableHas_iff]
      cases o with
      | drive i => simp [State.GrantedAt, h.driveGranted i]
      | feeder i => simp [State.GrantedAt, h.feederGranted i]
      | rake => simp [State.GrantedAt, h.rakeGranted]
    · rw [← queueHas_iff]
      cases o with
      | drive i => simp [State.QueuedAt, h.driveQueued i]
      | feeder i => simp [State.QueuedAt, h.feederQueued i]
      | rake => simp [State.QueuedAt, h.rakeQueued]
    · obtain ⟨hG, hW⟩ := ho
      cases o with
      | drive i => rw [State.QueuedAt] at hW; rw [State.GrantedAt, hW] at hG; cases hG
      | feeder i => rw [State.QueuedAt] at hW; rw [State.GrantedAt, hW] at hG; cases hG
      | rake =>
        rw [State.GrantedAt] at hG
        have := hheld hW
        rw [hG] at this; cases this
  · rintro ⟨h, hheld, hfed, _⟩
    have ht := fun o => (tableHas_iff (s := s)).trans (h.table o List.not_mem_nil)
    have hq := fun o => (queueHas_iff (s := s)).trans (h.queue o List.not_mem_nil)
    refine ⟨fun i => Bool.eq_iff_iff.mpr (ht (.drive i)), fun i => (bool _ _).mpr (ht (.feeder i)), (bool _ _).mpr (ht .rake),
      fun i => (bool _ _).mpr (hq (.drive i)), fun i => (bool _ _).mpr (hq (.feeder i)), Bool.eq_iff_iff.mpr (hq .rake), hheld,
      h.tableOnce, h.queueOnce, by rw [hfed, drivesInTable_eq]⟩

end Sys2Proof.Machine

/-! PROOFS. Every elementary change of the dispatch side keeps the agreement of owners and collections. -/

namespace Sys2Proof.Machine

/-! ### What an update does to the states of the owners -/

theorem map_filter_owner (l : List TableEntry) (o : Owner) :
    (l.filter fun e => decide (e.owner ≠ o)).map TableEntry.owner = (l.map TableEntry.owner).filter fun x => decide (x ≠ o) := by
  rw [List.filter_map]; rfl

theorem queue_map_filter_owner (l : List QueueEntry) (o : Owner) :
    (l.filter fun e => decide (e.owner ≠ o)).map QueueEntry.owner = (l.map QueueEntry.owner).filter fun x => decide (x ≠ o) := by
  rw [List.filter_map]; rfl

/-- A change of one slot is one of that slot's owner alone. -/
theorem onSlot_same (s : State) (i : Fin 4) (g : Slot → Slot) :
    Matched.Same (.drive i) s.GrantedAt s.QueuedAt (s.onSlot i g).GrantedAt (s.onSlot i g).QueuedAt := by
  intro x hx
  cases x with
  | drive j =>
    have hij : i ≠ j := fun e => hx (e ▸ rfl)
    simp [State.GrantedAt, State.QueuedAt, hij]
  | feeder j => exact ⟨Iff.rfl, Iff.rfl⟩
  | rake => exact ⟨Iff.rfl, Iff.rfl⟩

theorem onRk_same (s : State) (g : RakeUnit → RakeUnit) :
    Matched.Same .rake s.GrantedAt s.QueuedAt (s.onRk g).GrantedAt (s.onRk g).QueuedAt := by
  intro x hx
  cases x with
  | drive j => exact ⟨Iff.rfl, Iff.rfl⟩
  | feeder j => exact ⟨Iff.rfl, Iff.rfl⟩
  | rake => exact absurd rfl hx

theorem setFeederState_same (s : State) (i : Fin 12) (new : FeederState) :
    Matched.Same (.feeder i) s.GrantedAt s.QueuedAt (setFeederState i new s).GrantedAt (setFeederState i new s).QueuedAt := by
  intro x hx
  cases x with
  | drive j => simp [State.GrantedAt, State.QueuedAt]
  | feeder j =>
    have hij : i ≠ j := fun e => hx (e ▸ rfl)
    simp [State.GrantedAt, State.QueuedAt, hij]
  | rake => simp [State.GrantedAt, State.QueuedAt]

theorem onSlot_free {s : State} {i : Fin 4} {g : Slot → Slot} (h : (g (s.slot i)).state.free) :
    ¬(s.onSlot i g).GrantedAt (.drive i) ∧ ¬(s.onSlot i g).QueuedAt (.drive i) := by
  simp [State.GrantedAt, State.QueuedAt, h.1, h.2]

theorem setFeederState_free {i : Fin 12} {new : FeederState} (s : State) (h : new.free) :
    ¬(setFeederState i new s).GrantedAt (.feeder i) ∧ ¬(setFeederState i new s).QueuedAt (.feeder i) := by
  simp [State.GrantedAt, State.QueuedAt, h.1, h.2]

/-- R59: an inserted entry is one more in the queue. -/
theorem insertEntry_perm (e : QueueEntry) (q : List QueueEntry) : (insertEntry e q).Perm (e :: q) := by
  unfold insertEntry
  refine List.perm_middle.trans (List.Perm.cons _ ?_)
  rw [List.takeWhile_append_dropWhile]

theorem insertRequest_queueOwners (e : QueueEntry) (s : State) : (insertRequest e s).queueOwners.Perm (e.owner :: s.queueOwners) :=
  (insertEntry_perm e s.da.queue).map QueueEntry.owner

/-- Where neither the collections nor the owners' blocks have changed, the agreement stands. -/
theorem Agree.of_eq {L : List Owner} {s t : State} (h : Agree L s) (htable : t.tableOwners = s.tableOwners)
    (hqueue : t.queueOwners = s.queueOwners) (hds : ∀ i, (t.slot i).state = (s.slot i).state) (hrk : t.rk = s.rk)
    (hfu : ∀ i, (t.feeder i).state = (s.feeder i).state) (hfed : t.gc.feedForward = s.gc.feedForward) : Agree L t := by
  have hG : ∀ x, t.GrantedAt x ↔ s.GrantedAt x := by intro x; cases x <;> simp [State.GrantedAt, hds, hrk, hfu]
  have hW : ∀ x, t.QueuedAt x ↔ s.QueuedAt x := by intro x; cases x <;> simp [State.QueuedAt, hds, hrk, hfu]
  exact ⟨htable ▸ hqueue ▸ h.owners.congr hG hW, hrk ▸ h.held, by rw [hfed, htable, h.fed],
    hrk ▸ h.waited⟩

/-! ### The feed-forward list (R18) -/

/-- R17: for a slot that has one record, the removal takes that record. -/
theorem feedForwardRemove_slots (i : Fin 4) (s : State) (h : (s.gc.feedForward.map Prod.fst).Nodup) :
    (feedForwardRemove i s).gc.feedForward.map Prod.fst = (s.gc.feedForward.map Prod.fst).filter fun j => decide (j ≠ i) := by
  have hlist : ∀ l : List (Fin 4 × Nat), (l.map Prod.fst).Nodup →
      (l.eraseP fun r => decide (r.1 = i)).map Prod.fst = (l.map Prod.fst).filter fun j => decide (j ≠ i) := by
    intro l hl
    induction l with
    | nil => rfl
    | cons r l ih =>
      obtain ⟨hr, hl⟩ := List.nodup_cons.mp hl
      by_cases hi : r.1 = i
      · have hall : (l.map Prod.fst).filter (fun j => decide (j ≠ i)) = l.map Prod.fst := by
          rw [List.filter_eq_self]
          intro j hj
          simpa using fun e : j = i => hr (hi ▸ e ▸ hj)
        rw [List.eraseP_cons_of_pos (by simpa using hi), List.map_cons, List.filter_cons_of_neg (by simpa using hi), hall]
      · rw [List.eraseP_cons_of_neg (by simpa using hi), List.map_cons, List.map_cons,
          List.filter_cons_of_pos (by simpa using hi), ih hl]
  have hnone : ∀ l : List (Fin 4 × Nat), (l.find? fun r => decide (r.1 = i)) = none →
      l.map Prod.fst = (l.map Prod.fst).filter fun j => decide (j ≠ i) := by
    intro l hl
    symm
    rw [List.filter_eq_self]
    intro j hj
    obtain ⟨r, hr, rfl⟩ := List.mem_map.mp hj
    simpa using List.find?_eq_none.mp hl r hr
  unfold feedForwardRemove
  simp only [State.onGc_gc]
  split
  · exact hlist _ h
  · next hf => exact hnone _ hf

theorem filterMap_slot_filter (T : List Owner) (o : Owner) : (T.filter fun x => decide (x ≠ o)).filterMap Owner.slot? =
    match o with
    | .drive i => (T.filterMap Owner.slot?).filter fun j => decide (j ≠ i)
    | .feeder _ | .rake => T.filterMap Owner.slot? := by
  induction T with
  | nil => cases o <;> rfl
  | cons x T ih =>
    by_cases hx : x = o
    · subst hx
      rw [List.filter_cons_of_neg (by simp), ih]
      cases x <;> simp [List.filterMap_cons, Owner.slot?]
    · rw [List.filter_cons_of_pos (by simpa using hx), List.filterMap_cons, List.filterMap_cons, ih]
      cases o with
      | drive i =>
        cases x with
        | drive j =>
          have hij : j ≠ i := fun e => hx (e ▸ rfl)
          simp [Owner.slot?, hij]
        | feeder j => rfl
        | rake => rfl
      | feeder i => rfl
      | rake => rfl

theorem filterMap_slot_nodup {T : List Owner} (h : T.Nodup) : (T.filterMap Owner.slot?).Nodup := by
  refine h.filterMap fun a b i ha hb => ?_
  cases a <;> cases b <;> simp_all [Owner.slot?]

/-- R17, R56: the removal of an entry keeps the feed-forward list in step with the table. -/
theorem removeFromTable_fed {s : State} (o : Owner) (hT : s.tableOwners.Nodup)
    (h : s.gc.feedForward.map Prod.fst = s.tableOwners.filterMap Owner.slot?) :
    (removeFromTable o s).gc.feedForward.map Prod.fst = (removeFromTable o s).tableOwners.filterMap Owner.slot? := by
  have hown : (removeFromTable o s).tableOwners = s.tableOwners.filter fun x => decide (x ≠ o) := by
    obtain ⟨g, hg⟩ := removeFromTable_frame o s
    rw [hg]; exact map_filter_owner _ _
  rw [hown, filterMap_slot_filter]
  cases o with
  | drive i =>
    have hnodup : (s.gc.feedForward.map Prod.fst).Nodup := h ▸ filterMap_slot_nodup hT
    have := feedForwardRemove_slots i (s.onDa fun d => { d with table := d.table.filter fun e => decide (e.owner ≠ .drive i) }) hnodup
    exact this.trans (by rw [← h]; rfl)
  | feeder i => exact h
  | rake => exact h

/-- R17, R56: what a removal leaves of the agreement's data. -/
theorem removeFromTable_owners (o : Owner) (s : State) :
    (removeFromTable o s).tableOwners = s.tableOwners.filter (fun x => decide (x ≠ o))
    ∧ (removeFromTable o s).queueOwners = s.queueOwners ∧ (removeFromTable o s).GrantedAt = s.GrantedAt
    ∧ (removeFromTable o s).QueuedAt = s.QueuedAt ∧ (removeFromTable o s).rk = s.rk := by
  obtain ⟨g, hg⟩ := removeFromTable_frame o s
  rw [hg]
  exact ⟨map_filter_owner _ _, rfl, by funext x; cases x <;> rfl, by funext x; cases x <;> rfl, rfl⟩

/-! ### The elementary changes -/

/-- Dropping the entry of an owner whose block has just left its granted state. -/
theorem dropEntry_agree {L : List Owner} {o : Owner} {s t : State} (h : Agree L s) (hoL : o ∉ L) (hG : s.GrantedAt o)
    (htable : t.da = s.da) (hgc : t.gc = s.gc) (hsame : Matched.Same o s.GrantedAt s.QueuedAt t.GrantedAt t.QueuedAt)
    (hfree : ¬t.GrantedAt o ∧ ¬t.QueuedAt o) (hheld : t.rk.entryHeld = true → t.rk.state.asks = true)
    (hwaited : Owner.rake ∈ L → t.rk.state ≠ .running) : Agree L (dropEntry o t) := by
  have hT : t.tableOwners = s.tableOwners := by unfold State.tableOwners; rw [htable]
  have hQ : t.queueOwners = s.queueOwners := by unfold State.queueOwners; rw [htable]
  have hin : o ∈ s.tableOwners := (h.owners.table o hoL).mpr hG
  have hdrop : dropEntry o t = removeFromTable o t := if_pos (tableHas_iff.mpr (hT ▸ hin))
  obtain ⟨e1, e2, e3, e4, e5⟩ := removeFromTable_owners o t
  rw [hdrop]
  refine ⟨?_, e5 ▸ hheld, removeFromTable_fed o (hT ▸ h.owners.tableOnce) (by rw [hgc, hT, h.fed]), e5 ▸ hwaited⟩
  rw [e1, e2, e3, e4, hT, hQ]
  exact h.owners.leaves hoL hG hsame hfree.1 hfree.2

/-- R57: the grant brings the owner's block into a granted state, and no other. -/
theorem ownerGranted_same (o : Owner) (s : State) :
    Matched.Same o s.GrantedAt s.QueuedAt (ownerGranted o s).GrantedAt (ownerGranted o s).QueuedAt
    ∧ (ownerGranted o s).GrantedAt o ∧ ¬(ownerGranted o s).QueuedAt o := by
  cases o with
  | drive i =>
    obtain ⟨d, table, h, _, hengaged, _⟩ := slotGranted_frame i s
    have hslot : ∀ j, (slotGranted i s).slot j = if i = j then d else s.slot j := fun j => by
      rw [h]; exact State.onSlot_slot s i j fun _ => d
    refine ⟨fun x hx => ?_, ?_, ?_⟩
    · cases x with
      | drive j =>
        have hij : i ≠ j := fun e => hx (e ▸ rfl)
        simp [State.GrantedAt, State.QueuedAt, ownerGranted, hslot, hij]
      | feeder j => simp [State.GrantedAt, State.QueuedAt, ownerGranted, h, State.feeder]
      | rake => simp [State.GrantedAt, State.QueuedAt, ownerGranted, h]
    · simp [State.GrantedAt, ownerGranted, hslot, hengaged]
    · simp only [State.QueuedAt, ownerGranted, hslot, if_true]
      intro hq
      rw [hq] at hengaged; cases hengaged
  | feeder i =>
    exact ⟨setFeederState_same s i .on, by simp [State.GrantedAt, ownerGranted, feederGranted],
      by simp [State.QueuedAt, ownerGranted, feederGranted]⟩
  | rake => exact ⟨onRk_same s _, rfl, Bool.false_ne_true⟩

/-- R57: the grant reaches neither collection's owners nor the feed-forward; the rake holds no entry after its own. -/
theorem ownerGranted_rest (o : Owner) (s : State) : (ownerGranted o s).tableOwners = s.tableOwners
    ∧ (ownerGranted o s).queueOwners = s.queueOwners ∧ (ownerGranted o s).gc = s.gc
    ∧ ((s.rk.entryHeld = true → s.rk.state.asks = true) →
      (ownerGranted o s).rk.entryHeld = true → (ownerGranted o s).rk.state.asks = true)
    ∧ (o ≠ .rake → (ownerGranted o s).rk = s.rk) := by
  cases o with
  | drive i =>
    obtain ⟨d, table, h, ht, _⟩ := slotGranted_frame i s
    rw [ownerGranted, h]
    exact ⟨ht, rfl, rfl, id, fun _ => rfl⟩
  | feeder i => simp [ownerGranted, feederGranted, State.tableOwners, State.queueOwners]
  | rake => exact ⟨rfl, rfl, rfl, fun _ hk => absurd hk Bool.false_ne_true, fun h => absurd rfl h⟩

theorem grant_agree {L : List Owner} {s : State} {e : QueueEntry} (h : Agree L s) (hw : walk s = some e) : Agree L (grant e s) := by
  obtain ⟨_, hfind, _⟩ := walk_eq_some.mp hw
  have hmem : e.owner ∈ s.queueOwners := List.mem_map.mpr ⟨e, List.mem_of_find?_eq_some hfind, rfl⟩
  obtain ⟨t, g, hentry, hg⟩ := grantEntry_frame e s
  have hT : (grantEntry e s).tableOwners = s.tableOwners ++ [e.owner] := by
    rw [hentry]; simp [State.tableOwners]
  have hQ : (grantEntry e s).queueOwners = s.queueOwners.filter fun x => decide (x ≠ e.owner) := by
    rw [hentry]; exact queue_map_filter_owner _ _
  have hG : (grantEntry e s).GrantedAt = s.GrantedAt := by rw [hentry]; funext x; cases x <;> rfl
  have hW : (grantEntry e s).QueuedAt = s.QueuedAt := by rw [hentry]; funext x; cases x <;> rfl
  have hrk : (grantEntry e s).rk = s.rk := by rw [hentry]
  have hfed : (grantEntry e s).gc.feedForward.map Prod.fst = (grantEntry e s).tableOwners.filterMap Owner.slot? := by
    rw [hT, List.filterMap_append, ← h.fed]
    have hff : (grantEntry e s).gc = g := by rw [hentry]
    rw [hff, hg]
    cases e.owner <;> rfl
  have hown : Matched L (s.tableOwners ++ [e.owner]) (s.queueOwners.filter fun x => decide (x ≠ e.owner))
      (ownerGranted e.owner (grantEntry e s)).GrantedAt (ownerGranted e.owner (grantEntry e s)).QueuedAt := by
    obtain ⟨hsame, hgot, hleft⟩ := ownerGranted_same e.owner (grantEntry e s)
    exact h.owners.grant hmem (hG ▸ hW ▸ hsame) hgot hleft
  obtain ⟨e1, e2, e3, e4, e5⟩ := ownerGranted_rest e.owner (grantEntry e s)
  have hgranted : Agree L (ownerGranted e.owner (grantEntry e s)) :=
    ⟨by rw [e1, e2, hT, hQ]; exact hown, fun hk => by rw [hrk] at e4; exact e4 h.held hk, by rw [e3, e1, hfed],
      fun hL => by
        have hne : e.owner ≠ .rake := fun he => (h.owners.gone _ hL).2 (he ▸ hmem)
        rw [e5 hne, hrk]; exact h.waited hL⟩
  rw [grant_eq]
  exact hgranted.of_eq (by simp [postGrant, startSpacing, State.tableOwners])
    (by simp [postGrant, startSpacing, State.queueOwners]) (fun i => by simp [postGrant, startSpacing, State.slot])
    (by simp [postGrant, startSpacing]) (fun i => by simp [postGrant, startSpacing, State.feeder])
    (by simp [postGrant, startSpacing])

end Sys2Proof.Machine

/-! PROOFS. Every elementary change of the dispatch side keeps the agreement, the order of the queue, its bound, and that nothing is
driven outside LIVE. -/

namespace Sys2Proof.Machine

theorem foldl_post_frame (rs : List Report) (s : State) : ∃ l : StationLink, rs.foldl (fun s r => post r s) s = { s with sl := l } :=
  List.foldlRecOn (motive := fun t => ∃ l : StationLink, t = { s with sl := l }) rs _ ⟨s.sl, rfl⟩ fun t ht r _ => by
    obtain ⟨l, rfl⟩ := ht
    obtain ⟨l', h⟩ := post_eq r { s with sl := l }
    exact ⟨l', h⟩

/-- R60: an owner without an entry joins the queue, and its block follows. -/
theorem asks_agree {L : List Owner} {s t : State} {e : QueueEntry} (h : Agree L s) (hL : e.owner ∉ L)
    (htable : s.tableHas e.owner = false) (hqueue : s.queueHas e.owner = false) (hda : t.da = (insertRequest e s).da)
    (hgc : t.gc = s.gc) (hsame : Matched.Same e.owner s.GrantedAt s.QueuedAt t.GrantedAt t.QueuedAt)
    (hG : ¬t.GrantedAt e.owner) (hW : t.QueuedAt e.owner) (hheld : t.rk.entryHeld = true → t.rk.state.asks = true)
    (hwaited : Owner.rake ∈ L → t.rk.state ≠ .running) : Agree L t := by
  have hT : t.tableOwners = s.tableOwners := by unfold State.tableOwners; rw [hda]; rfl
  have hQ : t.queueOwners.Perm (e.owner :: s.queueOwners) := by
    have : t.queueOwners = (insertRequest e s).queueOwners := by unfold State.queueOwners; rw [hda]
    rw [this]; exact insertRequest_queueOwners e s
  exact ⟨hT ▸ h.owners.asks hL (tableHas_false_iff.mp htable) (queueHas_false_iff.mp hqueue) hQ hsame hG hW, hheld,
    by rw [hgc, hT, h.fed], hwaited⟩

/-- R18, R57, R59, R60: every elementary change keeps the agreement. -/
theorem Disp.agree {a b : List Owner × State} (h : Disp a b) (ha : Agree a.1 a.2) : Agree b.1 b.2 := by
  cases h with
  | post L s r =>
    exact ha.of_eq (by simp [State.tableOwners]) (by simp [State.queueOwners]) (by simp) (by simp) (by simp) (by simp)
  | arbiter L s g table queue =>
    exact ha.of_eq table (congrArg (List.map QueueEntry.owner) queue) (fun _ => rfl) rfl (fun _ => rfl) rfl
  | slot L s i g engaged queued =>
    have hstate : ∀ x, (s.onSlot i g).GrantedAt x ↔ s.GrantedAt x := by
      intro x
      by_cases hx : x = .drive i
      · subst hx; simp [State.GrantedAt, engaged]
      · exact (onSlot_same s i g x hx).1
    have hwait : ∀ x, (s.onSlot i g).QueuedAt x ↔ s.QueuedAt x := by
      intro x
      by_cases hx : x = .drive i
      · subst hx; simp [State.QueuedAt, queued]
      · exact (onSlot_same s i g x hx).2
    exact ⟨ha.owners.congr hstate hwait, ha.held, ha.fed, ha.waited⟩
  | slotLeaves L s i g here engaged free =>
    exact dropEntry_agree ha here engaged rfl rfl (onSlot_same s i g) (onSlot_free free) ha.held ha.waited
  | slotTold L s i g free =>
    exact ⟨ha.owners.told (onSlot_same s i g) (onSlot_free free).1 (onSlot_free free).2, ha.held, ha.fed,
      fun hL => ha.waited (List.mem_cons_of_mem _ hL)⟩
  | remove L s o has notRake =>
    obtain ⟨e1, e2, e3, e4, e5⟩ := removeFromTable_owners o s
    refine ⟨?_, e5 ▸ ha.held, removeFromTable_fed o ha.owners.tableOnce ha.fed, fun hL => ?_⟩
    rotate_left
    · rw [e5]; exact ha.waited (List.mem_of_ne_of_mem notRake.symm hL)
    rw [e1, e2, e3, e4]
    exact ha.owners.remove (tableHas_iff.mp has)
  | unbook L s o has stray =>
    have hin := tableHas_iff.mp has
    by_cases hL : o ∈ L
    · exact absurd hin (ha.owners.gone o hL).1
    · exact absurd ((ha.owners.table o hL).mp hin) stray
  | feederTold L s i new free =>
    have howners := ha.owners.told (setFeederState_same s i new) (setFeederState_free s free).1 (setFeederState_free s free).2
    exact ⟨by simpa [State.tableOwners, State.queueOwners] using howners, by simpa using ha.held,
      by simpa [State.tableOwners] using ha.fed, by simpa using fun hL => ha.waited (List.mem_cons_of_mem _ hL)⟩
  | feeder L s i new here table queue free =>
    have hT : Owner.feeder i ∉ s.tableOwners := fun hin => by
      have := tableHas_iff.mpr hin
      rw [table ((ha.owners.table _ here).mp hin)] at this; cases this
    have hQ : Owner.feeder i ∉ s.queueOwners := fun hin => by
      have := queueHas_iff.mpr hin
      rw [queue ((ha.owners.queue _ here).mp hin)] at this; cases this
    have howners := ha.owners.moves here hT hQ (setFeederState_same s i new) (setFeederState_free s free).1
      (setFeederState_free s free).2
    exact ⟨by simpa [State.tableOwners, State.queueOwners] using howners, by simpa using ha.held,
      by simpa [State.tableOwners] using ha.fed, by simpa using ha.waited⟩
  | rakeTold L s =>
    have hL := (List.nodup_cons.mp ha.owners.once).1
    exact ⟨ha.owners.told (onRk_same s _) (ha.waited List.mem_cons_self) Bool.false_ne_true,
      fun hk => absurd hk Bool.false_ne_true, ha.fed, fun h => absurd h hL⟩
  | rake L s g running held asks =>
    have hstate : ∀ x, (s.onRk g).GrantedAt x ↔ s.GrantedAt x := by intro x; cases x <;> simp [State.GrantedAt, State.slot, State.feeder, running]
    have hwait : ∀ x, (s.onRk g).QueuedAt x ↔ s.QueuedAt x := by intro x; cases x <;> simp [State.QueuedAt, State.slot, State.feeder, held]
    exact ⟨ha.owners.congr hstate hwait, fun hk => asks (ha.held (held ▸ hk)), ha.fed,
      fun hL hk => ha.waited hL (running.mp hk)⟩
  | rakeLeaves L s g here running asks held =>
    have hheld : ¬s.rk.entryHeld = true := fun hk => by
      have := ha.held hk
      rw [running] at this; cases this
    have hnot : (g s.rk).state ≠ .running := fun hk => by rw [hk] at asks; cases asks
    exact dropEntry_agree ha here running rfl rfl (onRk_same s g) ⟨hnot, fun hk => hheld (held ▸ hk)⟩ (fun _ => asks) fun hL => absurd hL here
  | account => exact ha.of_eq rfl rfl (fun _ => rfl) rfl (fun _ => rfl) rfl
  | stages L s g _ hf => exact ha.of_eq rfl rfl (fun _ => rfl) rfl (fun i => by simp [State.feeder, hf]) rfl
  | feederTimers L s i g hg =>
    refine ha.of_eq rfl rfl (fun _ => rfl) rfl (fun j => ?_) rfl
    rw [State.onFeeder_feeder]
    split
    · next e => rw [hg, e]
    · rfl
  | leaveQueue L s named =>
    have hperm : s.queueOwners.Perm
        ((s.da.queue.filter named).map QueueEntry.owner ++ (s.da.queue.filter fun e => !named e).map QueueEntry.owner) := by
      rw [← List.map_append]
      exact ((List.filter_append_perm named s.da.queue).map _).symm
    refine ⟨(ha.owners.leaveQueue hperm).congr (fun x => by cases x <;> rfl) (fun x => by cases x <;> rfl), ha.held, ha.fed,
      fun hL => ?_⟩
    by_cases h : Owner.rake ∈ L
    · exact ha.waited h
    · have hin : Owner.rake ∈ s.queueOwners := hperm.mem_iff.mpr (List.mem_append_left _ ((List.mem_append.mp hL).resolve_right h))
      exact fun hrun => ha.owners.apart .rake ⟨hrun, (ha.owners.queue _ h).mp hin⟩
  | slotAsks L s i e owner live idle present cls sequence room table queue =>
    have hL : Owner.drive i ∉ L := fun hl => by
      have := ha.owners.marked _ hl
      simp [State.GrantedAt, State.QueuedAt, idle, SlotState.engaged] at this
    rw [← owner] at hL table queue
    refine asks_agree ha hL table queue rfl rfl ?_ ?_ ?_ ha.held ha.waited
    · rw [owner]; exact onSlot_same (insertRequest e s) i _
    · simp [owner, State.GrantedAt, SlotState.engaged]
    · simp [owner, State.QueuedAt]
  | feederAsks L s i e rs owner live off here cls sequence room table queue =>
    have hL : Owner.feeder i ∉ L := fun hl => by
      obtain h | h := ha.owners.marked _ hl
      · exact off h
      · exact here h hl
    obtain ⟨l, hrs⟩ := foldl_post_frame rs (insertRequest e s)
    rw [← owner] at hL table queue
    rw [hrs]
    refine asks_agree ha hL table queue (by simp) (by simp [insertRequest]) ?_ ?_ ?_ (by simpa [insertRequest] using ha.held)
      (by simpa [insertRequest] using ha.waited)
    · rw [owner]; exact setFeederState_same { insertRequest e s with sl := l } i _
    · simp [owner, State.GrantedAt]
    · simp [owner, State.QueuedAt]
  | rakeAsks L s e owner live busy here sequence room table queue =>
    have hnot : s.rk.state ≠ .running := fun hk => by
      have := tableHas_iff.mpr ((ha.owners.table _ here).mpr hk)
      rw [table] at this; cases this
    rw [← owner] at here table queue
    refine asks_agree ha here table queue rfl rfl ?_ ?_ ?_ (fun _ => ?_) fun _ => hnot
    · rw [owner]; exact onRk_same (insertRequest e s) _
    · rw [owner]; exact hnot
    · rw [owner]; exact rfl
    · show s.rk.state.asks = true
      cases hs : s.rk.state <;> simp_all [RakeState.asks]
  | rakeFirst L s e found =>
    have he : e.owner = .rake := by simpa using List.find?_some found
    have hin : Owner.rake ∈ s.queueOwners := List.mem_map.mpr ⟨e, List.mem_of_find?_eq_some found, he⟩
    have hQ : (Owner.rake :: s.queueOwners.filter fun x => decide (x ≠ .rake)).Perm s.queueOwners := by
      have h := (List.perm_cons_erase hin).symm
      rwa [ha.owners.queueOnce.erase_eq_filter, List.filter_congr (q := fun x => decide (x ≠ .rake)) (by simp [bne, beq_eq_decide])] at h
    have hown : (s.onDa fun d => { d with queue := { e with cls := 0 } :: d.queue.filter fun x => decide (x.owner ≠ .rake) }).queueOwners =
        Owner.rake :: s.queueOwners.filter fun x => decide (x ≠ .rake) :=
      congrArg₂ List.cons he (queue_map_filter_owner _ _)
    refine ⟨?_, ha.held, ha.fed, ha.waited⟩
    show Matched L _ (State.queueOwners _) _ _
    rw [hown]
    exact (ha.owners.permQueue hQ).congr (fun x => by cases x <;> rfl) fun x => by cases x <;> rfl
  | grant L s e walked => exact grant_agree ha walked

end Sys2Proof.Machine

/-! PROOFS. What the elementary changes do to the queue: its order, its bound, and that outside LIVE nothing comes to be driven. -/

namespace Sys2Proof.Machine

/-! ### The order of a queue (R59, R60) -/

/-- R59, R60: the queue `q` stands in order under an arrival sequence counter at `n`. -/
structure QueueOrder (q : List QueueEntry) (n : Nat) : Prop where
  ordered : queueOrdered q
  given : ∀ e ∈ q, e.sequence < n
  classZero : ∀ e ∈ q, e.cls = 0 → e.owner = .rake
  emptyZero : q = [] → n = 0

theorem queueWell_iff (s : State) : s.QueueWell ↔ QueueOrder s.da.queue s.da.sequence ∧ s.queueOwners.Nodup :=
  ⟨fun h => ⟨⟨h.ordered, h.given, h.classZero, h.emptyZero⟩, h.distinct⟩,
    fun h => ⟨h.1.ordered, h.2, h.1.given, h.1.classZero, h.1.emptyZero⟩⟩

/-- R59: what a removal of entries leaves stands in order, with the counter back at 0 when the queue is empty. -/
theorem QueueOrder.filter {q : List QueueEntry} {n : Nat} (h : QueueOrder q n) (p : QueueEntry → Bool) :
    QueueOrder (q.filter p) (if q.filter p = [] then 0 else n) where
  ordered := List.Pairwise.filter p h.ordered
  given e he := by
    rw [if_neg (List.ne_nil_of_mem he)]
    exact h.given e (List.mem_of_mem_filter he)
  classZero e he := h.classZero e (List.mem_of_mem_filter he)
  emptyZero he := if_pos he

/-- R59: an entry with the next arrival sequence finds its place. -/
theorem QueueOrder.insert {q : List QueueEntry} {n : Nat} {e : QueueEntry} (h : QueueOrder q n) (hseq : e.sequence = n)
    (hcls : e.cls = 0 → e.owner = .rake) : QueueOrder (insertEntry e q) (n + 1) := by
  obtain ⟨front, back, rfl, hins, hfront, hback⟩ := insertEntry_spec e q h.ordered
  obtain ⟨hf, hb, hfb⟩ := List.pairwise_append.mp h.ordered
  have hgiven : ∀ x ∈ front, x.sequence < n := fun x hx => h.given x (List.mem_append_left _ hx)
  rw [hins]
  refine ⟨List.pairwise_append.mpr ⟨hf, List.pairwise_cons.mpr ⟨fun x hx => .inl (hback x hx), hb⟩, fun x hx y hy => ?_⟩,
    fun x hx => ?_, fun x hx => ?_, fun h => by simp at h⟩
  · obtain rfl | hy := List.mem_cons.mp hy
    · have := hfront x hx
      have := hgiven x hx
      omega
    · exact hfb x hx y hy
  · obtain hx | rfl | hx := by simpa using hx
    · have := hgiven x hx; omega
    · omega
    · have := h.given x (List.mem_append_right _ hx); omega
  · obtain hx | rfl | hx := by simpa using hx
    · exact h.classZero x (List.mem_append_left _ hx)
    · exact hcls
    · exact h.classZero x (List.mem_append_right _ hx)

/-- R70: the rake's entry at the head in class 0. -/
theorem QueueOrder.rakeFirst {q : List QueueEntry} {n : Nat} {e : QueueEntry} (h : QueueOrder q n) (he : e ∈ q)
    (ho : e.owner = .rake) : QueueOrder ({ e with cls := 0 } :: q.filter fun x => decide (x.owner ≠ .rake)) n := by
  have hrest := h.filter fun x => decide (x.owner ≠ .rake)
  refine ⟨List.pairwise_cons.mpr ⟨fun x hx => .inl ?_, hrest.ordered⟩, fun x hx => ?_, fun x hx => ?_, fun h => by simp at h⟩
  · obtain ⟨hx, hne⟩ := List.mem_filter.mp hx
    have : x.cls ≠ 0 := fun h0 => of_decide_eq_true hne (h.classZero x hx h0)
    exact Nat.pos_of_ne_zero this
  · obtain rfl | hx := List.mem_cons.mp hx
    · exact h.given e he
    · exact h.given x (List.mem_of_mem_filter hx)
  · obtain rfl | hx := List.mem_cons.mp hx
    · exact fun _ => ho
    · exact h.classZero x (List.mem_of_mem_filter hx)

/-! ### The queue under an elementary change -/

/-- R84, R118: the class of a profile within its ranges is not 0. -/
theorem drive_cls_pos {p : DriveProfile} (h : fieldsInRange DriveProfile.fields p.toList = true) : p.cls ≠ 0 := by
  simp [fieldsInRange, DriveProfile.fields, DriveProfile.toList] at h
  omega

theorem feeder_cls_pos {p : FeederProfile} (h : fieldsInRange FeederProfile.fields p.toList = true) : p.cls ≠ 0 := by
  simp [fieldsInRange, FeederProfile.fields, FeederProfile.toList] at h
  omega

/-- What an elementary change does to the queue and the arrival sequence counter. -/
inductive QueueChange (s t : State) : Prop
  | same (queue : t.da.queue = s.da.queue) (sequence : t.da.sequence = s.da.sequence)
  | filtered (p : QueueEntry → Bool) (queue : t.da.queue = s.da.queue.filter p)
      (sequence : t.da.sequence = if s.da.queue.filter p = [] then 0 else s.da.sequence)
  | inserted (e : QueueEntry) (queue : t.da.queue = insertEntry e s.da.queue) (next : t.da.sequence = s.da.sequence + 1)
      (room : s.da.queue.length < 8) (sequence : e.sequence = s.da.sequence) (live : s.ss.station = .live)
      (cls : s.ProfilesInRange → e.cls = 0 → e.owner = .rake)
  | rakeFirst (e : QueueEntry) (found : (s.da.queue.find? fun e => decide (e.owner = .rake)) = some e)
      (queue : t.da.queue = { e with cls := 0 } :: s.da.queue.filter fun x => decide (x.owner ≠ .rake))
      (sequence : t.da.sequence = s.da.sequence)

theorem ownerGranted_queue (o : Owner) (s : State) : (ownerGranted o s).da.queue = s.da.queue
    ∧ (ownerGranted o s).da.sequence = s.da.sequence := by
  cases o with
  | drive i =>
    obtain ⟨d, table, h, _⟩ := slotGranted_frame i s
    rw [ownerGranted, h]
    exact ⟨rfl, rfl⟩
  | feeder i => simp [ownerGranted, feederGranted]
  | rake => exact ⟨rfl, rfl⟩

theorem Disp.queueChange {a b : List Owner × State} (h : Disp a b) : QueueChange a.2 b.2 := by
  have hdrop : ∀ o (s t : State), t.da = s.da → QueueChange s (dropEntry o t) := by
    intro o s t hst
    obtain ⟨g, h⟩ := dropEntry_frame o t
    rw [h]
    exact .same (by simp [hst]) (by simp [hst])
  cases h with
  | arbiter _ _ _ _ queue sequence => exact .same queue sequence
  | slotLeaves L s i g => exact hdrop _ s _ rfl
  | rakeLeaves L s g => exact hdrop _ s _ rfl
  | remove L s o | unbook L s o =>
    obtain ⟨g, h⟩ := removeFromTable_frame o s
    exact .same (by rw [h]) (by rw [h])
  | leaveQueue L s named => exact .filtered _ rfl rfl
  | slotAsks L s i e owner live idle present cls sequence room =>
    exact .inserted e rfl rfl room sequence live fun hp h0 => absurd (cls ▸ h0) (drive_cls_pos (hp.drives i present))
  | feederAsks L s i e rs owner live off here cls sequence room =>
    obtain ⟨l, hrs⟩ := foldl_post_frame rs (insertRequest e s)
    rw [hrs]
    exact .inserted e (by simp [insertRequest]) (by simp [insertRequest]) room sequence live
      fun hp h0 => absurd (cls ▸ h0) (feeder_cls_pos (hp.feeders i))
  | rakeAsks L s e owner live busy here sequence room => exact .inserted e rfl rfl room sequence live fun _ _ => owner
  | rakeFirst L s e found => exact .rakeFirst e found rfl rfl
  | grant L s e walked =>
    obtain ⟨t, g, h, _⟩ := grantEntry_frame e s
    obtain ⟨h1, h2⟩ := ownerGranted_queue e.owner (grantEntry e s)
    have hq : (grantEntry e s).da.queue = s.da.queue.filter fun x => decide (x.owner ≠ e.owner) := by rw [h]
    have hn : (grantEntry e s).da.sequence =
        if s.da.queue.filter (fun x => decide (x.owner ≠ e.owner)) = [] then 0 else s.da.sequence := by rw [h]
    have hrest : ∀ x : State, (startSpacing (postGrant e x)).da.queue = x.da.queue
        ∧ (startSpacing (postGrant e x)).da.sequence = x.da.sequence := fun x => by simp [postGrant, startSpacing]
    rw [grant_eq]
    exact .filtered _ ((hrest _).1.trans (h1.trans hq)) ((hrest _).2.trans (h2.trans hn))
  | post | slot | slotTold | feederTold | feeder | rakeTold | rake | account | stages | feederTimers =>
    exact .same (by simp [rakeEntryGone]) (by simp [rakeEntryGone])

/-- R59, R60: every elementary change keeps the queue in order. -/
theorem QueueChange.order {s t : State} (h : QueueChange s t) (hp : s.ProfilesInRange) (hs : QueueOrder s.da.queue s.da.sequence) :
    QueueOrder t.da.queue t.da.sequence := by
  cases h with
  | same queue sequence => rwa [queue, sequence]
  | filtered p queue sequence => rw [queue, sequence]; exact hs.filter p
  | inserted e queue next room sequence live cls => rw [queue, next]; exact hs.insert sequence (cls hp)
  | rakeFirst e found queue sequence =>
    rw [queue, sequence]
    exact hs.rakeFirst (List.mem_of_find?_eq_some found) (by simpa using List.find?_some found)

/-- R59: every elementary change keeps the queue within its eight places. -/
theorem QueueChange.bound {s t : State} (h : QueueChange s t) (hs : s.da.queue.length ≤ 8) : t.da.queue.length ≤ 8 := by
  cases h with
  | same queue _ => rwa [queue]
  | filtered p queue _ => rw [queue]; exact (List.length_filter_le _ _).trans hs
  | inserted e queue _ room =>
    rw [queue, (insertEntry_perm e _).length_eq]; exact room
  | rakeFirst e found queue _ =>
    have hmem := List.mem_of_find?_eq_some found
    have ho : e.owner = .rake := by simpa using List.find?_some found
    have hlt : (s.da.queue.filter fun x => decide (x.owner ≠ .rake)).length < s.da.queue.length :=
      List.length_filter_lt_length_iff_exists.mpr ⟨e, hmem, by simp [ho]⟩
    rw [queue, List.length_cons]
    omega

/-- Profiles stay in their ranges wherever `still` does. -/
theorem profilesInRange_of_still {s t : State} (h : t.still = s.still) (hs : s.ProfilesInRange) : t.ProfilesInRange := by
  have hd : ∀ i : Fin 4, (t.slot i).profile = (s.slot i).profile ∧ (t.slot i).present = (s.slot i).present := by
    intro i
    have e := congrArg (fun x : State => (x.ds.slots[i]).profile) h
    have e' := congrArg (fun x : State => (x.ds.slots[i]).present) h
    simp only [State.still, Fin.getElem_fin, map4_getElem] at e e'
    exact ⟨e, e'⟩
  have hf : ∀ i : Fin 12, (t.feeder i).profile = (s.feeder i).profile := by
    intro i
    have e := congrArg (fun x : State => (x.fu.feeders[i]).profile) h
    simp only [State.still, Fin.getElem_fin, map12_getElem] at e
    exact e
  exact ⟨fun i hi => by rw [(hd i).1]; exact hs.drives i ((hd i).2 ▸ hi), fun i => by rw [hf i]; exact hs.feeders i⟩

/-! ### Chains of elementary changes -/

theorem Disps.agree {a b : List Owner × State} (h : Disps a b) (ha : Agree a.1 a.2) : Agree b.1 b.2 :=
  Disps.keeps (P := fun x => Agree x.1 x.2) (fun _ _ hstep => hstep.agree) h ha

theorem Disps.bound {a b : List Owner × State} (h : Disps a b) (ha : a.2.da.queue.length ≤ 8) : b.2.da.queue.length ≤ 8 :=
  Disps.keeps (P := fun x => x.2.da.queue.length ≤ 8) (fun _ _ hstep => hstep.queueChange.bound) h ha

theorem Disps.order {a b : List Owner × State} (h : Disps a b) (hp : a.2.ProfilesInRange)
    (ha : QueueOrder a.2.da.queue a.2.da.sequence) : QueueOrder b.2.da.queue b.2.da.sequence :=
  (Disps.keeps (P := fun x => x.2.ProfilesInRange ∧ QueueOrder x.2.da.queue x.2.da.sequence)
    (fun _ _ hstep hx => ⟨profilesInRange_of_still hstep.still hx.1, hstep.queueChange.order hx.1 hx.2⟩) h ⟨hp, ha⟩).2

theorem station_of_still {s t : State} (h : t.still = s.still) : t.ss.station = s.ss.station := by
  have e : t.still.ss.station = s.still.ss.station := congrArg (fun x : State => x.ss.station) h
  exact e

/-- R106, R108: nothing in an arbitration brings the rake back to IDLE. -/
theorem Disp.rakeBusy {a b : List Owner × State} (h : Disp a b) (ha : a.2.rk.state ≠ .idle) : b.2.rk.state ≠ .idle := by
  have hdrop : ∀ o (s : State), (dropEntry o s).rk = s.rk := by
    intro o s
    obtain ⟨g, h⟩ := dropEntry_frame o s
    rw [h]
  cases h with
  | slotLeaves L s i g => rw [hdrop]; exact ha
  | rakeLeaves L s g here running asks =>
    rw [hdrop]
    intro hk
    rw [show (g s.rk).state = .idle from hk] at asks; cases asks
  | remove L s o | unbook L s o =>
    obtain ⟨g, h⟩ := removeFromTable_frame o s
    rw [h]; exact ha
  | rake L s g running held asks busy => exact busy ha
  | feederAsks L s i e rs =>
    obtain ⟨l, hrs⟩ := foldl_post_frame rs (insertRequest e s)
    rw [hrs]; simpa [insertRequest] using ha
  | grant L s e walked =>
    obtain ⟨t, g, h, _⟩ := grantEntry_frame e s
    have hrk : (grantEntry e s).rk = s.rk := by rw [h]
    have hgrant : (Machine.grant e s).rk = (ownerGranted e.owner (grantEntry e s)).rk := by
      rw [grant_eq]; simp [postGrant, startSpacing]
    rw [hgrant]
    by_cases he : e.owner = .rake
    · rw [he]; exact RakeState.noConfusion
    · obtain ⟨_, _, _, _, hsame⟩ := ownerGranted_rest e.owner (grantEntry e s)
      rw [hsame he, hrk]; exact ha
  | post | arbiter | slot | slotTold | feederTold | feeder | rakeTold | account | stages | feederTimers | leaveQueue | slotAsks
    | rakeAsks | rakeFirst => simpa [rakeEntryGone, insertRequest, setQueue] using ha

theorem Disps.rakeBusy {a b : List Owner × State} (h : Disps a b) (ha : a.2.rk.state ≠ .idle) : b.2.rk.state ≠ .idle :=
  Disps.keeps (P := fun x => x.2.rk.state ≠ .idle) (fun _ _ hstep => hstep.rakeBusy) h ha

/-- R28: outside LIVE an empty queue stays empty. -/
theorem Disps.queue_nil {a b : List Owner × State} (h : Disps a b) (hst : a.2.ss.station ≠ .live) (ha : a.2.da.queue = []) :
    b.2.da.queue = [] := by
  refine (Disps.keeps (P := fun x => x.2.ss.station ≠ .live ∧ x.2.da.queue = []) (fun x y hstep hx => ?_) h ⟨hst, ha⟩).2
  refine ⟨station_of_still hstep.still ▸ hx.1, ?_⟩
  cases hstep.queueChange with
  | same queue _ => rw [queue, hx.2]
  | filtered p queue _ => rw [queue, hx.2]; rfl
  | inserted e queue next room sequence live => exact absurd live hx.1
  | rakeFirst e found queue _ => rw [hx.2] at found; cases found

/-- R65: with an empty queue an elementary change grants no one, and the table gains no entry. -/
theorem Disp.table_subset {a b : List Owner × State} (h : Disp a b) (ha : a.2.da.queue = []) :
    b.2.tableOwners ⊆ a.2.tableOwners := by
  have hdrop : ∀ o (s : State), (dropEntry o s).tableOwners ⊆ s.tableOwners := by
    intro o s
    obtain ⟨g, h⟩ := dropEntry_frame o s
    rw [h]
    exact List.map_subset _ fun x hx => List.mem_of_mem_filter hx
  cases h with
  | arbiter L s g table => exact fun x hx => table ▸ hx
  | slotLeaves L s i g => exact hdrop _ _
  | rakeLeaves L s g => exact hdrop _ _
  | remove L s o | unbook L s o =>
    rw [(removeFromTable_owners o s).1]
    exact fun x hx => List.mem_of_mem_filter hx
  | feederAsks L s i e rs =>
    obtain ⟨l, hrs⟩ := foldl_post_frame rs (insertRequest e s)
    rw [hrs]; simp [State.tableOwners, insertRequest]
  | grant L s e walked => rw [walk_of_queue_nil ha] at walked; cases walked
  | post | slot | slotTold | feederTold | feeder | rakeTold | rake | account | stages | feederTimers | leaveQueue | slotAsks
    | rakeAsks | rakeFirst => simp [State.tableOwners, rakeEntryGone, insertRequest, setQueue]

/-- R28: outside LIVE, with an empty queue, the table gains no entry. -/
theorem Disps.table_subset {a b : List Owner × State} (h : Disps a b) (hst : a.2.ss.station ≠ .live) (ha : a.2.da.queue = []) :
    b.2.tableOwners ⊆ a.2.tableOwners := by
  induction h with
  | refl => exact fun _ hx => hx
  | tail hab hstep ih => exact fun _ hx => ih (hstep.table_subset (Disps.queue_nil hab hst ha) hx)

end Sys2Proof.Machine

/-! PROOFS. Every operation of the dispatch side is a chain of its elementary changes: those that take an arbitration as an argument,
arbitration itself, and those that end in one. -/

namespace Sys2Proof.Machine

/-- Where a chain of elementary changes, which lets the owners `L` be in transit throughout, leads. -/
def Calm (L : List Owner) (s t : State) : Prop := Disps (L, s) (L, t)

theorem Calm.refl (L : List Owner) (s : State) : Calm L s s := Relation.ReflTransGen.refl

theorem Calm.trans {L : List Owner} {s t u : State} (h : Calm L s t) (k : Calm L t u) : Calm L s u := Relation.ReflTransGen.trans h k

theorem Disp.calm {L : List Owner} {s t : State} (h : Disp (L, s) (L, t)) : Calm L s t := .single h

theorem Calm.station {L : List Owner} {s t : State} (h : Calm L s t) : t.ss.station = s.ss.station := station_of_still (Disps.still h)

theorem Calm.agree {L : List Owner} {s t : State} (h : Calm L s t) (ha : Agree L s) : Agree L t := Disps.agree h ha

theorem calm_post (L : List Owner) (s : State) (r : Report) : Calm L s (post r s) := (Disp.post L s r).calm

/-- A chain of changes, and a report. -/
theorem Calm.thenPost {L : List Owner} {s t : State} (h : Calm L s t) (r : Report) : Calm L s (post r t) := h.trans (calm_post L t r)

theorem calm_foldl {α : Type} {L : List Owner} {g : State → α → State} (hg : ∀ s a, Calm L s (g s a)) (l : List α) (s : State) :
    Calm L s (l.foldl g s) :=
  List.foldlRecOn (motive := fun t => Calm L s t) l g (.refl L s) fun _ ht a _ => ht.trans (hg _ a)

theorem calm_shortfallTest (L : List Owner) (s : State) : Calm L s (shortfallTest s) := by
  obtain ⟨t, h⟩ := shortfallTest_frame s
  rw [h]
  exact (Disp.arbiter L s (fun d => { d with shortfallTimer := t }) rfl rfl rfl (fun _ => rfl) fun _ => rfl).calm

/-- No owner but feeders is in transit. -/
def FeedersOnly (L : List Owner) : Prop := ∀ o ∈ L, ∃ i, o = Owner.feeder i

theorem feedersOnly_nil : FeedersOnly [] := fun _ h => absurd h List.not_mem_nil

theorem FeedersOnly.not_rake {L : List Owner} (h : FeedersOnly L) : Owner.rake ∉ L := fun hm => by
  obtain ⟨_, h⟩ := h _ hm; cases h

theorem FeedersOnly.not_drive {L : List Owner} (h : FeedersOnly L) (i : Fin 4) : Owner.drive i ∉ L := fun hm => by
  obtain ⟨_, h⟩ := h _ hm; cases h

/-- What an arbitration handed to an operation may do. -/
def Arbitrates (arb : State → State) : Prop := ∀ L s, FeedersOnly L → Calm L s (arb s)

section
variable {arb : State → State} (harb : Arbitrates arb) {L : List Owner} (hL : FeedersOnly L)
include harb hL

/-! ### Release notices and ways out of engagement -/

/-- R72: a release notice is the removal of the entry, and an arbitration. -/
theorem calm_releaseNotice {o : Owner} {s t : State} (h : Calm L s (dropEntry o t)) : Calm L s (releaseNotice arb o t) := by
  unfold releaseNotice
  unfold dropEntry at h
  split
  · next hhas =>
    rw [if_pos hhas] at h
    exact (h.trans (calm_shortfallTest L _)).trans (harb L _ hL)
  · next hhas => rwa [if_neg hhas] at h

/-- An engaged slot leaves engagement with a release notice. -/
theorem calm_slotOut (i : Fin 4) (g : Slot → Slot) {s : State} (heng : (s.slot i).state.engaged = true)
    (hfree : (g (s.slot i)).state.free) (hp : ∀ d, (g d).profile = d.profile := by exact fun _ => rfl)
    (hq : ∀ d, (g d).present = d.present := by exact fun _ => rfl) :
    Calm L s (releaseNotice arb (.drive i) (s.onSlot i g)) :=
  calm_releaseNotice harb hL (Disp.slotLeaves L s i g (hL.not_drive i) heng hfree hp hq).calm

omit harb hL in
theorem toCoasting_free (d : Slot) : d.toCoasting.state.free := ⟨rfl, SlotState.noConfusion⟩

omit harb hL in
theorem calm_postAborted (i : Fin 4) (d : Slot) (s : State) : Calm L s (postAborted i d s) := by
  unfold postAborted
  split
  · exact calm_post _ _ _
  · exact .refl _ _

theorem calm_takeOut (cause : DriveCause) (i : Fin 4) {s : State} (heng : (s.slot i).state.engaged = true) :
    Calm L s (takeOut (releaseNotice arb (.drive i)) cause i s) :=
  ((calm_slotOut harb hL i _ heng (toCoasting_free _)).trans (calm_postAborted i _ _)).thenPost _

theorem calm_forcedOut {cause : DriveCause} (hc : cause ≠ .shortfall) (i : Fin 4) (s : State) : Calm L s (forcedOut arb cause i s) := by
  unfold forcedOut
  rw [if_neg hc]
  split
  · next h => exact calm_takeOut harb hL cause i h
  · exact .refl _ _

theorem calm_forcedOutAll {cause : DriveCause} (hc : cause ≠ .shortfall) (reached : Slot → Bool) (s : State) :
    Calm L s (forcedOutAll arb cause reached s) :=
  calm_foldl (fun s i => by
    split
    · exact calm_forcedOut harb hL hc i s
    · exact .refl _ _) _ _

/-! ### The feed hold and the strokes -/

omit harb hL in
/-- A slot moves between two engaged states. -/
theorem calm_slotStays (i : Fin 4) (g : Slot → Slot) {s : State} (h : (s.slot i).state.engaged = true)
    (hg : (g (s.slot i)).state.engaged = true) (hp : ∀ d, (g d).profile = d.profile := by exact fun _ => rfl)
    (hq : ∀ d, (g d).present = d.present := by exact fun _ => rfl) :
    Calm L s (s.onSlot i g) := by
  refine (Disp.slot L s i g (hg.trans h.symm) (iff_of_false ?_ ?_) hp hq).calm
  · intro hk; rw [hk] at hg; cases hg
  · intro hk; rw [hk] at h; cases h

theorem calm_holdSlot (i : Fin 4) (s : State) : Calm L s (holdSlot arb i s) := by
  unfold holdSlot
  split
  · next h =>
    split
    · exact calm_forcedOut harb hL (by simp) i s
    · exact (calm_slotStays i _ (by rw [h]; rfl) rfl).thenPost _
  · exact .refl _ _

omit harb hL in
theorem calm_resumeSlot (i : Fin 4) (s : State) : Calm L s (resumeSlot i s) := by
  unfold resumeSlot
  split
  · next h => exact (calm_slotStays i _ (by rw [h]; rfl) rfl).thenPost _
  · exact .refl _ _

theorem calm_rakeForcesSlot (i : Fin 4) (s : State) : Calm L s (rakeForcesSlot arb i s) := by
  unfold rakeForcesSlot
  split
  · next h => exact calm_slotStays i _ (by rw [h]; rfl) (by rw [h]; rfl)
  · exact calm_forcedOut harb hL (by simp) i s
  · exact calm_forcedOut harb hL (by simp) i s
  · exact calm_forcedOut harb hL (by simp) i s
  · exact calm_forcedOut harb hL (by simp) i s
  all_goals exact .refl _ _

theorem calm_rakeForcesDrives (s : State) : Calm L s (rakeForcesDrives arb s) :=
  calm_foldl (fun s i => calm_rakeForcesSlot harb hL i s) _ _

theorem calm_endCut (i : Fin 4) {s : State} (h : (s.slot i).state.engaged = true) : Calm L s (endCut arb i s) := by
  have h' : ((post (.stroke i .completed (s.slot i).strokes 0) s).slot i).state.engaged = true := by simpa using h
  refine (calm_post L s (.stroke i .completed (s.slot i).strokes 0)).trans ?_
  unfold endCut
  simp only []
  split
  · exact (calm_slotOut harb hL i _ h' (toCoasting_free _)).thenPost _
  · exact (calm_slotStays i _ h' rfl).thenPost _

theorem calm_strokeEnd (i : Fin 4) (s : State) : Calm L s (strokeEnd arb i s) := by
  unfold strokeEnd
  split
  · next h =>
    have heng : (s.slot i).state.engaged = true := by obtain h | h := h <;> rw [h] <;> rfl
    have hcount : Calm L s (s.onSlot i fun d => { d with strokes := saturate 65535 d.strokes, remaining := d.remaining - 1 }) :=
      calm_slotStays i _ heng heng
    refine hcount.trans ?_
    simp only []
    split
    · exact calm_endCut harb hL i (by simpa using heng)
    · exact (calm_slotStays i _ (by simpa using heng) (by simpa using heng)).thenPost _
  · exact .refl _ _

theorem calm_strokeTimeout (i : Fin 4) {s : State} (h : (s.slot i).state.engaged = true) : Calm L s (strokeTimeout arb i s) :=
  (calm_slotOut harb hL i _ h ⟨rfl, by simp⟩).thenPost _

/-! ### The rake -/

theorem calm_forceRakeEntry (s : State) : Calm L s (forceRakeEntry arb s) := by
  unfold forceRakeEntry
  split
  · next e h => exact (Disp.rakeFirst L s e h).calm.trans (harb L _ hL)
  · exact .refl _ _

omit harb hL in
/-- The rake moves between states in which it does not run. -/
theorem calm_rakeMoves (g : RakeUnit → RakeUnit) {s : State} (h : s.rk.state ≠ .running) (hg : (g s.rk).state.asks = true)
    (hheld : (g s.rk).entryHeld = s.rk.entryHeld := by rfl)
    (hp : ∀ k, (g k).params = k.params := by exact fun _ => rfl) : Calm L s (s.onRk g) := by
  refine (Disp.rake L s g (iff_of_false ?_ h) hheld (fun _ => hg) (fun _ => ?_) hp).calm
  · intro hk; rw [hk] at hg; cases hg
  · intro hk; rw [hk] at hg; cases hg

theorem calm_forceRake {s : State} (h : s.rk.state = .due) : Calm L s (forceRake arb s) :=
  (((calm_rakeMoves _ (by simp [h]) (by rfl)).thenPost _).trans (calm_forceRakeEntry harb hL _)).trans
    (calm_rakeForcesDrives harb hL _)

/-- R107: the request of a rake that asks. -/
theorem calm_rakeEnqueue (r : Request) (hr : r.owner = .rake) {s : State} (hlive : s.ss.station = .live) (hbusy : s.rk.state ≠ .idle) :
    Calm L s (enqueue arb r (fun s => s.onRk fun k => { k with entryHeld := true }) s).2 := by
  obtain ⟨_, h⟩ | ⟨_, _, _, h⟩ | ⟨hq, ht, hroom, e, ho, _, _, hseq, _, _, _, h⟩ :=
      enqueue_cases arb r (fun s => s.onRk fun k => { k with entryHeld := true }) s
  · rw [h]; exact .refl _ _
  · rw [h]; exact .refl _ _
  · rw [h]
    rw [hr] at ho hq ht
    exact (Disp.rakeAsks L s e ho hlive hbusy hL.not_rake hseq hroom ht hq).calm.trans (harb L _ hL)

theorem calm_rakeRequest (s : State) : Calm L s (rakeRequest arb s) := by
  unfold rakeRequest
  split
  · next h =>
    obtain ⟨hasks, _, hlive⟩ := h
    have hbusy : s.rk.state ≠ .idle := fun hk => by rw [hk] at hasks; cases hasks
    simp only []
    split
    · next hdue =>
      have hforce := calm_forceRake harb hL hdue.1
      generalize forceRake arb s = t at hforce ⊢
      exact hforce.trans (calm_rakeEnqueue harb hL _ rfl (hforce.station.trans hlive) (Disps.rakeBusy hforce hbusy))
    · exact calm_rakeEnqueue harb hL _ rfl hlive hbusy
  · exact .refl _ _

theorem calm_dueTrigger (cause : RakeCause) (s : State) : Calm L s (dueTrigger arb cause s) := by
  unfold dueTrigger
  split
  · next h => exact ((calm_rakeMoves _ (by simp [h]) (by rfl)).thenPost _).trans (calm_rakeRequest harb hL _)
  · exact .refl _ _

theorem calm_graceExpired (s : State) : Calm L s (graceExpired arb s) := by
  have hmark : Calm L s (s.onRk fun k => { k with graceTimer := none, graceSpent := true }) :=
    (Disp.rake L s (fun k => { k with graceTimer := none, graceSpent := true }) Iff.rfl rfl id id fun _ => rfl).calm
  refine hmark.trans ?_
  unfold graceExpired
  simp only []
  split
  · next h => exact calm_forceRake harb hL h
  · exact .refl _ _

theorem calm_rakeStop (cause : RakeCause) (s : State) : Calm L s (rakeStop arb cause s) := by
  unfold rakeStop
  split
  · next h =>
    exact (calm_releaseNotice harb hL (Disp.rakeLeaves L s (fun k => { k with state := .due, runTimer := none }) hL.not_rake h rfl rfl
      fun _ => rfl).calm).thenPost _
  · exact .refl _ _

/-! ### The feeders' requests -/

/-- R60: the request of a feeder in OFF or SHED. -/
theorem calm_feederEnqueue (r : Request) (i : Fin 12) (rs : List Report) {s : State} (hr : r.owner = .feeder i)
    (hlive : s.ss.station = .live) (hfree : (s.feeder i).state.free) (hcls : r.cls = (s.feeder i).profile.cls) :
    Calm L s (enqueue arb r (fun s => setFeederState i .queued (rs.foldl (fun s r => post r s) s)) s).2 := by
  obtain ⟨_, h⟩ | ⟨_, _, _, h⟩ | ⟨hq, ht, hroom, e, ho, hc, _, hseq, _, _, _, h⟩ :=
      enqueue_cases arb r (fun s => setFeederState i .queued (rs.foldl (fun s r => post r s) s)) s
  · rw [h]; exact .refl _ _
  · rw [h]; exact .refl _ _
  · rw [h]
    rw [hr] at ho hq ht
    exact (Disp.feederAsks L s i e rs ho hlive hfree.1 (fun hk => absurd hk hfree.2) (hc.trans hcls) hseq hroom ht hq).calm.trans
      (harb L _ hL)

theorem calm_autoConnectList (l : List (Fin 12)) {s : State} (hlive : s.ss.station = .live) : Calm L s (autoConnectList arb l s) := by
  induction l generalizing s with
  | nil => exact .refl _ _
  | cons i rest ih =>
    unfold autoConnectList
    split
    · next h =>
      have hask : Calm L s (enqueue arb (hostRequest s i) (setFeederState i .queued) s).2 :=
        calm_feederEnqueue harb hL _ i [] rfl hlive (by rw [h.1]; exact ⟨by simp, by simp⟩) rfl
      split
      · next t heq => rw [heq] at hask; exact hask
      · next t heq => rw [heq] at hask; exact hask.trans (ih (hask.station.trans hlive))
      · next t heq => rw [heq] at hask; exact hask.trans (ih (hask.station.trans hlive))
    · exact ih hlive

theorem calm_offerList (l : List (Fin 12)) {s : State} (hlive : s.ss.station = .live) : Calm L s (offerList arb l s) := by
  induction l generalizing s with
  | nil => exact .refl _ _
  | cons i rest ih =>
    unfold offerList
    split
    · next h =>
      have hask : Calm L s (enqueue arb (restoreRequest s i) (fun x => setFeederState i .queued
          (post (.restore i (s.feeder i).profile.cls (s.feeder i).profile.booking) x)) s).2 :=
        calm_feederEnqueue harb hL _ i [_] rfl hlive (by rw [h]; exact ⟨by simp, by simp⟩) rfl
      simp only []
      split
      · next t heq => rw [heq] at hask; exact hask
      · next t heq => rw [heq] at hask; exact hask.trans (ih (hask.station.trans hlive))
      · next t heq => rw [heq] at hask; exact hask.trans (ih (hask.station.trans hlive))
    · exact ih hlive

theorem calm_autoConnect {s : State} (hlive : s.ss.station = .live) : Calm L s (autoConnect arb s) := calm_autoConnectList harb hL _ hlive

theorem calm_feederOffer (s : State) : Calm L s (feederOffer arb s) := by
  unfold feederOffer
  split
  · next h => exact calm_offerList harb hL _ h.2
  · exact .refl _ _

omit harb hL in
theorem calm_stages (L : List Owner) (g : FeederUnit → FeederUnit) (s : State)
    (hp : ∀ u, (g u).params = u.params := by exact fun _ => rfl)
    (hf : ∀ u, (g u).feeders = u.feeders := by exact fun _ => rfl) : Calm L s (s.onFu g) := (Disp.stages L s g hp hf).calm

omit harb hL in
theorem calm_onStage (L : List Owner) (k : Fin 3) (g : Stage → Stage) (s : State) : Calm L s (s.onStage k g) :=
  calm_stages L _ s

theorem calm_setPermit (s : State) : Calm L s (setPermit arb s) :=
  (calm_stages L _ s).trans (calm_feederOffer harb hL _)

theorem calm_spaceNotice (s : State) : Calm L s (spaceNotice arb s) := (calm_rakeRequest harb hL s).trans (calm_feederOffer harb hL _)

/-! ### Feeders leaving ON -/

end

section
variable {arb : State → State} (harb : Arbitrates arb)
include harb

/-- R72: a feeder in ON gives its release notice, something is counted, and it enters a state without an entry. -/
theorem calm_feederOut (i : Fin 12) {new : FeederState} (hnew : new.free) (count : State → State)
    (hcount : ∀ L s, Calm L s (count s)) {s : State} (hon : (s.feeder i).state = .on)
    (hkeep : ∀ x, (count x).feeder i = x.feeder i ∧ (count x).da = x.da) :
    Calm [] s (setFeederState i new (count (releaseNotice arb (.feeder i) s))) := by
  unfold releaseNotice
  split
  · next h =>
    have hL : FeedersOnly [.feeder i] := fun o ho => ⟨i, List.mem_singleton.mp ho⟩
    have hremove : Disps ([], s) ([.feeder i], removeFromTable (.feeder i) s) := .single (Disp.remove [] s _ h (by simp))
    have hrest : Calm [.feeder i] (removeFromTable (.feeder i) s) (count (arb (shortfallTest (removeFromTable (.feeder i) s)))) :=
      ((calm_shortfallTest _ _).trans (harb _ _ hL)).trans (hcount _ _)
    exact (hremove.trans hrest).tail (Disp.feederTold [] _ i new hnew)
  · next h =>
    have htable : (count s).tableHas (.feeder i) = false := by
      rw [State.tableHas, (hkeep s).2]
      exact Bool.eq_false_iff.mpr h
    refine (hcount [] s).trans (Disp.feeder [] _ i new (by simp) (fun _ => htable) (fun hk => ?_) hnew).calm
    rw [(hkeep s).1, hon] at hk
    cases hk

theorem calm_openFeeder (i : Fin 12) {new : FeederState} (hnew : new.free) {s : State} (hon : (s.feeder i).state = .on) :
    Calm [] s (openFeeder arb i new s) :=
  calm_feederOut harb i hnew id (fun _ _ => .refl _ _) hon fun _ => ⟨rfl, rfl⟩

omit harb in
theorem calm_raiseShedCount (L : List Owner) (i : Fin 12) (s : State) : Calm L s (raiseShedCount i s) :=
  (Disp.account L s i _ (by exact fun _ => rfl)).calm

omit harb in
theorem calm_raiseCapTrips (L : List Owner) (i : Fin 12) (s : State) : Calm L s (raiseCapTrips i s) :=
  (Disp.account L s i _ (by exact fun _ => rfl)).calm

theorem calm_shedOnFeeder (k : Fin 3) (i : Fin 12) {s : State} (hon : (s.feeder i).state = .on) : Calm [] s (shedOnFeeder arb k i s) :=
  (calm_feederOut harb i ⟨by simp, by simp⟩ _ (fun L x => calm_raiseShedCount L i x) hon fun _ => ⟨rfl, rfl⟩).thenPost _

theorem calm_capCheck (i : Fin 12) (s : State) : Calm [] s (capCheck arb i s) := by
  have hcounter : ∀ n, Calm [] s (s.onFeeder i fun d => { d with capCounter := n }) := fun n =>
    (Disp.feederTimers [] s i _ (by exact fun _ => rfl) (by exact fun _ => rfl)).calm
  unfold capCheck
  simp only []
  split
  · next h =>
    split
    · split
      · exact ((hcounter _).trans (calm_feederOut harb i ⟨by simp, by simp⟩ _ (fun L x => calm_raiseCapTrips L i x) (by simpa using h)
          fun _ => ⟨rfl, rfl⟩)).thenPost _
      · exact hcounter _
    · exact hcounter _
  · exact .refl _ _

/-- R130: a feeder whose entry has left the table enters SHED. -/
theorem calm_feederShortfall (i : Fin 12) (s : State) : Disps ([.feeder i], s) ([], feederShortfall arb i s) := by
  have hcount : Disps ([.feeder i], s) ([.feeder i], raiseShedCount i s) := calm_raiseShedCount _ i s
  have htold := hcount.tail (Disp.feederTold [] _ i .shed ⟨by simp, by simp⟩)
  exact (htold.trans (calm_post [] _ _)).trans (calm_feederOffer harb feedersOnly_nil _)

/-! ### Withdrawals -/

omit harb in
/-- The owners whose entries have gone are told, one after another. -/
theorem disps_tellAll {cause : ExpiredCause} {tell : Owner → State → State}
    (htell : ∀ o L s, Disps (o :: L, s) (L, tell o s)) (gone : List QueueEntry) (s : State) :
    Disps (gone.map QueueEntry.owner, s) ([], gone.foldl (fun s e => tell e.owner (postExpired cause e s)) s) := by
  induction gone generalizing s with
  | nil => exact .refl
  | cons e rest ih =>
    have hpost : Disps (e.owner :: rest.map QueueEntry.owner, s) (e.owner :: rest.map QueueEntry.owner, postExpired cause e s) :=
      .single (Disp.post _ _ _)
    exact (hpost.trans (htell e.owner _ _)).trans (ih _)

theorem calm_withdraw {notices : State → State} (hnotices : Arbitrates notices) (named : QueueEntry → Bool) (cause : ExpiredCause)
    {tell : Owner → State → State} (htell : ∀ o L s, Disps (o :: L, s) (L, tell o s)) (s : State) :
    Calm [] s (withdraw arb notices named cause tell s) := by
  unfold withdraw
  simp only []
  split
  · exact .refl _ _
  · have hleave : Disps ([], s) ((s.da.queue.filter named).map QueueEntry.owner, setQueue (s.da.queue.filter fun e => !named e) s) := by
      have := Disp.leaveQueue [] s named
      rw [List.append_nil] at this
      exact .single this
    have htold := hleave.trans (disps_tellAll (cause := cause) htell (s.da.queue.filter named) _)
    exact (htold.trans (hnotices [] _ feedersOnly_nil)).trans (harb [] _ feedersOnly_nil)

omit harb in
theorem disps_slotUnqueued (i : Fin 4) (L : List Owner) (s : State) : Disps (.drive i :: L, s) (L, slotUnqueued i s) :=
  .single (Disp.slotTold L s i _ ⟨rfl, by simp⟩ (fun _ => rfl) fun _ => rfl)

omit harb in
theorem disps_tellGone (o : Owner) (L : List Owner) (s : State) : Disps (o :: L, s) (L, tellGone o s) := by
  cases o with
  | drive i => exact disps_slotUnqueued i L s
  | feeder i => exact .single (Disp.feederTold L s i .off ⟨by simp, by simp⟩)
  | rake => exact .single (Disp.rakeTold L s)

/-! ### The stages -/

/-- R129: only entries of drives and feeders are withdrawn by a stage; a rake's entry, were one named, would stay known to it. -/
theorem calm_stageWithdraw {notices : State → State} (hnotices : Arbitrates notices) (k : Fin 3) (s : State) :
    Calm [] s (withdraw arb notices (stageNames s k) .shed (stageTells k) s) := by
  have hsame : ∀ (l : List QueueEntry) (x : State), (∀ e ∈ l, e.owner ≠ .rake) →
      l.foldl (fun s e => stageTells k e.owner (postExpired .shed e s)) x =
        l.foldl (fun s e => (if e.owner = .rake then rakeEntryGone else stageTells k e.owner) (postExpired .shed e s)) x := by
    intro l x hl
    induction l generalizing x with
    | nil => rfl
    | cons e rest ih =>
      rw [List.foldl_cons, List.foldl_cons, if_neg (hl e List.mem_cons_self), ih _ fun y hy => hl y (List.mem_cons_of_mem _ hy)]
  have hnames : ∀ e ∈ s.da.queue.filter (stageNames s k), e.owner ≠ .rake := by
    intro e he hk
    have := (List.mem_filter.mp he).2
    simp [stageNames, hk] at this
  have hw : withdraw arb notices (stageNames s k) .shed (stageTells k) s =
      withdraw arb notices (stageNames s k) .shed (fun o => if o = .rake then rakeEntryGone else stageTells k o) s := by
    unfold withdraw
    simp only [hsame _ _ hnames]
  rw [hw]
  refine calm_withdraw harb hnotices _ _ (fun o L x => ?_) s
  cases o with
  | drive i => exact disps_slotUnqueued i L x
  | feeder i =>
    exact (Relation.ReflTransGen.single (Disp.feederTold L x i .shed ⟨by simp, by simp⟩)).tail (Disp.post _ _ _)
  | rake => exact .single (Disp.rakeTold L x)

theorem calm_fireStage {notices : State → State} (hnotices : Arbitrates notices) (k : Fin 3) (f : Nat) (s : State) :
    Calm [] s (fireStage arb notices k f s) := by
  have hfired : Calm [] s (post (.stageFired k f)
      ((s.onStage k fun _ => { state := .fired, timer := none }).onFu fun u => { u with permit := false })) :=
    ((calm_onStage _ k _ s).trans (calm_stages _ _ _)).thenPost _
  have hwithdraw := hfired.trans (calm_stageWithdraw harb hnotices k _)
  have hfeeders := hwithdraw.trans (calm_foldl (g := fun s i =>
    if (s.feeder i).state = .on ∧ reachedBy k (s.feeder i).profile.shedStage then shedOnFeeder arb k i s else s)
    (fun s i => by
      split
      · next h => exact calm_shedOnFeeder harb k i h.1
      · exact .refl _ _) allFeeders _)
  unfold fireStage
  exact hfeeders.trans (calm_forcedOutAll harb feedersOnly_nil (cause := .shed) (by simp) (fun d => reachedBy k d.profile.shedStage) _)

theorem calm_testStage {notices : State → State} (hnotices : Arbitrates notices) (f : Nat) (s : State) (k : Fin 3) :
    Calm [] s (testStage arb notices f s k) := by
  unfold testStage
  split
  · split
    · split
      · exact calm_fireStage harb hnotices k f s
      · exact (calm_onStage [] k (fun _ => { state := .timing, timer := some (s.fu.params.delay k) }) s).trans
          (calm_stages [] (fun u => { u with permit := false }) _)
    all_goals exact .refl _ _
  · split
    · exact calm_onStage _ k _ s
    · exact calm_onStage _ k _ s
    · exact .refl _ _

theorem calm_testRestore (f : Nat) (s : State) : Calm [] s (testRestore arb f s) := by
  unfold testRestore
  split
  · split
    · split
      · exact calm_setPermit harb feedersOnly_nil s
      · exact calm_stages _ _ s
    · exact .refl _ _
  · exact calm_stages _ _ s

theorem calm_feederStep {notices : State → State} (hnotices : Arbitrates notices) (f : Nat) (s : State) :
    Calm [] s (feederStep arb notices f s) := by
  unfold feederStep
  split
  · exact (calm_foldl (fun s k => calm_testStage harb hnotices f s k) allStages s).trans (calm_testRestore harb f _)
  · exact .refl _ _

/-- R96, R97: the feed hold sets its flag, and the slots follow. -/
theorem calm_feedHoldStep (f : Nat) (s : State) : ∃ b, Calm [] (s.onDs fun d => { d with feedHold := b }) (feedHoldStep arb f s) := by
  have hsame : ∃ b, Calm [] (s.onDs fun d => { d with feedHold := b }) s := ⟨s.ds.feedHold, .refl _ _⟩
  unfold feedHoldStep
  split
  · split
    · split
      · exact hsame
      · exact ⟨true, calm_foldl (fun s i => calm_holdSlot harb feedersOnly_nil i s) _ _⟩
    · split
      · exact ⟨false, calm_foldl (fun s i => calm_resumeSlot i s) _ _⟩
      · exact hsame
  · exact hsame

end

/-! ### Arbitration -/

/-- R64 to R66: an arbitration of any number of rounds. -/
theorem arbitrateRounds_arbitrates (n : Nat) : Arbitrates (arbitrateRounds n) := by
  induction n with
  | zero => exact fun L s _ => .refl L s
  | succ n ih =>
    intro L s hL
    unfold arbitrateRounds
    split
    · next e h => exact ((Disp.grant L s e h).calm.trans (calm_spaceNotice ih hL _)).trans (ih L _ hL)
    · exact .refl _ _

theorem arbitrate_arbitrates : Arbitrates arbitrate := arbitrateRounds_arbitrates 18

theorem giveSpace_arbitrates : Arbitrates giveSpace := fun _ s hL => calm_spaceNotice arbitrate_arbitrates hL s

theorem calm_arbitrate (s : State) : Calm [] s (arbitrate s) := arbitrate_arbitrates [] s feedersOnly_nil

theorem calm_giveSpace (s : State) : Calm [] s (giveSpace s) := giveSpace_arbitrates [] s feedersOnly_nil

theorem calm_withdrawOwner (o : Owner) (cause : ExpiredCause) (s : State) : Calm [] s (withdrawOwner o cause s) :=
  calm_withdraw arbitrate_arbitrates giveSpace_arbitrates _ cause disps_tellGone s

theorem calm_withdrawDrives (cause : ExpiredCause) (s : State) : Calm [] s (withdrawDrives cause s) :=
  calm_withdraw arbitrate_arbitrates giveSpace_arbitrates _ cause disps_tellGone s

/-- The arbiter's timers. -/
theorem calm_daTimers (g : Arbiter → Arbiter) (s : State) (ht : (g s.da).table = s.da.table := by rfl)
    (hq : (g s.da).queue = s.da.queue := by rfl) (hn : (g s.da).sequence = s.da.sequence := by rfl)
    (hp : ∀ d, (g d).params = d.params := by exact fun _ => rfl) (hc : ∀ d, (g d).capacity = d.capacity := by exact fun _ => rfl) :
    Calm [] s (s.onDa g) :=
  (Disp.arbiter [] s g (by rw [ht]; rfl) hq hn hp hc).calm

theorem calm_withdrawAll (cause : ExpiredCause) (s : State) : Calm [] s (withdrawAll cause s) :=
  (calm_daTimers _ s).trans
    (calm_withdraw arbitrate_arbitrates giveSpace_arbitrates _ cause disps_tellGone _)

/-- R76: the owner of an entry that has been shed. -/
theorem calm_tellShortfall {o : Owner} {s : State} (ho : o ≠ .rake) (h : s.tableHas o = true) :
    Calm [] s (tellShortfall o (removeFromTable o s)) := by
  cases o with
  | drive i =>
    have hslot : ((removeFromTable (.drive i) s).slot i).state = (s.slot i).state := rfl
    unfold tellShortfall forcedOut
    simp only [hslot, if_true]
    split
    · have hremove : Disps ([], s) ([.drive i], removeFromTable (.drive i) s) := .single (Disp.remove [] s _ h ho)
      have htold := hremove.tail (Disp.slotTold [] _ i Slot.toCoasting (toCoasting_free _) (fun _ => rfl) fun _ => rfl)
      exact (Relation.ReflTransGen.trans htold (calm_postAborted i _ _)).tail (Disp.post _ _ _)
    · next heng => exact (Disp.unbook [] s _ h heng).calm
  | feeder i => exact (Relation.ReflTransGen.single (Disp.remove [] s _ h ho)).trans (calm_feederShortfall arbitrate_arbitrates i _)
  | rake => exact absurd rfl ho

theorem calm_shortfallExpired (s : State) : Calm [] s (shortfallExpired s) := by
  have hstop : Calm [] s (s.onDa fun d => { d with shortfallTimer := none }) :=
    calm_daTimers _ s
  unfold shortfallExpired
  simp only []
  refine hstop.trans ?_
  split
  · next e h =>
    have hmem := List.mem_reverse.mp (List.mem_of_find?_eq_some h)
    have hcand := List.find?_some h
    have hnot : e.owner ≠ .rake := fun hk => by simp [shedCandidate, hk] at hcand
    have hhas := tableHas_iff.mpr (List.mem_map_of_mem (f := TableEntry.owner) hmem)
    exact ((calm_tellShortfall hnot hhas).trans (calm_shortfallTest _ _)).trans (calm_arbitrate _)
  · exact calm_daTimers _ _

end Sys2Proof.Machine

/-! PROOFS. The elementary changes of the whole part, short of a reset and of the link's service: every event is a chain of them. -/

namespace Sys2Proof.Machine

/-- R137: the Station Sequencer hands an exit from LIVE over to the Calendar Unit. -/
def handOff (wasLive : Bool) (s : State) : State := if wasLive then handLive false s else s

/-- R29, R32: the station leaves for STOPPING or TRIPPED, up to the opened field contactor: `g` is what the Station Sequencer sets before it
reports its new state. -/
def evict (new : StationState) (cause : StationCause) (c : DownCause) (g : Sequencer → Sequencer) (s : State) : State :=
  (takeDownLoads c (handOff (decide (s.ss.station = .live)) (setStation new cause (s.onSs g)))).onSs
    fun q => { q with fieldClosed := false }

/-- The elementary changes of the part. A change of one block says what it keeps of the things that the invariants speak of; a few larger
changes, in whose midst an invariant does not hold, stand as a whole. The gate output moves where `moves` allows it. -/
inductive Change (moves : Bool) (s : State) : State → Prop
  /-- what the dispatch side does -/
  | calm {t : State} (h : Calm [] s t) : Change moves s t
  | runDone (g : RakeUnit → RakeUnit) (running : s.rk.state = .running) (idle : (g s.rk).state = .idle := by rfl)
      (held : (g s.rk).entryHeld = s.rk.entryHeld := by rfl) (params : (g s.rk).params = s.rk.params := by rfl) :
      Change moves s (dropEntry .rake (s.onRk g))
  | smu (g : SpeedUnit → SpeedUnit) : Change moves s (s.onSmu g)
  | gc (g : GateController → GateController) (out : (g s.gc).gateOut = s.gc.gateOut := by rfl)
      (fed : (g s.gc).feedForward = s.gc.feedForward := by rfl)
      (params : fieldsInRange GovParams.fields s.gc.params.toList = true →
        fieldsInRange GovParams.fields (g s.gc).params.toList = true := by exact id)
      (limits : s.GateInRange → (g s.gc).gLim ≤ 10000 ∧ (g s.gc).gFF ≤ 10000 := by exact fun h => ⟨h.lim, h.forebay⟩) :
      Change moves s (s.onGc g)
  | gate (f : Nat) (allowed : moves = true) : Change moves s (s.onGc fun g => g.step s.ss.station s.fRef f)
  | ss (g : Sequencer → Sequencer) (station : (g s.ss).station = s.ss.station := by rfl)
      (standing : (g s.ss).standing = s.ss.standing := by rfl) (field : (g s.ss).fieldClosed = s.ss.fieldClosed := by rfl)
      (source : (g s.ss).alarmSource = s.ss.alarmSource := by rfl) (inverted : (g s.ss).alarmInverted = s.ss.alarmInverted := by rfl)
      (relay : (g s.ss).alarmRelay = s.ss.alarmRelay := by rfl)
      (capture : (g s.ss).capture.isSome = s.ss.capture.isSome := by rfl) : Change moves s (s.onSs g)
  | alarm (source : AlarmSource) (inverted : Bool) : Change moves s (takeAlarm source inverted s)
  | overflow (r : TripRecord) (tripped : s.ss.station = .tripped) : Change moves s (s.onSs fun q => { q with capture := some r })
  | standing (b : Bool) (live : b = true → s.ss.station = .live) : Change moves s (s.onSs fun q => { q with standing := b })
  /-- the station moves between states in which nothing is driven -/
  | moved (new : StationState) (cause : StationCause) (old : s.ss.station ≠ .live ∧ s.ss.station ≠ .tripped)
      (hnew : new ≠ .live ∧ new ≠ .tripped) : Change moves s (setStation new cause s)
  | cleared (g : Sequencer → Sequencer) (tripped : s.ss.station = .tripped)
      (station : (g s.ss).station = s.ss.station := by rfl) (standing : (g s.ss).standing = s.ss.standing := by rfl)
      (field : (g s.ss).fieldClosed = s.ss.fieldClosed := by rfl) (source : (g s.ss).alarmSource = s.ss.alarmSource := by rfl)
      (inverted : (g s.ss).alarmInverted = s.ss.alarmInverted := by rfl) (relay : (g s.ss).alarmRelay = s.ss.alarmRelay := by rfl)
      (capture : (g s.ss).capture = none := by rfl) : Change moves s (setStation .stopped .clear (s.onSs g))
  | goesLive (g : Sequencer → Sequencer) (runUp : s.ss.station = .runUp)
      (station : (g s.ss).station = s.ss.station := by rfl) (standing : (g s.ss).standing = s.ss.standing := by rfl)
      (field : (g s.ss).fieldClosed = true := by rfl) (source : (g s.ss).alarmSource = s.ss.alarmSource := by rfl)
      (inverted : (g s.ss).alarmInverted = s.ss.alarmInverted := by rfl) (relay : (g s.ss).alarmRelay = s.ss.alarmRelay := by rfl)
      (capture : (g s.ss).capture = s.ss.capture := by rfl) : Change moves s (setStation .live .settled (s.onSs g))
  | evicted (new : StationState) (cause : StationCause) (c : DownCause) (g : Sequencer → Sequencer) (old : s.ss.station ≠ .tripped)
      (hnew : new ≠ .live) (drive : c.drive ≠ .shortfall := by decide)
      (station : (g s.ss).station = s.ss.station := by rfl) (standing : (g s.ss).standing = false := by rfl) (source : (g s.ss).alarmSource = s.ss.alarmSource := by rfl)
      (inverted : (g s.ss).alarmInverted = s.ss.alarmInverted := by rfl) (relay : (g s.ss).alarmRelay = s.ss.alarmRelay := by rfl)
      (capture : (g s.ss).capture.isSome = (s.ss.capture.isSome || decide (new = .tripped))) :
      Change moves s (evict new cause c g s)
  | lu (g : LevelUnit → LevelUnit)
      (params : fieldsInRange LevelParams.fields s.lu.params.toList = true →
        fieldsInRange LevelParams.fields (g s.lu).params.toList = true := by exact id)
      (copy : s.ParamsInRange → s.lu.gMaxCopy ≤ 10000 → (g s.lu).gMaxCopy ≤ 10000 := by exact fun _ h => h) :
      Change moves s (s.onLu g)
  | wu (g : WatchUnit → WatchUnit) (latched : ∀ i : Fin 4, (g s.wu).inputs[i].latched = s.wu.inputs[i].latched := by exact fun _ => rfl) :
      Change moves s (s.onWu g)
  | latch (i : Fin 4) (b : Bool) : Change moves s (alarmChanged .watch (s.onInput i fun w => { w with latched := b, counter := 0 }))
  | da (g : Arbiter → Arbiter) (table : (g s.da).table = s.da.table := by rfl) (queue : (g s.da).queue = s.da.queue := by rfl)
      (sequence : (g s.da).sequence = s.da.sequence := by rfl)
      (params : fieldsInRange DispatchParams.fields s.da.params.toList = true →
        fieldsInRange DispatchParams.fields (g s.da).params.toList = true := by exact id) : Change moves s (s.onDa g)
  | profile (i : Fin 4) (g : Slot → Slot) (state : (g (s.slot i)).state = (s.slot i).state := by rfl)
      (range : (g (s.slot i)).present = true → fieldsInRange DriveProfile.fields (g (s.slot i)).profile.toList = true) :
      Change moves s (s.onSlot i g)
  | feedHold (b : Bool) : Change moves s (s.onDs fun d => { d with feedHold := b })
  | rk (g : RakeUnit → RakeUnit) (state : (g s.rk).state = s.rk.state := by rfl) (held : (g s.rk).entryHeld = s.rk.entryHeld := by rfl)
      (params : fieldsInRange RakeParams.fields s.rk.params.toList = true →
        fieldsInRange RakeParams.fields (g s.rk).params.toList = true := by exact id) : Change moves s (s.onRk g)
  | feederProfile (i : Fin 12) (p : FeederProfile) (range : fieldsInRange FeederProfile.fields p.toList = true) :
      Change moves s (s.onFeeder i fun d => { d with profile := p })
  | fu (g : FeederUnit → FeederUnit) (feeders : (g s.fu).feeders = s.fu.feeders := by rfl)
      (params : fieldsInRange SheddingParams.fields s.fu.params.toList = true →
        fieldsInRange SheddingParams.fields (g s.fu).params.toList = true := by exact id) : Change moves s (s.onFu g)
  | cu (g : CalendarUnit → CalendarUnit)
      (params : fieldsInRange CorrectionParams.fields s.cu.params.toList = true →
        fieldsInRange CorrectionParams.fields (g s.cu).params.toList = true := by exact id) : Change moves s (s.onCu g)
  | mu (g : MeteringUnit → MeteringUnit) (residues : s.ResiduesLow → (s.onMu g).ResiduesLow := by exact id) : Change moves s (s.onMu g)
  | store (g : AccountStore → AccountStore) (fault : (g s.store).fault = s.store.fault := by rfl)
      (readJob : (g s.store).readJob.isSome = s.store.readJob.isSome := by rfl)
      (array : Flash.wf s.store.array → Flash.wf (g s.store).array := by exact id)
      (locked : s.store.commissioning.locked = true → (g s.store).commissioning = s.store.commissioning := by exact fun _ => rfl)
      (unused : (g s.store).commissioning.unused = s.store.commissioning.unused := by rfl) : Change moves s (s.onStore g)
  | storeFault : Change moves s (alarmChanged .store (s.onStore fun a => { a with fault := true }))
  | pageRead (p : Fin 224) : Change moves s (pageRead p s)
  | sl (g : StationLink → StationLink) (service : (g s.sl).inService = s.sl.inService := by rfl)
      (slot : (g s.sl).replySlot = s.sl.replySlot := by rfl) (waiting : (g s.sl).inputQueue = s.sl.inputQueue := by rfl) (bounds : s.Bounded → (s.onSl g).Bounded := by exact id) :
      Change moves s (s.onSl g)
  | choice : Change moves s s.nextChoice
  | tick : Change moves s (tick s)

/-- A chain of elementary changes. -/
abbrev Changes (moves : Bool) : State → State → Prop := Relation.ReflTransGen (Change moves)

theorem Changes.keeps {moves : Bool} {P : State → Prop} (hP : ∀ s t, Change moves s t → P s → P t) {s t : State} (h : Changes moves s t)
    (hs : P s) : P t := by
  induction h with
  | refl => exact hs
  | tail _ hstep ih => exact hP _ _ hstep ih

/-! ### The larger changes, field by field -/

theorem handOff_frame (wasLive : Bool) (s : State) : ∃ (copy : Bool) (c : CorrectionState) (l : StationLink),
    handOff wasLive s = { s with cu := { s.cu with liveCopy := copy, correction := c }, sl := l } ∧ ReportsOnly s (handOff wasLive s) := by
  unfold handOff
  split
  · obtain ⟨c, l, h⟩ := evaluateCorrection_frame (s.onCu fun u => { u with liveCopy := false })
    refine ⟨false, c, l, h, .trans (t := s.onCu fun u => { u with liveCopy := false }) (.of_sl rfl rfl) ?_⟩
    exact evaluateCorrection_reportsOnly _
  · exact ⟨s.cu.liveCopy, s.cu.correction, s.sl, rfl, .refl s⟩

/-- R72: dropping the rake's entry reaches the table alone. -/
theorem dropEntry_rake (s : State) :
    dropEntry .rake s = { s with da := { s.da with table := s.da.table.filter fun e => decide (e.owner ≠ .rake) } } := by
  unfold dropEntry
  split
  · rfl
  · next h =>
    have hall : s.da.table.filter (fun e => decide (e.owner ≠ .rake)) = s.da.table := by
      rw [List.filter_eq_self]
      intro e he
      simp only [decide_eq_true_eq]
      intro heq
      exact h (by simpa [State.tableHas] using ⟨e, he, heq⟩)
    rw [hall]

/-- R187, R191: what a reply does to the link, and what the transmitter takes. -/
theorem transmitArbitrate_service (s : State) : (transmitArbitrate s).sl.inService = s.sl.inService
    ∧ (transmitArbitrate s).sl.replySlot = s.sl.replySlot := by
  obtain ⟨tx, rs, h, _⟩ := transmitArbitrate_frame s
  rw [h]; exact ⟨rfl, rfl⟩

theorem answer_frame (body : List Byte) (s : State) : ∃ (f : Option Frame) (tx : Transmitter) (rs : List Report),
    answer body s = { s with sl := { s.sl with inService := none, replySlot := f, tx := tx, reports := rs } }
      ∧ rs.length ≤ s.sl.reports.length := by
  unfold answer
  split
  · next fr _ =>
    obtain ⟨tx, rs, h, hlen, _⟩ :=
      transmitArbitrate_frame (s.onSl fun l => { l with replySlot := some (replyFrame fr body), inService := none })
    exact ⟨some (replyFrame fr body), tx, rs, by rw [h]; rfl, hlen⟩
  · next hnone => exact ⟨s.sl.replySlot, s.sl.tx, s.sl.reports, by simp only [← hnone], le_rfl⟩

/-- R179: the end of a page read reaches the read request, the read job and the link, and the link where the read job ends alone. -/
theorem pageRead_frame (p : Fin 224) (s : State) : ∃ (r : Option (Fin 224)) (j : Option ReadJob) (f : Option Frame) (tx : Transmitter)
    (rs : List Report) (busy : Option Frame),
    pageRead p s = { s with
      store := { s.store with readRequest := r, readJob := j }
      sl := { s.sl with inService := busy, replySlot := f, tx := tx, reports := rs } }
    ∧ rs.length ≤ s.sl.reports.length
    ∧ (j.isSome = s.store.readJob.isSome ∧ busy = s.sl.inService ∧ f = s.sl.replySlot
      ∨ s.store.readJob.isSome = true ∧ j = none ∧ busy = none) := by
  unfold pageRead
  simp only []
  split
  · next j hj =>
    have hsome : s.store.readJob.isSome = true := by rw [show s.store.readJob = some j from hj]; rfl
    split
    · exact ⟨_, _, _, _, _, _, rfl, le_rfl, .inl ⟨by rw [hsome]; rfl, rfl, rfl⟩⟩
    · obtain ⟨f, tx, rs, h, hlen⟩ := answer_frame _ ((s.onStore fun a => { a with readRequest := none }).onStore fun a => { a with readJob := none })
      exact ⟨none, none, f, tx, rs, none, h, hlen, .inr ⟨hsome, rfl, rfl⟩⟩
  · exact ⟨none, s.store.readJob, _, _, _, _, rfl, le_rfl, .inl ⟨rfl, rfl, rfl⟩⟩

theorem setStation_reportsOnly (new : StationState) (cause : StationCause) (s : State) : ReportsOnly s (setStation new cause s) := by
  unfold setStation
  simp only []
  split
  · exact .trans (t := alarmChanged .trip (s.onSs fun q => { q with station := new })) (.of_sl (by simp) (by simp)) (post_reportsOnly _ _)
  · exact .trans (t := s.onSs fun q => { q with station := new }) (.of_sl rfl rfl) (post_reportsOnly _ _)

end Sys2Proof.Machine

/-! PROOFS. What a stop or a trip takes down (R29, R32): outside LIVE, with an empty queue, no arbitration grants anything. -/

namespace Sys2Proof.Machine

/-! ### Nothing is granted or asked for -/

/-- R65: with an empty queue an arbitration does nothing. -/
theorem arbitrate_of_queue_nil {s : State} (h : s.da.queue = []) : arbitrate s = s := arbitrate_of_walk_none (walk_of_queue_nil h)

theorem rakeRequest_of_ne_live (arb : State → State) {s : State} (h : s.ss.station ≠ .live) : rakeRequest arb s = s :=
  if_neg fun hk => h hk.2.2

theorem feederOffer_of_ne_live (arb : State → State) {s : State} (h : s.ss.station ≠ .live) : feederOffer arb s = s :=
  if_neg fun hk => h hk.2

/-- R107, R132: outside LIVE a space notice brings no request. -/
theorem giveSpace_of_ne_live {s : State} (h : s.ss.station ≠ .live) : giveSpace s = s := by
  unfold giveSpace spaceNotice
  rw [rakeRequest_of_ne_live _ h, feederOffer_of_ne_live _ h]

/-- The station is not LIVE, and no one waits. -/
def State.Dormant (s : State) : Prop := s.ss.station ≠ .live ∧ s.da.queue = []

/-- R72: a release notice at rest removes the entry, tests the shortfall, and does nothing else. -/
theorem releaseNotice_dormant (o : Owner) {s : State} (h : s.Dormant) : ∃ (t : Timer) (g : GateController),
    releaseNotice arbitrate o s =
      { s with da := { s.da with table := s.da.table.filter fun e => decide (e.owner ≠ o), shortfallTimer := t }, gc := g } := by
  obtain ⟨g, hdrop⟩ := dropEntry_frame o s
  unfold releaseNotice
  unfold dropEntry at hdrop
  split
  · next hhas =>
    rw [if_pos hhas] at hdrop
    obtain ⟨t, htest⟩ := shortfallTest_frame (removeFromTable o s)
    have hq : (shortfallTest (removeFromTable o s)).da.queue = [] := by rw [htest, hdrop]; exact h.2
    rw [arbitrate_of_queue_nil hq, htest, hdrop]
    exact ⟨t, g, rfl⟩
  · next hhas =>
    rw [if_neg hhas] at hdrop
    exact ⟨s.da.shortfallTimer, g, hdrop⟩

/-! ### One after another -/

/-- Things that are changed one after another, each by a step that changes its own alone. -/
theorem foldl_pointwise {ι β : Type} [DecidableEq ι] {I : State → Prop} {f : State → ι → State} (comp : State → ι → β) (h : β → β)
    (hI : ∀ s i, I s → I (f s i)) (hf : ∀ s i j, I s → comp (f s i) j = if i = j then h (comp s j) else comp s j)
    {l : List ι} (hl : l.Nodup) {s : State} (hs : I s) (j : ι) :
    comp (l.foldl f s) j = if j ∈ l then h (comp s j) else comp s j := by
  induction l generalizing s with
  | nil => rfl
  | cons i rest ih =>
    obtain ⟨hi, hrest⟩ := List.nodup_cons.mp hl
    rw [List.foldl_cons, ih hrest (hI s i hs), hf s i j hs]
    by_cases hij : i = j
    · subst hij; simp [hi]
    · simp [hij, Ne.symm hij]

/-- What each of some steps keeps, all of them keep. -/
theorem foldl_keeps {ι β : Type} {I : State → Prop} {f : State → ι → State} (proj : State → β) (hI : ∀ s i, I s → I (f s i))
    (hf : ∀ s i, I s → proj (f s i) = proj s) (l : List ι) {s : State} (hs : I s) : I (l.foldl f s) ∧ proj (l.foldl f s) = proj s :=
  List.foldlRecOn (motive := fun t => I t ∧ proj t = proj s) l f ⟨hs, rfl⟩ fun t ht i _ => ⟨hI t i ht.1, (hf t i ht.1).trans ht.2⟩

/-! ### The queue (R69) -/

/-- The states of the owners' blocks. -/
structure Told (gone : List Owner) (s t : State) : Prop where
  da : t.da = s.da
  station : t.ss.station = s.ss.station
  feeders : ∀ i, (t.feeder i).state = if .feeder i ∈ gone then .off else (s.feeder i).state
  slots : ∀ i, (t.slot i).state = if .drive i ∈ gone then .idle else (s.slot i).state
  rake : t.rk.state = s.rk.state
  held : t.rk.entryHeld = if .rake ∈ gone then false else s.rk.entryHeld

theorem tellGone_told (o : Owner) (s : State) : Told [o] s (tellGone o s) := by
  cases o with
  | drive k => exact ⟨rfl, rfl, fun i => by simp [tellGone, slotUnqueued, State.feeder], fun i => by
      by_cases h : k = i <;> simp [tellGone, slotUnqueued, h, eq_comm], rfl, by simp [tellGone, slotUnqueued]⟩
  | feeder k => exact ⟨by simp [tellGone], by simp [tellGone], fun i => by
      by_cases h : k = i <;> simp [tellGone, h, eq_comm], fun i => by simp [tellGone], by simp [tellGone], by simp [tellGone]⟩
  | rake => exact ⟨rfl, rfl, fun i => by simp [tellGone, rakeEntryGone, State.feeder], fun i => by simp [tellGone, rakeEntryGone, State.slot],
      rfl, by simp [tellGone, rakeEntryGone]⟩

theorem Told.trans {o : Owner} {gone : List Owner} {s t u : State} (h : Told [o] s t) (k : Told gone t u) : Told (o :: gone) s u where
  da := k.da.trans h.da
  station := k.station.trans h.station
  feeders i := by
    rw [k.feeders, h.feeders]
    by_cases h1 : Owner.feeder i ∈ gone <;> simp [h1]
  slots i := by
    rw [k.slots, h.slots]
    by_cases h1 : Owner.drive i ∈ gone <;> simp [h1]
  rake := k.rake.trans h.rake
  held := by
    rw [k.held, h.held]
    by_cases h1 : Owner.rake ∈ gone <;> simp [h1]

theorem tellAll_told (cause : ExpiredCause) (gone : List QueueEntry) (s : State) : Told (gone.map QueueEntry.owner) s
    (gone.foldl (fun s e => tellGone e.owner (postExpired cause e s)) s) := by
  induction gone generalizing s with
  | nil => exact ⟨rfl, rfl, fun _ => by simp, fun _ => by simp, rfl, by simp⟩
  | cons e rest ih =>
    have hpost : Told [e.owner] s (tellGone e.owner (postExpired cause e s)) := by
      obtain ⟨da, station, feeders, slots, rake, held⟩ := tellGone_told e.owner (postExpired cause e s)
      simp only [postExpired, post_da, post_ss, post_feeder, post_slot, post_rk] at da station feeders slots rake held
      exact ⟨da, station, feeders, slots, rake, held⟩
    exact hpost.trans (ih _)

/-- R29, R69: outside LIVE the withdrawal of all entries empties the queue, and every owner in it is told. -/
theorem withdrawAll_told (cause : ExpiredCause) {s : State} (h : s.ss.station ≠ .live) :
    (withdrawAll cause s).Dormant ∧ (withdrawAll cause s).da.spacingTimer = none
    ∧ (withdrawAll cause s).da.table = s.da.table
    ∧ Told s.queueOwners { s with da := (withdrawAll cause s).da } (withdrawAll cause s) := by
  unfold withdrawAll withdraw
  simp only [List.filter_true, State.onDa_da, Bool.not_true, List.filter_false]
  split
  · next hnil =>
    exact ⟨⟨h, hnil⟩, rfl, rfl, rfl, rfl, by simp [State.queueOwners, hnil, State.feeder], by simp [State.queueOwners, hnil, State.slot],
      rfl, by simp [State.queueOwners, hnil]⟩
  · obtain ⟨da, station, feeders, slots, rake, held⟩ := tellAll_told cause s.da.queue (setQueue [] (s.onDa fun d => { d with spacingTimer := none }))
    generalize hx : s.da.queue.foldl (fun s e => tellGone e.owner (postExpired cause e s))
      (setQueue [] (s.onDa fun d => { d with spacingTimer := none })) = x at *
    have hlive : x.ss.station ≠ .live := station ▸ h
    have hq : x.da.queue = [] := by rw [da]; rfl
    rw [giveSpace_of_ne_live hlive, arbitrate_of_queue_nil hq]
    exact ⟨⟨hlive, hq⟩, by rw [da]; rfl, by rw [da]; rfl, rfl, station, feeders, slots, rake, held⟩

/-! ### The feeders (R127) -/

/-- R127: where a stop leaves a feeder. -/
def FeederState.down : FeederState → FeederState
  | .capped => .capped
  | .locked => .locked
  | .off | .queued | .on | .shed => .off

/-- What a feeder's part in a stop leaves of everything else. -/
structure Apart (s t : State) : Prop where
  dormant : s.Dormant → t.Dormant
  spacing : t.da.spacingTimer = s.da.spacingTimer
  rake : t.rk = s.rk

theorem feederStop_down (i : Fin 12) {s : State} (h : s.Dormant) : Apart s (feederStop arbitrate s i)
    ∧ (feederStop arbitrate s i).ds = s.ds
    ∧ ∀ j, ((feederStop arbitrate s i).feeder j).state = if i = j then (s.feeder j).state.down else (s.feeder j).state := by
  have hset : ∀ x : State, x.ss.station = s.ss.station → x.da.queue = s.da.queue → x.da.spacingTimer = s.da.spacingTimer → x.rk = s.rk →
      x.ds = s.ds → (∀ j, x.feeder j = s.feeder j) → (s.feeder i).state.down = .off → Apart s (setFeederState i .off x)
      ∧ (setFeederState i .off x).ds = s.ds
      ∧ ∀ j, ((setFeederState i .off x).feeder j).state = if i = j then (s.feeder j).state.down else (s.feeder j).state := by
    intro x hst hq hsp hrk hds hf hdown
    refine ⟨⟨fun _ => ⟨?_, ?_⟩, ?_, ?_⟩, ?_, fun j => ?_⟩
    · rw [station_of_still (still_setFeederState i .off x), hst]; exact h.1
    · rw [setFeederState_da, hq]; exact h.2
    · rw [setFeederState_da, hsp]
    · rw [setFeederState_rk, hrk]
    · rw [setFeederState_ds, hds]
    · rw [setFeederState_feeder]
      by_cases hij : i = j
      · subst hij; simp [hdown]
      · simp [hij, hf]
  have hstay : (s.feeder i).state.down = (s.feeder i).state → Apart s s ∧ s.ds = s.ds
      ∧ ∀ j, (s.feeder j).state = if i = j then (s.feeder j).state.down else (s.feeder j).state := by
    intro hdown
    refine ⟨⟨id, rfl, rfl⟩, rfl, fun j => ?_⟩
    by_cases hij : i = j
    · subst hij; simp [hdown]
    · simp [hij]
  unfold feederStop
  split
  · next hs =>
    obtain ⟨t, g, hr⟩ := releaseNotice_dormant (.feeder i) h
    unfold openFeeder
    rw [hr]
    exact hset _ rfl rfl rfl rfl rfl (fun _ => rfl) (by rw [hs]; rfl)
  · next hs => exact hset s rfl rfl rfl rfl rfl (fun _ => rfl) (by rw [hs]; rfl)
  · next hs => exact hset s rfl rfl rfl rfl rfl (fun _ => rfl) (by rw [hs]; rfl)
  · next hs => exact hstay (by rw [hs]; rfl)
  · next hs => exact hstay (by rw [hs]; rfl)
  · next hs => exact hstay (by rw [hs]; rfl)

theorem mem_allFeeders (i : Fin 12) : i ∈ allFeeders := by revert i; decide

theorem mem_allSlots (i : Fin 4) : i ∈ allSlots := by revert i; decide

theorem feedersStop_down {s : State} (h : s.Dormant) : (feedersStop arbitrate s).Dormant
    ∧ (feedersStop arbitrate s).da.spacingTimer = s.da.spacingTimer ∧ (feedersStop arbitrate s).rk = s.rk
    ∧ (feedersStop arbitrate s).ds = s.ds ∧ (∀ j, ((feedersStop arbitrate s).feeder j).state = (s.feeder j).state.down)
    ∧ (∀ k, (feedersStop arbitrate s).stage k = { state := .armed, timer := none })
    ∧ (feedersStop arbitrate s).fu.restoreTimer = none ∧ (feedersStop arbitrate s).fu.permit = false := by
  have hI : ∀ x i, State.Dormant x → State.Dormant (feederStop arbitrate x i) := fun x i hx => (feederStop_down i hx).1.dormant hx
  obtain ⟨hd, hsp⟩ := foldl_keeps (fun x => x.da.spacingTimer) hI (fun x i hx => (feederStop_down i hx).1.spacing) allFeeders h
  have hrk := (foldl_keeps (fun x => x.rk) hI (fun x i hx => (feederStop_down i hx).1.rake) allFeeders h).2
  have hds := (foldl_keeps (fun x => x.ds) hI (fun x i hx => (feederStop_down i hx).2.1) allFeeders h).2
  have hf := foldl_pointwise (fun x j => (x.feeder j).state) FeederState.down hI (fun x i j hx => (feederStop_down i hx).2.2 j)
    (by decide : allFeeders.Nodup) h
  simp only [mem_allFeeders, if_true] at hf
  unfold feedersStop
  generalize allFeeders.foldl (feederStop arbitrate) s = x at *
  exact ⟨hd, hsp, hrk, hds, hf, fun k => by simp [State.stage], rfl, rfl⟩

/-! ### The drives and the rake (R99, R100, R111) -/

/-- R99: where a forced out leaves a slot. -/
def SlotState.out : SlotState → SlotState
  | .lead | .clutching | .ready | .cutting | .held | .coasting => .coasting
  | .idle => .idle
  | .queued => .queued
  | .fault => .fault

theorem postAborted_frame (i : Fin 4) (b : Slot) (s : State) : ∃ l : StationLink, postAborted i b s = { s with sl := l } := by
  unfold postAborted
  split
  · exact post_eq _ _
  · exact ⟨s.sl, rfl⟩

@[simp] theorem postAborted_ss (i : Fin 4) (b : Slot) (s : State) : (postAborted i b s).ss = s.ss := by
  obtain ⟨l, h⟩ := postAborted_frame i b s; rw [h]
@[simp] theorem postAborted_da (i : Fin 4) (b : Slot) (s : State) : (postAborted i b s).da = s.da := by
  obtain ⟨l, h⟩ := postAborted_frame i b s; rw [h]
@[simp] theorem postAborted_rk (i : Fin 4) (b : Slot) (s : State) : (postAborted i b s).rk = s.rk := by
  obtain ⟨l, h⟩ := postAborted_frame i b s; rw [h]
@[simp] theorem postAborted_fu (i : Fin 4) (b : Slot) (s : State) : (postAborted i b s).fu = s.fu := by
  obtain ⟨l, h⟩ := postAborted_frame i b s; rw [h]
@[simp] theorem postAborted_slot (i j : Fin 4) (b : Slot) (s : State) : (postAborted i b s).slot j = s.slot j := by
  obtain ⟨l, h⟩ := postAborted_frame i b s; rw [h]; rfl

theorem forcedOut_out {cause : DriveCause} (hc : cause ≠ .shortfall) (i : Fin 4) {s : State} (h : s.Dormant) :
    Apart s (forcedOut arbitrate cause i s) ∧ (forcedOut arbitrate cause i s).fu = s.fu
    ∧ ∀ j, ((forcedOut arbitrate cause i s).slot j).state = if i = j then (s.slot j).state.out else (s.slot j).state := by
  unfold forcedOut
  rw [if_neg hc]
  split
  · next heng =>
    obtain ⟨timer, g, hr⟩ := releaseNotice_dormant (s := s.onSlot i Slot.toCoasting) (.drive i) h
    have hout : (s.slot i).state.out = .coasting := by cases hs : (s.slot i).state <;> simp_all [SlotState.engaged, SlotState.out]
    unfold takeOut
    have hx : (releaseNotice arbitrate (.drive i) (s.onSlot i Slot.toCoasting)).Dormant
        ∧ (releaseNotice arbitrate (.drive i) (s.onSlot i Slot.toCoasting)).da.spacingTimer = s.da.spacingTimer
        ∧ (releaseNotice arbitrate (.drive i) (s.onSlot i Slot.toCoasting)).rk = s.rk
        ∧ (releaseNotice arbitrate (.drive i) (s.onSlot i Slot.toCoasting)).fu = s.fu
        ∧ (releaseNotice arbitrate (.drive i) (s.onSlot i Slot.toCoasting)).ds = (s.onSlot i Slot.toCoasting).ds := by
      rw [hr]; exact ⟨h, rfl, rfl, rfl, rfl⟩
    generalize releaseNotice arbitrate (.drive i) (s.onSlot i Slot.toCoasting) = x at hx
    obtain ⟨hd, hsp, hrk, hfu, hds⟩ := hx
    refine ⟨⟨fun _ => ⟨?_, ?_⟩, ?_, ?_⟩, ?_, fun j => ?_⟩
    · simpa using hd.1
    · simpa using hd.2
    · simpa using hsp
    · simpa using hrk
    · simpa using hfu
    · have hslot : x.slot j = (s.onSlot i Slot.toCoasting).slot j := congrArg (fun d : DriveScheduler => d.slots[j]) hds
      by_cases hij : i = j
      · subst hij; simp [hslot, hout, Slot.toCoasting]
      · simp [hslot, hij]
  · next heng =>
    have hout : (s.slot i).state.out = (s.slot i).state := by cases hs : (s.slot i).state <;> simp_all [SlotState.engaged, SlotState.out]
    refine ⟨⟨id, rfl, rfl⟩, rfl, fun j => ?_⟩
    by_cases hij : i = j
    · subst hij; simp [hout]
    · simp [hij]

theorem forcedOutAll_out {cause : DriveCause} (hc : cause ≠ .shortfall) {s : State} (h : s.Dormant) :
    let t := forcedOutAll arbitrate cause (fun _ => true) s
    t.Dormant ∧ t.da.spacingTimer = s.da.spacingTimer ∧ t.rk = s.rk ∧ t.fu = s.fu ∧ ∀ j, (t.slot j).state = (s.slot j).state.out := by
  have hI : ∀ x i, State.Dormant x → State.Dormant (forcedOut arbitrate cause i x) := fun x i hx => (forcedOut_out hc i hx).1.dormant hx
  obtain ⟨hd, hsp⟩ := foldl_keeps (fun x => x.da.spacingTimer) hI (fun x i hx => (forcedOut_out hc i hx).1.spacing) allSlots h
  have hrk := (foldl_keeps (fun x => x.rk) hI (fun x i hx => (forcedOut_out hc i hx).1.rake) allSlots h).2
  have hfu := (foldl_keeps (fun x => x.fu) hI (fun x i hx => (forcedOut_out hc i hx).2.1) allSlots h).2
  have hf := foldl_pointwise (fun x j => (x.slot j).state) SlotState.out hI (fun x i j hx => (forcedOut_out hc i hx).2.2 j)
    (by decide : allSlots.Nodup) h
  simp only [mem_allSlots, if_true] at hf
  exact ⟨hd, hsp, hrk, hfu, hf⟩

theorem rakeStop_down (cause : RakeCause) {s : State} (h : s.Dormant) : (rakeStop arbitrate cause s).Dormant
    ∧ (rakeStop arbitrate cause s).da.spacingTimer = s.da.spacingTimer ∧ (rakeStop arbitrate cause s).fu = s.fu
    ∧ (rakeStop arbitrate cause s).ds = s.ds
    ∧ (rakeStop arbitrate cause s).rk.state = (if s.rk.state = .running then .due else s.rk.state)
    ∧ (rakeStop arbitrate cause s).rk.entryHeld = s.rk.entryHeld := by
  unfold rakeStop
  split
  · next hrun =>
    obtain ⟨t, g, hr⟩ := releaseNotice_dormant (s := s.onRk fun k => { k with state := .due, runTimer := none }) .rake h
    rw [hr]
    exact ⟨⟨by simpa [postRake] using h.1, by simpa [postRake] using h.2⟩, by simp [postRake], by simp [postRake], by simp [postRake],
      by simp [postRake], by simp [postRake]⟩
  · exact ⟨h, rfl, rfl, rfl, rfl, rfl⟩

/-! ### The whole of it -/

/-- R127: the feeders' part at rest is a chain of elementary changes. -/
theorem calm_feedersStop {s : State} (h : s.Dormant) : Calm [] s (feedersStop arbitrate s) := by
  have hstep : ∀ (x : State) (i : Fin 12), x.Dormant → Calm [] x (feederStop arbitrate x i) := by
    intro x i hx
    have hoff : (x.feeder i).state ≠ .on → Calm [] x (setFeederState i .off x) := fun hon =>
      (Disp.feeder [] x i .off List.not_mem_nil (fun hk => absurd hk hon)
        (fun _ => queueHas_false_iff.mpr (by simp [State.queueOwners, hx.2])) ⟨by simp, by simp⟩).calm
    unfold feederStop
    split
    · next hs => exact calm_openFeeder arbitrate_arbitrates i ⟨by simp, by simp⟩ hs
    · next hs => exact hoff (by simp [hs])
    · next hs => exact hoff (by simp [hs])
    all_goals exact .refl _ _
  have hfold : ∀ (l : List (Fin 12)) (x : State), x.Dormant → Calm [] x (l.foldl (feederStop arbitrate) x) := by
    intro l
    induction l with
    | nil => exact fun x _ => .refl _ x
    | cons i rest ih => exact fun x hx => (hstep x i hx).trans (ih _ ((feederStop_down i hx).1.dormant hx))
  have hall := hfold allFeeders s h
  unfold feedersStop
  generalize allFeeders.foldl (feederStop arbitrate) s = x at *
  exact hall.trans (calm_stages _ _ _)

/-- R29, R32: the loads are taken down outside LIVE by elementary changes. -/
theorem calm_takeDownLoads {c : DownCause} (hc : c.drive ≠ .shortfall) {s : State} (h : s.ss.station ≠ .live) :
    Calm [] s (takeDownLoads c s) :=
  (((calm_withdrawAll c.expired s).trans (calm_feedersStop (withdrawAll_told c.expired h).1)).trans
    (calm_forcedOutAll arbitrate_arbitrates feedersOnly_nil hc _ _)).trans (calm_rakeStop arbitrate_arbitrates feedersOnly_nil _ _)

/-- R29, R99: where a stop or a trip leaves a slot. -/
def SlotState.down : SlotState → SlotState
  | .lead | .clutching | .ready | .cutting | .held | .coasting => .coasting
  | .idle | .queued => .idle
  | .fault => .fault

/-- R29, R32: where a stop or a trip leaves the loads. -/
structure Down (s t : State) : Prop where
  queue : t.da.queue = []
  table : t.da.table = []
  spacing : t.da.spacingTimer = none
  feeders : ∀ i, (t.feeder i).state = (s.feeder i).state.down
  slots : ∀ i, (t.slot i).state = (s.slot i).state.down
  rake : t.rk.state = if s.rk.state = .running then .due else s.rk.state
  held : t.rk.entryHeld = false
  stages : ∀ k, t.stage k = { state := .armed, timer := none }
  restore : t.fu.restoreTimer = none
  permit : t.fu.permit = false

/-- With no owner in a granted state the table is empty. -/
theorem table_nil_of_none_granted {s : State} (ha : Agree [] s) (h : ∀ o, ¬s.GrantedAt o) : s.da.table = [] := by
  have hown : s.tableOwners = [] := List.eq_nil_iff_forall_not_mem.mpr fun o ho => h o ((ha.owners.table o List.not_mem_nil).mp ho)
  exact List.map_eq_nil_iff.mp hown

theorem takeDownLoads_down {c : DownCause} (hc : c.drive ≠ .shortfall) {s : State} (h : s.ss.station ≠ .live) (ha : Agree [] s) :
    Down s (takeDownLoads c s) := by
  obtain ⟨d1, sp1, _, told⟩ := withdrawAll_told c.expired h
  obtain ⟨d2, sp2, rk2, ds2, f2, st2, rt2, p2⟩ := feedersStop_down d1
  obtain ⟨d3, sp3, rk3, fu3, sl3⟩ := forcedOutAll_out hc d2
  obtain ⟨d4, sp4, fu4, ds4, r4, held4⟩ := rakeStop_down c.rake d3
  have hagree : Agree [] (takeDownLoads c s) := (calm_takeDownLoads hc h).agree ha
  unfold takeDownLoads at *
  simp only [] at *
  generalize rakeStop arbitrate c.rake _ = t at *
  generalize forcedOutAll arbitrate c.drive (fun _ => true) _ = x3 at *
  generalize feedersStop arbitrate _ = x2 at *
  generalize withdrawAll c.expired s = x1 at *
  have hfu : t.fu = x2.fu := fu4.trans fu3
  have hfeeders : ∀ i, (t.feeder i).state = (s.feeder i).state.down := by
    intro i
    have e : t.feeder i = x2.feeder i := congrArg (fun u : FeederUnit => u.feeders[i]) hfu
    have hq : Owner.feeder i ∈ s.queueOwners ↔ (s.feeder i).state = .queued := ha.owners.queue _ List.not_mem_nil
    rw [e, f2, told.feeders]
    simp only [hq]
    show FeederState.down (if (s.feeder i).state = .queued then .off else (s.feeder i).state) = _
    cases (s.feeder i).state <;> rfl
  have hslots : ∀ i, (t.slot i).state = (s.slot i).state.down := by
    intro i
    have e3 : t.slot i = x3.slot i := congrArg (fun d : DriveScheduler => d.slots[i]) ds4
    have e2 : x2.slot i = x1.slot i := congrArg (fun d : DriveScheduler => d.slots[i]) ds2
    have hq : Owner.drive i ∈ s.queueOwners ↔ (s.slot i).state = .queued := ha.owners.queue _ List.not_mem_nil
    rw [e3, sl3, e2, told.slots]
    simp only [hq]
    show SlotState.out (if (s.slot i).state = .queued then .idle else (s.slot i).state) = _
    cases (s.slot i).state <;> rfl
  have hrake : t.rk.state = if s.rk.state = .running then .due else s.rk.state := by
    have e : x3.rk.state = s.rk.state := by rw [rk3, rk2]; exact told.rake
    rw [r4, e]
  have hheld : t.rk.entryHeld = false := by
    have hq : Owner.rake ∈ s.queueOwners ↔ s.rk.entryHeld = true := ha.owners.queue _ List.not_mem_nil
    rw [held4, rk3, rk2, told.held]
    split
    · rfl
    · next hk => simpa [hq] using hk
  refine ⟨d4.2, table_nil_of_none_granted hagree fun o ho => ?_, (sp4.trans sp3).trans (sp2.trans sp1), hfeeders, hslots, hrake, hheld,
    fun k => (congrArg (fun u : FeederUnit => u.stages[k]) hfu).trans (st2 k), (congrArg FeederUnit.restoreTimer hfu).trans rt2,
    (congrArg FeederUnit.permit hfu).trans p2⟩
  cases o with
  | drive i =>
    rw [State.GrantedAt, hslots i] at ho
    cases hs : (s.slot i).state <;> simp [hs, SlotState.down, SlotState.engaged] at ho
  | feeder i =>
    rw [State.GrantedAt, hfeeders i] at ho
    cases hs : (s.feeder i).state <;> simp [hs, FeederState.down] at ho
  | rake =>
    rw [State.GrantedAt, hrake] at ho
    split at ho
    · cases ho
    · next hk => exact hk ho

theorem Calm.reportsOnly {L : List Owner} {s t : State} (h : Calm L s t) : ReportsOnly s t := Disps.reportsOnly h

/-- The station's leaving for STOPPING or TRIPPED in its three parts: what it hands over (`v`), the loads (`w`), the field contactor. -/
structure Evicted (new : StationState) (c : DownCause) (q : Sequencer) (s v w : State) : Prop where
  handed : ∃ (relay copy : Bool) (correction : CorrectionState) (l : StationLink), v = { s with
    ss := { q with station := new, alarmRelay := relay }
    cu := { s.cu with liveCopy := copy, correction := correction }, sl := l }
  reports : ReportsOnly s v
  loads : w = takeDownLoads c v
  calm : Calm [] v w

theorem evict_parts (new : StationState) (cause : StationCause) (c : DownCause) (g : Sequencer → Sequencer) (s : State)
    (hnew : new ≠ .live) (hc : c.drive ≠ .shortfall) : ∃ v w : State, Evicted new c (g s.ss) s v w
      ∧ v = handOff (decide (s.ss.station = .live)) (setStation new cause (s.onSs g))
      ∧ evict new cause c g s = w.onSs fun q => { q with fieldClosed := false } := by
  obtain ⟨relay, l1, hset⟩ := setStation_frame new cause (s.onSs g)
  obtain ⟨copy, correction, l, hoff, hreports⟩ := handOff_frame (decide (s.ss.station = .live)) (setStation new cause (s.onSs g))
  have hv : handOff (decide (s.ss.station = .live)) (setStation new cause (s.onSs g)) = { s with
      ss := { g s.ss with station := new, alarmRelay := relay }
      cu := { s.cu with liveCopy := copy, correction := correction }, sl := l } := by
    rw [hoff, hset]; rfl
  refine ⟨_, _, ⟨⟨relay, copy, correction, l, hv⟩, ?_, rfl, calm_takeDownLoads hc ?_⟩, rfl, rfl⟩
  · exact (ReportsOnly.trans (s := s) (t := s.onSs g) (.of_sl rfl rfl) (setStation_reportsOnly new cause (s.onSs g))).trans hreports
  · rw [hv]; exact hnew

end Sys2Proof.Machine

/-! PROOFS. What every elementary change of the part keeps: one lemma for each thing that the invariants speak of. -/

namespace Sys2Proof.Machine

theorem Calm.still {L : List Owner} {s t : State} (h : Calm L s t) : t.still = s.still := Disps.still h

/-- What `still` shows of a state is kept with it. -/
theorem Calm.proj {α : Type} (f : State → α) (hf : ∀ s, f s.still = f s) {L : List Owner} {s t : State} (h : Calm L s t) : f t = f s := by
  rw [← hf t, ← hf s, h.still]

/-- R29, R32: what leaving for STOPPING or TRIPPED does to what `still` shows. -/
theorem evict_proj {α : Type} (f : State → α) (hf : ∀ s, f s.still = f s) {new : StationState} (cause : StationCause) {c : DownCause}
    (g : Sequencer → Sequencer) (s : State) (hnew : new ≠ .live) (hc : c.drive ≠ .shortfall) :
    ∃ (relay copy : Bool) (correction : CorrectionState) (l : StationLink) (w : State),
      evict new cause c g s = w.onSs (fun q => { q with fieldClosed := false })
      ∧ f w = f { s with
        ss := { g s.ss with station := new, alarmRelay := relay }
        cu := { s.cu with liveCopy := copy, correction := correction }, sl := l } := by
  obtain ⟨v, w, ⟨⟨relay, copy, correction, l, hv⟩, _, _, hcalm⟩, _, he⟩ := evict_parts new cause c g s hnew hc
  exact ⟨relay, copy, correction, l, w, he, by rw [hcalm.proj f hf, hv]⟩

/-! ### The commands that wait, the gate, and the commissioning block -/

theorem Change.pending {m : Bool} {s t : State} (h : Change m s t) : t.pending = s.pending := by
  cases h with
  | calm h => exact h.proj State.pending fun _ => rfl
  | runDone => rw [dropEntry_rake]; rfl
  | moved new cause => obtain ⟨_, _, h⟩ := setStation_frame new cause s; rw [h]
  | cleared g => obtain ⟨_, _, h⟩ := setStation_frame .stopped .clear (s.onSs g); rw [h]; rfl
  | goesLive g => obtain ⟨_, _, h⟩ := setStation_frame .live .settled (s.onSs g); rw [h]; rfl
  | evicted new cause c g _ hnew drive => obtain ⟨_, _, _, _, _, h, e⟩ := evict_proj State.pending (fun _ => rfl) cause g s hnew drive; rw [h]; exact e
  | latch | storeFault => rw [alarmChanged_pending]; rfl
  | pageRead p => obtain ⟨_, _, _, _, _, _, h, _⟩ := pageRead_frame p s; rw [h]
  | tick => unfold Machine.tick whenPowered; split <;> rfl
  | _ => rfl

/-- R5: the gate output moves with the governor's part of a control step alone. -/
theorem Change.gateOut {s t : State} (h : Change false s t) : t.gc.gateOut = s.gc.gateOut := by
  cases h with
  | calm h => exact h.proj (fun x => x.gc.gateOut) fun _ => rfl
  | gc g out => exact out
  | gate f allowed => cases allowed
  | runDone => rw [dropEntry_rake]; rfl
  | moved new cause => obtain ⟨_, _, h⟩ := setStation_frame new cause s; rw [h]
  | cleared g => obtain ⟨_, _, h⟩ := setStation_frame .stopped .clear (s.onSs g); rw [h]; rfl
  | goesLive g => obtain ⟨_, _, h⟩ := setStation_frame .live .settled (s.onSs g); rw [h]; rfl
  | evicted new cause c g _ hnew drive =>
    obtain ⟨_, _, _, _, _, h, e⟩ := evict_proj (fun x => x.gc.gateOut) (fun _ => rfl) cause g s hnew drive
    rw [h]; exact e
  | latch | storeFault => rw [alarmChanged_gc]; rfl
  | pageRead p => obtain ⟨_, _, _, _, _, _, h, _⟩ := pageRead_frame p s; rw [h]
  | tick => unfold Machine.tick whenPowered; split <;> rfl
  | _ => rfl

/-- A projection of the store that an erase's progress does not touch. -/
theorem AccountStore.tick_frame (a : AccountStore) : ∃ e : Option EraseRecord, a.tick = { a with erase := e } := by
  unfold AccountStore.tick
  split
  · exact ⟨_, rfl⟩
  all_goals exact ⟨a.erase, rfl⟩

theorem tick_store (s : State) : ∃ e : Option EraseRecord, (tick s).store = { s.store with erase := e } := by
  unfold tick whenPowered
  split
  · exact AccountStore.tick_frame _
  · exact ⟨s.store.erase, rfl⟩

/-- R171, R172: a locked commissioning block stays as it is, and no change writes the unused bytes. -/
theorem Change.commissioning {m : Bool} {s t : State} (h : Change m s t) :
    (s.store.commissioning.locked = true → t.store.commissioning = s.store.commissioning)
    ∧ t.store.commissioning.unused = s.store.commissioning.unused := by
  have hkept : t.store.commissioning = s.store.commissioning →
      (s.store.commissioning.locked = true → t.store.commissioning = s.store.commissioning)
      ∧ t.store.commissioning.unused = s.store.commissioning.unused := fun e => ⟨fun _ => e, by rw [e]⟩
  cases h with
  | store g _ _ _ locked unused => exact ⟨locked, unused⟩
  | calm h => exact hkept (h.proj (fun x => x.store.commissioning) fun _ => rfl)
  | runDone => exact hkept (by rw [dropEntry_rake]; rfl)
  | moved new cause => obtain ⟨_, _, h⟩ := setStation_frame new cause s; exact hkept (by rw [h])
  | cleared g => obtain ⟨_, _, h⟩ := setStation_frame .stopped .clear (s.onSs g); exact hkept (by rw [h]; rfl)
  | goesLive g => obtain ⟨_, _, h⟩ := setStation_frame .live .settled (s.onSs g); exact hkept (by rw [h]; rfl)
  | evicted new cause c g _ hnew drive =>
    obtain ⟨_, _, _, _, _, h, e⟩ := evict_proj (fun x => x.store.commissioning) (fun _ => rfl) cause g s hnew drive
    exact hkept (by rw [h]; exact e)
  | latch | storeFault => exact hkept (by rw [alarmChanged_store]; rfl)
  | pageRead p => obtain ⟨_, _, _, _, _, _, h, _⟩ := pageRead_frame p s; exact hkept (by rw [h])
  | tick => obtain ⟨e, h⟩ := tick_store s; exact hkept (by rw [h])
  | _ => exact hkept rfl

/-! ### The store's array, the residues and the service (O55) -/

theorem Change.arrayCanonical {m : Bool} {s t : State} (h : Change m s t) (hs : s.ArrayCanonical) : t.ArrayCanonical := by
  have hkept : t.store.array = s.store.array → t.ArrayCanonical := fun e => by unfold State.ArrayCanonical; rwa [e]
  cases h with
  | store g _ _ array => exact array hs
  | calm h => exact hkept (h.proj (fun x => x.store.array) fun _ => rfl)
  | runDone => exact hkept (by rw [dropEntry_rake]; rfl)
  | moved new cause => obtain ⟨_, _, h⟩ := setStation_frame new cause s; exact hkept (by rw [h])
  | cleared g => obtain ⟨_, _, h⟩ := setStation_frame .stopped .clear (s.onSs g); exact hkept (by rw [h]; rfl)
  | goesLive g => obtain ⟨_, _, h⟩ := setStation_frame .live .settled (s.onSs g); exact hkept (by rw [h]; rfl)
  | evicted new cause c g _ hnew drive =>
    obtain ⟨_, _, _, _, _, h, e⟩ := evict_proj (fun x => x.store.array) (fun _ => rfl) cause g s hnew drive
    exact hkept (by rw [h]; exact e)
  | latch | storeFault => exact hkept (by rw [alarmChanged_store]; rfl)
  | pageRead p => obtain ⟨_, _, _, _, _, _, h, _⟩ := pageRead_frame p s; exact hkept (by rw [h])
  | tick => obtain ⟨e, h⟩ := tick_store s; exact hkept (by rw [h])
  | _ => exact hs

theorem residue_of_still {s t : State} (h : t.still = s.still) (i : Fin 12) : (t.account i).residue = (s.account i).residue := by
  have e := congrArg (fun x : State => (x.mu.accounts[i]).residue) h
  simp only [State.still, Fin.getElem_fin, map12_getElem] at e
  exact e

theorem Change.residuesLow {m : Bool} {s t : State} (h : Change m s t) (hs : s.ResiduesLow) : t.ResiduesLow := by
  have hkept : t.mu = s.mu → t.ResiduesLow := fun e i => by
    have := hs i
    unfold State.account at *
    rwa [e]
  cases h with
  | mu g residues => exact residues hs
  | calm h => exact fun i => by rw [residue_of_still h.still]; exact hs i
  | runDone => exact hkept (by rw [dropEntry_rake]; rfl)
  | moved new cause => obtain ⟨_, _, h⟩ := setStation_frame new cause s; exact hkept (by rw [h])
  | cleared g => obtain ⟨_, _, h⟩ := setStation_frame .stopped .clear (s.onSs g); exact hkept (by rw [h]; rfl)
  | goesLive g => obtain ⟨_, _, h⟩ := setStation_frame .live .settled (s.onSs g); exact hkept (by rw [h]; rfl)
  | evicted new cause c g _ hnew drive =>
    obtain ⟨v, w, ⟨⟨relay, copy, correction, l, hv⟩, _, _, hcalm⟩, _, he⟩ := evict_parts new cause c g s hnew drive
    have hw : ∀ i, (w.account i).residue = (s.account i).residue := fun i => by rw [residue_of_still hcalm.still, hv]; rfl
    rw [he]
    exact fun i => (hw i).trans_lt (hs i)
  | latch | storeFault => exact hkept (by rw [alarmChanged_mu]; rfl)
  | pageRead p => obtain ⟨_, _, _, _, _, _, h, _⟩ := pageRead_frame p s; exact hkept (by rw [h])
  | tick => exact hkept (by unfold Machine.tick whenPowered; split <;> rfl)
  | _ => exact hs

/-- The journal read, the command in service and the reply slot are left as they are, or the read has ended and no command is in
service. -/
def ServiceKept (s t : State) : Prop :=
  t.store.readJob.isSome = s.store.readJob.isSome ∧ t.sl.inService = s.sl.inService ∧ t.sl.replySlot = s.sl.replySlot
  ∨ s.store.readJob.isSome = true ∧ t.store.readJob = none ∧ t.sl.inService = none

theorem ServiceKept.trans {s t u : State} (h : ServiceKept s t) (k : ServiceKept t u) : ServiceKept s u := by
  obtain ⟨h1, h2, h3⟩ | ⟨h1, h2, h3⟩ := h
  · obtain ⟨k1, k2, k3⟩ | ⟨k1, k2, k3⟩ := k
    · exact .inl ⟨k1.trans h1, k2.trans h2, k3.trans h3⟩
    · exact .inr ⟨h1 ▸ k1, k2, k3⟩
  · obtain ⟨k1, k2, k3⟩ | ⟨k1, k2, k3⟩ := k
    · exact .inr ⟨h1, by rw [h2] at k1; simpa using k1, k2.trans h3⟩
    · rw [h2] at k1; cases k1

theorem ServiceKept.serviceWell {s t : State} (h : ServiceKept s t) (hs : s.ServiceWell) : t.ServiceWell := by
  obtain ⟨h1, h2, h3⟩ | ⟨h1, h2, h3⟩ := h
  · exact ⟨by rw [h1, h2]; exact hs.reading, by rw [h1, h2, h3]; exact hs.held⟩
  · exact ⟨by simp [h2], by simp [h3]⟩

theorem ReportsOnly.service {s t : State} (h : ReportsOnly s t) : t.sl.inService = s.sl.inService ∧ t.sl.replySlot = s.sl.replySlot := by
  rw [h.link]; exact ⟨rfl, rfl⟩

/-- R190: leaving for STOPPING or TRIPPED posts reports, and does nothing else to the link. -/
theorem evict_reportsOnly {new : StationState} (cause : StationCause) {c : DownCause} {g : Sequencer → Sequencer} (s : State)
    (hnew : new ≠ .live) (hc : c.drive ≠ .shortfall) : ReportsOnly s (evict new cause c g s) := by
  obtain ⟨v, w, ⟨_, hr, _, hcalm⟩, _, he⟩ := evict_parts new cause c g s hnew hc
  rw [he]
  exact (hr.trans hcalm.reportsOnly).trans (.of_sl rfl rfl)

theorem Change.serviceKept {m : Bool} {s t : State} (h : Change m s t) : ServiceKept s t := by
  have hreports : ReportsOnly s t → t.store.readJob = s.store.readJob → ServiceKept s t := fun hr hj =>
    .inl ⟨by rw [hj], hr.service.1, hr.service.2⟩
  cases h with
  | store g _ readJob => exact .inl ⟨readJob, rfl, rfl⟩
  | sl g service slot => exact .inl ⟨rfl, service, slot⟩
  | calm h => exact hreports h.reportsOnly (h.proj (fun x => x.store.readJob) fun _ => rfl)
  | runDone => rw [dropEntry_rake]; exact .inl ⟨rfl, rfl, rfl⟩
  | moved new cause =>
    obtain ⟨_, _, h⟩ := setStation_frame new cause s
    exact hreports (setStation_reportsOnly _ _ _) (by rw [h])
  | cleared g =>
    obtain ⟨_, _, h⟩ := setStation_frame .stopped .clear (s.onSs g)
    exact hreports (.trans (t := s.onSs g) (.of_sl rfl rfl) (setStation_reportsOnly _ _ _)) (by rw [h]; rfl)
  | goesLive g =>
    obtain ⟨_, _, h⟩ := setStation_frame .live .settled (s.onSs g)
    exact hreports (.trans (t := s.onSs g) (.of_sl rfl rfl) (setStation_reportsOnly _ _ _)) (by rw [h]; rfl)
  | evicted new cause c g _ hnew drive =>
    obtain ⟨_, _, _, _, _, h, e⟩ := evict_proj (fun x => x.store.readJob) (fun _ => rfl) cause g s hnew drive
    exact hreports (evict_reportsOnly cause s hnew drive) (by rw [h]; exact e)
  | latch | storeFault => exact .inl ⟨by rw [alarmChanged_store]; rfl, by rw [alarmChanged_sl]; rfl, by rw [alarmChanged_sl]; rfl⟩
  | pageRead p =>
    obtain ⟨r, j, f, tx, rs, busy, h, _, ⟨h1, h2, h3⟩ | ⟨h1, h2, h3⟩⟩ := pageRead_frame p s
    · exact .inl ⟨by rw [h]; exact h1, by rw [h]; exact h2, by rw [h]; exact h3⟩
    · exact .inr ⟨h1, by rw [h]; exact h2, by rw [h]; exact h3⟩
  | tick =>
    obtain ⟨e, h⟩ := tick_store s
    exact .inl ⟨by rw [h], by unfold Machine.tick whenPowered; split <;> rfl, by unfold Machine.tick whenPowered; split <;> rfl⟩
  | _ => exact .inl ⟨rfl, rfl, rfl⟩

/-- R186: no elementary change reaches the frames that wait, or the supply. -/
theorem Change.waiting {m : Bool} {s t : State} (h : Change m s t) : t.sl.inputQueue = s.sl.inputQueue ∧ t.powered = s.powered := by
  have hreports : ReportsOnly s t → t.powered = s.powered → t.sl.inputQueue = s.sl.inputQueue ∧ t.powered = s.powered := fun hr hp =>
    ⟨by rw [hr.link], hp⟩
  cases h with
  | sl g _ _ waiting => exact ⟨waiting, rfl⟩
  | calm h => exact hreports h.reportsOnly (h.proj State.powered fun _ => rfl)
  | runDone => rw [dropEntry_rake]; exact ⟨rfl, rfl⟩
  | moved new cause =>
    obtain ⟨_, _, h⟩ := setStation_frame new cause s
    exact hreports (setStation_reportsOnly _ _ _) (by rw [h])
  | cleared g =>
    obtain ⟨_, _, h⟩ := setStation_frame .stopped .clear (s.onSs g)
    exact hreports (.trans (t := s.onSs g) (.of_sl rfl rfl) (setStation_reportsOnly _ _ _)) (by rw [h]; rfl)
  | goesLive g =>
    obtain ⟨_, _, h⟩ := setStation_frame .live .settled (s.onSs g)
    exact hreports (.trans (t := s.onSs g) (.of_sl rfl rfl) (setStation_reportsOnly _ _ _)) (by rw [h]; rfl)
  | evicted new cause c g _ hnew drive =>
    obtain ⟨_, _, _, _, _, h, e⟩ := evict_proj State.powered (fun _ => rfl) cause g s hnew drive
    exact hreports (evict_reportsOnly cause s hnew drive) (by rw [h]; exact e)
  | latch | storeFault => exact ⟨by rw [alarmChanged_sl]; rfl, by rw [alarmChanged_powered]; rfl⟩
  | pageRead p =>
    obtain ⟨r, j, f, tx, rs, busy, h, _⟩ := pageRead_frame p s
    rw [h]
    exact ⟨rfl, rfl⟩
  | tick =>
    unfold Machine.tick whenPowered
    split <;> exact ⟨rfl, rfl⟩
  | _ => exact ⟨rfl, rfl⟩

/-- R190: with reports alone the link's bounds are kept. -/
theorem ReportsOnly.bounded {s t : State} (h : ReportsOnly s t) (hq : t.da.queue.length ≤ 8) (hs : s.Bounded) : t.Bounded := by
  obtain ⟨queue, frames, reports, badFrames, overruns, lostReports⟩ := hs
  exact ⟨hq, by rw [h.link]; exact frames, h.queued reports, by rw [h.link]; exact badFrames, by rw [h.link]; exact overruns,
    h.counted lostReports⟩

theorem Change.bounded {m : Bool} {s t : State} (h : Change m s t) (hs : s.Bounded) : t.Bounded := by
  obtain ⟨queue, frames, reports, badFrames, overruns, lostReports⟩ := id hs
  cases h with
  | sl g _ _ _ bounds => exact bounds hs
  | calm h => exact h.reportsOnly.bounded (Disps.bound h queue) hs
  | runDone => rw [dropEntry_rake]; exact ⟨queue, frames, reports, badFrames, overruns, lostReports⟩
  | da g _ hq => exact ⟨by rw [State.onDa_da, hq]; exact queue, frames, reports, badFrames, overruns, lostReports⟩
  | moved new cause =>
    obtain ⟨_, _, h⟩ := setStation_frame new cause s
    exact (setStation_reportsOnly _ _ _).bounded (by rw [h]; exact queue) hs
  | cleared g =>
    obtain ⟨_, _, h⟩ := setStation_frame .stopped .clear (s.onSs g)
    exact (ReportsOnly.trans (s := s) (t := s.onSs g) (.of_sl rfl rfl) (setStation_reportsOnly _ _ _)).bounded (by rw [h]; exact queue) hs
  | goesLive g =>
    obtain ⟨_, _, h⟩ := setStation_frame .live .settled (s.onSs g)
    exact (ReportsOnly.trans (s := s) (t := s.onSs g) (.of_sl rfl rfl) (setStation_reportsOnly _ _ _)).bounded (by rw [h]; exact queue) hs
  | evicted new cause c g _ hnew drive =>
    obtain ⟨v, w, ⟨⟨relay, copy, correction, l, hv⟩, _, _, hcalm⟩, _, he⟩ := evict_parts new cause c g s hnew drive
    have hw : w.da.queue.length ≤ 8 := Disps.bound hcalm (by rw [hv]; exact queue)
    refine (evict_reportsOnly cause s hnew drive).bounded ?_ hs
    rw [he]
    exact hw
  | latch | storeFault =>
    exact ReportsOnly.bounded (.of_sl (by rw [alarmChanged_sl]; rfl) (by rw [alarmChanged_powered]; rfl)) (by rw [alarmChanged_da]; exact queue) hs
  | pageRead p =>
    obtain ⟨r, j, f, tx, rs, busy, h, hlen, _⟩ := pageRead_frame p s
    rw [h]
    exact ⟨queue, frames, hlen.trans reports, badFrames, overruns, lostReports⟩
  | tick =>
    unfold Machine.tick whenPowered
    split
    · exact ⟨by simpa [tickMain] using queue, frames, reports, badFrames, overruns, lostReports⟩
    · exact ⟨queue, frames, reports, badFrames, overruns, lostReports⟩
  | _ => exact ⟨queue, frames, reports, badFrames, overruns, lostReports⟩

end Sys2Proof.Machine

/-! PROOFS. What every elementary change of the part keeps: the rules of the station, the settings, and the collections. -/

namespace Sys2Proof.Machine

/-! ### The station's flags (R26, R33, R36) -/

/-- R23: a change of the station's state reaches the station's own fields in the state and the alarm relay. -/
theorem setStation_flags (new : StationState) (cause : StationCause) (s : State) : (setStation new cause s).ss.station = new
    ∧ (setStation new cause s).ss.standing = s.ss.standing ∧ (setStation new cause s).ss.fieldClosed = s.ss.fieldClosed
    ∧ (setStation new cause s).ss.capture = s.ss.capture := by
  obtain ⟨_, _, h⟩ := setStation_frame new cause s
  rw [h]
  exact ⟨rfl, rfl, rfl, rfl⟩

/-- R29, R32: what leaving for STOPPING or TRIPPED leaves in the station's fields. -/
theorem evict_flags {new : StationState} (cause : StationCause) {c : DownCause} (g : Sequencer → Sequencer) (s : State)
    (hnew : new ≠ .live) (hc : c.drive ≠ .shortfall) : (evict new cause c g s).ss.station = new
    ∧ (evict new cause c g s).ss.standing = (g s.ss).standing ∧ (evict new cause c g s).ss.fieldClosed = false
    ∧ (evict new cause c g s).ss.capture = (g s.ss).capture := by
  obtain ⟨_, _, _, _, w, h, e⟩ :=
    evict_proj (fun x => (x.ss.station, x.ss.standing, x.ss.capture)) (fun _ => rfl) cause g s hnew hc
  obtain ⟨e1, e2, e3⟩ : w.ss.station = new ∧ w.ss.standing = (g s.ss).standing ∧ w.ss.capture = (g s.ss).capture := by
    simpa using e
  rw [h]
  exact ⟨e1, e2, rfl, e3⟩

theorem tick_flags (s : State) : (tick s).ss.station = s.ss.station ∧ (tick s).ss.standing = s.ss.standing
    ∧ (tick s).ss.fieldClosed = s.ss.fieldClosed ∧ (tick s).ss.capture = s.ss.capture := by
  unfold tick whenPowered
  split <;> exact ⟨rfl, rfl, rfl, rfl⟩

/-- R26, R28, R145. -/
theorem Change.fieldFollowsLive {m : Bool} {s t : State} (h : Change m s t) (hs : s.FieldFollowsLive) : t.FieldFollowsLive := by
  have hkept : t.ss.fieldClosed = s.ss.fieldClosed → t.ss.station = s.ss.station → t.FieldFollowsLive := fun e1 e2 => by
    unfold State.FieldFollowsLive; rwa [e1, e2]
  have hopen : s.ss.station ≠ .live → s.ss.fieldClosed = false := fun h => by rw [hs]; simp [h]
  have hset : ∀ (new : StationState) (cause : StationCause) (x : State), x.ss.fieldClosed = decide (new = .live) →
      (setStation new cause x).FieldFollowsLive := fun new cause x hx => by
    obtain ⟨e1, _, e2, _⟩ := setStation_flags new cause x
    unfold State.FieldFollowsLive
    rw [e1, e2, hx]
  cases h with
  | calm h => exact hkept (h.proj (fun x => x.ss.fieldClosed) fun _ => rfl) (h.proj (fun x => x.ss.station) fun _ => rfl)
  | ss g station _ field => exact hkept field station
  | moved new cause old hnew => exact hset new cause s (by rw [hopen old.1]; simp [hnew.1])
  | cleared g tripped _ _ field => exact hset _ _ (s.onSs g) (field.trans (by rw [hopen (by simp [tripped])]; rfl))
  | goesLive g _ _ _ field => exact hset _ _ (s.onSs g) field
  | evicted new cause c g _ hnew drive =>
    obtain ⟨e1, _, e2, _⟩ := evict_flags cause g s hnew drive
    unfold State.FieldFollowsLive
    rw [e1, e2]; simp [hnew]
  | runDone => rw [dropEntry_rake]; exact hs
  | latch | storeFault =>
    obtain ⟨relay, h⟩ := alarmChanged_frame _ _
    rw [h]; exact hs
  | pageRead p => obtain ⟨_, _, _, _, _, _, h, _⟩ := pageRead_frame p s; rw [h]; exact hs
  | tick => obtain ⟨e1, _, e2, _⟩ := tick_flags s; exact hkept e2 e1
  | _ => exact hs

/-- R36, R37. -/
theorem Change.standingInLive {m : Bool} {s t : State} (h : Change m s t) (hs : s.StandingInLive) : t.StandingInLive := by
  have hkept : t.ss.standing = s.ss.standing → t.ss.station = s.ss.station → t.StandingInLive := fun e1 e2 => by
    unfold State.StandingInLive; rwa [e1, e2]
  have hoff : s.ss.station ≠ .live → s.ss.standing = false := fun h => by
    by_contra hk; exact h (hs (by simpa using hk))
  have hset : ∀ (new : StationState) (cause : StationCause) (x : State), x.ss.standing = false →
      (setStation new cause x).StandingInLive := fun new cause x hx => by
    obtain ⟨_, e, _⟩ := setStation_flags new cause x
    unfold State.StandingInLive
    rw [e, hx]; simp
  cases h with
  | calm h => exact hkept (h.proj (fun x => x.ss.standing) fun _ => rfl) (h.proj (fun x => x.ss.station) fun _ => rfl)
  | ss g station standing => exact hkept standing station
  | standing b live => exact fun hb => live hb
  | moved new cause old => exact hset new cause s (hoff old.1)
  | cleared g tripped _ standing => exact hset _ _ (s.onSs g) (standing.trans (hoff (by simp [tripped])))
  | goesLive g runUp _ standing => exact hset _ _ (s.onSs g) (standing.trans (hoff (by simp [runUp])))
  | evicted new cause c g _ hnew drive _ standing =>
    obtain ⟨_, e, _⟩ := evict_flags cause g s hnew drive
    unfold State.StandingInLive
    rw [e, standing]; simp
  | runDone => rw [dropEntry_rake]; exact hs
  | latch | storeFault =>
    obtain ⟨relay, h⟩ := alarmChanged_frame _ _
    rw [h]; exact hs
  | pageRead p => obtain ⟨_, _, _, _, _, _, h, _⟩ := pageRead_frame p s; rw [h]; exact hs
  | tick => obtain ⟨e1, e2, _⟩ := tick_flags s; exact hkept e2 e1
  | _ => exact hs

/-- R33. -/
theorem Change.captureInTripped {m : Bool} {s t : State} (h : Change m s t) (hs : s.CaptureInTripped) : t.CaptureInTripped := by
  have hkept : t.ss.capture.isSome = s.ss.capture.isSome → t.ss.station = s.ss.station → t.CaptureInTripped := fun e1 e2 => by
    unfold State.CaptureInTripped; rwa [e1, e2]
  have hnone : s.ss.station ≠ .tripped → s.ss.capture.isSome = false := fun h => by rw [hs]; simp [h]
  have hset : ∀ (new : StationState) (cause : StationCause) (x : State), x.ss.capture.isSome = decide (new = .tripped) →
      (setStation new cause x).CaptureInTripped := fun new cause x hx => by
    obtain ⟨e1, _, _, e2⟩ := setStation_flags new cause x
    unfold State.CaptureInTripped
    rw [e1, e2, hx]
  cases h with
  | calm h =>
    exact hkept (by rw [h.proj (fun x => x.ss.capture) fun _ => rfl]) (h.proj (fun x => x.ss.station) fun _ => rfl)
  | ss g station _ _ _ _ _ capture => exact hkept capture station
  | overflow r tripped => unfold State.CaptureInTripped; simp [tripped]
  | moved new cause old hnew => exact hset new cause s (by rw [hnone old.2]; simp [hnew.2])
  | cleared g _ _ _ _ _ _ _ capture => exact hset _ _ (s.onSs g) (by rw [State.onSs_ss, capture]; rfl)
  | goesLive g runUp _ _ _ _ _ _ capture => exact hset _ _ (s.onSs g) (by rw [State.onSs_ss, capture, hnone (by simp [runUp])]; rfl)
  | evicted new cause c g old hnew drive _ _ _ _ _ capture =>
    obtain ⟨e1, _, _, e2⟩ := evict_flags cause g s hnew drive
    unfold State.CaptureInTripped
    rw [e1, e2, capture, hnone old]; rfl
  | runDone => rw [dropEntry_rake]; exact hs
  | latch | storeFault =>
    obtain ⟨relay, h⟩ := alarmChanged_frame _ _
    rw [h]; exact hs
  | pageRead p => obtain ⟨_, _, _, _, _, _, h, _⟩ := pageRead_frame p s; rw [h]; exact hs
  | tick => obtain ⟨e1, _, _, e2⟩ := tick_flags s; exact hkept (by rw [e2]) e1
  | _ => exact hs

/-! ### The alarm relay (R38) -/

/-- R38: where the relay, its setting and every condition are left alone, it stands as asked. -/
theorem State.RelayFollows.of_condition {s t : State} (h : s.RelayFollows) (hsource : t.ss.alarmSource = s.ss.alarmSource)
    (hinv : t.ss.alarmInverted = s.ss.alarmInverted) (hrelay : t.ss.alarmRelay = s.ss.alarmRelay)
    (hcond : ∀ a, t.alarmCondition a = s.alarmCondition a) : t.RelayFollows := by
  unfold State.RelayFollows at *
  rw [hsource, hinv, hrelay, hcond, h]

/-- The conditions of the alarm relay are four flags. -/
theorem alarmCondition_congr {s t : State} (htrip : t.ss.station = .tripped ↔ s.ss.station = .tripped)
    (hlatched : ∀ i, (t.input i).latched = (s.input i).latched) (hshed : ∀ i, (t.feeder i).state = (s.feeder i).state)
    (hfault : t.store.fault = s.store.fault) (a : AlarmSource) : t.alarmCondition a = s.alarmCondition a := by
  cases a <;> simp [State.alarmCondition, State.anyLatched, State.anyShed, htrip, hlatched, hshed, hfault]

/-- R23, R38: the relay follows the TRIPPED condition at a change of the station's state. -/
theorem setStation_follows (new : StationState) (cause : StationCause) {s : State} (h : s.RelayFollows) :
    (setStation new cause s).RelayFollows := by
  unfold setStation
  simp only []
  split
  · refine post_follows _ (alarmChanged_follows h rfl rfl rfl fun b hb => ?_)
    cases b with
    | trip => exact absurd rfl hb
    | _ => rfl
  · next hne =>
    rw [not_or] at hne
    exact post_follows _ (h.of_condition rfl rfl rfl
      (alarmCondition_congr (by simp [hne.1, hne.2]) (fun _ => rfl) (fun _ => rfl) rfl))

theorem handOff_follows (b : Bool) {s : State} (h : s.RelayFollows) : (handOff b s).RelayFollows := by
  unfold handOff handLive
  split
  · exact evaluateCorrection_follows (s := s.onCu fun u => { u with liveCopy := false }) (h.of_eq rfl rfl (fun _ => rfl) rfl)
  · exact h

theorem tick_feeder_state (s : State) (i : Fin 12) : ((tick s).feeder i).state = (s.feeder i).state := by
  unfold tick whenPowered
  split
  · simp [tickMain, State.feeder, map12_getElem]
  · rfl

theorem tick_slot_state (s : State) (i : Fin 4) : ((tick s).slot i).state = (s.slot i).state
    ∧ ((tick s).slot i).profile = (s.slot i).profile ∧ ((tick s).slot i).present = (s.slot i).present := by
  unfold tick whenPowered
  split
  · simp [tickMain, State.slot, map4_getElem, Slot.tick]
  · exact ⟨rfl, rfl, rfl⟩

theorem tick_follows {s : State} (h : s.RelayFollows) : (tick s).RelayFollows := by
  have htick : (tick s).ss.alarmSource = s.ss.alarmSource ∧ (tick s).ss.alarmInverted = s.ss.alarmInverted
      ∧ (tick s).ss.alarmRelay = s.ss.alarmRelay ∧ ∀ i, ((tick s).input i).latched = (s.input i).latched := by
    unfold tick whenPowered
    split <;> exact ⟨rfl, rfl, rfl, fun _ => rfl⟩
  obtain ⟨source, inverted, relay, latched⟩ := htick
  obtain ⟨e, he⟩ := tick_store s
  exact h.of_condition source inverted relay
    (alarmCondition_congr (by rw [(tick_flags s).1]) latched (tick_feeder_state s) (by rw [he]))

theorem Change.relayFollows {m : Bool} {s t : State} (h : Change m s t) (hs : s.RelayFollows) : t.RelayFollows := by
  have hset : ∀ g : Sequencer → Sequencer, (g s.ss).station = s.ss.station → (g s.ss).alarmSource = s.ss.alarmSource →
      (g s.ss).alarmInverted = s.ss.alarmInverted → (g s.ss).alarmRelay = s.ss.alarmRelay → (s.onSs g).RelayFollows :=
    fun g station source inverted relay => hs.of_condition source inverted relay
      (alarmCondition_congr (by rw [State.onSs_ss, station]) (fun _ => rfl) (fun _ => rfl) rfl)
  cases h with
  | calm h => exact Disps.follows h hs
  | runDone => rw [dropEntry_rake]; exact hs.of_eq rfl rfl (fun _ => rfl) rfl
  | ss g station _ _ source inverted relay => exact hset g station source inverted relay
  | alarm source inverted => exact setAlarmRelay_follows _
  | overflow | standing =>
    exact hs.of_condition rfl rfl rfl (alarmCondition_congr Iff.rfl (fun _ => rfl) (fun _ => rfl) rfl)
  | moved new cause => exact setStation_follows new cause hs
  | cleared g _ station _ _ source inverted relay =>
    exact setStation_follows _ _ (hset g station source inverted relay)
  | goesLive g _ station _ _ source inverted relay =>
    exact setStation_follows _ _ (hset g station source inverted relay)
  | evicted new cause c g old hnew drive station _ source inverted relay =>
    obtain ⟨v, w, ⟨_, _, _, hcalm⟩, hv, he⟩ := evict_parts new cause c g s hnew drive
    have hw : w.RelayFollows := Disps.follows hcalm
      (by rw [hv]; exact handOff_follows _ (setStation_follows _ _ (hset g station source inverted relay)))
    rw [he]
    exact hw.of_condition rfl rfl rfl (alarmCondition_congr Iff.rfl (fun _ => rfl) (fun _ => rfl) rfl)
  | latch i b =>
    refine alarmChanged_follows hs rfl rfl rfl fun a ha => ?_
    cases a with
    | watch => exact absurd rfl ha
    | _ => rfl
  | storeFault =>
    refine alarmChanged_follows hs rfl rfl rfl fun a ha => ?_
    cases a with
    | store => exact absurd rfl ha
    | _ => rfl
  | wu g latched => exact hs.of_eq rfl rfl latched rfl
  | profile | feedHold => exact hs.of_eq rfl rfl (fun _ => rfl) rfl
  | feederProfile i p => exact onFeeder_follows hs i _ fun _ => rfl
  | fu g feeders =>
    exact hs.of_condition rfl rfl rfl (alarmCondition_congr Iff.rfl (fun _ => rfl) (fun i => by simp [State.feeder, feeders]) rfl)
  | store g fault => exact hs.of_eq rfl rfl (fun _ => rfl) fault
  | pageRead p => obtain ⟨_, _, _, _, _, _, h, _⟩ := pageRead_frame p s; rw [h]; exact hs.of_eq rfl rfl (fun _ => rfl) rfl
  | tick => exact tick_follows hs
  | _ => exact hs.of_eq rfl rfl (fun _ => rfl) rfl

/-! ### The settings (O58) -/

/-- R10 to R14: a control step moves the gate and the integrator alone, and leaves the gate within 0 to 10,000 where the limit lies there. -/
theorem GateController.step_params (g : GateController) (st : StationState) (fRef : Int) (f : Nat) :
    (g.step st fRef f).params = g.params := by cases st <;> rfl

theorem GateController.step_feedForward (g : GateController) (st : StationState) (fRef : Int) (f : Nat) :
    (g.step st fRef f).feedForward = g.feedForward := by cases st <;> rfl

theorem GateController.step_limits (g : GateController) (st : StationState) (fRef : Int) (f : Nat) :
    (g.step st fRef f).gLim = g.gLim ∧ (g.step st fRef f).gFF = g.gFF := by cases st <;> exact ⟨rfl, rfl⟩

theorem moveGate_le {prev target openRate closeRate n : Nat} (hp : prev ≤ n) (ht : target ≤ n) :
    moveGate prev target openRate closeRate ≤ n := by
  unfold moveGate
  split
  · omega
  · split <;> omega

theorem GateController.rawDemand_le (g : GateController) (i e : Int) : g.rawDemand i e ≤ g.gLim := by
  have hfloor : g.floorGate ≤ g.gLim := Nat.min_le_right _ _
  unfold GateController.rawDemand clampInt
  omega

theorem GateController.step_gateOut_le {g : GateController} (ho : g.gateOut ≤ 10000) (hl : g.gLim ≤ 10000) (st : StationState) (fRef : Int)
    (f : Nat) : (g.step st fRef f).gateOut ≤ 10000 := by
  cases st
  case runUp | live => exact moveGate_le ho ((g.rawDemand_le _ _).trans hl)
  case starting => exact moveGate_le ho ((Nat.min_le_right _ _).trans hl)
  all_goals exact moveGate_le (openRate := g.params.openRate) ho (Nat.zero_le 10000)


/-- The groups of parameters. -/
def State.settings (s : State) : GovParams × LevelParams × DispatchParams × RakeParams × SheddingParams × CorrectionParams :=
  (s.gc.params, s.lu.params, s.da.params, s.rk.params, s.fu.params, s.cu.params)

theorem State.ParamsInRange.of_settings {s t : State} (hs : s.ParamsInRange) (h : t.settings = s.settings) : t.ParamsInRange := by
  obtain ⟨e1, e2, e3, e4, e5, e6⟩ : t.gc.params = s.gc.params ∧ t.lu.params = s.lu.params ∧ t.da.params = s.da.params
      ∧ t.rk.params = s.rk.params ∧ t.fu.params = s.fu.params ∧ t.cu.params = s.cu.params := by simpa [State.settings] using h
  exact ⟨e1 ▸ hs.gov, e2 ▸ hs.levels, e3 ▸ hs.dispatch, e4 ▸ hs.rake, e5 ▸ hs.shedding, e6 ▸ hs.correction⟩

theorem rawPulses_params (n : Nat) (u : CalendarUnit) : (rawPulses n u).params = u.params := by
  induction n generalizing u with
  | zero => rfl
  | succ n ih =>
    rw [rawPulses, ih]
    unfold rawPulse
    split <;> rfl

theorem tick_settings (s : State) : (tick s).settings = s.settings := by
  have hcu : s.cu.tick.params = s.cu.params := rawPulses_params _ _
  unfold tick whenPowered State.settings
  split
  · exact congrArg (fun p => (s.gc.params, s.lu.params, s.da.params, s.rk.params, s.fu.params, p)) hcu
  · exact congrArg (fun p => (s.gc.params, s.lu.params, s.da.params, s.rk.params, s.fu.params, p)) hcu

theorem Change.paramsInRange {m : Bool} {s t : State} (h : Change m s t) (hs : s.ParamsInRange) : t.ParamsInRange := by
  cases h with
  | calm h => exact hs.of_settings (h.proj State.settings fun _ => rfl)
  | runDone g _ _ _ params => rw [dropEntry_rake]; exact ⟨hs.gov, hs.levels, hs.dispatch, params ▸ hs.rake, hs.shedding, hs.correction⟩
  | gc g _ _ params => exact ⟨params hs.gov, hs.levels, hs.dispatch, hs.rake, hs.shedding, hs.correction⟩
  | gate f => exact ⟨by rw [State.onGc_gc, GateController.step_params]; exact hs.gov, hs.levels, hs.dispatch, hs.rake, hs.shedding, hs.correction⟩
  | lu g params => exact ⟨hs.gov, params hs.levels, hs.dispatch, hs.rake, hs.shedding, hs.correction⟩
  | da g _ _ _ params => exact ⟨hs.gov, hs.levels, params hs.dispatch, hs.rake, hs.shedding, hs.correction⟩
  | rk g _ _ params => exact ⟨hs.gov, hs.levels, hs.dispatch, params hs.rake, hs.shedding, hs.correction⟩
  | fu g _ params => exact ⟨hs.gov, hs.levels, hs.dispatch, hs.rake, params hs.shedding, hs.correction⟩
  | cu g params => exact ⟨hs.gov, hs.levels, hs.dispatch, hs.rake, hs.shedding, params hs.correction⟩
  | moved new cause => obtain ⟨_, _, h⟩ := setStation_frame new cause s; exact hs.of_settings (by rw [h]; rfl)
  | cleared g => obtain ⟨_, _, h⟩ := setStation_frame .stopped .clear (s.onSs g); exact hs.of_settings (by rw [h]; rfl)
  | goesLive g => obtain ⟨_, _, h⟩ := setStation_frame .live .settled (s.onSs g); exact hs.of_settings (by rw [h]; rfl)
  | evicted new cause c g _ hnew drive =>
    obtain ⟨_, _, _, _, w, h, e⟩ := evict_proj State.settings (fun _ => rfl) cause g s hnew drive
    rw [h]; exact hs.of_settings (t := w.onSs _) e
  | latch | storeFault =>
    obtain ⟨relay, h⟩ := alarmChanged_frame _ _
    exact hs.of_settings (by rw [h]; rfl)
  | pageRead p => obtain ⟨_, _, _, _, _, _, h, _⟩ := pageRead_frame p s; exact hs.of_settings (by rw [h]; rfl)
  | tick => exact hs.of_settings (tick_settings s)
  | _ => exact hs.of_settings rfl

theorem State.ProfilesInRange.of_eq {s t : State} (hs : s.ProfilesInRange)
    (hd : ∀ i, (t.slot i).profile = (s.slot i).profile ∧ (t.slot i).present = (s.slot i).present)
    (hf : ∀ i, (t.feeder i).profile = (s.feeder i).profile) : t.ProfilesInRange :=
  ⟨fun i hi => by rw [(hd i).1]; exact hs.drives i ((hd i).2 ▸ hi), fun i => by rw [hf i]; exact hs.feeders i⟩

theorem Change.profilesInRange {m : Bool} {s t : State} (h : Change m s t) (hs : s.ProfilesInRange) : t.ProfilesInRange := by
  have hkept : t.ds = s.ds → t.fu = s.fu → t.ProfilesInRange := fun e1 e2 =>
    hs.of_eq (fun i => by simp [State.slot, e1]) fun i => by simp [State.feeder, e2]
  cases h with
  | calm h => exact profilesInRange_of_still h.still hs
  | profile i g _ range =>
    refine ⟨fun j hj => ?_, hs.feeders⟩
    rw [State.onSlot_slot] at hj ⊢
    split at hj
    · next e => rw [if_pos e]; exact range hj
    · next e => rw [if_neg e]; exact hs.drives j hj
  | feederProfile i p range =>
    refine ⟨hs.drives, fun j => ?_⟩
    rw [State.onFeeder_feeder]
    split
    · exact range
    · exact hs.feeders j
  | fu g feeders => exact hs.of_eq (fun _ => ⟨rfl, rfl⟩) fun i => by simp [State.feeder, feeders]
  | feedHold => exact hs.of_eq (fun _ => ⟨rfl, rfl⟩) fun _ => rfl
  | runDone => rw [dropEntry_rake] at hkept ⊢; exact hkept rfl rfl
  | moved new cause => obtain ⟨_, _, h⟩ := setStation_frame new cause s; exact hkept (by rw [h]) (by rw [h])
  | cleared g => obtain ⟨_, _, h⟩ := setStation_frame .stopped .clear (s.onSs g); exact hkept (by rw [h]; rfl) (by rw [h]; rfl)
  | goesLive g => obtain ⟨_, _, h⟩ := setStation_frame .live .settled (s.onSs g); exact hkept (by rw [h]; rfl) (by rw [h]; rfl)
  | evicted new cause c g _ hnew drive =>
    obtain ⟨v, w, ⟨⟨_, _, _, _, hv⟩, _, _, h⟩, _, he⟩ := evict_parts new cause c g s hnew drive
    have hw : w.ProfilesInRange := profilesInRange_of_still h.still (by rw [hv]; exact hs.of_eq (fun _ => ⟨rfl, rfl⟩) fun _ => rfl)
    rw [he]; exact hw.of_eq (fun _ => ⟨rfl, rfl⟩) fun _ => rfl
  | latch | storeFault => exact hkept (by rw [alarmChanged_ds]; rfl) (by rw [alarmChanged_fu]; rfl)
  | pageRead p => obtain ⟨_, _, _, _, _, _, h, _⟩ := pageRead_frame p s; exact hkept (by rw [h]) (by rw [h])
  | tick =>
    refine hs.of_eq (fun i => (tick_slot_state s i).2) fun i => ?_
    unfold Machine.tick whenPowered
    split
    · simp [tickMain, State.feeder, map12_getElem]
    · rfl
  | _ => exact hkept rfl rfl

/-- R15, R43: the gate output, the gate limits and the copy of G_max. -/
def State.gates (s : State) : Nat × Nat × Nat × Nat := (s.gc.gateOut, s.gc.gLim, s.gc.gFF, s.lu.gMaxCopy)

theorem State.GateInRange.of_gates {s t : State} (hs : s.GateInRange) (h : t.gates = s.gates) : t.GateInRange := by
  obtain ⟨e1, e2, e3, e4⟩ : t.gc.gateOut = s.gc.gateOut ∧ t.gc.gLim = s.gc.gLim ∧ t.gc.gFF = s.gc.gFF ∧ t.lu.gMaxCopy = s.lu.gMaxCopy := by
    simpa [State.gates] using h
  exact ⟨e1 ▸ hs.out, e2 ▸ hs.lim, e3 ▸ hs.forebay, e4 ▸ hs.copy⟩

theorem Change.gateInRange {m : Bool} {s t : State} (h : Change m s t) (hp : s.ParamsInRange) (hs : s.GateInRange) : t.GateInRange := by
  cases h with
  | calm h => exact hs.of_gates (h.proj State.gates fun _ => rfl)
  | gc g out _ _ limits => exact ⟨out ▸ hs.out, (limits hs).1, (limits hs).2, hs.copy⟩
  | gate f =>
    obtain ⟨e1, e2⟩ := s.gc.step_limits s.ss.station s.fRef f
    exact ⟨GateController.step_gateOut_le hs.out hs.lim _ _ _, e1 ▸ hs.lim, e2 ▸ hs.forebay, hs.copy⟩
  | lu g _ copy => exact ⟨hs.out, hs.lim, hs.forebay, copy hp hs.copy⟩
  | runDone => rw [dropEntry_rake]; exact hs.of_gates rfl
  | moved new cause => obtain ⟨_, _, h⟩ := setStation_frame new cause s; exact hs.of_gates (by rw [h]; rfl)
  | cleared g => obtain ⟨_, _, h⟩ := setStation_frame .stopped .clear (s.onSs g); exact hs.of_gates (by rw [h]; rfl)
  | goesLive g => obtain ⟨_, _, h⟩ := setStation_frame .live .settled (s.onSs g); exact hs.of_gates (by rw [h]; rfl)
  | evicted new cause c g _ hnew drive =>
    obtain ⟨_, _, _, _, w, h, e⟩ := evict_proj State.gates (fun _ => rfl) cause g s hnew drive
    rw [h]; exact hs.of_gates (t := w.onSs _) e
  | latch | storeFault =>
    obtain ⟨relay, h⟩ := alarmChanged_frame _ _
    exact hs.of_gates (by rw [h]; rfl)
  | pageRead p => obtain ⟨_, _, _, _, _, _, h, _⟩ := pageRead_frame p s; exact hs.of_gates (by rw [h]; rfl)
  | tick => exact hs.of_gates (by unfold Machine.tick whenPowered; split <;> rfl)
  | _ => exact hs.of_gates rfl

/-! ### The collections (O57, O59) -/

theorem tick_owners (s : State) : (tick s).tableOwners = s.tableOwners ∧ (tick s).queueOwners = s.queueOwners
    ∧ (tick s).rk.state = s.rk.state ∧ (tick s).rk.entryHeld = s.rk.entryHeld
    ∧ (tick s).gc.feedForward = s.gc.feedForward := by
  unfold tick whenPowered
  split
  · exact ⟨rfl, by simp [tickMain, State.queueOwners, Function.comp_def], rfl, rfl, rfl⟩
  · exact ⟨rfl, rfl, rfl, rfl, rfl⟩

/-- Where neither the collections nor the owners' states have changed, the agreement stands. -/
theorem Agree.of_states {L : List Owner} {s t : State} (h : Agree L s) (htable : t.tableOwners = s.tableOwners)
    (hqueue : t.queueOwners = s.queueOwners) (hds : ∀ i, (t.slot i).state = (s.slot i).state) (hrk : t.rk.state = s.rk.state)
    (hheld : t.rk.entryHeld = s.rk.entryHeld) (hfu : ∀ i, (t.feeder i).state = (s.feeder i).state)
    (hfed : t.gc.feedForward = s.gc.feedForward) : Agree L t := by
  have hG : ∀ x, t.GrantedAt x ↔ s.GrantedAt x := by intro x; cases x <;> simp [State.GrantedAt, hds, hrk, hfu]
  have hW : ∀ x, t.QueuedAt x ↔ s.QueuedAt x := by intro x; cases x <;> simp [State.QueuedAt, hds, hheld, hfu]
  exact ⟨htable ▸ hqueue ▸ h.owners.congr hG hW, by rw [hheld, hrk]; exact h.held, by rw [hfed, htable, h.fed],
    by rw [hrk]; exact h.waited⟩

/-- R110: the end of a run takes the rake's entry out of the table. -/
theorem runDone_agree {s : State} (hs : Agree [] s) {g : RakeUnit → RakeUnit} (running : s.rk.state = .running)
    (idle : (g s.rk).state = .idle) (held : (g s.rk).entryHeld = s.rk.entryHeld) : Agree [] (dropEntry .rake (s.onRk g)) := by
  have hheld : ¬s.rk.entryHeld = true := fun hk => by
    have := hs.held hk
    rw [running] at this; cases this
  have hnot : (g s.rk).state ≠ .running := by simp [idle]
  exact dropEntry_agree hs List.not_mem_nil running rfl rfl (onRk_same s g)
    ⟨hnot, fun hk => hheld (held ▸ hk)⟩
    (fun hk => absurd (held ▸ hk) hheld) fun hL => absurd hL List.not_mem_nil

theorem Change.agree {m : Bool} {s t : State} (h : Change m s t) (hs : Agree [] s) : Agree [] t := by
  have hsame : ∀ x : State, x.da = s.da → x.ds = s.ds → x.rk = s.rk → x.fu = s.fu → x.gc = s.gc → Agree [] x :=
    fun x e1 e2 e3 e4 e5 => hs.of_states (by simp [State.tableOwners, e1]) (by simp [State.queueOwners, e1]) (fun i => by simp [State.slot, e2])
      (by rw [e3]) (by rw [e3]) (fun i => by simp [State.feeder, e4]) (by rw [e5])
  cases h with
  | calm h => exact h.agree hs
  | runDone g running idle held => exact runDone_agree hs running idle held
  | gc g _ fed => exact hs.of_states rfl rfl (fun _ => rfl) rfl rfl (fun _ => rfl) fed
  | gate f =>
    exact hs.of_states rfl rfl (fun _ => rfl) rfl rfl (fun _ => rfl) (by rw [State.onGc_gc, GateController.step_feedForward])
  | da g table queue =>
    exact hs.of_states (by simp [State.tableOwners, table]) (by simp [State.queueOwners, queue]) (fun _ => rfl) rfl rfl (fun _ => rfl) rfl
  | profile i g state =>
    refine hs.of_states rfl rfl (fun j => ?_) rfl rfl (fun _ => rfl) rfl
    rw [State.onSlot_slot]
    split
    · next e => rw [state, e]
    · rfl
  | feedHold => exact hs.of_states rfl rfl (fun _ => rfl) rfl rfl (fun _ => rfl) rfl
  | rk g state held => exact hs.of_states rfl rfl (fun _ => rfl) state held (fun _ => rfl) rfl
  | feederProfile i p =>
    refine hs.of_states rfl rfl (fun _ => rfl) rfl rfl (fun j => ?_) rfl
    rw [State.onFeeder_feeder]
    split
    · next e => rw [e]
    · rfl
  | fu g feeders => exact hs.of_states rfl rfl (fun _ => rfl) rfl rfl (fun i => by simp [State.feeder, feeders]) rfl
  | moved new cause => obtain ⟨_, _, h⟩ := setStation_frame new cause s; rw [h]; exact hsame _ rfl rfl rfl rfl rfl
  | cleared g => obtain ⟨_, _, h⟩ := setStation_frame .stopped .clear (s.onSs g); rw [h]; exact hsame _ rfl rfl rfl rfl rfl
  | goesLive g => obtain ⟨_, _, h⟩ := setStation_frame .live .settled (s.onSs g); rw [h]; exact hsame _ rfl rfl rfl rfl rfl
  | evicted new cause c g _ hnew drive =>
    obtain ⟨v, w, ⟨⟨_, _, _, _, hv⟩, _, _, h⟩, _, he⟩ := evict_parts new cause c g s hnew drive
    have hw : Agree [] w := h.agree (by rw [hv]; exact hsame _ rfl rfl rfl rfl rfl)
    rw [he]; exact hw.of_states rfl rfl (fun _ => rfl) rfl rfl (fun _ => rfl) rfl
  | latch | storeFault =>
    obtain ⟨relay, h⟩ := alarmChanged_frame _ _
    rw [h]; exact hsame _ rfl rfl rfl rfl rfl
  | pageRead p => obtain ⟨_, _, _, _, _, _, h, _⟩ := pageRead_frame p s; rw [h]; exact hsame _ rfl rfl rfl rfl rfl
  | tick =>
    obtain ⟨e1, e2, e3, e4, e5⟩ := tick_owners s
    exact hs.of_states e1 e2 (fun i => (tick_slot_state s i).1) e3 e4 (tick_feeder_state s) e5
  | _ => exact hsame _ rfl rfl rfl rfl rfl

/-- R59: an entry's wait timer has no part in the order. -/
theorem QueueOrder.map {q : List QueueEntry} {n : Nat} (h : QueueOrder q n) (f : QueueEntry → QueueEntry)
    (hf : ∀ e, (f e).cls = e.cls ∧ (f e).sequence = e.sequence ∧ (f e).owner = e.owner) : QueueOrder (q.map f) n where
  ordered := by
    refine List.pairwise_map.mpr (h.ordered.imp fun {a b} hab => ?_)
    rw [(hf a).1, (hf b).1, (hf a).2.1, (hf b).2.1]
    exact hab
  given e he := by
    obtain ⟨x, hx, rfl⟩ := List.mem_map.mp he
    rw [(hf x).2.1]; exact h.given x hx
  classZero e he := by
    obtain ⟨x, hx, rfl⟩ := List.mem_map.mp he
    rw [(hf x).1, (hf x).2.2]; exact h.classZero x hx
  emptyZero he := h.emptyZero (List.map_eq_nil_iff.mp he)

theorem Change.queueOrder {m : Bool} {s t : State} (h : Change m s t) (hp : s.ProfilesInRange) (hs : QueueOrder s.da.queue s.da.sequence) :
    QueueOrder t.da.queue t.da.sequence := by
  cases h with
  | calm h => exact Disps.order h hp hs
  | runDone => rw [dropEntry_rake]; exact hs
  | da g _ queue sequence => rw [State.onDa_da, queue, sequence]; exact hs
  | moved new cause => obtain ⟨_, _, h⟩ := setStation_frame new cause s; rw [h]; exact hs
  | cleared g => obtain ⟨_, _, h⟩ := setStation_frame .stopped .clear (s.onSs g); rw [h]; exact hs
  | goesLive g => obtain ⟨_, _, h⟩ := setStation_frame .live .settled (s.onSs g); rw [h]; exact hs
  | evicted new cause c g _ hnew drive =>
    obtain ⟨v, w, ⟨⟨_, _, _, _, hv⟩, _, _, h⟩, _, he⟩ := evict_parts new cause c g s hnew drive
    have hw := Disps.order h (by rw [hv]; exact hp.of_eq (fun _ => ⟨rfl, rfl⟩) fun _ => rfl) (by rw [hv]; exact hs)
    rw [he]; exact hw
  | latch | storeFault =>
    obtain ⟨relay, h⟩ := alarmChanged_frame _ _
    rw [h]; exact hs
  | pageRead p => obtain ⟨_, _, _, _, _, _, h, _⟩ := pageRead_frame p s; rw [h]; exact hs
  | tick =>
    unfold Machine.tick whenPowered
    split
    · exact hs.map _ fun _ => ⟨rfl, rfl, rfl⟩
    · exact hs
  | _ => exact hs

/-- R28: outside LIVE both collections are empty and the field contactor is open. -/
def State.RestsOutsideLive (s : State) : Prop := s.ss.station ≠ .live → s.da.queue = [] ∧ s.da.table = [] ∧ s.ss.fieldClosed = false

/-- With the collections in agreement, nothing is driven where both are empty. -/
theorem drivenInLive_iff {s : State} (ha : Agree [] s) : s.DrivenInLive ↔ s.RestsOutsideLive := by
  constructor
  · exact fun h hst => ⟨(h hst).1.queue, (h hst).2, (h hst).1.field⟩
  · intro h hst
    obtain ⟨hq, ht, hf⟩ := h hst
    have hnone : ∀ o, ¬s.GrantedAt o := fun o ho => by
      have := (ha.owners.table o List.not_mem_nil).mpr ho
      rw [State.tableOwners, ht] at this
      exact List.not_mem_nil this
    refine ⟨⟨fun i => ?_, fun i => ?_, ?_, hq, hf⟩, ht⟩
    · exact decide_eq_false (hnone (.feeder i))
    · have := hnone (.drive i)
      unfold State.driveClutch State.feedEnable
      unfold State.GrantedAt at this
      cases hs : (s.slot i).state <;> simp_all [SlotState.engaged, SlotState.clutchIn, SlotState.feedOn]
    · exact decide_eq_false (hnone .rake)

theorem Change.restsOutsideLive {m : Bool} {s t : State} (h : Change m s t) (ha : Agree [] s) (hs : s.RestsOutsideLive) :
    t.RestsOutsideLive := by
  have hset : ∀ (new : StationState) (cause : StationCause) (x : State), (new ≠ .live → x.da.queue = [] ∧ x.da.table = [] ∧ x.ss.fieldClosed = false) →
      (setStation new cause x).RestsOutsideLive := fun new cause x hx => by
    obtain ⟨_, _, h⟩ := setStation_frame new cause x
    rw [h]; exact hx
  cases h with
  | calm h =>
    intro hst
    rw [h.station] at hst
    obtain ⟨hq, ht, hf⟩ := hs hst
    refine ⟨Disps.queue_nil h hst hq, ?_, (h.proj (fun x => x.ss.fieldClosed) fun _ => rfl).trans hf⟩
    have hsub := Disps.table_subset h hst hq
    simp only [State.tableOwners, ht, List.map_nil] at hsub
    exact List.map_eq_nil_iff.mp (List.subset_nil.mp hsub)
  | runDone =>
    rw [dropEntry_rake]
    intro hst
    obtain ⟨hq, ht, hf⟩ := hs hst
    exact ⟨hq, by simp [ht], hf⟩
  | ss g station _ field =>
    unfold State.RestsOutsideLive
    rw [State.onSs_ss, station, field]
    exact hs
  | da g table queue =>
    unfold State.RestsOutsideLive
    rw [State.onDa_da, table, queue]
    exact hs
  | moved new cause old => exact hset new cause s fun _ => hs old.1
  | cleared g tripped _ _ field =>
    refine hset _ _ (s.onSs g) fun _ => ?_
    rw [State.onSs_ss, field]
    exact hs (by simp [tripped])
  | goesLive g => exact hset _ _ (s.onSs g) fun h => absurd rfl h
  | evicted new cause c g _ hnew drive =>
    obtain ⟨v, w, ⟨⟨_, _, _, _, hv⟩, _, hw, h⟩, _, he⟩ := evict_parts new cause c g s hnew drive
    have hav : Agree [] v := by
      rw [hv]; exact ha.of_states rfl rfl (fun _ => rfl) rfl rfl (fun _ => rfl) rfl
    have hd : Down v w := hw ▸ takeDownLoads_down drive (by rw [hv]; exact hnew) hav
    rw [he]
    exact fun _ => ⟨hd.queue, hd.table, rfl⟩
  | latch | storeFault =>
    obtain ⟨relay, h⟩ := alarmChanged_frame _ _
    rw [h]; exact hs
  | pageRead p => obtain ⟨_, _, _, _, _, _, h, _⟩ := pageRead_frame p s; rw [h]; exact hs
  | tick =>
    unfold Machine.tick whenPowered
    split
    · intro hst
      obtain ⟨hq, ht, hf⟩ := hs hst
      exact ⟨by simp [tickMain, hq], ht, hf⟩
    · exact hs
  | _ => exact hs

end Sys2Proof.Machine

/-! PROOFS. The parameter groups: what clamping and what a stored image's fields give lies in range, and a list of values in range is read
back from its group. -/

namespace Sys2Proof.Machine

/-- R187: a clamped value lies within its limits. -/
theorem clampTo_range {lo hi : Nat} (h : lo ≤ hi) (n : Nat) : lo ≤ clampTo lo hi n ∧ clampTo lo hi n ≤ hi := by
  unfold clampTo
  omega

theorem fieldsInRange_cons (f : Field) (fs : List Field) (v : Nat) (vs : List Nat) :
    fieldsInRange (f :: fs) (v :: vs) = true ↔ (f.lo ≤ v ∧ v ≤ f.hi) ∧ fieldsInRange fs vs = true := by
  simp [fieldsInRange]

/-- Values in range are as many as their fields. -/
theorem length_of_fieldsInRange {fs : List Field} {v : List Nat} (h : fieldsInRange fs v = true) : v.length = fs.length := by
  induction fs generalizing v with
  | nil => cases v with
    | nil => rfl
    | cons => simp [fieldsInRange] at h
  | cons f fs ih => cases v with
    | nil => simp [fieldsInRange] at h
    | cons x xs => simp [ih ((fieldsInRange_cons f fs x xs).mp h).2]

@[simp] theorem decodeFields_length (fs : List Field) (body : List Byte) : (decodeFields fs body).length = fs.length := by
  induction fs generalizing body with
  | nil => rfl
  | cons f fs ih => simp [decodeFields, ih]

/-- The limits of every field stand in order. -/
def fieldsOrdered (fs : List Field) : Bool := fs.all fun f => decide (f.lo ≤ f.hi)

/-- R187: clamped values lie in range. -/
theorem clampFields_inRange {fs : List Field} (h : fieldsOrdered fs = true) {v : List Nat} (hl : v.length = fs.length) :
    fieldsInRange fs (clampFields fs v) = true := by
  induction fs generalizing v with
  | nil => rfl
  | cons f fs ih => cases v with
    | nil => cases hl
    | cons x xs =>
      obtain ⟨hf, hfs⟩ : f.lo ≤ f.hi ∧ fieldsOrdered fs = true := by simpa [fieldsOrdered] using h
      exact (fieldsInRange_cons f fs _ _).mpr ⟨clampTo_range hf x, ih hfs (by simpa using hl)⟩

/-- R187, R196: the values that a command's body puts in force lie in range. -/
theorem sent_inRange {fs : List Field} (h : fieldsOrdered fs = true) (body : List Byte) :
    fieldsInRange fs (clampFields fs (decodeFields fs body)) = true := clampFields_inRange h (decodeFields_length fs body)

/-- R180 (log 11): the values that stored fields put in force lie in range. -/
theorem settleFields_inRange (choice : Nat) {fs : List Field} (h : fieldsOrdered fs = true) (b : List Byte) :
    fieldsInRange fs (settleFields choice fs b) = true := by
  induction fs generalizing b with
  | nil => rfl
  | cons f fs ih =>
    obtain ⟨hf, hfs⟩ : f.lo ≤ f.hi ∧ fieldsOrdered fs = true := by simpa [fieldsOrdered] using h
    exact (fieldsInRange_cons f fs _ _).mpr ⟨settle_range choice _ _ hf, ih hfs _⟩

/-! ### A group reads back from its list -/

theorem GovParams.toList_ofList {v : List Nat} (h : v.length = 10) : (GovParams.ofList v).toList = v := by
  match v, h with
  | [_, _, _, _, _, _, _, _, _, _], _ => rfl

theorem LevelParams.toList_ofList {v : List Nat} (h : v.length = 8) : (LevelParams.ofList v).toList = v := by
  match v, h with
  | [_, _, _, _, _, _, _, _], _ => rfl

theorem DispatchParams.toList_ofList {v : List Nat} (h : v.length = 3) : (DispatchParams.ofList v).toList = v := by
  match v, h with
  | [_, _, _], _ => rfl

theorem RakeParams.toList_ofList {v : List Nat} (h : v.length = 4) : (RakeParams.ofList v).toList = v := by
  match v, h with
  | [_, _, _, _], _ => rfl

theorem SheddingParams.toList_ofList {v : List Nat} (h : v.length = 10) : (SheddingParams.ofList v).toList = v := by
  match v, h with
  | [_, _, _, _, _, _, _, _, _, _], _ => rfl

theorem CorrectionParams.toList_ofList {v : List Nat} (h : v.length = 3) : (CorrectionParams.ofList v).toList = v := by
  match v, h with
  | [_, _, _], _ => rfl

theorem DriveProfile.toList_ofList {v : List Nat} (h : v.length = 9) : (DriveProfile.ofList v).toList = v := by
  match v, h with
  | [_, _, _, _, _, _, _, _, _], _ => rfl

theorem FeederProfile.toList_ofList (auto : Bool) {v : List Nat} (h : v.length = 7) : (FeederProfile.ofList auto v).toList = v := by
  match v, h with
  | [_, _, _, _, _, _, _], _ => rfl

/-! ### A group made from values in range lies in range -/

theorem GovParams.ofList_inRange {v : List Nat} (h : fieldsInRange GovParams.fields v = true) :
    fieldsInRange GovParams.fields (GovParams.ofList v).toList = true := by
  rwa [GovParams.toList_ofList (length_of_fieldsInRange h)]

theorem LevelParams.ofList_inRange {v : List Nat} (h : fieldsInRange LevelParams.fields v = true) :
    fieldsInRange LevelParams.fields (LevelParams.ofList v).toList = true := by
  rwa [LevelParams.toList_ofList (length_of_fieldsInRange h)]

theorem DispatchParams.ofList_inRange {v : List Nat} (h : fieldsInRange DispatchParams.fields v = true) :
    fieldsInRange DispatchParams.fields (DispatchParams.ofList v).toList = true := by
  rwa [DispatchParams.toList_ofList (length_of_fieldsInRange h)]

theorem RakeParams.ofList_inRange {v : List Nat} (h : fieldsInRange RakeParams.fields v = true) :
    fieldsInRange RakeParams.fields (RakeParams.ofList v).toList = true := by
  rwa [RakeParams.toList_ofList (length_of_fieldsInRange h)]

theorem SheddingParams.ofList_inRange {v : List Nat} (h : fieldsInRange SheddingParams.fields v = true) :
    fieldsInRange SheddingParams.fields (SheddingParams.ofList v).toList = true := by
  rwa [SheddingParams.toList_ofList (length_of_fieldsInRange h)]

theorem CorrectionParams.ofList_inRange {v : List Nat} (h : fieldsInRange CorrectionParams.fields v = true) :
    fieldsInRange CorrectionParams.fields (CorrectionParams.ofList v).toList = true := by
  rwa [CorrectionParams.toList_ofList (length_of_fieldsInRange h)]

theorem DriveProfile.ofList_inRange {v : List Nat} (h : fieldsInRange DriveProfile.fields v = true) :
    fieldsInRange DriveProfile.fields (DriveProfile.ofList v).toList = true := by
  rwa [DriveProfile.toList_ofList (length_of_fieldsInRange h)]

theorem FeederProfile.ofList_inRange (auto : Bool) {v : List Nat} (h : fieldsInRange FeederProfile.fields v = true) :
    fieldsInRange FeederProfile.fields (FeederProfile.ofList auto v).toList = true := by
  rwa [FeederProfile.toList_ofList auto (length_of_fieldsInRange h)]

/-! ### The stored image -/

/-- R180 (log 11): whatever the 311 bytes hold, the settings that they put in force lie in range. -/
theorem decodeImage_inRange (choice : Nat) (b : List Byte) : fieldsInRange GovParams.fields (decodeImage choice b).gov.toList = true
    ∧ fieldsInRange LevelParams.fields (decodeImage choice b).levels.toList = true
    ∧ fieldsInRange DispatchParams.fields (decodeImage choice b).dispatch.toList = true
    ∧ fieldsInRange RakeParams.fields (decodeImage choice b).rake.toList = true
    ∧ fieldsInRange SheddingParams.fields (decodeImage choice b).shedding.toList = true
    ∧ fieldsInRange CorrectionParams.fields (decodeImage choice b).correction.toList = true
    ∧ (∀ i : Fin 4, ∀ p, (decodeImage choice b).drives[i] = some p → fieldsInRange DriveProfile.fields p.toList = true)
    ∧ ∀ i : Fin 12, fieldsInRange FeederProfile.fields (decodeImage choice b).feeders[i].toList = true := by
  have hdrive : ∀ b p, takeDrive choice b = some p → fieldsInRange DriveProfile.fields p.toList = true := by
    intro b p h
    unfold takeDrive at h
    split at h
    · cases h; exact DriveProfile.ofList_inRange (settleFields_inRange choice (by decide) _)
    · cases h
  have hfeeder : ∀ b, fieldsInRange FeederProfile.fields (takeFeeder choice b).toList = true := fun b =>
    FeederProfile.ofList_inRange _ (settleFields_inRange choice (by decide) _)
  refine ⟨GovParams.ofList_inRange (settleFields_inRange choice (by decide) _),
    LevelParams.ofList_inRange (settleFields_inRange choice (by decide) _),
    DispatchParams.ofList_inRange (settleFields_inRange choice (by decide) _),
    RakeParams.ofList_inRange (settleFields_inRange choice (by decide) _),
    SheddingParams.ofList_inRange (settleFields_inRange choice (by decide) _),
    CorrectionParams.ofList_inRange (settleFields_inRange choice (by decide) _), fun i p => ?_, fun i => ?_⟩
  · fin_cases i <;> exact hdrive _ p
  · fin_cases i <;> exact hfeeder _

end Sys2Proof.Machine

/-! PROOFS. Every operation of the blocks is a chain of the elementary changes of the part. -/

namespace Sys2Proof.Machine

theorem Change.one {m : Bool} {s t : State} (h : Change m s t) : Changes m s t := .single h

theorem Calm.changes {m : Bool} {s t : State} (h : Calm [] s t) : Changes m s t := .single (.calm h)

theorem changes_post (m : Bool) (s : State) (r : Report) : Changes m s (post r s) := (calm_post [] s r).changes

theorem changes_arbitrate (m : Bool) (s : State) : Changes m s (arbitrate s) := (calm_arbitrate s).changes

theorem changes_foldl {m : Bool} {α : Type} {g : State → α → State} (hg : ∀ s a, Changes m s (g s a)) (l : List α) (s : State) :
    Changes m s (l.foldl g s) :=
  List.foldlRecOn (motive := fun t => Changes m s t) l g .refl fun _ ht a _ => ht.trans (hg _ a)

theorem changes_whenPowered {m : Bool} {s : State} {f : State → State} (h : Changes m s (f s)) : Changes m s (whenPowered s f) := by
  unfold whenPowered
  split
  · exact h
  · exact .refl

theorem changes_whenRunning {m : Bool} {s : State} {f : State → State} (t : Timer) (h : Changes m s (f s)) :
    Changes m s (whenRunning t s f) := by
  unfold whenRunning
  split
  · exact h
  · exact .refl

section
variable {m : Bool}

/-! ### The Calendar Unit -/

theorem changes_endCorrection (cause : EndCause) (s : State) : Changes m s (endCorrection cause s) :=
  (Change.one (.cu fun u => { u with correction := .inactive })).trans (changes_post m _ _)

theorem changes_startCorrection (dir : CorrectionState) (s : State) : Changes m s (startCorrection dir s) :=
  (Change.one (.cu fun u => { u with correction := dir })).trans (changes_post m _ _)

theorem changes_evaluateCorrection (s : State) : Changes m s (evaluateCorrection s) := by
  unfold evaluateCorrection
  split
  · split
    · exact changes_startCorrection _ s
    · exact .refl
  all_goals
    split
    · exact changes_endCorrection _ s
    · split
      · exact .refl
      · exact changes_endCorrection _ s

theorem changes_rangeTest (s : State) : Changes m s (rangeTest s) := by
  unfold rangeTest
  split
  · exact Change.one (.cu _)
  · exact .refl

theorem changes_evaluateTime (s : State) : Changes m s (evaluateTime s) := (changes_rangeTest s).trans (changes_evaluateCorrection _)

theorem changes_handLive (live : Bool) (s : State) : Changes m s (handLive live s) :=
  (Change.one (.cu fun u => { u with liveCopy := live })).trans (changes_evaluateCorrection _)

theorem changes_zeroTimeErrorNow (s : State) : Changes m s (zeroTimeErrorNow s) := by
  have h : Changes m s (s.onCu fun u => { u with e := 0, n := 0, zeroRequest := false, teRange := false }) := Change.one (.cu _)
  unfold zeroTimeErrorNow
  simp only []
  split
  · exact h
  · exact h.trans (changes_endCorrection _ _)

theorem changes_startTrimWindow (s : State) : Changes m s (startTrimWindow s) := by
  refine Change.one (.cu _ ?_)
  cases s.cu.pendingTrim <;> exact id

/-! ### The Gate Controller and the capacity -/

theorem changes_shortfallTest (s : State) : Changes m s (shortfallTest s) := (calm_shortfallTest [] s).changes

theorem changes_publishCapacity (s : State) : Changes m s (publishCapacity s) := by
  have h : Changes m s (s.onDa fun d => { d with capacity := s.gc.capacity }) := Change.one (.da _)
  unfold publishCapacity
  simp only []
  split
  · exact (h.trans (changes_shortfallTest _)).trans (changes_arbitrate m _)
  · split
    · exact h.trans (changes_shortfallTest _)
    · exact .refl

theorem changes_computeCapacity (s : State) : Changes m s (computeCapacity s) :=
  (Change.one (.gc fun g => { g with capacity := g.capacityNow })).trans (changes_publishCapacity _)

theorem changes_recomputeLimit (s : State) : Changes m s (recomputeLimit s) := by
  have hlim : ∀ h : s.GateInRange, s.gc.limitNow s.ss.standing ≤ 10000 ∧ s.gc.gFF ≤ 10000 := fun h =>
    ⟨(Nat.min_le_right _ _).trans h.forebay, h.forebay⟩
  exact (Change.one (.gc (fun g => { g with gLim := g.limitNow s.ss.standing }) (limits := hlim))).trans (changes_computeCapacity _)

theorem changes_governorStep (f : Nat) (s : State) : Changes true s (governorStep f s) :=
  (Change.one (.gate f rfl)).trans (changes_computeCapacity _)

/-! ### The Level Unit -/

theorem changes_postLevel (event : LevelEvent) (c : Option Channel) (raw : Nat) (s : State) : Changes m s (postLevel event c raw s) :=
  changes_post m _ _

theorem changes_onChannel (c : Channel) (g : LevelChannel → LevelChannel) (s : State) : Changes m s (s.onChannel c g) := by
  cases c with
  | pond => exact Change.one (.lu fun u => { u with pond := g u.pond })
  | forebay => exact Change.one (.lu fun u => { u with forebay := g u.forebay })

theorem changes_sampleChannel (c : Channel) (raw : Nat) (s : State) : Changes m s (sampleChannel c raw s) := by
  have h : Changes m s (s.onChannel c fun h => { h with lastRaw := raw, fault := !accepted raw }) := changes_onChannel c _ s
  unfold sampleChannel
  simp only []
  split
  · split
    · exact (h.trans (changes_postLevel _ _ _ _)).trans (changes_onChannel c _ _)
    · exact h.trans (changes_onChannel c _ _)
  · split
    · exact h
    · exact h.trans (changes_postLevel _ _ _ _)

/-- R43: the forebay gate limit is at most the copy of G_max. -/
theorem forebayLimit_le (u : LevelUnit) : u.forebayLimit ≤ u.gMaxCopy := by
  unfold LevelUnit.forebayLimit
  split
  · exact le_rfl
  · split
    · exact Nat.zero_le _
    · exact Nat.div_le_of_le_mul (by rw [Nat.mul_comm]; exact Nat.mul_le_mul_right _ (by omega))

theorem changes_publishForebayLimit (handOver : Bool) (s : State) : Changes m s (publishForebayLimit handOver s) := by
  unfold publishForebayLimit
  split
  · simp only []
    split
    · have hlu : Changes m s (s.onLu fun u => { u with gFF := some s.lu.forebayLimit }) := Change.one (.lu _)
      have hgc : Changes m (s.onLu fun u => { u with gFF := some s.lu.forebayLimit })
          ((s.onLu fun u => { u with gFF := some s.lu.forebayLimit }).onGc fun c => { c with gFF := s.lu.forebayLimit }) :=
        Change.one (.gc _ (limits := fun h => ⟨h.lim, (forebayLimit_le s.lu).trans h.copy⟩))
      exact (hlu.trans hgc).trans (changes_recomputeLimit _)
    · exact .refl
  · exact .refl

theorem changes_dueTrigger (cause : RakeCause) (s : State) : Changes m s (dueTrigger arbitrate cause s) :=
  (calm_dueTrigger arbitrate_arbitrates feedersOnly_nil cause s).changes

theorem changes_followRack (s : State) : Changes m s (followRack s) := by
  have h : Changes m s (s.onLu fun u => { u with rackLoss := u.rackLossNow }) := Change.one (.lu _)
  have hflag : ∀ (b : Bool) (x : State), Changes m x (x.onLu fun u => { u with rackHigh := b }) := fun b x => Change.one (.lu _)
  unfold followRack
  simp only []
  split
  · split
    · exact h
    · exact ((h.trans (hflag true _)).trans (changes_postLevel _ _ _ _)).trans (changes_dueTrigger _ _)
  · split
    · exact (h.trans (hflag false _)).trans (changes_postLevel _ _ _ _)
    · exact h

theorem changes_evaluateRack (s : State) : Changes m s (evaluateRack s) := by
  unfold evaluateRack
  split
  · exact .refl
  · exact changes_followRack s

theorem changes_setDrivePause (b : Bool) (s : State) : Changes m s (setDrivePause b s) :=
  ((Change.one (.lu fun u => { u with drivePause := b })).trans (changes_postLevel _ _ _ _)).trans (changes_arbitrate m _)

theorem changes_evaluatePause (s : State) : Changes m s (evaluatePause s) := by
  unfold evaluatePause
  split
  · split
    · split
      · exact .refl
      · exact changes_setDrivePause _ s
    · split
      · split
        · exact changes_setDrivePause _ s
        · exact .refl
      · exact .refl
  · exact .refl

theorem changes_levelSample (pond forebay : BitVec 12) (s : State) : Changes m s (levelSample pond forebay s) := by
  have h0 : Changes m s (s.onLu fun u => { u with sampleTimer := some Config.samplePeriod }) := Change.one (.lu _)
  have h := (h0.trans (changes_sampleChannel .pond pond.toNat _)).trans (changes_sampleChannel .forebay forebay.toNat _)
  unfold levelSample
  simp only []
  split
  · exact ((h.trans (changes_publishForebayLimit _ _)).trans (changes_evaluateRack _)).trans (changes_evaluatePause _)
  · exact (h.trans (changes_evaluateRack _)).trans (changes_evaluatePause _)

theorem changes_takeLevels {p : LevelParams} (hp : fieldsInRange LevelParams.fields p.toList = true) (s : State) :
    Changes m s (takeLevels p s) :=
  (((Change.one (.lu (fun u => { u with params := p }) (params := fun _ => hp))).trans (changes_publishForebayLimit _ _)).trans
    (changes_evaluateRack _)).trans (changes_evaluatePause _)

theorem changes_handOverGMax (s : State) : Changes m s (handOverGMax s) := by
  have hcopy : s.ParamsInRange → s.lu.gMaxCopy ≤ 10000 → s.gc.params.gMax ≤ 10000 := fun h _ => by
    have := h.gov
    simp only [GovParams.fields, GovParams.toList, fieldsInRange_cons] at this
    omega
  exact (Change.one (.lu (fun u => { u with gMaxCopy := s.gc.params.gMax }) (copy := hcopy))).trans (changes_publishForebayLimit _ _)

theorem changes_takeGovernor {p : GovParams} (hp : fieldsInRange GovParams.fields p.toList = true) (s : State) :
    Changes m s (takeGovernor p s) := by
  have hite : ∀ {c : Prop} [Decidable c] {f : State → State} (_ : ∀ x, Changes m x (f x)) (x : State), Changes m x (if c then f x else x) := by
    intro c _ f hf x
    split
    · exact hf x
    · exact .refl
  exact (((Change.one (.gc (fun g => { g with params := p }) (params := fun _ => hp))).trans (hite changes_recomputeLimit _)).trans
    (hite changes_handOverGMax _)).trans (hite changes_computeCapacity _)

end

end Sys2Proof.Machine

/-! PROOFS. The operations of the Account Store, the Station Sequencer, the Watch Unit and the calendar second are chains of the elementary
changes of the part. -/

namespace Sys2Proof.Machine

section
variable {m : Bool}

/-! ### The Account Store -/

/-- What the arbiter over the array starts or stops keeps the fault flag, the read job, the array and the commissioning block. -/
structure StoreKept (a b : AccountStore) : Prop where
  fault : b.fault = a.fault
  readJob : b.readJob = a.readJob
  array : b.array = a.array
  commissioning : b.commissioning = a.commissioning

theorem StoreKept.refl (a : AccountStore) : StoreKept a a := ⟨rfl, rfl, rfl, rfl⟩

theorem StoreKept.changes {s : State} {g : AccountStore → AccountStore} (h : StoreKept s.store (g s.store)) : Changes m s (s.onStore g) :=
  Change.one (.store g (fault := h.fault) (readJob := by rw [h.readJob]) (array := by rw [h.array]; exact id)
    (locked := fun _ => h.commissioning) (unused := by rw [h.commissioning]))

theorem startProgram_kept (next : StoreState) (a : AccountStore) {b : AccountStore} (h : a.startProgram next = some b) : StoreKept a b := by
  unfold AccountStore.startProgram at h
  split at h
  · split at h
    · cases h; exact ⟨rfl, rfl, rfl, rfl⟩
    · cases h
  · split at h
    · obtain ⟨j, _, rfl⟩ := Option.map_eq_some_iff.mp h; exact ⟨rfl, rfl, rfl, rfl⟩
    · split at h
      · obtain ⟨j, _, rfl⟩ := Option.map_eq_some_iff.mp h; exact ⟨rfl, rfl, rfl, rfl⟩
      · cases h

theorem startErase_kept (a : AccountStore) : StoreKept a a.startErase := by
  unfold AccountStore.startErase
  split
  · exact ⟨rfl, rfl, rfl, rfl⟩
  · exact .refl a

theorem chooseWork_kept (a : AccountStore) : StoreKept a a.chooseWork := by
  unfold AccountStore.chooseWork
  split
  · next h => exact startProgram_kept _ a h
  · exact startErase_kept a

theorem resumeErase_kept (a : AccountStore) : StoreKept a a.resumeErase := ⟨rfl, rfl, rfl, rfl⟩

theorem suspendedStart_kept (a : AccountStore) : StoreKept a a.suspendedStart := by
  unfold AccountStore.suspendedStart
  split
  · exact ⟨rfl, rfl, rfl, rfl⟩
  · split
    · next h => exact startProgram_kept _ a h
    · exact resumeErase_kept a

theorem suspendAtFifty_kept (a : AccountStore) : StoreKept a a.suspendAtFifty := by
  unfold AccountStore.suspendAtFifty
  split
  · simp only []
    split
    · exact ⟨rfl, rfl, rfl, rfl⟩
    · exact .refl a
  · exact .refl a

theorem requestErase_kept (k : Fin 16) (a : AccountStore) : StoreKept a (a.requestErase k) := by
  unfold AccountStore.requestErase
  split
  · exact .refl a
  · exact ⟨rfl, rfl, rfl, rfl⟩

theorem eraseAhead_kept (k : Fin 16) (a : AccountStore) : StoreKept a (a.eraseAhead k) := by
  unfold AccountStore.eraseAhead
  split
  · split
    · exact .refl a
    · exact requestErase_kept k a
  · exact .refl a

theorem scanErase_kept (j : Journal) (a : AccountStore) : StoreKept a (a.scanErase j) := by
  unfold AccountStore.scanErase
  split
  · exact requestErase_kept _ a
  · exact eraseAhead_kept _ a

theorem changes_serveReads (n : Nat) (s : State) : Changes m s (serveReads n s) := by
  induction n generalizing s with
  | zero => exact .refl
  | succ n ih =>
    unfold serveReads
    split
    · next p _ => exact (Change.one (.pageRead p)).trans (ih _)
    · exact .refl

theorem changes_kick (s : State) : Changes m s (kick s) := by
  unfold kick
  split
  · exact (changes_serveReads 2 s).trans (StoreKept.changes (chooseWork_kept _))
  · split
    · exact StoreKept.changes ⟨rfl, rfl, rfl, rfl⟩
    · exact .refl
  all_goals exact .refl

theorem changes_abandonCheckpoint (s : State) : Changes m s (abandonCheckpoint s) := by
  unfold abandonCheckpoint
  split
  · exact (StoreKept.changes (g := fun a => { a with checkpoint := none }) ⟨rfl, rfl, rfl, rfl⟩).trans (changes_post m _ _)
  · exact .refl

theorem changes_storeFailed (op : StoreOp) (sector : Fin 16) (page : Option (Fin 16)) (s : State) :
    Changes m s (storeFailed op sector page s) := by
  unfold storeFailed
  split
  · exact changes_post m _ _
  · exact ((Change.one .storeFault).trans (changes_post m _ _)).trans (changes_abandonCheckpoint _)

theorem changes_configDone (s : State) : Changes m s (configDone s) :=
  (StoreKept.changes (g := fun a => { a with configJob := none, configDefault := false, protect := true }) ⟨rfl, rfl, rfl, rfl⟩).trans
    (changes_post m _ _)

theorem changes_configFailed (page : Option (Fin 16)) (s : State) : Changes m s (configFailed page s) :=
  (StoreKept.changes (g := fun a => { a with configJob := none, protect := true }) ⟨rfl, rfl, rfl, rfl⟩).trans (changes_storeFailed _ _ _ _)

theorem changes_lookUpTariff (s : State) : Changes m s (lookUpTariff s) :=
  Change.one (.mu fun u => { u with index := tariffIndex u.bands s.cu.calendar.minuteOfDay })

theorem changes_tariffOutcome (passed : Bool) (s : State) : Changes m s (tariffOutcome passed s) := by
  unfold tariffOutcome
  split
  · next _ b _ => exact (Change.one (.mu fun u => { u with bands := b, pendingBands := none })).trans (changes_lookUpTariff _)
  · exact Change.one (.mu _)

theorem changes_tariffDone (s : State) : Changes m s (tariffDone s) :=
  ((StoreKept.changes (g := fun a => { a with tariffJob := none, protect := true }) ⟨rfl, rfl, rfl, rfl⟩).trans
    (changes_tariffOutcome true _)).trans (changes_post m _ _)

theorem changes_tariffFailed (page : Option (Fin 16)) (s : State) : Changes m s (tariffFailed page s) :=
  ((StoreKept.changes (g := fun a => { a with tariffJob := none, protect := true }) ⟨rfl, rfl, rfl, rfl⟩).trans
    (changes_tariffOutcome false _)).trans (changes_storeFailed _ _ _ _)

/-- Chapter 10: a write within the 64 KiB. -/
theorem changes_writeArray {a n : Nat} (h : a + n ≤ 65536) (bytes : List Byte) (s : State) : Changes m s (writeArray a n bytes s) :=
  Change.one (.store _ (array := fun hw => Flash.wf_replace hw h bytes))

theorem journalBase_le (p : Fin 224) : journalBase p + 256 ≤ 65536 := by
  have h1 := (sectorOf p).isLt
  have h2 := (pageOf p).isLt
  unfold journalBase pageBase
  omega

theorem sectorBase_le (k : Fin 16) : sectorBase k + 4096 ≤ 65536 := by
  have := k.isLt
  unfold sectorBase
  omega

theorem changes_nextChoice (s : State) : Changes m s s.nextChoice := Change.one .choice

theorem changes_noImage {x : Nat} (hx : x < 313) (s : State) : Changes m s (noImage x s) := by
  unfold noImage
  split
  · exact changes_writeArray (by omega) _ s
  · exact .refl

/-- R173: the bytes that a left page or sector is changed at lie in the image or its CRC-16. -/
theorem spoiled_bytes_lt (choice : Nat) : pageZeroByte choice < 313 ∧ pageOneByte choice < 313 ∧ sectorZeroByte choice < 313 := by
  unfold pageZeroByte pageOneByte sectorZeroByte
  refine ⟨?_, ?_, ?_⟩ <;> split <;> omega

theorem changes_leaveConfigPage (second : Bool) (bytes : List Byte) (s : State) : Changes m s (leaveConfigPage second bytes s) := by
  obtain ⟨h0, h1, _⟩ := spoiled_bytes_lt s.choices
  have hbase : (if second then 256 else 0) + 256 ≤ 65536 := by split <;> omega
  have hbyte : (if second then pageOneByte s.choices else pageZeroByte s.choices) < 313 := by split <;> assumption
  exact ((changes_writeArray hbase bytes s).trans (changes_nextChoice _)).trans (changes_noImage hbyte _)

theorem changes_programJournal (p : Fin 224) (written : List Byte) (passed : Bool) (s : State) :
    Changes m s (programJournal p written passed s) := by
  unfold programJournal
  split
  · exact changes_writeArray (journalBase_le p) _ s
  · exact (changes_writeArray (journalBase_le p) _ s).trans (changes_nextChoice _)

theorem changes_programConfig (second : Bool) (written : List Byte) (passed : Bool) (s : State) :
    Changes m s (programConfig second written passed s) := by
  unfold programConfig
  simp only []
  split
  · exact changes_writeArray (by split <;> omega) _ s
  · exact changes_leaveConfigPage _ _ s

theorem changes_programTariff (written : List Byte) (passed : Bool) (s : State) : Changes m s (programTariff written passed s) := by
  have h : sectorBase 1 + 256 ≤ 65536 := by decide
  unfold programTariff
  split
  · exact changes_writeArray h _ s
  · exact (changes_writeArray h _ s).trans (changes_nextChoice _)

theorem changes_leaveSector (k : Fin 16) (first : Bool) (s : State) : Changes m s (leaveSector k first s) := by
  have h : ∀ bytes, Changes m s (writeArray (sectorBase k) 4096 bytes s).nextChoice := fun bytes =>
    (changes_writeArray (sectorBase_le k) bytes s).trans (changes_nextChoice _)
  unfold leaveSector
  simp only []
  split
  · exact (h _).trans (changes_noImage (spoiled_bytes_lt s.choices).2.2 _)
  · exact h _

theorem changes_eraseArray (k : Fin 16) (passed : Bool) (s : State) : Changes m s (eraseArray k passed s) := by
  unfold eraseArray
  split
  · exact changes_writeArray (sectorBase_le k) _ s
  · exact changes_leaveSector k false s

theorem changes_checkpointPageDone (p : Fin 224) (second passed : Bool) (s : State) :
    Changes m s (checkpointPageDone p second passed s) := by
  unfold checkpointPageDone
  split
  · next c _ =>
    have hjournal : ∀ (e : PageEntry) (x : State), Changes m x (x.onStore fun a => { a with journal := a.journal.map fun j => j.setEntry p e }) :=
      fun e x => StoreKept.changes ⟨rfl, rfl, rfl, rfl⟩
    have hcheckpoint : ∀ x : State, Changes m x (x.onStore fun a => { a with checkpoint := none }) :=
      fun x => StoreKept.changes ⟨rfl, rfl, rfl, rfl⟩
    have hahead : ∀ x : State, Changes m x (if pageOf p = 0 then x.onStore fun a => a.eraseAhead (nextSector (sectorOf p)) else x) := by
      intro x
      split
      · exact StoreKept.changes (eraseAhead_kept _ _)
      · exact .refl
    have h := ((changes_programJournal (m := m) p (c.page second) passed s).trans
      (hjournal (if passed then c.pageEntry second else .spoiled) _)).trans (hahead _)
    simp only []
    generalize (ite (pageOf p = 0) _ _ : State) = t at h ⊢
    split
    · split
      · exact (h.trans (hcheckpoint _)).trans (changes_post m _ _)
      · exact h
    · exact ((h.trans (hcheckpoint _)).trans (changes_storeFailed _ _ _ _)).trans (changes_post m _ _)
  · exact .refl

theorem changes_configPageDone (second passed : Bool) (s : State) : Changes m s (configPageDone second passed s) := by
  unfold configPageDone
  split
  · simp only []
    have h := fun w => changes_programConfig (m := m) second w passed s
    split
    · split
      · exact (h _).trans (changes_configDone _)
      · exact h _
    · exact (h _).trans (changes_configFailed _ _)
  · exact .refl

theorem changes_tariffPageDone (passed : Bool) (s : State) : Changes m s (tariffPageDone passed s) := by
  unfold tariffPageDone
  split
  · simp only []
    split
    · exact (changes_programTariff _ _ s).trans (changes_tariffDone _)
    · exact (changes_programTariff _ _ s).trans (changes_tariffFailed _ _)
  · exact .refl

theorem changes_flightDone (f : Flight) (passed : Bool) (s : State) : Changes m s (flightDone f passed s) := by
  cases f with
  | checkpointPage p second => exact changes_checkpointPageDone p second passed s
  | configPage second => exact changes_configPageDone second passed s
  | tariffPage => exact changes_tariffPageDone passed s
  | readPage => exact .refl

theorem changes_programDone (passed : Bool) (s : State) : Changes m s (programDone passed s) := by
  unfold programDone
  split
  · next f _ _ =>
    have h : Changes m s (s.onStore fun a => { a with state := .ready, flight := none }) := StoreKept.changes ⟨rfl, rfl, rfl, rfl⟩
    exact (h.trans (changes_flightDone f passed _)).trans (changes_kick _)
  · next f _ _ => exact ((StoreKept.changes (resumeErase_kept _)).trans (changes_flightDone f passed _)).trans (changes_kick _)
  · exact .refl

theorem changes_eraseOutcome (k : Fin 16) (passed : Bool) (s : State) : Changes m s (eraseOutcome k passed s) := by
  unfold eraseOutcome
  split
  · split
    · exact StoreKept.changes ⟨rfl, rfl, rfl, rfl⟩
    · exact changes_configFailed _ s
  · split
    · split
      · exact StoreKept.changes ⟨rfl, rfl, rfl, rfl⟩
      · exact changes_tariffFailed _ s
    · split
      · exact .refl
      · exact changes_storeFailed _ _ _ s

theorem changes_eraseDone (passed : Bool) (s : State) : Changes m s (eraseDone passed s) := by
  unfold eraseDone
  split
  · next e _ _ =>
    have h : Changes m (eraseArray e.sector passed s) _ := changes_eraseOutcome e.sector passed _
    have hready : Changes m s (s.onStore fun a =>
        { a with state := .ready, erase := none, journal := a.journal.map fun j => j.freshen e.sector }) :=
      StoreKept.changes ⟨rfl, rfl, rfl, rfl⟩
    exact ((hready.trans (changes_eraseArray e.sector passed _)).trans (changes_eraseOutcome e.sector passed _)).trans (changes_kick _)
  · exact .refl

theorem changes_readDone (s : State) : Changes m s (readDone s) := by
  unfold readDone
  split
  · next p _ _ => exact ((StoreKept.changes (resumeErase_kept _)).trans (Change.one (.pageRead p))).trans (changes_kick _)
  · exact .refl

theorem changes_takeCheckpoint (t : Trigger) (j : Journal) (s : State) : Changes m s (takeCheckpoint t j s) :=
  .trans (StoreKept.changes (g := fun a => { a with
    checkpoint := some
      { trigger := t, firstSequence := j.nextSequence, time := s.cu.calendar.seconds, cold := s.cu.clockCold
        snapshots := snapshots s.mu, started := 0, firstPage := none }
    journal := some { j with nextSequence := j.nextSequence + 12 } }) ⟨rfl, rfl, rfl, rfl⟩) (changes_kick _)

theorem changes_checkpointTrigger (t : Trigger) (s : State) : Changes m s (checkpointTrigger t s) := by
  have hskip : ∀ cause, Changes m s (postSkipped t cause s) := fun cause => changes_post m _ _
  unfold checkpointTrigger
  split
  · exact hskip _
  · split
    · exact hskip _
    · split
      · split
        · exact hskip _
        · exact changes_takeCheckpoint t _ s
      · exact hskip _

theorem changes_recoverAccounts (a : Flash) (s : State) : Changes m s (recoverAccounts a s) := by
  refine changes_foldl (fun x i => Change.one (.mu _ fun h j => ?_)) allFeeders s
  have e : ((x.onAccount i fun b => b.restore (latestOf a i)).account j).residue = (x.account j).residue := by
    rw [State.onAccount_account]
    split
    · next e => subst e; unfold Account.restore; split <;> rfl
    · rfl
  exact e.trans_lt (h j)

theorem changes_scanComplete (s : State) : Changes m s (scanComplete s) := by
  unfold scanComplete
  split
  · simp only []
    have h1 : Changes m s (s.onStore fun a => { a with journal := some (scanJournal s.store.array) }) := StoreKept.changes ⟨rfl, rfl, rfl, rfl⟩
    have h2 := h1.trans (changes_recoverAccounts s.store.array _)
    have hscan : ∀ x : State, Changes m x (x.onStore fun a => { a with startup := .complete }.scanErase (scanJournal s.store.array)) := by
      intro x
      obtain ⟨e1, e2, e3, e4⟩ := scanErase_kept (scanJournal s.store.array) { x.store with startup := .complete }
      exact StoreKept.changes ⟨e1, e2, e3, e4⟩
    have h3 := ((h2.trans (hscan _)).trans (changes_kick _))
    have hstart : ∀ x : State, Changes m x (x.onSl fun l => { l with startup := false }) := fun x =>
      Change.one (.sl _ (bounds := fun h => ⟨h.queue, h.frames, h.reports, h.badFrames, h.overruns, h.lostReports⟩))
    exact (h3.trans (hstart _)).trans (changes_post m _ _)
  all_goals exact .refl

theorem changes_startJournal (p : Fin 224) (s : State) : Changes m s (s.onStore fun a => { a with readRequest := some p }) :=
  StoreKept.changes ⟨rfl, rfl, rfl, rfl⟩

end

end Sys2Proof.Machine

/-! PROOFS. The events of the shaft, the station and the watch inputs as chains of the elementary changes. -/

namespace Sys2Proof.Machine

section
variable {m : Bool}

/-! ### The Station Sequencer -/

theorem changes_feedHold (b : Bool) (s : State) : Changes m s (s.onDs fun d => { d with feedHold := b }) := Change.one (.feedHold b)

/-- R29, R32: leaving a state for STOPPING or TRIPPED, after what the Station Sequencer sets first. -/
theorem changes_leaveFor {new : StationState} {cause : StationCause} {c : DownCause} {g : Sequencer → Sequencer} {s : State}
    (old : s.ss.station ≠ .tripped) (hnew : new ≠ .live) (drive : c.drive ≠ .shortfall)
    (station : (g s.ss).station = s.ss.station) (source : (g s.ss).alarmSource = s.ss.alarmSource)
    (inverted : (g s.ss).alarmInverted = s.ss.alarmInverted) (relay : (g s.ss).alarmRelay = s.ss.alarmRelay)
    (capture : (g s.ss).capture.isSome = (s.ss.capture.isSome || decide (new = .tripped))) :
    Changes m s (leaveFor new cause c (s.onSs g)) := by
  have hev := Change.one (.evicted (moves := m) (s := s) new cause c (fun q => { g q with standing := false }) old hnew
    drive station rfl source inverted relay capture)
  have e : leaveFor new cause c (s.onSs g) =
      if (g s.ss).standing then
        recomputeLimit ((evict new cause c (fun q => { g q with standing := false }) s).onDs fun d => { d with feedHold := false })
      else (evict new cause c (fun q => { g q with standing := false }) s).onDs fun d => { d with feedHold := false } := by
    have hset : (s.onSs g).onSs (fun q => { q with standing := false }) = s.onSs fun q => { g q with standing := false } := rfl
    have hcomm : ∀ x : State, (x.onDs fun d => { d with feedHold := false }).onSs (fun q => { q with fieldClosed := false })
        = (x.onSs fun q => { q with fieldClosed := false }).onDs fun d => { d with feedHold := false } := fun _ => rfl
    unfold leaveFor evict handOff
    simp only [hset, hcomm, State.onSs_ss, station]
  rw [e]
  split
  · exact (hev.trans (changes_feedHold _ _)).trans (changes_recomputeLimit _)
  · exact hev.trans (changes_feedHold _ _)

theorem changes_stationStop {cause : StationCause} {s : State} (h : s.ss.station ≠ .tripped) : Changes m s (stationStop cause s) :=
  changes_leaveFor h (by decide) (by decide) rfl rfl rfl rfl (by simp)

theorem changes_takeTrip (cause : TripCause) (f : Nat) (s : State) : Changes m s (takeTrip cause f s) := by
  unfold takeTrip
  simp only []
  split
  · next htrip =>
    have hcapture : Changes m s (fillCapture cause f s) := by
      cases hc : s.ss.capture with
      | none =>
        have e : fillCapture cause f s = s.onSs fun q => { q with capture := some (tripRecord cause f s) } := by
          unfold fillCapture State.onSs
          simp only [hc]
        exact e ▸ Change.one (.overflow _ htrip)
      | some r =>
        have e : fillCapture cause f s = s.onSs fun q => { q with capture := some { r with overflow := true } } := by
          unfold fillCapture State.onSs
          simp only [hc]
        exact e ▸ Change.one (.overflow _ htrip)
    exact hcapture.trans (changes_post m _ _)
  · next htrip =>
    refine .trans (changes_leaveFor (s := s) (g := fun q => { (fillCapture cause f (s.onSs fun _ => q)).ss with
      startTimer := none, settleTimer := none, underspeedTimer := none, runDownTimer := none
      runDownMark := false }) htrip (by decide) (by decide) rfl rfl rfl rfl ?_) (changes_post m _ _)
    cases hc : s.ss.capture <;> simp [fillCapture, State.onSs, hc]

/-- R29: the states in which STOP is taken do not include TRIPPED. -/
theorem not_tripped_of_stoppable {x : StationState} (h : x.stoppable = true) : x ≠ .tripped := by
  rintro rfl
  exact absurd h (by decide)

theorem changes_setSequencer (s : State) (g : Sequencer → Sequencer) (station : (g s.ss).station = s.ss.station := by rfl)
    (standing : (g s.ss).standing = s.ss.standing := by rfl) (field : (g s.ss).fieldClosed = s.ss.fieldClosed := by rfl)
    (source : (g s.ss).alarmSource = s.ss.alarmSource := by rfl) (inverted : (g s.ss).alarmInverted = s.ss.alarmInverted := by rfl)
    (relay : (g s.ss).alarmRelay = s.ss.alarmRelay := by rfl)
    (capture : (g s.ss).capture.isSome = s.ss.capture.isSome := by rfl) : Changes m s (s.onSs g) :=
  Change.one (.ss g station standing field source inverted relay capture)

/-- R30: entry to STOPPED at the end of a run-down. -/
theorem changes_enterStopped_runDown {s : State} (h : s.ss.station = .stopping) : Changes m s (enterStopped .runDown s) := by
  have h1 : Changes m s (s.onSs fun q => { q with runDownTimer := none, runDownMark := false }) := changes_setSequencer s _
  have h2 : Changes m (s.onSs fun q => { q with runDownTimer := none, runDownMark := false }) _ :=
    Change.one (.moved .stopped .runDown (by rw [State.onSs_ss]; exact ⟨by simp [h], by simp [h]⟩) (by decide))
  exact (h1.trans h2).trans (changes_checkpointTrigger _ _)

/-- R35: entry to STOPPED at a CLEAR_TRIP, which has emptied the capture. -/
theorem changes_enterStopped_clear {s : State} (h : s.ss.station = .tripped) :
    Changes m s (enterStopped .clear (s.onSs fun q => { q with capture := none })) := by
  have h1 : Changes m s (setStation .stopped .clear (s.onSs fun q => { q with capture := none, runDownTimer := none, runDownMark := false })) :=
    Change.one (.cleared _ h)
  exact h1.trans (changes_checkpointTrigger _ _)

theorem changes_bumpless (s : State) : Changes m s (bumpless s) := Change.one (.gc _)

theorem changes_enterRunUp {s : State} (h : s.ss.station = .starting) : Changes m s (enterRunUp s) := by
  have h1 : Changes m (bumpless s) (enterRunUp s) :=
    Change.one (.moved .runUp .speed (by simp [bumpless, h]) (by decide))
  exact (changes_bumpless s).trans h1

theorem changes_rakeRequest (s : State) : Changes m s (rakeRequest arbitrate s) :=
  (calm_rakeRequest arbitrate_arbitrates feedersOnly_nil s).changes

theorem changes_autoConnect {s : State} (h : s.ss.station = .live) : Changes m s (autoConnect arbitrate s) :=
  (calm_autoConnect arbitrate_arbitrates feedersOnly_nil h).changes

theorem changes_requestsAtLive {s : State} (h : s.ss.station = .live) : Changes m s (requestsAtLive s) := by
  unfold requestsAtLive
  split
  · have hcalm := calm_rakeRequest (arb := arbitrate) arbitrate_arbitrates feedersOnly_nil s.nextChoice
    exact ((changes_nextChoice s).trans hcalm.changes).trans (changes_autoConnect (hcalm.station.trans h))
  · exact ((changes_nextChoice s).trans (changes_autoConnect h)).trans (changes_rakeRequest _)

theorem changes_enterLive {s : State} (h : s.ss.station = .runUp) : Changes m s (enterLive s) := by
  have h1 : Changes m s (setStation .live .settled (s.onSs fun q => { q with fieldClosed := true, startTimer := none, settleTimer := none })) :=
    Change.one (.goesLive _ h)
  exact (h1.trans (changes_requestsAtLive (setStation_flags _ _ _).1)).trans (changes_handLive _ _)

theorem changes_runDownTest (f : Nat) {s : State} (h : s.ss.station = .stopping) : Changes m s (runDownTest f s) := by
  unfold runDownTest
  split
  · exact changes_enterStopped_runDown h
  · exact .refl

theorem changes_stationStep (f : Nat) (s : State) : Changes m s (stationStep f s) := by
  unfold stationStep
  split
  · next h =>
    split
    · exact changes_takeTrip _ f s
    · split
      · exact changes_enterRunUp h
      · exact .refl
  · split
    · exact changes_takeTrip _ f s
    · split <;> exact changes_setSequencer s _
  · split
    · exact changes_takeTrip _ f s
    · split <;> exact changes_setSequencer s _
  · next h =>
    split
    · exact changes_takeTrip _ f s
    · exact changes_runDownTest f h
  all_goals exact .refl

theorem changes_feederStep (f : Nat) (s : State) : Changes m s (feederStep arbitrate giveSpace f s) :=
  (calm_feederStep arbitrate_arbitrates giveSpace_arbitrates f s).changes

theorem changes_feedHoldStep (f : Nat) (s : State) : Changes m s (feedHoldStep arbitrate f s) := by
  obtain ⟨b, h⟩ := calm_feedHoldStep arbitrate_arbitrates f s
  exact (changes_feedHold b s).trans h.changes

/-- R5: a control step, whatever the order of its four blocks; the gate moves in its governor step. -/
theorem changes_controlStep (f : Nat) (s : State) : Changes true s (controlStep f s) := by
  refine (changes_nextChoice s).trans (List.foldlRecOn (motive := fun t => Changes true s.nextChoice t) _ _ .refl fun t ht part hpart => ?_)
  rcases mem_order4 hpart with rfl | rfl | rfl | rfl
  · exact ht.trans (changes_governorStep f t)
  · exact ht.trans (changes_stationStep f t)
  · exact ht.trans (changes_feederStep f t)
  · exact ht.trans (changes_feedHoldStep f t)

theorem changes_withdrawDrives (cause : ExpiredCause) (s : State) : Changes m s (withdrawDrives cause s) :=
  (calm_withdrawDrives cause s).changes

theorem changes_standingOn {s : State} (h : s.ss.station = .live) : Changes m s (standingOn s) := by
  have h1 : Changes m s (s.onSs fun q => { q with standing := true }) := Change.one (.standing true fun _ => h)
  exact ((h1.trans (changes_post m _ _)).trans (changes_withdrawDrives _ _)).trans (changes_recomputeLimit _)

theorem changes_standingOff (s : State) : Changes m s (standingOff s) := by
  have h1 : Changes m s (s.onSs fun q => { q with standing := false }) := Change.one (.standing false (by simp))
  exact (h1.trans (changes_post m _ _)).trans (changes_recomputeLimit _)

/-! ### The Watch Unit -/

theorem changes_drivesOut (s : State) : Changes m s (drivesOut s) :=
  (changes_withdrawDrives _ s).trans (calm_forcedOutAll arbitrate_arbitrates feedersOnly_nil (by decide) _ _).changes

theorem changes_watchAct (i : Fin 4) (a : WatchAction) (s : State) : Changes m s (watchAct i a s) := by
  cases a with
  | report => exact .refl
  | rake => exact changes_dueTrigger _ s
  | drivesOut => exact changes_drivesOut s
  | stop =>
    unfold watchAct
    simp only []
    split
    · next h => exact changes_stationStop (not_tripped_of_stoppable h)
    · exact .refl
  | trip => exact changes_takeTrip _ _ s

theorem changes_detect (i : Fin 4) (s : State) : Changes m s (detect i s) :=
  ((Change.one (.latch i true)).trans (changes_post m _ _)).trans (changes_watchAct i _ _)

theorem changes_arm (i : Fin 4) (s : State) : Changes m s (arm i s) := by
  unfold arm
  split
  · exact changes_detect i s
  · exact .refl

theorem changes_onInput (i : Fin 4) (g : WatchInput → WatchInput) (s : State) (h : (g (s.input i)).latched = (s.input i).latched) :
    Changes m s (s.onInput i g) := by
  refine Change.one (.wu _ fun j => ?_)
  change ((s.onInput i g).input j).latched = (s.input j).latched
  rw [State.onInput_input]
  split
  · next e => exact e ▸ h
  · rfl

theorem changes_watchTransition (i : Fin 4) (high : Bool) (s : State) : Changes m s (watchTransition i high s) := by
  have h : Changes m s (s.onWu fun u => { u with pins := u.pins.set i high }) := Change.one (.wu _)
  unfold watchTransition
  simp only []
  split
  · exact h.trans (changes_detect i _)
  · exact h

theorem changes_sampleInput (s : State) (i : Fin 4) : Changes m s (sampleInput s i) := by
  unfold sampleInput
  simp only []
  split
  · split
    · split
      · exact changes_detect i s
      · exact changes_onInput i _ s rfl
    · exact changes_onInput i _ s rfl
  · exact .refl

theorem changes_watchSample (s : State) : Changes m s (watchSample s) := by
  have h : Changes m s (s.onWu fun u => { u with sampleTimer := some Config.samplePeriod }) := Change.one (.wu _)
  exact (h.trans (changes_nextChoice _)).trans (changes_foldl changes_sampleInput _ _)

theorem changes_setInput (i : Fin 4) (mode : WatchMode) (filterCount : Nat) (action : WatchAction) (s : State) :
    Changes m s (setInput i mode filterCount action s) := by
  have h : Changes m s (s.onInput i fun w =>
      { w with
        setting := { mode := mode, filterCount := if mode.isLevel then filterCount else w.setting.filterCount, action := action }
        counter := 0 }) := changes_onInput i _ s rfl
  unfold setInput
  generalize s.onInput i _ = t at h ⊢
  simp only []
  split
  · exact h
  · exact h.trans (changes_arm i _)

theorem changes_acknowledge (i : Fin 4) (s : State) : Changes m s (acknowledge i s) := by
  unfold acknowledge
  split
  · exact ((Change.one (.latch i false)).trans (changes_post m _ _)).trans (changes_arm i _)
  · exact .refl

theorem changes_takeWatchSettings (settings : Vector WatchSetting 4) (s : State) : Changes m s (takeWatchSettings settings s) :=
  changes_foldl (fun x i => changes_onInput i _ x rfl) _ s

theorem changes_armAll (s : State) : Changes m s (armAll s) := by
  refine (changes_nextChoice s).trans (changes_foldl (fun x i => ?_) _ _)
  split
  · exact .refl
  · exact changes_arm i x

end

end Sys2Proof.Machine

/-! PROOFS. The calendar second, the measurement window, the load of the configuration, and the timers of the owners as chains of the
elementary changes. -/

namespace Sys2Proof.Machine

section
variable {m : Bool}

/-! ### The calendar second -/

/-- R155: an account written below 3600 of residue keeps every residue there. -/
theorem changes_onAccount (i : Fin 12) (g : Account → Account) (s : State)
    (h : (s.account i).residue < 3600 → (g (s.account i)).residue < 3600) : Changes m s (s.onAccount i g) := by
  refine Change.one (.mu _ fun hs j => ?_)
  change ((s.onAccount i g).account j).residue < 3600
  rw [State.onAccount_account]
  split
  · next e => subst e; exact h (hs i)
  · exact hs j

theorem changes_meterFeeder (products : Vector (BitVec 24) 12) (s : State) (i : Fin 12) : Changes m s (meterFeeder products s i) := by
  unfold meterFeeder
  simp only []
  split
  · exact changes_onAccount i _ s fun _ => Nat.mod_lt _ (by decide)
  · exact changes_onAccount i _ s id

theorem changes_capCheck (i : Fin 12) (s : State) : Changes m s (capCheck arbitrate i s) := (calm_capCheck arbitrate_arbitrates i s).changes

theorem changes_meterSecond (products : Vector (BitVec 24) 12) (s : State) : Changes m s (meterSecond products s) :=
  ((changes_lookUpTariff s).trans (changes_foldl (changes_meterFeeder products) _ _)).trans
    (changes_foldl (fun x i => changes_capCheck i x) _ _)

theorem changes_dayEvent (s : State) : Changes m s (dayEvent s) := by
  refine Change.one (.mu _ fun hs i => ?_)
  have h := hs i
  unfold State.account State.onMu at *
  simpa [map12_getElem] using h

theorem changes_hourEvents (s : State) : Changes m s (hourEvents s) := by
  unfold hourEvents
  simp only []
  split
  · split
    · exact (changes_checkpointTrigger _ s).trans (changes_dayEvent _)
    · exact changes_checkpointTrigger _ s
  · exact .refl

theorem changes_calendarSecond (products : Vector (BitVec 24) 12) (s : State) : Changes m s (calendarSecond products s) := by
  have h : Changes m s (s.onCu CalendarUnit.second) := Change.one (.cu _)
  have hrest : ∀ x : State, Changes m x (evaluateTime (handSecond products x)) := fun x =>
    (changes_whenPowered (f := fun s => hourEvents (meterSecond products s)) ((changes_meterSecond products x).trans (changes_hourEvents _))).trans (changes_evaluateTime _)
  unfold calendarSecond
  simp only []
  split
  · exact (h.trans (changes_zeroTimeErrorNow _)).trans (hrest _)
  · exact h.trans (hrest _)

theorem changes_generatorCrossing (s : State) : Changes m s (generatorCrossing s) := by
  unfold generatorCrossing
  split
  · have h : Changes m s (s.onCu fun u => { u with n := u.n + 1 }) := Change.one (.cu _)
    exact h.trans (changes_evaluateTime _)
  · exact .refl

/-! ### The measurement window -/

theorem changes_smu (g : SpeedUnit → SpeedUnit) (s : State) : Changes m s (s.onSmu g) := Change.one (.smu g)

theorem toothEdge_of_short {ticks : Nat} {s : State} (h : ¬(s.smu.edge ticks).toothCount ≥ 24) :
    toothEdge ticks s = s.onSmu fun _ => s.smu.edge ticks := by
  unfold toothEdge
  simp only [h, if_false]

theorem toothEdge_of_complete {ticks : Nat} {s : State} (h : (s.smu.edge ticks).toothCount ≥ 24) :
    toothEdge ticks s = controlStep (windowFrequency (s.smu.edge ticks).ticks) (s.onSmu fun _ =>
        { s.smu.edge ticks with lastFreq := windowFrequency (s.smu.edge ticks).ticks, ticks := 0, toothCount := 0 }) := by
  unfold toothEdge
  simp only [h, if_true]

/-- R1, R5: a tooth edge moves the gate only where it completes a window. -/
theorem changes_toothEdge {ticks : Nat} {s : State} (hm : (s.smu.edge ticks).toothCount ≥ 24 → m = true) :
    Changes m s (toothEdge ticks s) := by
  by_cases h : (s.smu.edge ticks).toothCount ≥ 24
  · rw [toothEdge_of_complete h, hm h]
    exact .trans (Change.one (.smu _)) (changes_controlStep _ _)
  · rw [toothEdge_of_short h]
    exact Change.one (.smu _)

theorem changes_windowTimeout (s : State) : Changes true s (windowTimeout s) := (changes_smu _ s).trans (changes_controlStep _ _)

/-! ### The configuration load -/

theorem changes_takeAlarm (source : AlarmSource) (inverted : Bool) (s : State) : Changes m s (takeAlarm source inverted s) :=
  Change.one (.alarm source inverted)

/-- R84: a slot takes a stored profile in range. -/
theorem changes_takeProfile {p : Option DriveProfile} (hp : ∀ d, p = some d → fieldsInRange DriveProfile.fields d.toList = true) (i : Fin 4)
    (s : State) : Changes m s (s.onSlot i (takeProfile p)) := by
  refine Change.one (.profile i _ ?_ ?_)
  · cases p <;> rfl
  · intro h
    cases p with
    | none => cases h
    | some d => exact hp d rfl

theorem changes_takeRakeParams {p : RakeParams} (hp : fieldsInRange RakeParams.fields p.toList = true) (s : State) :
    Changes m s (s.onRk (takeRakeParams p)) :=
  Change.one (.rk _ (params := fun _ => hp))

/-- R180: the blocks take an image whose values lie in their ranges. -/
theorem changes_takeImage {c : ConfigImage} (hgov : fieldsInRange GovParams.fields c.gov.toList = true)
    (hlevels : fieldsInRange LevelParams.fields c.levels.toList = true)
    (hdispatch : fieldsInRange DispatchParams.fields c.dispatch.toList = true)
    (hrake : fieldsInRange RakeParams.fields c.rake.toList = true)
    (hshedding : fieldsInRange SheddingParams.fields c.shedding.toList = true)
    (hcorrection : fieldsInRange CorrectionParams.fields c.correction.toList = true)
    (hdrives : ∀ i : Fin 4, ∀ p, c.drives[i] = some p → fieldsInRange DriveProfile.fields p.toList = true)
    (hfeeders : ∀ i : Fin 12, fieldsInRange FeederProfile.fields c.feeders[i].toList = true) (s : State) :
    Changes m s (takeImage c s) := by
  have hda : ∀ x : State, Changes m x (x.onDa fun d => { d with params := c.dispatch }) := fun x => Change.one (.da _ (params := fun _ => hdispatch))
  have hfu : ∀ x : State, Changes m x (x.onFu fun u => { u with params := c.shedding }) := fun x => Change.one (.fu _ (params := fun _ => hshedding))
  have hcu : ∀ x : State, Changes m x (x.onCu fun u => { u with params := c.correction }) := fun x => Change.one (.cu _ (params := fun _ => hcorrection))
  have hslots : ∀ x : State, Changes m x (allSlots.foldl (fun s i => s.onSlot i (takeProfile c.drives[i])) x) := fun x =>
    changes_foldl (fun y i => changes_takeProfile (hdrives i) i y) _ x
  have hfeed : ∀ x : State, Changes m x (allFeeders.foldl (fun s i => s.onFeeder i fun d => { d with profile := c.feeders[i] }) x) := fun x =>
    changes_foldl (fun y i => Change.one (.feederProfile i _ (hfeeders i))) _ x
  exact ((((((((((changes_takeGovernor hgov s).trans (changes_takeLevels hlevels _)).trans (changes_handOverGMax _)).trans
    (changes_takeWatchSettings _ _)).trans (hda _)).trans (changes_takeRakeParams hrake _)).trans (hfu _)).trans (hcu _)).trans
    (hslots _)).trans (hfeed _)).trans ((changes_takeAlarm _ _ _).trans (changes_armAll _))

/-- R180, log 11: an image that the CRC-16 lets through is taken with every value in its range. -/
theorem changes_takeStoredImage {choice : Nat} {a : Flash} {c : ConfigImage} (h : storedImage choice a = some c) (s : State) :
    Changes m s (takeImage c s) := by
  unfold storedImage at h
  split at h
  · cases h
    obtain ⟨hgov, hlevels, hdispatch, hrake, hshedding, hcorrection, hdrives, hfeeders⟩ := decodeImage_inRange choice (a.readBytes 0 311)
    exact changes_takeImage hgov hlevels hdispatch hrake hshedding hcorrection hdrives hfeeders s
  · cases h

theorem changes_loadComplete (s : State) : Changes m s (loadComplete s) := by
  have hbands : ∀ (bands : List Band) (x : State), Changes m x (lookUpTariff (x.onMu fun u => { u with bands := bands })) := fun bands x =>
    (Change.one (.mu fun u => { u with bands := bands })).trans (changes_lookUpTariff _)
  have hstart : Changes m s (s.onStore fun a => { a with startup := .scanning }) := StoreKept.changes ⟨rfl, rfl, rfl, rfl⟩
  have htariff : ∀ {x : State} (o : Option (List Band)), Changes m s x →
      Changes m s (match o with | some bands => lookUpTariff (x.onMu fun u => { u with bands := bands }) | none => x) := by
    intro x o h
    cases o with
    | some bands => exact h.trans (hbands bands _)
    | none => exact h
  unfold loadComplete
  split
  · refine htariff _ (hstart.trans ?_)
    split
    · next c hc => exact (changes_nextChoice _).trans (changes_takeStoredImage hc _)
    · have hdefault : ∀ x : State, Changes m x (x.onStore fun a => { a with configDefault := true }) := fun _ => StoreKept.changes ⟨rfl, rfl, rfl, rfl⟩
      exact (hdefault _).trans (changes_handOverGMax _)
  all_goals exact .refl

/-! ### The timers of the owners -/

theorem changes_daTimer (g : Arbiter → Arbiter) (s : State) (table : (g s.da).table = s.da.table := by rfl)
    (queue : (g s.da).queue = s.da.queue := by rfl) (sequence : (g s.da).sequence = s.da.sequence := by rfl)
    (params : fieldsInRange DispatchParams.fields s.da.params.toList = true →
      fieldsInRange DispatchParams.fields (g s.da).params.toList = true := by exact id) : Changes m s (s.onDa g) :=
  Change.one (.da g table queue sequence params)

/-- A slot that moves between states which hold the same entries. -/
theorem changes_slotMoves (i : Fin 4) (g : Slot → Slot) (s : State) (engaged : (g (s.slot i)).state.engaged = (s.slot i).state.engaged)
    (queued : (g (s.slot i)).state = .queued ↔ (s.slot i).state = .queued) (profile : ∀ d, (g d).profile = d.profile)
    (present : ∀ d, (g d).present = d.present) : Changes m s (s.onSlot i g) :=
  (Disp.slot [] s i g engaged queued profile present).calm.changes

theorem changes_clutchIn (i : Fin 4) {s : State} (h : (s.slot i).state = .lead) : Changes m s (clutchIn i s) := by
  have h1 : Changes m s (s.onSlot i fun d => { d with state := .clutching, leadTimer := none, spinUpTimer := some d.profile.spinUp }) :=
    changes_slotMoves i _ s (by rw [h]; rfl) (by simp [h]) (fun _ => rfl) fun _ => rfl
  have h2 : ∀ x : State, Changes m x (clutchInNotice i x) := fun x => by
    refine (Disp.arbiter [] x (fun d =>
      { d with table := d.table.map fun e => if e.owner = .drive i then { e with phase := .active } else e }) ?_ rfl rfl (fun _ => rfl) fun _ => rfl).calm.changes
    simp only [State.tableOwners, List.map_map]
    refine List.map_congr_left fun e _ => ?_
    simp only [Function.comp_apply]
    split <;> rfl
  exact h1.trans (h2 _)

theorem changes_runComplete {s : State} (h : s.rk.state = .running) : Changes m s (runComplete arbitrate s) := by
  have hrun : Changes m s (dropEntry .rake (s.onRk fun k =>
      { k with
        state := .idle, runTimer := none, count := saturate 65535 k.count, graceTimer := none, graceSpent := false
        dueTimer := some (k.params.interval * 60000) })) := Change.one (.runDone _ h)
  unfold runComplete releaseNotice
  simp only []
  refine .trans ?_ (changes_post m _ _)
  unfold dropEntry at hrun
  split
  · next hhas =>
    rw [if_pos hhas] at hrun
    exact (hrun.trans (changes_shortfallTest _)).trans (changes_arbitrate m _)
  · next hhas =>
    rw [if_neg hhas] at hrun
    exact hrun

end

end Sys2Proof.Machine

/-! PROOFS. Every command but RESET and READ_JOURNAL makes elementary changes and then gives its reply. -/

namespace Sys2Proof.Machine

/-- R187: a command in service is dealt with by elementary changes, and its reply ends its service. -/
def Answered (s t : State) : Prop := ∃ (u : State) (bytes : List Byte), Changes false s u ∧ t = answer bytes u

theorem answered_reply {s u : State} (h : Changes false s u) (r : Result) (content : List Byte) : Answered s (reply r content u) :=
  ⟨u, r.code :: content, h, rfl⟩

theorem answered_now (r : Result) (content : List Byte) (s : State) : Answered s (reply r content s) := answered_reply .refl r content

theorem answered_ite {p : Prop} [Decidable p] {s t u : State} (ht : Answered s t) (hu : Answered s u) : Answered s (if p then t else u) := by
  split
  · exact ht
  · exact hu

theorem answered_withLength {n : Nat} {body : List Byte} {f : State → State} {s : State} (h : Answered s (f s)) :
    Answered s (withLength n body f s) := by
  unfold withLength
  split
  · exact h
  · exact answered_now _ _ s

theorem answered_withSlot {n : Nat} {body : List Byte} {f : Fin 4 → State → State} {s : State} (h : ∀ i, Answered s (f i s)) :
    Answered s (withSlot n body f s) := by
  refine answered_withLength ?_
  split
  · exact h _
  · exact answered_now _ _ s

theorem answered_withFeeder {n : Nat} {body : List Byte} {f : Fin 12 → State → State} {s : State} (h : ∀ i, Answered s (f i s)) :
    Answered s (withFeeder n body f s) := by
  refine answered_withLength ?_
  split
  · exact h _
  · exact answered_now _ _ s

/-- R187: a group of parameters is taken with every value in its range. -/
theorem answered_setGroup {fields : List Field} {ordered : List Nat → Bool} {take : List Nat → State → State} {body : List Byte} {s : State}
    (hf : fieldsOrdered fields = true)
    (h : ∀ v, fieldsInRange fields v = true → Changes false s (take v s)) : Answered s (setGroup fields ordered take body s) := by
  refine answered_withLength ?_
  simp only []
  split
  · exact answered_reply (h _ (sent_inRange hf body)) _ _
  · exact answered_now _ _ s

/-! ### Chapters 1 to 4 -/

theorem answered_setGovernor (body : List Byte) (s : State) : Answered s (serveSetGovernor body s) :=
  answered_setGroup (by decide) fun _ hv => changes_takeGovernor (GovParams.ofList_inRange hv) s

theorem answered_setLevels (body : List Byte) (s : State) : Answered s (serveSetLevels body s) :=
  answered_setGroup (by decide) fun _ hv => changes_takeLevels (LevelParams.ofList_inRange hv) s

theorem answered_start (body : List Byte) (s : State) : Answered s (serveStart body s) := by
  refine answered_withLength ?_
  split
  · next h =>
    have h1 : Changes false s (s.onSs fun q => { q with startTimer := some Config.startTime }) := changes_setSequencer s _
    have h2 : Changes false (s.onSs fun q => { q with startTimer := some Config.startTime }) _ :=
      Change.one (.moved .starting .start (by simp [h]) (by decide))
    exact answered_reply (h1.trans h2) _ _
  · exact answered_now _ _ s

theorem answered_stop (body : List Byte) (s : State) : Answered s (serveStop body s) := by
  refine answered_withLength ?_
  split
  · next h => exact answered_reply (changes_stationStop (not_tripped_of_stoppable h)) _ _
  · exact answered_now _ _ s

theorem answered_clearTrip (body : List Byte) (s : State) : Answered s (serveClearTrip body s) := by
  refine answered_withLength ?_
  split
  · next h => exact answered_reply (changes_enterStopped_clear h.1) _ _
  · exact answered_now _ _ s

theorem answered_readTrip (body : List Byte) (s : State) : Answered s (serveReadTrip body s) := by
  refine answered_withLength ?_
  split <;> exact answered_now _ _ s

theorem answered_standingOn (body : List Byte) (s : State) : Answered s (serveStandingOn body s) := by
  refine answered_withLength ?_
  split
  · exact answered_now _ _ s
  · next hlive =>
    split
    · exact answered_now _ _ s
    · split
      · exact answered_now _ _ s
      · exact answered_reply (changes_standingOn (not_not.mp hlive)) _ _

theorem answered_standingOff (body : List Byte) (s : State) : Answered s (serveStandingOff body s) := by
  refine answered_withLength (answered_reply ?_ _ _)
  split
  · exact changes_standingOff s
  · exact .refl

theorem answered_setAlarm (body : List Byte) (s : State) : Answered s (serveSetAlarm body s) := by
  refine answered_withLength ?_
  split
  · exact answered_reply (changes_takeAlarm _ _ s) _ _
  · exact answered_now _ _ s

theorem answered_setWatch (body : List Byte) (s : State) : Answered s (serveSetWatch body s) := by
  refine answered_withLength ?_
  split
  · simp only []
    split
    · exact answered_now _ _ s
    · exact answered_reply (changes_setInput _ _ _ _ s) _ _
  · exact answered_now _ _ s

theorem answered_ackWatch (body : List Byte) (s : State) : Answered s (serveAckWatch body s) := by
  refine answered_withLength ?_
  split
  · exact answered_reply (changes_acknowledge _ s) _ _
  · exact answered_now _ _ s

theorem answered_setDispatch (body : List Byte) (s : State) : Answered s (serveSetDispatch body s) :=
  answered_setGroup (by decide) fun _ hv =>
    ((changes_daTimer _ s (params := fun _ => DispatchParams.ofList_inRange hv)).trans (changes_shortfallTest _)).trans (changes_arbitrate _ _)

theorem changes_withdrawOwner {m : Bool} (o : Owner) (cause : ExpiredCause) (s : State) : Changes m s (withdrawOwner o cause s) :=
  (calm_withdrawOwner o cause s).changes

theorem answered_cancel (body : List Byte) (s : State) : Answered s (serveCancel body s) := by
  refine answered_withLength ?_
  split
  · exact answered_now _ _ s
  · split
    · exact answered_reply (changes_withdrawOwner _ _ s) _ _
    · exact answered_now _ _ s
  · exact answered_now _ _ s

/-! ### Chapters 5 to 7 -/

theorem answered_setDrive (body : List Byte) (s : State) : Answered s (serveSetDrive body s) := by
  refine answered_withSlot fun i => ?_
  split
  · have h := Change.one (m := false) (s := s) (.profile i
      (fun d => { d with profile := .ofList (clampFields DriveProfile.fields (decodeFields DriveProfile.fields (body.drop 1))), present := true }) rfl
      fun _ => DriveProfile.ofList_inRange (sent_inRange (by decide) (body.drop 1)))
    exact answered_reply h _ _
  · exact answered_now _ _ s

/-- R85: a present slot in IDLE asks for a grant in LIVE. -/
theorem changes_driveEnqueue {m : Bool} (i : Fin 4) {s : State} (hlive : s.ss.station = .live) (hidle : (s.slot i).state = .idle)
    (hpresent : (s.slot i).present = true) :
    Changes m s (enqueue arbitrate (driveRequest s i) (fun s => s.onSlot i fun d => { d with state := .queued }) s).2 := by
  obtain ⟨_, h⟩ | ⟨_, _, _, h⟩ | ⟨hq, ht, hroom, e, ho, hc, _, hseq, _, _, _, h⟩ :=
    enqueue_cases arbitrate (driveRequest s i) (fun s => s.onSlot i fun d => { d with state := .queued }) s
  · rw [h]
  · rw [h]
  · rw [h]
    have hask := Disp.slotAsks [] s i e ho hlive hidle hpresent hc hseq hroom ht hq
    exact hask.calm.changes.trans (changes_arbitrate _ _)

theorem answered_engage (body : List Byte) (s : State) : Answered s (serveEngage body s) := by
  refine answered_withSlot fun i => ?_
  split
  · exact answered_now _ _ s
  · next hlive =>
    split
    · exact answered_now _ _ s
    · split
      · exact answered_now _ _ s
      · next hidle =>
        split
        · exact answered_now _ _ s
        · next hpresent =>
          exact answered_reply (changes_driveEnqueue i (not_not.mp hlive) (not_not.mp hidle) (by simpa using hpresent)) _ _

theorem changes_slotStays {m : Bool} (i : Fin 4) (g : Slot → Slot) {s : State} (h : (s.slot i).state.engaged = true)
    (hg : (g (s.slot i)).state.engaged = true) (hp : ∀ d, (g d).profile = d.profile := by exact fun _ => rfl)
    (hq : ∀ d, (g d).present = d.present := by exact fun _ => rfl) : Changes m s (s.onSlot i g) := by
  refine changes_slotMoves i g s (hg.trans h.symm) (iff_of_false ?_ ?_) hp hq
  · intro hk; rw [hk] at hg; cases hg
  · intro hk; rw [hk] at h; cases h

theorem changes_startCut {m : Bool} (i : Fin 4) (n : Nat) (release : Bool) {s : State} (h : (s.slot i).state = .ready) :
    Changes m s (startCut i n release s) := by
  refine .trans (changes_slotStays i _ (by rw [h]; rfl) ?_) (changes_post _ _ _)
  cases s.ds.feedHold <;> rfl

theorem answered_cut (body : List Byte) (s : State) : Answered s (serveCut body s) := by
  refine answered_withSlot fun i => ?_
  simp only []
  split
  · exact answered_now _ _ s
  · split
    · next h => exact answered_reply (changes_startCut _ _ _ h) _ _
    · next h =>
      split
      · exact answered_now _ _ s
      · exact answered_reply (changes_slotStays i _ (by rw [h]; rfl) (by simp [h, SlotState.engaged])) _ _
    · next h =>
      split
      · exact answered_now _ _ s
      · exact answered_reply (changes_slotStays i _ (by rw [h]; rfl) (by simp [h, SlotState.engaged])) _ _
    all_goals exact answered_now _ _ s

theorem answered_halt (body : List Byte) (s : State) : Answered s (serveHalt body s) := by
  refine answered_withSlot fun i => ?_
  simp only []
  split
  · next h => exact answered_reply (changes_slotStays i _ (by rw [h]; rfl) (by simp [h, SlotState.engaged])) _ _
  · next h => exact answered_reply (changes_slotStays i _ (by rw [h]; rfl) (by simp [h, SlotState.engaged])) _ _
  all_goals exact answered_now _ _ s

theorem changes_releaseSlot {m : Bool} (i : Fin 4) {s : State} (h : (s.slot i).state.engaged = true) :
    Changes m s (releaseSlot arbitrate i s) :=
  (calm_takeOut arbitrate_arbitrates feedersOnly_nil .host i h).changes

theorem answered_release (body : List Byte) (s : State) : Answered s (serveRelease body s) := by
  refine answered_withSlot fun i => ?_
  have hout : (s.slot i).state.engaged = true → Answered s (slotReply .ok i (releaseSlot arbitrate i s)) := fun h =>
    answered_reply (changes_releaseSlot i h) _ _
  split
  case h_1 => exact answered_reply (changes_withdrawOwner _ _ s) _ _
  case h_2 h => exact hout (by rw [h]; rfl)
  case h_3 h => exact hout (by rw [h]; rfl)
  case h_4 h => exact hout (by rw [h]; rfl)
  case h_5 h => exact hout (by rw [h]; rfl)
  case h_6 h => exact hout (by rw [h]; rfl)
  all_goals exact answered_now _ _ s

theorem changes_clearDrive {m : Bool} (i : Fin 4) {s : State} (h : (s.slot i).state = .fault) : Changes m s (clearDrive i s) :=
  .trans (changes_slotMoves i (fun d =>
    { d with
      state := .coasting, remaining := 0, releaseFlag := false, strokes := 0, coastTimer := some d.profile.coast })
    s (by rw [h]; rfl) (by simp [h]) (fun _ => rfl) fun _ => rfl) (changes_post _ _ _)

theorem answered_clearDrive (body : List Byte) (s : State) : Answered s (serveClearDrive body s) := by
  refine answered_withSlot fun i => ?_
  split
  · next h => exact answered_reply (changes_clearDrive i h) _ _
  · exact answered_now _ _ s

theorem answered_setRake (body : List Byte) (s : State) : Answered s (serveSetRake body s) :=
  answered_setGroup (by decide) fun v hv =>
    Change.one (.rk (fun k => { k with params := .ofList v }) (params := fun _ => RakeParams.ofList_inRange hv))

theorem answered_rakeNow (body : List Byte) (s : State) : Answered s (serveRakeNow body s) :=
  answered_withLength (answered_reply (changes_dueTrigger _ s) _ _)

theorem answered_setFeeder (body : List Byte) (s : State) : Answered s (serveSetFeeder body s) := by
  refine answered_withFeeder fun i => ?_
  simp only []
  split
  · next auto _ =>
    exact answered_reply (Change.one (.feederProfile i _ (FeederProfile.ofList_inRange auto (sent_inRange (by decide) (body.drop 1))))) _ _
  · exact answered_now _ _ s

theorem answered_setShedding (body : List Byte) (s : State) : Answered s (serveSetShedding body s) :=
  answered_setGroup (by decide) fun v hv =>
    Change.one (.fu (fun u => { u with params := .ofList v }) (params := fun _ => SheddingParams.ofList_inRange hv))

/-- R119: a feeder in OFF, QUEUED or SHED asks for a grant in LIVE. -/
theorem changes_hostEnqueue {m : Bool} (i : Fin 12) {s : State} (hlive : s.ss.station = .live) (hoff : (s.feeder i).state ≠ .on) :
    Changes m s (enqueue arbitrate (hostRequest s i) (setFeederState i .queued) s).2 := by
  obtain ⟨_, h⟩ | ⟨_, _, _, h⟩ | ⟨hq, ht, hroom, e, ho, hc, _, hseq, _, _, _, h⟩ :=
    enqueue_cases arbitrate (hostRequest s i) (setFeederState i .queued) s
  · rw [h]
  · rw [h]
  · rw [h]
    have hask := Disp.feederAsks [] s i e [] ho hlive hoff (fun _ => by simp) hc hseq hroom ht hq
    exact hask.calm.changes.trans (changes_arbitrate _ _)

theorem answered_connect (body : List Byte) (s : State) : Answered s (serveConnect body s) := by
  refine answered_withFeeder fun i => ?_
  have hask : (s.feeder i).state ≠ .on → Answered s (if s.ss.station ≠ .live then feederReply .state i s else
      feederReply (enqueue arbitrate (hostRequest s i) (setFeederState i .queued) s).1.result i
        (enqueue arbitrate (hostRequest s i) (setFeederState i .queued) s).2) := by
    intro h
    split
    · exact answered_now _ _ s
    · next hlive => exact answered_reply (changes_hostEnqueue i (not_not.mp hlive) h) _ _
  split
  case h_4 h => exact hask (by simp [h])
  case h_5 h => exact hask (by simp [h])
  case h_6 h => exact hask (by simp [h])
  all_goals exact answered_now _ _ s

/-- A feeder without an entry moves to a state without one. -/
theorem changes_setFeederState {m : Bool} (i : Fin 12) {new : FeederState} (hnew : new.free) {s : State} (h : (s.feeder i).state.free) :
    Changes m s (setFeederState i new s) :=
  (Disp.feeder [] s i new (by simp) (fun hk => absurd hk h.1) (fun hk => absurd hk h.2) hnew).calm.changes

theorem changes_openFeeder {m : Bool} (i : Fin 12) {new : FeederState} (hnew : new.free) {s : State} (h : (s.feeder i).state = .on) :
    Changes m s (openFeeder arbitrate i new s) :=
  (calm_openFeeder arbitrate_arbitrates i hnew h).changes

theorem answered_disconnect (body : List Byte) (s : State) : Answered s (serveDisconnect body s) := by
  refine answered_withFeeder fun i => ?_
  split
  case h_1 h => exact answered_reply (changes_openFeeder i ⟨by decide, by decide⟩ h) _ _
  case h_2 => exact answered_reply (changes_withdrawOwner _ _ s) _ _
  case h_3 h => exact answered_reply (changes_setFeederState i ⟨by decide, by decide⟩ (by rw [h]; exact ⟨by decide, by decide⟩)) _ _
  all_goals exact answered_now _ _ s

/-- R125: of the entries that LOCK_FEEDER withdraws, those of the feeder, no one but the feeder is told. -/
theorem changes_withdrawLocked {m : Bool} (i : Fin 12) (s : State) :
    Changes m s (withdraw arbitrate giveSpace (fun e => decide (e.owner = .feeder i)) .cancel tellLocked s) := by
  have hsame : ∀ (l : List QueueEntry) (x : State), (∀ e ∈ l, e.owner = .feeder i) →
      l.foldl (fun s e => tellLocked e.owner (postExpired .cancel e s)) x =
        l.foldl (fun s e => (if e.owner = .feeder i then setFeederState i .locked else tellGone e.owner) (postExpired .cancel e s)) x := by
    intro l x hl
    induction l generalizing x with
    | nil => rfl
    | cons e rest ih =>
      have he := hl e List.mem_cons_self
      rw [List.foldl_cons, List.foldl_cons, if_pos he, ih _ fun y hy => hl y (List.mem_cons_of_mem _ hy), he]
      rfl
  have hnames : ∀ e ∈ s.da.queue.filter (fun e => decide (e.owner = .feeder i)), e.owner = .feeder i := by
    intro e he
    simpa using (List.mem_filter.mp he).2
  have hw : withdraw arbitrate giveSpace (fun e => decide (e.owner = .feeder i)) .cancel tellLocked s =
      withdraw arbitrate giveSpace (fun e => decide (e.owner = .feeder i)) .cancel
        (fun o => if o = .feeder i then setFeederState i .locked else tellGone o) s := by
    unfold withdraw
    simp only [hsame _ _ hnames]
  rw [hw]
  refine (calm_withdraw arbitrate_arbitrates giveSpace_arbitrates _ _ (fun o L x => ?_) s).changes
  split
  · next ho => rw [ho]; exact .single (Disp.feederTold L x i .locked ⟨by decide, by decide⟩)
  · exact disps_tellGone o L x

theorem answered_lockFeeder (body : List Byte) (s : State) : Answered s (serveLockFeeder body s) := by
  refine answered_withFeeder fun i => ?_
  have hset : (s.feeder i).state.free → Answered s (feederReply .ok i (setFeederState i .locked s)) := fun h =>
    answered_reply (changes_setFeederState i ⟨by decide, by decide⟩ h) _ _
  split
  case h_1 h => exact answered_reply (changes_openFeeder i ⟨by decide, by decide⟩ h) _ _
  case h_2 => exact answered_reply (changes_withdrawLocked i s) _ _
  case h_3 h => exact hset (by rw [h]; exact ⟨by decide, by decide⟩)
  case h_4 h => exact hset (by rw [h]; exact ⟨by decide, by decide⟩)
  case h_5 h => exact hset (by rw [h]; exact ⟨by decide, by decide⟩)
  all_goals exact answered_now _ _ s

theorem answered_unlockFeeder (body : List Byte) (s : State) : Answered s (serveUnlockFeeder body s) := by
  refine answered_withFeeder fun i => ?_
  split
  case h_1 h => exact answered_reply (changes_setFeederState i ⟨by decide, by decide⟩ (by rw [h]; exact ⟨by decide, by decide⟩)) _ _
  case h_2 h => exact answered_reply (changes_setFeederState i ⟨by decide, by decide⟩ (by rw [h]; exact ⟨by decide, by decide⟩)) _ _
  all_goals exact answered_now _ _ s

/-! ### Chapters 8 to 11 -/

theorem changes_calendar {m : Bool} (g : CalendarUnit → CalendarUnit) (s : State) (params : (g s.cu).params = s.cu.params := by rfl) :
    Changes m s (s.onCu g) :=
  Change.one (.cu g (params := by rw [params]; exact id))

theorem answered_setClock (body : List Byte) (s : State) : Answered s (serveSetClock body s) := by
  refine answered_withLength ?_
  simp only []
  split
  · exact answered_reply (changes_calendar _ s) _ _
  · exact answered_now _ _ s

theorem answered_setTrim (body : List Byte) (s : State) : Answered s (serveSetTrim body s) := by
  refine answered_withLength ?_
  split
  · exact answered_now _ _ s
  · exact answered_reply (changes_calendar _ s) _ _

theorem answered_shiftHour (body : List Byte) (s : State) : Answered s (serveShiftHour body s) := by
  refine answered_withLength ?_
  split
  · exact answered_now _ _ s
  · split
    · exact answered_now _ _ s
    · refine answered_ite (answered_now _ _ s) ?_
      exact answered_reply (changes_calendar (fun u => { u with pendingShift := some _ }) s) _ _

theorem answered_zeroTimeError (body : List Byte) (s : State) : Answered s (serveZeroTimeError body s) :=
  answered_withLength (answered_reply (changes_calendar _ s) _ _)

theorem answered_setCorrection (body : List Byte) (s : State) : Answered s (serveSetCorrection body s) :=
  answered_setGroup (by decide) fun v hv =>
    (Change.one (.cu (fun u => { u with params := .ofList v }) (params := fun _ => CorrectionParams.ofList_inRange hv))).trans
      (changes_evaluateTime _)

theorem changes_takeTariff {m : Bool} (bands : List Band) (s : State) : Changes m s (takeTariff bands s) := by
  have hmu : Changes m s (s.onMu fun u => { u with pendingBands := some bands }) := Change.one (.mu _)
  have hstore : ∀ (j : TariffJob) (x : State), Changes m x (x.onStore fun a => { a with tariffJob := some j }.requestErase 1) := by
    intro j x
    obtain ⟨e1, e2, e3, e4⟩ := requestErase_kept 1 { x.store with tariffJob := some j }
    exact StoreKept.changes ⟨e1, e2, e3, e4⟩
  exact (hmu.trans (hstore _ _)).trans (changes_kick _)

theorem answered_setTariff (body : List Byte) (s : State) : Answered s (serveSetTariff body s) := by
  unfold serveSetTariff
  split
  · exact answered_now _ _ s
  · split
    · exact answered_now _ _ s
    · split
      · exact answered_now _ _ s
      · split
        · exact answered_now _ _ s
        · exact answered_reply (changes_takeTariff _ s) _ _

theorem answered_save (body : List Byte) (s : State) : Answered s (serveSave body s) := by
  refine answered_withLength ?_
  split
  · exact answered_now _ _ s
  · split
    · exact answered_now _ _ s
    · split
      · split
        · exact ⟨_, _, changes_post _ _ _, rfl⟩
        · exact answered_reply (changes_takeCheckpoint _ _ s) _ _
      · exact answered_now _ _ s

theorem changes_takeStoreConfig {m : Bool} (s : State) : Changes m s (takeStoreConfig s) := by
  have hstore : ∀ j : ConfigJob, Changes m s (s.onStore fun a => { a with configJob := some j }.requestErase 0) := by
    intro j
    obtain ⟨e1, e2, e3, e4⟩ := requestErase_kept 0 { s.store with configJob := some j }
    exact StoreKept.changes ⟨e1, e2, e3, e4⟩
  exact (hstore _).trans (changes_kick _)

theorem answered_storeConfig (body : List Byte) (s : State) : Answered s (serveStoreConfig body s) := by
  refine answered_withLength ?_
  split
  · exact answered_now _ _ s
  · split
    · exact answered_now _ _ s
    · exact answered_reply (changes_takeStoreConfig s) _ _

theorem answered_unprotect (body : List Byte) (s : State) : Answered s (serveUnprotect body s) :=
  answered_withLength (answered_reply (StoreKept.changes (g := fun a => { a with protect := false }) ⟨rfl, rfl, rfl, rfl⟩) _ _)

theorem answered_writeCommission (body : List Byte) (s : State) : Answered s (serveWriteCommission body s) := by
  refine answered_withLength ?_
  split
  · exact answered_now _ _ s
  · next h => exact answered_reply (Change.one (.store _ (locked := fun hl => absurd hl h))) _ _

theorem answered_lockCommission (body : List Byte) (s : State) : Answered s (serveLockCommission body s) := by
  refine answered_withLength (answered_reply (Change.one (.store
    (fun a => { a with commissioning := { a.commissioning with locked := true } }) (locked := fun hl => ?_))) _ _)
  simp only [← hl]

theorem answered_hello (body : List Byte) (s : State) : Answered s (serveHello body s) := answered_withLength (answered_now _ _ s)

theorem answered_status (body : List Byte) (s : State) : Answered s (serveStatus body s) :=
  answered_withLength (answered_reply (Change.one (.sl (fun l => { l with lostReports := 0 })
    (bounds := fun h => ⟨h.queue, h.frames, h.reports, h.badFrames, h.overruns, Nat.zero_le _⟩))) _ _)

theorem answered_readLevels (body : List Byte) (s : State) : Answered s (serveReadLevels body s) := answered_withLength (answered_now _ _ s)

theorem answered_listTable (body : List Byte) (s : State) : Answered s (serveListTable body s) := answered_withLength (answered_now _ _ s)

theorem answered_listQueue (body : List Byte) (s : State) : Answered s (serveListQueue body s) := answered_withLength (answered_now _ _ s)

theorem answered_readClock (body : List Byte) (s : State) : Answered s (serveReadClock body s) := answered_withLength (answered_now _ _ s)

theorem answered_readCommission (body : List Byte) (s : State) : Answered s (serveReadCommission body s) := answered_withLength (answered_now _ _ s)

theorem answered_readMeter (body : List Byte) (s : State) : Answered s (serveReadMeter body s) :=
  answered_withFeeder fun _ => answered_now _ _ s

/-- R187: what each command does but the two that may stay in service. -/
theorem answered_serveCommand {k : CommandKind} (hreset : k ≠ .reset) (hread : k ≠ .readJournal) (body : List Byte) (s : State) :
    Answered s (serveCommand k body s) := by
  cases k with
  | hello => exact answered_hello body s
  | status => exact answered_status body s
  | reset => exact absurd rfl hreset
  | start => exact answered_start body s
  | stop => exact answered_stop body s
  | clearTrip => exact answered_clearTrip body s
  | readTrip => exact answered_readTrip body s
  | setGovernor => exact answered_setGovernor body s
  | standingOn => exact answered_standingOn body s
  | standingOff => exact answered_standingOff body s
  | setAlarm => exact answered_setAlarm body s
  | setLevels => exact answered_setLevels body s
  | setWatch => exact answered_setWatch body s
  | ackWatch => exact answered_ackWatch body s
  | readLevels => exact answered_readLevels body s
  | setDispatch => exact answered_setDispatch body s
  | listTable => exact answered_listTable body s
  | listQueue => exact answered_listQueue body s
  | cancel => exact answered_cancel body s
  | setDrive => exact answered_setDrive body s
  | engage => exact answered_engage body s
  | cut => exact answered_cut body s
  | halt => exact answered_halt body s
  | release => exact answered_release body s
  | clearDrive => exact answered_clearDrive body s
  | setRake => exact answered_setRake body s
  | rakeNow => exact answered_rakeNow body s
  | setFeeder => exact answered_setFeeder body s
  | setShedding => exact answered_setShedding body s
  | connect => exact answered_connect body s
  | disconnect => exact answered_disconnect body s
  | lockFeeder => exact answered_lockFeeder body s
  | unlockFeeder => exact answered_unlockFeeder body s
  | setClock => exact answered_setClock body s
  | readClock => exact answered_readClock body s
  | setTrim => exact answered_setTrim body s
  | shiftHour => exact answered_shiftHour body s
  | zeroTimeError => exact answered_zeroTimeError body s
  | setCorrection => exact answered_setCorrection body s
  | readMeter => exact answered_readMeter body s
  | setTariff => exact answered_setTariff body s
  | save => exact answered_save body s
  | readJournal => exact absurd rfl hread
  | storeConfig => exact answered_storeConfig body s
  | unprotect => exact answered_unprotect body s
  | writeCommission => exact answered_writeCommission body s
  | lockCommission => exact answered_lockCommission body s
  | readCommission => exact answered_readCommission body s

end Sys2Proof.Machine

/-! PROOFS. What one command of the queue does, as a whole: elementary changes, a frame offered to the link, a transmission that ends, or a
reset. -/

namespace Sys2Proof.Machine

/-! ### The elementary changes with the link's service -/

/-- The elementary changes of the part, and what the service of commands does to the link and to a journal read. -/
inductive Wide (moves : Bool) (s : State) : State → Prop
  | change {t : State} (h : Change moves s t) : Wide moves s t
  | link (l : StationLink) (bounds : s.Bounded → (s.onSl fun _ => l).Bounded) : Wide moves s (s.onSl fun _ => l)
  | reading (j : ReadJob) (p : Fin 224) : Wide moves s (s.onStore fun a => { a with readJob := some j, readRequest := some p })

abbrev Wides (moves : Bool) : State → State → Prop := Relation.ReflTransGen (Wide moves)

theorem Wides.keeps {m : Bool} {P : State → Prop} (hP : ∀ s t, Change m s t → P s → P t)
    (hlink : ∀ s l, (s.Bounded → (s.onSl fun _ => l).Bounded) → P s → P (s.onSl fun _ => l))
    (hread : ∀ s j p, P s → P (s.onStore fun a => { a with readJob := some j, readRequest := some p })) {s t : State}
    (h : Wides m s t) (hs : P s) : P t := by
  induction h with
  | refl => exact hs
  | tail _ hstep ih =>
    cases hstep with
    | change h => exact hP _ _ h ih
    | link l hb => exact hlink _ l hb ih
    | reading j p => exact hread _ j p ih

theorem Changes.wides {m : Bool} {s t : State} (h : Changes m s t) : Wides m s t := by
  induction h with
  | refl => exact .refl
  | tail _ hstep ih => exact ih.tail (.change hstep)

theorem wides_answer {m : Bool} (bytes : List Byte) (s : State) : Wides m s (answer bytes s) := by
  obtain ⟨f, tx, rs, h, hlen⟩ := answer_frame bytes s
  rw [h]
  exact .single (.link { s.sl with inService := none, replySlot := f, tx := tx, reports := rs }
    fun hb => ⟨hb.queue, hb.frames, hlen.trans hb.reports, hb.badFrames, hb.overruns, hb.lostReports⟩)

theorem answer_ended (bytes : List Byte) (s : State) : (answer bytes s).sl.inService = none ∧ (answer bytes s).store = s.store := by
  obtain ⟨f, tx, rs, h, _⟩ := answer_frame bytes s
  rw [h]
  exact ⟨rfl, rfl⟩

/-- R194: the reply of a RESET is placed, and the command stays in service. -/
theorem answerAndHold_frame (bytes : List Byte) {s : State} {fr : Frame} (hin : s.sl.inService = some fr) :
    ∃ (f : Frame) (tx : Transmitter) (rs : List Report),
      answerAndHold bytes s = { s with sl := { s.sl with replySlot := some f, tx := tx, reports := rs } }
        ∧ rs.length ≤ s.sl.reports.length := by
  obtain ⟨tx, rs, h, hlen, _⟩ := transmitArbitrate_frame (s.onSl fun l => { l with replySlot := some (replyFrame fr bytes) })
  have e : answerAndHold bytes s = transmitArbitrate (s.onSl fun l => { l with replySlot := some (replyFrame fr bytes) }) := by
    unfold answerAndHold
    rw [hin]
  exact ⟨replyFrame fr bytes, tx, rs, e.trans h, hlen⟩

/-! ### The service of one command -/

/-- R187: what the service of a command comes to. -/
inductive Served (s : State) : State → Prop
  | answered {t : State} (h : Answered s t) : Served s t
  | held (bytes : List Byte) : Served s (answerAndHold bytes s)
  | reading (j : ReadJob) (p : Fin 224) :
      Served s (kick (s.onStore fun a => { a with readJob := some j, readRequest := some p }))

/-- R179: READ_JOURNAL is answered at once, or stays in service while its pages are read. -/
theorem served_readJournal (body : List Byte) (s : State) : Answered s (serveReadJournal body s)
    ∨ ∃ j p, serveReadJournal body s = kick (s.onStore fun a => { a with readJob := some j, readRequest := some p }) := by
  unfold serveReadJournal withLength
  split
  · simp only []
    split
    · exact .inl (answered_now _ _ s)
    · unfold startJournalRead
      split
      · split
        · exact .inr ⟨_, _, rfl⟩
        · exact .inl (answered_now _ _ s)
      · exact .inl (answered_now _ _ s)
  · exact .inl (answered_now _ _ s)

/-- R194: RESET is refused, or its reply is placed and the command stays in service. -/
theorem served_reset (body : List Byte) (s : State) : Answered s (serveReset body s)
    ∨ serveReset body s = answerAndHold [Result.ok.code] s := by
  unfold serveReset withLength
  split
  · simp only []
    split
    · exact .inr rfl
    · exact .inl (answered_now _ _ s)
  · exact .inl (answered_now _ _ s)

set_option maxRecDepth 4000 in
/-- R197: a frame kind that names a command is that command's code. -/
theorem code_of_ofCode {kind : Byte} {k : CommandKind} (h : CommandKind.ofCode kind = some k) : kind = k.code := by
  have hall : ∀ n : Fin 256, (CommandKind.ofCode (BitVec.ofFin n)).all (fun k => decide (BitVec.ofFin n = k.code)) = true := by decide
  have hk := hall kind.toFin
  rw [show BitVec.ofFin kind.toFin = kind from rfl, h] at hk
  exact of_decide_eq_true hk

/-- R187, R189, R194: what becomes of a command in service, with which commands may stay there. -/
theorem serve_cases (fr : Frame) (s : State) : Answered s (serve fr s)
    ∨ fr.kind = CommandKind.code .reset ∧ (∃ bytes, serve fr s = answerAndHold bytes s)
    ∨ fr.kind = CommandKind.code .readJournal
      ∧ ∃ j p, serve fr s = kick (s.onStore fun a => { a with readJob := some j, readRequest := some p }) := by
  unfold serve
  split
  · exact .inl (answered_now _ _ s)
  · next k hk =>
    have hkind := code_of_ofCode hk
    split
    · exact .inl (answered_now _ _ s)
    · by_cases hreset : k = .reset
      · subst hreset
        exact (served_reset fr.body s).imp_right fun h => .inl ⟨hkind, _, h⟩
      · by_cases hread : k = .readJournal
        · subst hread
          exact (served_readJournal fr.body s).imp_right fun h => .inr ⟨hkind, h⟩
        · exact .inl (answered_serveCommand hreset hread fr.body s)

theorem wides_serve {fr : Frame} {s : State} (hin : s.sl.inService = some fr) : Wides false s (serve fr s) := by
  obtain ⟨u, bytes, hu, h⟩ | ⟨_, bytes, h⟩ | ⟨_, j, p, h⟩ := serve_cases fr s
  · exact h ▸ hu.wides.trans (wides_answer bytes u)
  · obtain ⟨f, tx, rs, hframe, hlen⟩ := answerAndHold_frame bytes hin
    rw [h, hframe]
    exact .single (.link { s.sl with replySlot := some f, tx := tx, reports := rs }
      fun hb => ⟨hb.queue, hb.frames, hlen.trans hb.reports, hb.badFrames, hb.overruns, hb.lostReports⟩)
  · exact h ▸ (Relation.ReflTransGen.single (.reading j p)).trans (changes_kick _).wides

theorem State.ServiceWell.of_idle {s : State} (hin : s.sl.inService = none) (hread : s.store.readJob = none) : s.ServiceWell :=
  ⟨by simp [hread], by simp [hin]⟩

theorem Changes.serviceKept {m : Bool} {s t : State} (h : Changes m s t) : ServiceKept s t :=
  h.keeps (P := fun x => ServiceKept s x) (fun _ _ hstep hs => hs.trans hstep.serviceKept) (.inl ⟨rfl, rfl, rfl⟩)

/-- R179, R187, R194: of the commands, READ_JOURNAL and RESET alone may stay in service. -/
theorem serve_serviceWell {fr : Frame} {s : State} (hin : s.sl.inService = some fr) (hread : s.store.readJob = none) :
    (serve fr s).ServiceWell := by
  obtain ⟨u, bytes, hu, h⟩ | ⟨hkind, bytes, h⟩ | ⟨hkind, j, p, h⟩ := serve_cases fr s
  · obtain ⟨hended, hstore⟩ := answer_ended bytes u
    rw [h]
    refine .of_idle hended ?_
    rw [hstore]
    obtain ⟨hj, _⟩ | ⟨hj, _⟩ := hu.serviceKept
    · simpa [hread] using hj
    · simp [hread] at hj
  · obtain ⟨f, tx, rs, hframe, _⟩ := answerAndHold_frame bytes hin
    rw [h, hframe]
    refine ⟨by simp [hread], fun fr' hfr' => ?_⟩
    obtain rfl : fr = fr' := Option.some_injective _ (hin.symm.trans hfr')
    exact .inr ⟨hkind, rfl⟩
  · rw [h]
    refine (changes_kick (m := false) _).serviceKept.serviceWell ⟨fun _ => ⟨fr, hin, hkind⟩, fun fr' hfr' => ?_⟩
    obtain rfl : fr = fr' := Option.some_injective _ (hin.symm.trans hfr')
    exact .inl ⟨hkind, rfl⟩

/-! ### Taking frames -/

theorem wides_takeNext (s : State) : Wides false s (takeNext s) := by
  unfold takeNext
  split
  · next fr rest _ _ hqueue =>
    have hlink : Wides false s (s.onSl fun l => { l with inService := some fr, inputQueue := rest }) :=
      .single (.link { s.sl with inService := some fr, inputQueue := rest } fun hb =>
        ⟨hb.queue, by have := hb.frames; rw [hqueue] at this; exact (Nat.le_succ _).trans this, hb.reports, hb.badFrames, hb.overruns,
          hb.lostReports⟩)
    exact hlink.trans (wides_serve rfl)
  · exact .refl

theorem takeNext_serviceWell {s : State} (h : s.ServiceWell) : (takeNext s).ServiceWell := by
  unfold takeNext
  split
  · next fr rest hin _ _ =>
    refine serve_serviceWell rfl (Option.eq_none_iff_forall_not_mem.mpr fun j hj => ?_)
    obtain ⟨fr', hfr', _⟩ := h.reading (by rw [show s.store.readJob = some j from hj]; rfl)
    rw [hin] at hfr'
    cases hfr'
  · exact h

theorem saturate_le (top n : Nat) : saturate top n ≤ top := Nat.min_le_left _ _

theorem wides_offerFrame (fr : Frame) (s : State) : Wides false s (offerFrame fr s) := by
  unfold offerFrame
  split
  · next hroom =>
    have hlink : Wides false s (s.onSl fun l => { l with inputQueue := l.inputQueue ++ [fr] }) :=
      .single (.link { s.sl with inputQueue := s.sl.inputQueue ++ [fr] } fun hb =>
        ⟨hb.queue, by simp [State.onSl]; omega, hb.reports, hb.badFrames, hb.overruns, hb.lostReports⟩)
    exact hlink.trans (wides_takeNext _)
  · exact .single (.link { s.sl with overruns := saturate 65535 s.sl.overruns } fun hb =>
      ⟨hb.queue, hb.frames, hb.reports, hb.badFrames, saturate_le _ _, hb.lostReports⟩)

theorem offerFrame_serviceWell (fr : Frame) {s : State} (h : s.ServiceWell) : (offerFrame fr s).ServiceWell := by
  unfold offerFrame
  split
  · exact takeNext_serviceWell ⟨h.reading, h.held⟩
  · exact ⟨h.reading, h.held⟩

/-! ### The receive assembler and the transmitter -/

/-- What the receive assembler does to the link short of offering a frame. -/
theorem changes_receive {m : Bool} (g : StationLink → StationLink) (s : State) (service : (g s.sl).inService = s.sl.inService := by rfl)
    (slot : (g s.sl).replySlot = s.sl.replySlot := by rfl) (queue : (g s.sl).inputQueue = s.sl.inputQueue := by rfl)
    (reports : (g s.sl).reports = s.sl.reports := by rfl) (overruns : (g s.sl).overruns = s.sl.overruns := by rfl)
    (lost : (g s.sl).lostReports = s.sl.lostReports := by rfl)
    (bad : s.sl.badFrames ≤ 65535 → (g s.sl).badFrames ≤ 65535 := by exact id) : Changes m s (s.onSl g) :=
  Change.one (.sl g service slot queue fun hb =>
    ⟨hb.queue, by simpa [queue] using hb.frames, by simpa [reports] using hb.reports, bad hb.badFrames, by simpa [overruns] using hb.overruns,
      by simpa [lost] using hb.lostReports⟩)

theorem changes_discardFrame {m : Bool} (s : State) : Changes m s (discardFrame s) := changes_receive _ s (bad := fun _ => saturate_le _ _)

theorem changes_addCharacter {m : Bool} (c : Byte) (s : State) : Changes m s (addCharacter c s) := changes_receive _ s

/-- R185: a finished frame is discarded or offered. -/
theorem finishFrame_cases (s : State) : Changes false s (finishFrame s)
    ∨ ∃ (u : State) (fr : Frame), Changes false s u ∧ finishFrame s = offerFrame fr u := by
  unfold finishFrame
  simp only []
  split
  · exact .inl (changes_discardFrame s)
  · split
    · exact .inl (changes_discardFrame s)
    · exact .inr ⟨_, _, changes_receive (fun l => { l with rx := .hunt, rxFrame := [], gapTimer := none }) s, rfl⟩

/-- R183, R184: a character is taken, and with the last of a frame the frame is offered. -/
theorem characterIn_cases (c : Byte) (e : Bool) (s : State) : Changes false s (characterIn c e s)
    ∨ ∃ (u : State) (fr : Frame), Changes false s u ∧ characterIn c e s = offerFrame fr u := by
  unfold characterIn
  split
  · split
    · exact .inl (changes_receive _ s)
    · exact .inl .refl
  · split
    · exact .inl (changes_discardFrame s)
    · exact .inl ((changes_addCharacter c s).trans (changes_receive _ _))
  · split
    · exact .inl (changes_discardFrame s)
    · exact .inl ((changes_addCharacter c s).trans (changes_receive _ _))
  · split
    · exact .inl (changes_discardFrame s)
    · simp only []
      split
      · exact .inl (changes_addCharacter c s)
      · obtain h | ⟨u, fr, hu, h⟩ := finishFrame_cases (addCharacter c s)
        · exact .inl ((changes_addCharacter c s).trans h)
        · exact .inr ⟨u, fr, (changes_addCharacter c s).trans hu, h⟩

theorem changes_gapExpired {m : Bool} (s : State) : Changes m s (gapExpired s) := by
  unfold gapExpired
  split
  · exact .refl
  all_goals exact changes_discardFrame s

/-- R191: the transmitter's arbitration leaves the service of commands alone. -/
theorem changes_transmitArbitrate {m : Bool} (s : State) : Changes m s (transmitArbitrate s) := by
  obtain ⟨tx, rs, h, hlen, _⟩ := transmitArbitrate_frame s
  rw [h]
  exact Change.one (.sl (fun l => { l with tx := tx, reports := rs })
    (bounds := fun hb => ⟨hb.queue, hb.frames, hlen.trans hb.reports, hb.badFrames, hb.overruns, hb.lostReports⟩))

/-- R191, R194: what a transmit completion comes to. -/
theorem transmitDone_cases (s : State) : Changes false s (transmitDone s)
    ∨ s.sl.resetting = true ∧ (∃ left, s.sl.tx = .reply left) ∧ transmitDone s = mainReset s
    ∨ s.sl.resetting = false ∧ transmitDone s = takeNext (transmitArbitrate (s.onSl fun l => { l with tx := .idle, replySlot := none })) := by
  unfold transmitDone
  split
  · exact .inl .refl
  · exact .inl ((changes_receive (fun l => { l with tx := .idle }) s).trans (changes_transmitArbitrate _))
  · next left htx =>
    split
    · next h => exact .inr (.inl ⟨h, ⟨left, htx⟩, rfl⟩)
    · next h => exact .inr (.inr ⟨by simpa using h, rfl⟩)

/-! ### The commands of the queue -/

/-- What one command of the queue does. -/
inductive Effect (c : Instr) (s : State) : State → Prop
  | changes {t : State} (m : Bool) (h : Changes m s t) (control : m = true → ∃ f, isControlStep c s f) : Effect c s t
  | offered {u : State} (h : Changes false s u) (fr : Frame) : Effect c s (offerFrame fr u)
  | sent (h : s.sl.resetting = false) :
      Effect c s (takeNext (transmitArbitrate (s.onSl fun l => { l with tx := .idle, replySlot := none })))
  | reset (h : isReset c s) : Effect c s (mainReset s)
  | unpowered (h : isReset c s) : Effect c s (losePower s)
  | powered (failed : Bool) (h : isReset c s) : Effect c s (powerOn failed s)

theorem Effect.same (c : Instr) (s : State) : Effect c s s := .changes false .refl (by simp)

theorem Effect.plain {c : Instr} {s t : State} (h : Changes false s t) : Effect c s t := .changes false h (by simp)

theorem Effect.whenPowered {c : Instr} {s : State} {f : State → State} (h : s.powered = true → Effect c s (f s)) :
    Effect c s (Machine.whenPowered s f) := by
  unfold Machine.whenPowered
  split
  · next hp => exact h hp
  · exact .same c s

theorem Effect.plainPowered {c : Instr} {s : State} {f : State → State} (h : Changes false s (f s)) :
    Effect c s (Machine.whenPowered s f) := .whenPowered fun _ => .plain h

theorem Effect.timer {c : Instr} {s : State} {f : State → State} (t : Timer) (h : Changes false s (f s)) :
    Effect c s (Machine.whenPowered s fun s => Machine.whenRunning t s f) := .plainPowered (changes_whenRunning t h)

theorem Effect.guarded {c : Instr} {s : State} {p : State → Prop} [DecidablePred p] {f : State → State}
    (h : p s → Changes false s (f s)) : Effect c s (Machine.whenPowered s fun s => if p s then f s else s) := by
  refine .plainPowered ?_
  split
  · next hp => exact h hp
  · exact .refl

theorem Effect.arrive (c : Instr) (k : CommandKind) (tag : Byte) (body : List Byte) (s : State) : Effect c s (Machine.arrive k tag body s) :=
  .whenPowered fun _ => .offered .refl _

end Sys2Proof.Machine

/-! PROOFS. Every command of the queue completes, with one of the effects of a command. -/

namespace Sys2Proof.Machine

theorem changes_stage {m : Bool} (k : Fin 3) (s : State) : Changes m s (fireStage arbitrate giveSpace k s.smu.lastFreq s) :=
  (calm_fireStage arbitrate_arbitrates giveSpace_arbitrates k _ s).changes

theorem changes_startTimeout {m : Bool} (s : State) : Changes m s (startTimeout s) := by
  have h : Changes m s (s.onSs fun q => { q with startTimer := none }) := changes_setSequencer s _
  unfold startTimeout
  simp only []
  split
  · exact h.trans (changes_takeTrip _ _ _)
  · exact h

theorem changes_settled {m : Bool} (s : State) : Changes m s (settled s) := by
  have h : Changes m s (s.onSs fun q => { q with settleTimer := none }) := changes_setSequencer s _
  unfold settled
  simp only []
  split
  · next hrun => exact h.trans (changes_enterLive hrun)
  · exact h

theorem changes_underspeedTimeout {m : Bool} (s : State) : Changes m s (underspeedTimeout s) := by
  have h : Changes m s (s.onSs fun q => { q with underspeedTimer := none }) := changes_setSequencer s _
  unfold underspeedTimeout
  simp only []
  split
  · exact h.trans (changes_takeTrip _ _ _)
  · exact h

theorem changes_runDownTimeout {m : Bool} (s : State) : Changes m s (runDownTimeout s) := by
  have h : Changes m s (s.onSs fun q => { q with runDownTimer := none }) := changes_setSequencer s _
  have hmark : Changes m s ((s.onSs fun q => { q with runDownTimer := none }).onSs fun q => { q with runDownMark := true }) :=
    h.trans (changes_setSequencer _ _)
  unfold runDownTimeout
  simp only []
  split
  · next hstop =>
    split
    · exact hmark.trans (changes_enterStopped_runDown hstop)
    · exact hmark
  · exact h

theorem changes_shortfallExpired {m : Bool} (s : State) : Changes m s (shortfallExpired s) := (calm_shortfallExpired s).changes

theorem changes_spunUp {m : Bool} (i : Fin 4) {s : State} (h : (s.slot i).state = .clutching) :
    Changes m s (postDrive i .clutching .spunUp (s.onSlot i fun d => { d with state := .ready, spinUpTimer := none })) :=
  .trans (changes_slotStays i (fun d => { d with state := .ready, spinUpTimer := none }) (by rw [h]; rfl) rfl) (changes_post _ _ _)

theorem changes_coasted {m : Bool} (i : Fin 4) {s : State} (h : (s.slot i).state = .coasting) :
    Changes m s (postDrive i .coasting .coasted (s.onSlot i fun d => { d with state := .idle, coastTimer := none })) :=
  .trans (changes_slotMoves i (fun d => { d with state := .idle, coastTimer := none }) s (by rw [h]; rfl) (by simp [h]) (fun _ => rfl)
    fun _ => rfl) (changes_post _ _ _)

theorem changes_strokeEnd {m : Bool} (i : Fin 4) (s : State) : Changes m s (strokeEnd arbitrate i s) :=
  (calm_strokeEnd arbitrate_arbitrates feedersOnly_nil i s).changes

theorem changes_strokeTimeout {m : Bool} (i : Fin 4) {s : State} (h : (s.slot i).state = .cutting) :
    Changes m s (strokeTimeout arbitrate i s) :=
  (calm_strokeTimeout arbitrate_arbitrates feedersOnly_nil i (by rw [h]; rfl)).changes

theorem changes_cycleTimer {m : Bool} (i : Fin 4) (s : State) :
    Changes m s (arbitrate (s.onSlot i fun d => { d with cycleTimer := none })) :=
  (changes_slotMoves i (fun d => { d with cycleTimer := none }) s rfl .rfl (fun _ => rfl) fun _ => rfl).trans (changes_arbitrate _ _)

theorem changes_minOffTimer {m : Bool} (i : Fin 12) (s : State) :
    Changes m s (arbitrate (s.onFeeder i fun d => { d with minOffTimer := none })) :=
  (Disp.feederTimers [] s i (fun d => { d with minOffTimer := none }) (fun _ => rfl) fun _ => rfl).calm.changes.trans (changes_arbitrate _ _)

theorem changes_rakeTimer {m : Bool} (g : RakeUnit → RakeUnit) (s : State) (state : (g s.rk).state = s.rk.state := by rfl)
    (held : (g s.rk).entryHeld = s.rk.entryHeld := by rfl) (params : (g s.rk).params = s.rk.params := by rfl) :
    Changes m s (s.onRk g) :=
  Change.one (.rk g state held (by rw [params]; exact id))

theorem changes_graceExpired {m : Bool} (s : State) : Changes m s (graceExpired arbitrate s) :=
  (calm_graceExpired arbitrate_arbitrates feedersOnly_nil s).changes

theorem changes_setPermit {m : Bool} (s : State) : Changes m s (setPermit arbitrate s) :=
  (calm_setPermit arbitrate_arbitrates feedersOnly_nil s).changes

/-- R1: a tooth edge completes a window exactly where it is a control step. -/
theorem isControlStep_of_edge {ticks : Nat} {s : State} (h : (s.smu.edge ticks).toothCount ≥ 24) :
    ∃ f, isControlStep (.toothEdge ticks) s f := by
  cases hw : s.smu.window with
  | waiting => simp [SpeedUnit.edge, hw] at h
  | timing =>
    simp only [SpeedUnit.edge, hw] at h
    exact ⟨_, .inl ⟨ticks, rfl, hw, by omega, rfl⟩⟩

theorem effect_toothEdge (ticks : Nat) (s : State) : Effect (.toothEdge ticks) s (whenPowered s (toothEdge ticks)) := by
  refine .whenPowered fun _ => ?_
  by_cases h : (s.smu.edge ticks).toothCount ≥ 24
  · exact .changes true (changes_toothEdge fun _ => rfl) fun _ => isControlStep_of_edge h
  · exact .plain (changes_toothEdge fun hk => absurd hk h)

theorem effect_windowTimeout (s : State) : Effect .windowTimeout s (whenPowered s fun s => whenRunning s.smu.timeout s windowTimeout) := by
  refine .whenPowered fun _ => ?_
  unfold whenRunning
  split
  · next h => exact .changes true (changes_windowTimeout s) fun _ => ⟨0, .inr ⟨rfl, h, rfl⟩⟩
  · exact .same _ s

theorem effect_character (c : Byte) (e : Bool) (s : State) : Effect (.characterReceived c e) s (whenPowered s (characterIn c e)) := by
  refine .whenPowered fun _ => ?_
  obtain h | ⟨u, fr, hu, h⟩ := characterIn_cases c e s
  · exact .plain h
  · exact h ▸ .offered hu fr

theorem effect_transmitted (s : State) : Effect .transmitCompletion s (whenPowered s transmitDone) := by
  refine .whenPowered fun _ => ?_
  obtain h | ⟨hreset, htx, h⟩ | ⟨hreset, h⟩ := transmitDone_cases s
  · exact .plain h
  · exact h ▸ .reset (.inr (.inr (.inr ⟨rfl, hreset, htx⟩)))
  · exact h ▸ .sent hreset

theorem effect_resetLine (s : State) : Effect .resetLine s (whenPowered s mainReset) := .whenPowered fun _ => .reset (.inl rfl)

theorem effect_powerLoss (s : State) : Effect .mainDomainPowerLoss s (whenPowered s losePower) :=
  .whenPowered fun _ => .unpowered (.inr (.inr (.inl rfl)))

/-- Every command of the queue completes, with its effect. -/
theorem exec_effect (c : Instr) (s : State) : ∃ t, exec c s = .next t ∧ Effect c s t := by
  cases c with
  | toothEdge ticks => exact ⟨_, rfl, effect_toothEdge ticks s⟩
  | windowTimeout => exact ⟨_, rfl, effect_windowTimeout s⟩
  | startTimerExpiry => exact ⟨_, rfl, .timer _ (changes_startTimeout s)⟩
  | settleTimerExpiry => exact ⟨_, rfl, .timer _ (changes_settled s)⟩
  | underspeedTimerExpiry => exact ⟨_, rfl, .timer _ (changes_underspeedTimeout s)⟩
  | runDownTimerExpiry => exact ⟨_, rfl, .timer _ (changes_runDownTimeout s)⟩
  | levelSamplePeriod pond forebay => exact ⟨_, rfl, .timer _ (changes_levelSample pond forebay s)⟩
  | watchSamplePeriod => exact ⟨_, rfl, .timer _ (changes_watchSample s)⟩
  | watchEdge input high => exact ⟨_, rfl, .plain (changes_watchTransition input high s)⟩
  | spacingTimerExpiry => exact ⟨_, rfl, .timer _ ((changes_daTimer _ s).trans (changes_arbitrate _ _))⟩
  | shortfallTimerExpiry => exact ⟨_, rfl, .timer _ (changes_shortfallExpired s)⟩
  | waitTimerExpiry owner => exact ⟨_, rfl, .guarded fun _ => changes_withdrawOwner owner .wait s⟩
  | leadTimerExpiry slot => exact ⟨_, rfl, .guarded fun h => changes_clutchIn slot h.1⟩
  | spinUpTimerExpiry slot => exact ⟨_, rfl, .guarded fun h => changes_spunUp slot h.1⟩
  | strokeEnd slot => exact ⟨_, rfl, .plainPowered (changes_strokeEnd slot s)⟩
  | strokeTimerExpiry slot => exact ⟨_, rfl, .guarded fun h => changes_strokeTimeout slot h.1⟩
  | coastTimerExpiry slot => exact ⟨_, rfl, .guarded fun h => changes_coasted slot h.1⟩
  | cycleTimerExpiry slot => exact ⟨_, rfl, .timer _ (changes_cycleTimer slot s)⟩
  | dueTimerExpiry => exact ⟨_, rfl, .timer _ ((changes_rakeTimer (fun k => { k with dueTimer := none }) s).trans (changes_dueTrigger _ _))⟩
  | graceTimerExpiry => exact ⟨_, rfl, .timer _ (changes_graceExpired s)⟩
  | runTimerExpiry => exact ⟨_, rfl, .guarded fun h => changes_runComplete h.1⟩
  | minimumOffTimerExpiry feeder => exact ⟨_, rfl, .timer _ (changes_minOffTimer feeder s)⟩
  | stageTimerExpiry stage => exact ⟨_, rfl, .guarded fun _ => changes_stage stage s⟩
  | restoreTimerExpiry => exact ⟨_, rfl, .timer _ (changes_setPermit s)⟩
  | calendarSecond products => exact ⟨_, rfl, .plain (changes_calendarSecond products s)⟩
  | trimWindowStart => exact ⟨_, rfl, .plain (changes_startTrimWindow s)⟩
  | generatorCrossing => exact ⟨_, rfl, .plain (changes_generatorCrossing s)⟩
  | loadCompletion => exact ⟨_, rfl, .plainPowered (changes_loadComplete s)⟩
  | scanCompletion => exact ⟨_, rfl, .plainPowered (changes_scanComplete s)⟩
  | programCompletion passed => exact ⟨_, rfl, .plainPowered (changes_programDone passed s)⟩
  | eraseCompletion passed => exact ⟨_, rfl, .plainPowered (changes_eraseDone passed s)⟩
  | readCompletion => exact ⟨_, rfl, .plainPowered (changes_readDone s)⟩
  | eraseSuspension => exact ⟨_, rfl, .guarded fun _ => StoreKept.changes (suspendAtFifty_kept _)⟩
  | suspendLatencyEnd => exact ⟨_, rfl, .guarded fun _ => StoreKept.changes (suspendedStart_kept _)⟩
  | characterReceived character framingError => exact ⟨_, rfl, effect_character character framingError s⟩
  | gapTimerExpiry => exact ⟨_, rfl, .timer _ (changes_gapExpired s)⟩
  | transmitCompletion => exact ⟨_, rfl, effect_transmitted s⟩
  | powerOnReset failed => exact ⟨_, rfl, .powered failed (.inr (.inl ⟨failed, rfl⟩))⟩
  | resetLine => exact ⟨_, rfl, effect_resetLine s⟩
  | unknownCommand kind tag body => exact ⟨_, rfl, .whenPowered fun _ => .offered .refl _⟩
  | mainDomainPowerLoss => exact ⟨_, rfl, effect_powerLoss s⟩
  | hello tag body => exact ⟨_, rfl, .arrive _ .hello tag body s⟩
  | status tag body => exact ⟨_, rfl, .arrive _ .status tag body s⟩
  | reset tag body => exact ⟨_, rfl, .arrive _ .reset tag body s⟩
  | start tag body => exact ⟨_, rfl, .arrive _ .start tag body s⟩
  | stop tag body => exact ⟨_, rfl, .arrive _ .stop tag body s⟩
  | clearTrip tag body => exact ⟨_, rfl, .arrive _ .clearTrip tag body s⟩
  | readTrip tag body => exact ⟨_, rfl, .arrive _ .readTrip tag body s⟩
  | setGovernor tag body => exact ⟨_, rfl, .arrive _ .setGovernor tag body s⟩
  | standingOn tag body => exact ⟨_, rfl, .arrive _ .standingOn tag body s⟩
  | standingOff tag body => exact ⟨_, rfl, .arrive _ .standingOff tag body s⟩
  | setAlarm tag body => exact ⟨_, rfl, .arrive _ .setAlarm tag body s⟩
  | setLevels tag body => exact ⟨_, rfl, .arrive _ .setLevels tag body s⟩
  | setWatch tag body => exact ⟨_, rfl, .arrive _ .setWatch tag body s⟩
  | ackWatch tag body => exact ⟨_, rfl, .arrive _ .ackWatch tag body s⟩
  | readLevels tag body => exact ⟨_, rfl, .arrive _ .readLevels tag body s⟩
  | setDispatch tag body => exact ⟨_, rfl, .arrive _ .setDispatch tag body s⟩
  | listTable tag body => exact ⟨_, rfl, .arrive _ .listTable tag body s⟩
  | listQueue tag body => exact ⟨_, rfl, .arrive _ .listQueue tag body s⟩
  | cancel tag body => exact ⟨_, rfl, .arrive _ .cancel tag body s⟩
  | setDrive tag body => exact ⟨_, rfl, .arrive _ .setDrive tag body s⟩
  | engage tag body => exact ⟨_, rfl, .arrive _ .engage tag body s⟩
  | cut tag body => exact ⟨_, rfl, .arrive _ .cut tag body s⟩
  | halt tag body => exact ⟨_, rfl, .arrive _ .halt tag body s⟩
  | release tag body => exact ⟨_, rfl, .arrive _ .release tag body s⟩
  | clearDrive tag body => exact ⟨_, rfl, .arrive _ .clearDrive tag body s⟩
  | setRake tag body => exact ⟨_, rfl, .arrive _ .setRake tag body s⟩
  | rakeNow tag body => exact ⟨_, rfl, .arrive _ .rakeNow tag body s⟩
  | setFeeder tag body => exact ⟨_, rfl, .arrive _ .setFeeder tag body s⟩
  | setShedding tag body => exact ⟨_, rfl, .arrive _ .setShedding tag body s⟩
  | connect tag body => exact ⟨_, rfl, .arrive _ .connect tag body s⟩
  | disconnect tag body => exact ⟨_, rfl, .arrive _ .disconnect tag body s⟩
  | lockFeeder tag body => exact ⟨_, rfl, .arrive _ .lockFeeder tag body s⟩
  | unlockFeeder tag body => exact ⟨_, rfl, .arrive _ .unlockFeeder tag body s⟩
  | setClock tag body => exact ⟨_, rfl, .arrive _ .setClock tag body s⟩
  | readClock tag body => exact ⟨_, rfl, .arrive _ .readClock tag body s⟩
  | setTrim tag body => exact ⟨_, rfl, .arrive _ .setTrim tag body s⟩
  | shiftHour tag body => exact ⟨_, rfl, .arrive _ .shiftHour tag body s⟩
  | zeroTimeError tag body => exact ⟨_, rfl, .arrive _ .zeroTimeError tag body s⟩
  | setCorrection tag body => exact ⟨_, rfl, .arrive _ .setCorrection tag body s⟩
  | readMeter tag body => exact ⟨_, rfl, .arrive _ .readMeter tag body s⟩
  | setTariff tag body => exact ⟨_, rfl, .arrive _ .setTariff tag body s⟩
  | save tag body => exact ⟨_, rfl, .arrive _ .save tag body s⟩
  | readJournal tag body => exact ⟨_, rfl, .arrive _ .readJournal tag body s⟩
  | storeConfig tag body => exact ⟨_, rfl, .arrive _ .storeConfig tag body s⟩
  | unprotect tag body => exact ⟨_, rfl, .arrive _ .unprotect tag body s⟩
  | writeCommission tag body => exact ⟨_, rfl, .arrive _ .writeCommission tag body s⟩
  | lockCommission tag body => exact ⟨_, rfl, .arrive _ .lockCommission tag body s⟩
  | readCommission tag body => exact ⟨_, rfl, .arrive _ .readCommission tag body s⟩

end Sys2Proof.Machine

/-! PROOFS. The resets (R6, R21, R40, R48, R55, R80, R104, R114, R136, R150, R163, R182, R195), and what the state after one meets. -/

namespace Sys2Proof.Machine

/-! ### The reset values meet the invariants -/

theorem State.MainReset.bounded {s : State} (h : s.MainReset) : s.Bounded := by
  refine ⟨?_, ?_, ?_, ?_, ?_, ?_⟩ <;> simp [h.dispatch, h.link]

theorem State.MainReset.serviceWell {s : State} (h : s.MainReset) : s.ServiceWell := .of_idle (by rw [h.link]) (by rw [h.store])

theorem State.MainReset.residuesLow {s : State} (h : s.MainReset) : s.ResiduesLow := fun i => by rw [h.accounts i]; decide

theorem State.MainReset.fieldFollowsLive {s : State} (h : s.MainReset) : s.FieldFollowsLive := by
  unfold State.FieldFollowsLive
  rw [h.station]
  rfl

theorem State.MainReset.standingInLive {s : State} (h : s.MainReset) : s.StandingInLive := by
  unfold State.StandingInLive
  simp [h.station]

theorem State.MainReset.captureInTripped {s : State} (h : s.MainReset) : s.CaptureInTripped := by
  unfold State.CaptureInTripped
  simp [h.station]

theorem State.MainReset.relayFollows {s : State} (h : s.MainReset) : s.RelayFollows := by
  unfold State.RelayFollows
  simp [h.station, State.alarmCondition]

theorem State.MainReset.consistent {s : State} (h : s.MainReset) : s.Consistent where
  driveGranted i := by simp [State.tableHas, h.dispatch, h.drives i, SlotState.engaged]
  feederGranted i := by simp [State.tableHas, h.dispatch, h.feeders i]
  rakeGranted := by simp [State.tableHas, h.dispatch, h.rake]
  driveQueued i := by simp [State.queueHas, h.dispatch, h.drives i]
  feederQueued i := by simp [State.queueHas, h.dispatch, h.feeders i]
  rakeQueued := by simp [State.queueHas, h.dispatch, h.rake]
  rakeHeld := by simp [h.rake]
  tableOnce := by simp [h.dispatch]
  queueOnce := by simp [h.dispatch]
  fedForward := by simp [h.gate, State.drivesInTable, h.dispatch]

theorem State.MainReset.queueWell {s : State} (h : s.MainReset) : s.QueueWell := by
  refine ⟨?_, ?_, ?_, ?_, ?_⟩ <;> simp [h.dispatch, queueOrdered]

theorem State.MainReset.drivenInLive {s : State} (h : s.MainReset) : s.DrivenInLive :=
  (drivenInLive_iff ((consistent_iff s).mp h.consistent)).mpr fun _ => ⟨by rw [h.dispatch], by rw [h.dispatch], by rw [h.station]⟩

theorem State.MainReset.profilesInRange {s : State} (h : s.MainReset) : s.ProfilesInRange :=
  ⟨fun i hp => by simp [h.drives i] at hp, fun i => by rw [h.feeders i]; decide⟩

theorem State.MainReset.gateInRange {s : State} (h : s.MainReset) : s.GateInRange := by
  refine ⟨?_, ?_, ?_, ?_⟩ <;> simp [h.gate, h.levels]

/-- R150: a main-domain reset leaves the correction parameters alone. -/
theorem State.MainReset.paramsInRange {s : State} (h : s.MainReset)
    (hc : fieldsInRange CorrectionParams.fields s.cu.params.toList = true) : s.ParamsInRange where
  gov := by rw [h.gate]; decide
  levels := by rw [h.levels]; decide
  dispatch := by rw [h.dispatch]; decide
  rake := by rw [h.rake]; decide
  shedding := by rw [h.shedding]; decide
  correction := hc

/-! ### What a reset does -/

/-- A state whose blocks of the main domain are the reset values meets them. -/
theorem mainReset_of_blocks {s : State} (smu : s.smu = smuReset) (gate : s.gc = gcReset) (station : s.ss = ssReset) (levels : s.lu = luReset)
    (watch : s.wu = wuReset s.wu.pins) (dispatch : s.da = daReset) (drives : s.ds = dsReset) (rake : s.rk = rkReset) (feeders : s.fu = fuReset)
    (accounts : s.mu = muReset) (store : s.store = storeReset s.store.commissioning s.store.array) (link : s.sl = slReset)
    (corrections : s.cu.correction = .inactive ∧ s.cu.liveCopy = false ∧ s.cu.shedCopy = false) : s.MainReset where
  smu := smu
  gate := gate
  station := station
  levels := levels
  watch i := by unfold State.input; rw [watch]; simp [wuReset, watchInputReset]
  watchTimer := by rw [watch]; rfl
  dispatch := dispatch
  drives i := by unfold State.slot; rw [drives]; simp [dsReset, slotReset, DriveProfile.zero]
  feedHold := by rw [drives]; rfl
  rake := rake
  feeders i := by unfold State.feeder; rw [feeders]; simp [fuReset, feederReset, FeederProfile.default]
  stages k := by unfold State.stage; rw [feeders]; simp [fuReset]
  restoration := by rw [feeders]; exact ⟨rfl, rfl⟩
  shedding := by rw [feeders]; rfl
  accounts i := by unfold State.account; rw [accounts]; simp [muReset, accountReset]
  tariff := by rw [accounts]; exact ⟨rfl, rfl, rfl⟩
  store := store
  link := link
  corrections := corrections

theorem mainReset_mainReset (s : State) : (mainReset s).MainReset :=
  mainReset_of_blocks rfl rfl rfl rfl rfl rfl rfl rfl rfl rfl rfl rfl ⟨rfl, rfl, rfl⟩

theorem losePower_mainReset (s : State) : (losePower s).MainReset :=
  mainReset_of_blocks rfl rfl rfl rfl rfl rfl rfl rfl rfl rfl rfl rfl ⟨rfl, rfl, rfl⟩

theorem coldStartIfLost_corrections {u : CalendarUnit} (h : u.correction = .inactive ∧ u.liveCopy = false ∧ u.shedCopy = false) :
    (coldStartIfLost u).correction = .inactive ∧ (coldStartIfLost u).liveCopy = false ∧ (coldStartIfLost u).shedCopy = false := by
  unfold coldStartIfLost
  split
  · exact h
  · exact ⟨rfl, rfl, rfl⟩

theorem powerOn_mainReset (failed : Bool) (s : State) : (powerOn failed s).MainReset :=
  mainReset_of_blocks rfl rfl rfl rfl rfl rfl rfl rfl rfl rfl rfl rfl (coldStartIfLost_corrections ⟨rfl, rfl, rfl⟩)

/-- A write to the array, and the free values it takes, as a whole. -/
def State.withArray (s : State) (a : List Host.Cell) (n : Nat) : State := { s with store := { s.store with array := a }, choices := n }

theorem noImage_frame (x : Nat) (s : State) : ∃ a, noImage x s = s.withArray a s.choices := by
  unfold noImage
  split
  · exact ⟨_, rfl⟩
  · exact ⟨_, rfl⟩

theorem leaveConfigPage_frame (second : Bool) (bytes : List Byte) (s : State) : ∃ a n, leaveConfigPage second bytes s = s.withArray a n := by
  obtain ⟨a, h⟩ := noImage_frame (if second then pageOneByte s.choices else pageZeroByte s.choices)
    (writeArray (if second then 256 else 0) 256 bytes s).nextChoice
  exact ⟨a, _, h⟩

theorem leaveSector_frame (k : Fin 16) (first : Bool) (s : State) : ∃ a n, leaveSector k first s = s.withArray a n := by
  unfold leaveSector
  simp only []
  split
  · obtain ⟨a, h⟩ := noImage_frame (sectorZeroByte s.choices) (writeArray (sectorBase k) 4096 (failedSector s.choices k first (Flash.readBytes s.store.array (sectorBase k) 4096)) s).nextChoice
    exact ⟨a, _, h⟩
  · exact ⟨_, _, rfl⟩

theorem cutProgram_frame (s : State) : ∃ a n, cutProgram s = s.withArray a n := by
  unfold cutProgram
  split
  · exact ⟨_, _, rfl⟩
  · exact leaveConfigPage_frame _ _ s
  · exact ⟨_, _, rfl⟩
  · exact ⟨_, _, rfl⟩
  · exact ⟨_, _, rfl⟩

theorem cutErase_frame (s : State) : ∃ a n, cutErase s = s.withArray a n := by
  unfold cutErase
  split
  · exact leaveSector_frame _ _ s
  · exact ⟨_, _, rfl⟩

/-- R181, R182: what is cut off reaches the array alone. -/
theorem cutOff_frame (s : State) : ∃ a n, cutOff s = s.withArray a n := by
  obtain ⟨a, n, h⟩ := cutProgram_frame s
  obtain ⟨b, k, h'⟩ := cutErase_frame (cutProgram s)
  exact ⟨b, k, by unfold cutOff; rw [h', h]; rfl⟩

theorem changes_cutOff {m : Bool} (s : State) : Changes m s (cutOff s) := by
  have hprogram : Changes m s (cutProgram s) := by
    unfold cutProgram
    split
    · exact (changes_writeArray (journalBase_le _) _ s).trans (changes_nextChoice _)
    · exact changes_leaveConfigPage _ _ s
    · exact (changes_writeArray (by decide) _ s).trans (changes_nextChoice _)
    · exact .refl
    · exact .refl
  refine hprogram.trans ?_
  unfold cutOff cutErase
  split
  · exact changes_leaveSector _ _ _
  · exact .refl

theorem cutOff_arrayCanonical {s : State} (h : s.ArrayCanonical) : (cutOff s).ArrayCanonical :=
  (changes_cutOff (m := false) s).keeps (fun _ _ hstep hs => hstep.arrayCanonical hs) h

/-- What a reset keeps: the wires of the watch inputs, the commands that wait outside, and the commissioning block. -/
theorem mainReset_keeps (s : State) : (mainReset s).wu.pins = s.wu.pins ∧ (mainReset s).pending = s.pending
    ∧ (mainReset s).store.commissioning = s.store.commissioning ∧ (mainReset s).cu = cuReset s.cu ∧ (mainReset s).powered = s.powered := by
  obtain ⟨a, n, h⟩ := cutOff_frame s
  unfold mainReset
  rw [h]
  exact ⟨rfl, rfl, rfl, rfl, rfl⟩

/-- What all resets keep. -/
structure ResetKeeps (s t : State) : Prop where
  reset : t.MainReset
  pending : t.pending = s.pending
  commissioning : t.store.commissioning = s.store.commissioning
  array : s.ArrayCanonical → t.ArrayCanonical
  correction : fieldsInRange CorrectionParams.fields s.cu.params.toList = true →
    fieldsInRange CorrectionParams.fields t.cu.params.toList = true

theorem mainReset_resetKeeps (s : State) : ResetKeeps s (mainReset s) := by
  obtain ⟨_, hpending, hblock, hcu, _⟩ := mainReset_keeps s
  exact ⟨mainReset_mainReset s, hpending, hblock, fun h => cutOff_arrayCanonical h, fun h => by rw [hcu]; exact h⟩

theorem losePower_resetKeeps (s : State) : ResetKeeps s (losePower s) := by
  obtain ⟨_, hpending, hblock, hcu, _⟩ := mainReset_keeps s
  exact ⟨losePower_mainReset s, hpending, hblock, fun h => cutOff_arrayCanonical h, fun h => by
    rw [show (losePower s).cu = (mainReset s).cu from rfl, hcu]; exact h⟩

theorem coldStartIfLost_params (failed : Bool) {u : CalendarUnit} (h : fieldsInRange CorrectionParams.fields u.params.toList = true) :
    fieldsInRange CorrectionParams.fields (coldStartIfLost (cuReset (loseCell failed u))).params.toList = true := by
  unfold coldStartIfLost
  split
  · cases failed <;> exact h
  · decide

theorem powerOn_resetKeeps (failed : Bool) (s : State) : ResetKeeps s (powerOn failed s) := by
  obtain ⟨_, hpending, hblock, hcu, _⟩ := mainReset_keeps (s.onCu (loseCell failed))
  exact ⟨powerOn_mainReset failed s, hpending, hblock, fun h => cutOff_arrayCanonical (s := s.onCu (loseCell failed)) h, fun h => by
    rw [show (powerOn failed s).cu = coldStartIfLost (mainReset (s.onCu (loseCell failed))).cu from rfl, hcu]
    exact coldStartIfLost_params failed h⟩

end Sys2Proof.Machine

/-! PROOFS. What every step keeps (R18, R26, R28, R33, R36, R38, R57, R59, R60, R155, R186, R187, R190, R194, chapter 10). -/

namespace Sys2Proof.Machine

/-- A property that no elementary change, no change of the link or of a journal read, and no reset takes away. -/
structure Kept (P : State → Prop) : Prop where
  change : ∀ {m : Bool} {s t : State}, Change m s t → P s → P t
  link : ∀ {s : State} (l : StationLink), (s.Bounded → (s.onSl fun _ => l).Bounded) → P s → P (s.onSl fun _ => l)
  reading : ∀ {s : State} (j : ReadJob) (p : Fin 224), P s → P (s.onStore fun a => { a with readJob := some j, readRequest := some p })
  reset : ∀ {s t : State}, ResetKeeps s t → P s → P t
  pending : ∀ {s : State} (l : List Instr), P s → P { s with pending := l }

theorem Kept.wides {P : State → Prop} (h : Kept P) {m : Bool} {s t : State} (hw : Wides m s t) (hs : P s) : P t :=
  hw.keeps (fun _ _ => h.change) (fun _ => h.link) (fun _ => h.reading) hs

theorem wides_sent (s : State) :
    Wides false s (takeNext (transmitArbitrate (s.onSl fun l => { l with tx := .idle, replySlot := none }))) := by
  have hlink : Wides false s (s.onSl fun l => { l with tx := .idle, replySlot := none }) :=
    .single (.link { s.sl with tx := .idle, replySlot := none } fun hb =>
      ⟨hb.queue, hb.frames, hb.reports, hb.badFrames, hb.overruns, hb.lostReports⟩)
  exact (hlink.trans (changes_transmitArbitrate _).wides).trans (wides_takeNext _)

theorem Kept.effect {P : State → Prop} (h : Kept P) {c : Instr} {s t : State} (he : Effect c s t) (hs : P s) : P t := by
  cases he with
  | changes m hc => exact h.wides hc.wides hs
  | offered hc fr => exact h.wides (hc.wides.trans (wides_offerFrame fr _)) hs
  | sent => exact h.wides (wides_sent s) hs
  | reset => exact h.reset (mainReset_resetKeeps s) hs
  | unpowered => exact h.reset (losePower_resetKeeps s) hs
  | powered failed => exact h.reset (powerOn_resetKeeps failed s) hs

/-- What a step does: a command of the queue with its effect, or a millisecond. -/
theorem step_cases {s t : State} (h : step s = .next t) :
    (∃ c rest, Effect c { s with pending := rest } t) ∨ t = tick s := by
  unfold step at h
  split at h
  · next c rest _ =>
    obtain ⟨u, hu, he⟩ := exec_effect c { s with pending := rest }
    rw [hu] at h
    cases h
    exact .inl ⟨c, rest, he⟩
  · cases h
    exact .inr rfl

theorem Kept.step {P : State → Prop} (h : Kept P) {s t : State} (hst : Machine.step s = .next t) (hs : P s) : P t := by
  obtain ⟨c, rest, he⟩ | rfl := step_cases hst
  · exact h.effect he (h.pending rest hs)
  · exact h.change (m := false) .tick hs

/-- A property that holds after every reset, and that reads neither the link, a journal read nor the queue of commands. -/
theorem Kept.of_mainReset {P : State → Prop} (change : ∀ {m : Bool} {s t : State}, Change m s t → P s → P t)
    (reset : ∀ {s : State}, s.MainReset → P s)
    (link : ∀ {s : State} (l : StationLink), P s → P (s.onSl fun _ => l) := by exact fun _ h => h)
    (reading : ∀ {s : State} (j : ReadJob) (p : Fin 224), P s → P (s.onStore fun a => { a with readJob := some j, readRequest := some p })
      := by exact fun _ _ h => h)
    (pending : ∀ {s : State} (l : List Instr), P s → P { s with pending := l } := by exact fun _ h => h) : Kept P :=
  ⟨change, fun l _ h => link l h, reading, fun h _ => reset h.reset, pending⟩

/-! ### The bounds -/

theorem kept_bounded : Kept State.Bounded where
  change h := h.bounded
  link _ hb h := hb h
  reading _ _ h := ⟨h.queue, h.frames, h.reports, h.badFrames, h.overruns, h.lostReports⟩
  reset h _ := h.reset.bounded
  pending _ h := ⟨h.queue, h.frames, h.reports, h.badFrames, h.overruns, h.lostReports⟩

theorem kept_arrayCanonical : Kept State.ArrayCanonical where
  change h := h.arrayCanonical
  link _ _ h := h
  reading _ _ h := h
  reset h hs := h.array hs
  pending _ h := h

theorem kept_residuesLow : Kept State.ResiduesLow := .of_mainReset Change.residuesLow State.MainReset.residuesLow

/-- R179, R187, R194: what may stay in service after a command of the queue. -/
theorem Effect.serviceWell {c : Instr} {s t : State} (h : Effect c s t) (hs : s.ServiceWell) : t.ServiceWell := by
  cases h with
  | changes m hc => exact hc.serviceKept.serviceWell hs
  | offered hc fr => exact offerFrame_serviceWell fr (hc.serviceKept.serviceWell hs)
  | sent hreset =>
    have hfree : (s.onSl fun l => { l with tx := .idle, replySlot := none }).ServiceWell := by
      refine ⟨hs.reading, fun fr hfr => (hs.held fr hfr).imp_right fun hk => ?_⟩
      have : s.sl.resetting = true := by
        unfold StationLink.resetting
        rw [show s.sl.inService = some fr from hfr]
        simp [hk.1]
      rw [hreset] at this
      cases this
    exact takeNext_serviceWell ((changes_transmitArbitrate (m := false) _).serviceKept.serviceWell hfree)
  | reset => exact (mainReset_mainReset s).serviceWell
  | unpowered => exact (losePower_mainReset s).serviceWell
  | powered failed => exact (powerOn_mainReset failed s).serviceWell

theorem step_serviceWell {s t : State} (h : step s = .next t) (hs : s.ServiceWell) : t.ServiceWell := by
  obtain ⟨c, rest, he⟩ | rfl := step_cases h
  · exact he.serviceWell ⟨hs.reading, hs.held⟩
  · exact (Change.serviceKept (m := false) .tick).serviceWell hs

/-- Settles O55: every step is a chain of elementary changes, of the link's service, or a reset, and each keeps the bounds. -/
theorem stepKeepsBounds : Obligations.StepKeepsBounds := fun _ _ h =>
  ⟨kept_bounded.step h, step_serviceWell h, kept_arrayCanonical.step h, kept_residuesLow.step h⟩

/-! ### The station -/

theorem kept_fieldFollowsLive : Kept State.FieldFollowsLive := .of_mainReset Change.fieldFollowsLive State.MainReset.fieldFollowsLive

theorem kept_standingInLive : Kept State.StandingInLive := .of_mainReset Change.standingInLive State.MainReset.standingInLive

theorem kept_captureInTripped : Kept State.CaptureInTripped := .of_mainReset Change.captureInTripped State.MainReset.captureInTripped

theorem kept_relayFollows : Kept State.RelayFollows :=
  .of_mainReset Change.relayFollows State.MainReset.relayFollows
    (link := fun _ h => h.of_condition rfl rfl rfl (alarmCondition_congr .rfl (fun _ => rfl) (fun _ => rfl) rfl))
    (reading := fun _ _ h => h.of_condition rfl rfl rfl (alarmCondition_congr .rfl (fun _ => rfl) (fun _ => rfl) rfl))
    (pending := fun _ h => h.of_condition rfl rfl rfl (alarmCondition_congr .rfl (fun _ => rfl) (fun _ => rfl) rfl))

/-- Settles O56: each of the four station rules is kept by every elementary change and met by the reset values. -/
theorem stepKeepsStation : Obligations.StepKeepsStation := fun _ _ h =>
  ⟨kept_fieldFollowsLive.step h, kept_standingInLive.step h, kept_captureInTripped.step h, kept_relayFollows.step h⟩

/-! ### The collections -/

theorem State.MainReset.agree {s : State} (h : s.MainReset) : Agree [] s := (consistent_iff s).mp h.consistent

theorem agree_same {s t : State} (hs : Agree [] s) (hda : t.da = s.da) (hds : t.ds = s.ds) (hrk : t.rk = s.rk) (hfu : t.fu = s.fu)
    (hgc : t.gc = s.gc) : Agree [] t :=
  hs.of_states (by simp [State.tableOwners, hda]) (by simp [State.queueOwners, hda]) (fun i => by simp [State.slot, hds])
    (by rw [hrk]) (by rw [hrk]) (fun i => by simp [State.feeder, hfu]) (by rw [hgc])

theorem kept_agree : Kept (Agree []) :=
  .of_mainReset Change.agree State.MainReset.agree (link := fun _ h => agree_same h rfl rfl rfl rfl rfl)
    (reading := fun _ _ h => agree_same h rfl rfl rfl rfl rfl) (pending := fun _ h => agree_same h rfl rfl rfl rfl rfl)

/-- R28: with the collections in agreement, nothing is driven outside LIVE. -/
theorem kept_rests : Kept fun s => Agree [] s ∧ s.RestsOutsideLive where
  change h hs := ⟨h.agree hs.1, h.restsOutsideLive hs.1 hs.2⟩
  link l hb hs := ⟨kept_agree.link l hb hs.1, hs.2⟩
  reading j p hs := ⟨kept_agree.reading j p hs.1, hs.2⟩
  reset h _ := ⟨h.reset.agree, (drivenInLive_iff h.reset.agree).mp h.reset.drivenInLive⟩
  pending l hs := ⟨kept_agree.pending l hs.1, hs.2⟩

/-- Settles O57: the agreement of owners and collections is carried along, and with it both collections stay empty outside LIVE. -/
theorem nothingIsDrivenOutsideLive : Obligations.NothingIsDrivenOutsideLive := fun s t h hc hd => by
  have ha := (consistent_iff s).mp hc
  obtain ⟨hta, htr⟩ := kept_rests.step h ⟨ha, (drivenInLive_iff ha).mp hd⟩
  exact (drivenInLive_iff hta).mpr htr

theorem kept_profilesInRange : Kept State.ProfilesInRange :=
  .of_mainReset Change.profilesInRange State.MainReset.profilesInRange
    (link := fun _ h => ⟨h.drives, h.feeders⟩) (reading := fun _ _ h => ⟨h.drives, h.feeders⟩) (pending := fun _ h => ⟨h.drives, h.feeders⟩)

/-- R59: the queue's order needs the classes of the profiles in range. -/
theorem kept_queueOrder : Kept fun s => s.ProfilesInRange ∧ QueueOrder s.da.queue s.da.sequence where
  change h hs := ⟨h.profilesInRange hs.1, h.queueOrder hs.1 hs.2⟩
  link l hb hs := ⟨kept_profilesInRange.link l hb hs.1, hs.2⟩
  reading j p hs := ⟨kept_profilesInRange.reading j p hs.1, hs.2⟩
  reset h _ := ⟨h.reset.profilesInRange, ((queueWell_iff _).mp h.reset.queueWell).1⟩
  pending l hs := ⟨kept_profilesInRange.pending l hs.1, hs.2⟩

/-- Settles O59: every elementary change keeps the agreement of owners and collections, and the order of the queue. -/
theorem stepKeepsCollections : Obligations.StepKeepsCollections := fun s t h hc => by
  have hconsistent : t.Consistent := (consistent_iff t).mpr (kept_agree.step h ((consistent_iff s).mp hc))
  refine ⟨hconsistent, fun hp hq => ?_⟩
  obtain ⟨_, horder⟩ := kept_queueOrder.step h ⟨hp, ((queueWell_iff s).mp hq).1⟩
  exact (queueWell_iff t).mpr ⟨horder, hconsistent.queueOnce⟩

/-! ### The settings -/

theorem kept_paramsInRange : Kept State.ParamsInRange where
  change h := h.paramsInRange
  link _ _ h := ⟨h.gov, h.levels, h.dispatch, h.rake, h.shedding, h.correction⟩
  reading _ _ h := ⟨h.gov, h.levels, h.dispatch, h.rake, h.shedding, h.correction⟩
  reset h hs := h.reset.paramsInRange (h.correction hs.correction)
  pending _ h := ⟨h.gov, h.levels, h.dispatch, h.rake, h.shedding, h.correction⟩

/-- R15, R43: the gate's range needs the governor parameters in range. -/
theorem kept_gateInRange : Kept fun s => s.ParamsInRange ∧ s.GateInRange where
  change h hs := ⟨h.paramsInRange hs.1, h.gateInRange hs.1 hs.2⟩
  link l hb hs := ⟨kept_paramsInRange.link l hb hs.1, hs.2.out, hs.2.lim, hs.2.forebay, hs.2.copy⟩
  reading j p hs := ⟨kept_paramsInRange.reading j p hs.1, hs.2.out, hs.2.lim, hs.2.forebay, hs.2.copy⟩
  reset h hs := ⟨kept_paramsInRange.reset h hs.1, h.reset.gateInRange⟩
  pending l hs := ⟨kept_paramsInRange.pending l hs.1, hs.2.out, hs.2.lim, hs.2.forebay, hs.2.copy⟩

/-- Settles O58: what a command or a load sets lies in its range, and the gate and its limits stay below the greatest opening. -/
theorem stepKeepsSettings : Obligations.StepKeepsSettings := fun _ _ h =>
  ⟨kept_paramsInRange.step h, kept_profilesInRange.step h, fun hp hg => (kept_gateInRange.step h ⟨hp, hg⟩).2⟩

/-! ### The block, the queue of commands and the reset state -/

/-- R172: a locked block is the block it was; R200: the unused bytes are those they were. -/
theorem kept_commissioning (b : Commissioning) :
    Kept fun s => (b.locked = true → s.store.commissioning = b) ∧ s.store.commissioning.unused = b.unused where
  change h hs := ⟨fun hl => (h.commissioning.1 (by rw [hs.1 hl]; exact hl)).trans (hs.1 hl), h.commissioning.2.trans hs.2⟩
  link _ _ hs := hs
  reading _ _ hs := hs
  reset h hs := by rw [h.commissioning]; exact hs
  pending _ hs := hs

/-- Settles O1: a step takes the front command by definition. -/
theorem stepRunsFrontCommand : Obligations.StepRunsFrontCommand := fun _ _ _ => rfl

/-- The queue of commands outside the part is not touched by it. -/
theorem Effect.pending {c : Instr} {s t : State} (h : Effect c s t) : t.pending = s.pending := by
  have hwide : ∀ {m : Bool} {t : State}, Wides m s t → t.pending = s.pending := fun hw =>
    hw.keeps (P := fun x => x.pending = s.pending) (fun _ _ hc hs => hc.pending.trans hs) (fun _ _ _ hs => hs) (fun _ _ _ hs => hs) rfl
  cases h with
  | changes m hc => exact hwide hc.wides
  | offered hc fr => exact hwide (hc.wides.trans (wides_offerFrame fr _))
  | sent => exact hwide (wides_sent s)
  | reset => exact (mainReset_resetKeeps s).pending
  | unpowered => exact (losePower_resetKeeps s).pending
  | powered failed => exact (powerOn_resetKeeps failed s).pending

/-- Settles O3: every row of the table has an effect, and none reaches the queue of commands. -/
theorem everyCommandCompletes : Obligations.EveryCommandCompletes := fun c s => by
  obtain ⟨t, h, he⟩ := exec_effect c s
  exact ⟨t, h, he.pending⟩

theorem reset_mainReset : State.reset.MainReset :=
  mainReset_of_blocks rfl rfl rfl rfl rfl rfl rfl rfl rfl rfl rfl rfl ⟨rfl, rfl, rfl⟩

/-- Settles O54: the invariants follow from the reset values, the calendar's parameters from the cold start. -/
theorem resetMeetsInvariants : Obligations.ResetMeetsInvariants := by
  have h := reset_mainReset
  have harray : State.reset.ArrayCanonical := by unfold State.ArrayCanonical; decide
  exact ⟨h, h.bounded, h.serviceWell, harray, h.residuesLow, h.fieldFollowsLive, h.standingInLive, h.captureInTripped, h.relayFollows,
    h.drivenInLive, h.paramsInRange (by decide), h.gateInRange, h.profilesInRange, h.consistent, h.queueWell, rfl, rfl⟩

end Sys2Proof.Machine

/-! PROOFS. Clamping (R187), the crystal's pulses (R138, R142) and idle time (logs 8, 9). -/

namespace Sys2Proof.Machine

/-! ### Clamping -/

theorem clampTo_of_lt {lo hi n : Nat} (h : n < lo) : clampTo lo hi n = lo := by
  unfold clampTo
  omega

theorem clampTo_of_gt {lo hi n : Nat} (h : hi < n) (hle : lo ≤ hi) : clampTo lo hi n = hi := by
  unfold clampTo
  omega

theorem clampTo_of_mem {lo hi n : Nat} (h : lo ≤ n) (h' : n ≤ hi) : clampTo lo hi n = n := by
  unfold clampTo
  omega

/-- R187: values in their ranges are not changed. -/
theorem clampFields_of_inRange {fs : List Field} {vs : List Nat} (h : fieldsInRange fs vs = true) : clampFields fs vs = vs := by
  induction fs generalizing vs with
  | nil => cases vs <;> simp_all [clampFields, fieldsInRange]
  | cons f fs ih =>
    cases vs with
    | nil => rfl
    | cons v vs =>
      obtain ⟨⟨hlo, hhi⟩, hrest⟩ := (fieldsInRange_cons f fs v vs).mp h
      rw [clampFields, clampTo_of_mem hlo hhi, ih hrest]

/-- R187: each value is clamped for itself. -/
theorem clampFields_getElem? {fs : List Field} {vs : List Nat} {k : Nat} {f : Field} {v : Nat} (hf : fs[k]? = some f) (hv : vs[k]? = some v) :
    (clampFields fs vs)[k]? = some (clampTo f.lo f.hi v) := by
  induction fs generalizing vs k with
  | nil => simp at hf
  | cons g fs ih =>
    cases vs with
    | nil => simp at hv
    | cons w vs =>
      cases k with
      | zero =>
        simp only [List.getElem?_cons_zero, Option.some.injEq] at hf hv
        simp [clampFields, hf, hv]
      | succ k =>
        simp only [List.getElem?_cons_succ] at hf hv
        simpa [clampFields] using ih hf hv

theorem fieldsOrdered_of_forall {fs : List Field} (h : ∀ f ∈ fs, f.lo ≤ f.hi) : fieldsOrdered fs = true := by
  unfold fieldsOrdered
  simpa using h

/-- Settles O22: each value is clamped for itself, to the nearer limit where it lies outside its range. -/
theorem clampTakesNearerLimit : Obligations.ClampTakesNearerLimit := fun fs vs hlen hord =>
  ⟨clampFields_inRange (fieldsOrdered_of_forall hord) hlen.symm, clampFields_of_inRange, fun k f v hf hv => by
    have hle := hord f (List.mem_of_getElem? hf)
    refine ⟨fun h => ?_, fun h => ?_⟩
    · rw [clampFields_getElem? hf hv, clampTo_of_lt h]
    · rw [clampFields_getElem? hf hv, clampTo_of_gt h hle]⟩

/-! ### The weights of a trim window -/

/-- R138: the mark of a trim of t with the number k. -/
def markAt (t : Int) (k : Nat) : Nat := k * 1048576 / t.natAbs

theorem pulseMarked_iff (t : Int) (pos : Nat) : pulseMarked t pos = true ↔ ∃ k < t.natAbs, pos = markAt t k := by
  unfold pulseMarked markAt trimWindow
  simp only [List.any_eq_true, List.mem_range, beq_iff_eq]
  exact exists_congr fun k => and_congr_right fun _ => eq_comm

theorem natAbs_pos_of_marked {t : Int} {pos : Nat} (h : pulseMarked t pos = true) : t ≠ 0 := by
  obtain ⟨k, hk, _⟩ := (pulseMarked_iff t pos).mp h
  rintro rfl
  exact absurd hk (Nat.not_lt_zero k)

/-- R138: the marks of a trim stand apart. -/
theorem markAt_injective {t : Int} (h0 : t ≠ 0) (h : t.natAbs ≤ 1048576) : Function.Injective (markAt t) := by
  have hpos : 0 < t.natAbs := Int.natAbs_pos.mpr h0
  have hstep : ∀ k, markAt t k < markAt t (k + 1) := fun k => by
    unfold markAt
    rw [Nat.lt_iff_add_one_le, Nat.le_div_iff_mul_le hpos]
    have := Nat.div_mul_le_self (k * 1048576) t.natAbs
    nlinarith
  exact (strictMono_nat_of_lt_succ hstep).injective

theorem markAt_lt {t : Int} {k : Nat} (h : k < t.natAbs) : markAt t k < 1048576 := by
  unfold markAt
  rw [Nat.div_lt_iff_lt_mul (by omega), Nat.mul_comm 1048576]
  exact Nat.mul_lt_mul_of_pos_right h (by decide)

/-- R138: as many pulses of a window are marked as the trim says. -/
theorem card_marked {t : Int} (h : t.natAbs ≤ 1048576) :
    ((Finset.range 1048576).filter fun pos => pulseMarked t pos = true).card = t.natAbs := by
  by_cases h0 : t = 0
  · subst h0
    rw [Int.natAbs_zero, Finset.card_eq_zero, Finset.filter_eq_empty_iff]
    exact fun _ _ hk => natAbs_pos_of_marked hk rfl
  have himage : ((Finset.range 1048576).filter fun pos => pulseMarked t pos = true) = (Finset.range t.natAbs).image (markAt t) := by
    ext pos
    simp only [Finset.mem_filter, Finset.mem_range, pulseMarked_iff, Finset.mem_image]
    constructor
    · rintro ⟨_, k, hk, rfl⟩
      exact ⟨k, hk, rfl⟩
    · rintro ⟨k, hk, rfl⟩
      exact ⟨markAt_lt hk, k, hk, rfl⟩
  rw [himage, Finset.card_image_of_injective _ (markAt_injective h0 h), Finset.card_range]

/-- R138: a pulse counts once, and once more or once less where it is marked. -/
theorem pulseWeight_eq (t : Int) (pos : Nat) :
    (pulseWeight t pos : Int) = 1 + if pulseMarked t pos = true then t.sign else 0 := by
  unfold pulseWeight
  split
  · next h =>
    have h0 := natAbs_pos_of_marked h
    split
    · next hp => rw [Int.sign_eq_one_of_pos hp]; rfl
    · next hp => rw [Int.sign_eq_neg_one_of_neg (by omega)]; rfl
  · rfl

theorem sum_pulseWeight {t : Int} (h : t.natAbs ≤ 1048576) :
    ((List.range 1048576).map fun pos => (pulseWeight t pos : Int)).sum = 1048576 + t := by
  have hsum : ((List.range 1048576).map fun pos => (pulseWeight t pos : Int)).sum = ∑ pos ∈ Finset.range 1048576, (pulseWeight t pos : Int) := rfl
  rw [hsum, Finset.sum_congr rfl fun pos _ => pulseWeight_eq t pos, Finset.sum_add_distrib, ← Finset.sum_filter, Finset.sum_const,
    Finset.sum_const, card_marked h, Finset.card_range, nsmul_one, nsmul_eq_mul, mul_comm _ t.sign,
    Int.sign_mul_natAbs]
  rfl

/-- Settles O43: a window holds as many marked pulses as the trim says, and each counts once more or once less. -/
theorem trimChangesTheCountByT : Obligations.TrimChangesTheCountByT := by
  refine ⟨fun t hlo hhi => ⟨sum_pulseWeight (by omega), fun pos => ⟨?_, ?_⟩⟩, fun u hsub hpos => ?_⟩
  · unfold pulseWeight
    split
    · exact .inr rfl
    · exact .inl rfl
  · have hmark : pulseWeight t pos ≠ 1 ↔ pulseMarked t pos = true := by
      unfold pulseWeight
      split
      · next h => split <;> simp [h]
      · next h => simp [h]
    rw [hmark]
    exact ⟨fun h => ⟨natAbs_pos_of_marked h, (pulseMarked_iff t pos).mp h⟩, fun h => (pulseMarked_iff t pos).mpr h.2⟩
  · unfold rawPulse trimWindow
    rw [if_neg (by omega)]

/-! ### A run of raw pulses -/

/-- R138: what a run of raw pulses cannot do: lose a pulse, or reach another part of the calendar domain. -/
theorem rawPulses_frame (n : Nat) (u : CalendarUnit) :
    rawPulses n u = { u with
      subSecond := (rawPulses n u).subSecond, windowPos := (rawPulses n u).windowPos, heldPulses := (rawPulses n u).heldPulses }
    ∧ (rawPulses n u).windowPos + (rawPulses n u).heldPulses = u.windowPos + u.heldPulses + n := by
  induction n generalizing u with
  | zero => exact ⟨rfl, rfl⟩
  | succ n ih =>
    obtain ⟨hframe, hsum⟩ := ih (rawPulse u)
    refine ⟨?_, ?_⟩
    · rw [rawPulses, hframe]
      unfold rawPulse
      split <;> rfl
    · rw [rawPulses, hsum]
      unfold rawPulse
      split <;> simp only <;> omega

/-- R138: pulses that come while a second or a window start is due are held back. -/
theorem rawPulses_of_due (n : Nat) {u : CalendarUnit} (h : 32768 ≤ u.subSecond ∨ 1048576 ≤ u.windowPos) :
    (rawPulses n u).subSecond = u.subSecond ∧ (rawPulses n u).heldPulses = u.heldPulses + n := by
  induction n generalizing u with
  | zero => exact ⟨rfl, rfl⟩
  | succ n ih =>
    have hheld : rawPulse u = { u with heldPulses := u.heldPulses + 1 } := by
      unfold rawPulse trimWindow
      exact if_pos h
    rw [rawPulses, hheld]
    obtain ⟨h1, h2⟩ := ih (u := { u with heldPulses := u.heldPulses + 1 }) h
    exact ⟨h1, by rw [h2]; simp only; omega⟩

theorem pulseWeight_le (t : Int) (pos : Nat) : pulseWeight t pos ≤ 2 := by
  unfold pulseWeight
  split
  · split <;> omega
  · omega

/-- R138: pulses that all come before a second or a window start is due count with their weights. -/
theorem rawPulses_of_early (n : Nat) {u : CalendarUnit} (hsub : u.subSecond + 2 * n ≤ 32768) (hpos : u.windowPos + n ≤ 1048576) :
    (rawPulses n u).heldPulses = u.heldPulses
    ∧ (rawPulses n u).subSecond = u.subSecond + ((List.range n).map fun k => pulseWeight u.trim (u.windowPos + k)).sum := by
  induction n generalizing u with
  | zero => exact ⟨rfl, rfl⟩
  | succ n ih =>
    have hpulse : rawPulse u = { u with subSecond := u.subSecond + pulseWeight u.trim u.windowPos, windowPos := u.windowPos + 1 } := by
      unfold rawPulse trimWindow
      exact if_neg (by omega)
    have hw := pulseWeight_le u.trim u.windowPos
    rw [rawPulses, hpulse]
    obtain ⟨h1, h2⟩ := ih (u := { u with subSecond := u.subSecond + pulseWeight u.trim u.windowPos, windowPos := u.windowPos + 1 })
      (by simp only; omega) (by simp only; omega)
    refine ⟨h1, h2.trans ?_⟩
    simp only [List.range_succ_eq_map, List.map_cons, List.map_map, List.sum_cons, Nat.add_zero, Function.comp_def]
    have hshift : ∀ k, u.windowPos + 1 + k = u.windowPos + (k + 1) := fun k => by omega
    simp only [hshift, Nat.succ_eq_add_one]
    omega

/-- R142: the pulses held back before a SET_CLOCK move the window on, up to its end. -/
theorem moveWindow_frame (u : CalendarUnit) :
    u.moveWindow = { u with windowPos := u.moveWindow.windowPos, windowPulses := u.moveWindow.windowPulses }
    ∧ u.moveWindow.windowPos + u.moveWindow.windowPulses = u.windowPos + u.windowPulses := by
  refine ⟨rfl, ?_⟩
  unfold CalendarUnit.moveWindow
  simp only
  omega

theorem moveWindow_windowPos_le (u : CalendarUnit) (h : u.windowPos + u.windowPulses ≤ 1048576) :
    u.moveWindow.windowPos = u.windowPos + u.windowPulses ∧ u.moveWindow.windowPulses = 0 := by
  unfold CalendarUnit.moveWindow trimWindow
  simp only
  omega

theorem moveWindow_windowPos_of_due (u : CalendarUnit) (h : 1048576 ≤ u.windowPos) : u.moveWindow.windowPos = u.windowPos := by
  unfold CalendarUnit.moveWindow trimWindow
  simp only
  omega

/-! ### Idle time -/

/-- The crystal's pulses in a millisecond, with those held back before. -/
def CalendarUnit.pulses (u : CalendarUnit) : Nat := u.heldPulses + (u.pulsePhase + 4096) / 125

/-- What the pulses of a millisecond start from. -/
def CalendarUnit.beforePulses (u : CalendarUnit) : CalendarUnit :=
  { u.moveWindow with pulsePhase := (u.pulsePhase + 4096) % 125, heldPulses := 0 }

theorem calendar_tick_eq (u : CalendarUnit) : u.tick = rawPulses u.pulses u.beforePulses := rfl

theorem calendar_tick_frame (u : CalendarUnit) : u.tick = { u with
    pulsePhase := (u.pulsePhase + 4096) % 125, subSecond := u.tick.subSecond, windowPos := u.tick.windowPos
    heldPulses := u.tick.heldPulses, windowPulses := u.tick.windowPulses } := by
  rw [calendar_tick_eq, (rawPulses_frame u.pulses u.beforePulses).1]
  rfl

theorem calendar_tick_windowPulses (u : CalendarUnit) : u.tick.windowPulses = u.moveWindow.windowPulses := by
  rw [calendar_tick_eq, (rawPulses_frame u.pulses u.beforePulses).1]
  rfl

/-- R138: no pulse is lost. -/
theorem calendar_tick_keeps_pulses (u : CalendarUnit) :
    u.tick.windowPos + u.tick.windowPulses + u.tick.heldPulses = u.windowPos + u.windowPulses + u.pulses := by
  have hraw := (rawPulses_frame u.pulses u.beforePulses).2
  have hmove := (moveWindow_frame u).2
  have hbefore : u.beforePulses.windowPos + u.beforePulses.heldPulses = u.moveWindow.windowPos := rfl
  rw [calendar_tick_windowPulses, calendar_tick_eq]
  omega

theorem calendar_tick_early (u : CalendarUnit) (hsub : u.subSecond + 2 * u.pulses ≤ 32768)
    (hpos : u.windowPos + u.windowPulses + u.pulses ≤ 1048576) : u.tick.heldPulses = 0 ∧ u.tick.windowPulses = 0
    ∧ u.tick.subSecond = u.subSecond
      + ((List.range u.pulses).map fun k => pulseWeight u.trim (u.windowPos + u.windowPulses + k)).sum := by
  obtain ⟨hmove, hnone⟩ := moveWindow_windowPos_le u (by omega)
  obtain ⟨hheld, hcount⟩ := rawPulses_of_early u.pulses (u := u.beforePulses) hsub
    (by rw [show u.beforePulses.windowPos = u.moveWindow.windowPos from rfl, hmove]; exact hpos)
  refine ⟨hheld, by rw [calendar_tick_windowPulses, hnone], hcount.trans ?_⟩
  rw [show u.beforePulses.windowPos = u.moveWindow.windowPos from rfl, hmove]
  rfl

theorem calendar_tick_due (u : CalendarUnit) (h : 32768 ≤ u.subSecond ∨ 1048576 ≤ u.windowPos) :
    u.tick.subSecond = u.subSecond ∧ u.tick.heldPulses = u.pulses := by
  have hdue : 32768 ≤ u.beforePulses.subSecond ∨ 1048576 ≤ u.beforePulses.windowPos :=
    h.imp_right fun hpos => by
      rw [show u.beforePulses.windowPos = u.moveWindow.windowPos from rfl, moveWindow_windowPos_of_due u hpos]; exact hpos
  obtain ⟨hsub, hheld⟩ := rawPulses_of_due u.pulses hdue
  exact ⟨hsub, hheld.trans (Nat.zero_add _)⟩

theorem tick_powered {s : State} (hp : s.powered = true) : tick s = tickMain (s.onCu CalendarUnit.tick) := if_pos hp

theorem tick_unpowered {s : State} (hp : s.powered = false) : tick s = s.onCu CalendarUnit.tick := by
  unfold tick whenPowered
  rw [if_neg (by simpa using hp)]

theorem step_idle {s : State} (h : s.pending = []) : step s = .next (tick s) := by
  unfold step
  rw [h]

theorem tickMain_slot (s : State) (i : Fin 4) : (tickMain s).slot i = (s.slot i).tick := by simp [tickMain, State.slot, map4_getElem]

theorem tickMain_feeder (s : State) (i : Fin 12) :
    (tickMain s).feeder i = { s.feeder i with minOffTimer := Timer.tick (s.feeder i).minOffTimer } := by
  simp [tickMain, State.feeder, map12_getElem]

theorem tickMain_stage (s : State) (k : Fin 3) : (tickMain s).stage k = { s.stage k with timer := Timer.tick (s.stage k).timer } := by
  simp [tickMain, State.stage, map3_getElem]

theorem storeTick_of_ne {a : AccountStore} (h : a.state ≠ .erasing) : a.tick = a := by
  unfold AccountStore.tick
  split
  · next he => exact absurd he h
  all_goals rfl

/-- R165, R167: a running erase is a millisecond nearer to its end. -/
theorem storeTick_of_erasing {a : AccountStore} {e : EraseRecord} (h : a.state = .erasing) (he : a.erase = some e) (hleft : 0 < e.remaining) :
    a.tick = { a with erase := some { e with remaining := e.remaining - 1, progress := e.progress + 1 } } := by
  have hleft' : e.remaining ≠ 0 := by omega
  unfold AccountStore.tick
  simp only [h, he, Option.map_some, if_neg hleft']

/-- Settles O2: the crystal's millisecond, and with the supply that of every timer of the main domain. -/
theorem idleStepIsAMillisecond : Obligations.IdleStepIsAMillisecond := by
  intro s hq
  have hran := And.intro (calendar_tick_frame s.cu) (And.intro (calendar_tick_keeps_pulses s.cu)
    (And.intro (calendar_tick_early s.cu) (calendar_tick_due s.cu)))
  refine ⟨fun hp => ⟨s.cu.tick, ?_, hran⟩, fun hp => ⟨tick s, step_idle hq, ?_⟩⟩
  · rw [step_idle hq, tick_unpowered hp]
    rfl
  · rw [tick_powered hp]
    refine ⟨rfl, rfl, rfl, rfl, rfl, rfl, rfl, tickMain_slot _, rfl, tickMain_feeder _, tickMain_stage _, rfl, ?_, rfl, hp, rfl,
      fun h => storeTick_of_ne h, fun e h he hleft => storeTick_of_erasing h he hleft, hran, hq⟩
    cases htx : s.sl.tx <;> simp only [tickMain, State.onCu, htx, Transmitter.tick] <;> rfl

end Sys2Proof.Machine

/-! PROOFS. Commands in general (chapters 11 and 12): what their arrival comes to on a link that can take them. -/

namespace Sys2Proof.Machine

/-- The state with a command in service. -/
def State.serving (s : State) (k : CommandKind) (tag : Byte) (body : List Byte) : State :=
  { s with sl := { s.sl with inService := some { kind := k.code, tag := tag, body := body } } }

/-- R187: the link holds no command and no reply, and none waits; whether the part has started is left open. -/
structure State.LinkFree (s : State) : Prop where
  powered : s.powered = true
  free : s.sl.inService = none
  slot : s.sl.replySlot = none
  waiting : s.sl.inputQueue = []

theorem State.LinkReady.linkFree {s : State} (h : s.LinkReady) : s.LinkFree := ⟨h.powered, h.free, h.slot, h.waiting⟩

/-- R187: a command row is the arrival of its frame (log 15). -/
theorem exec_of_frame {c : Instr} {k : CommandKind} {tag : Byte} {body : List Byte} (h : c.frame? = some (k, tag, body)) (s : State) :
    exec c s = .next (arrive k tag body s) := by
  cases c <;> cases h <;> rfl

theorem arrive_free {s : State} (h : s.LinkFree) (k : CommandKind) (tag : Byte) (body : List Byte) :
    arrive k tag body s = serve { kind := k.code, tag := tag, body := body } (s.serving k tag body) := by
  obtain ⟨hp, hf, hr, hw⟩ := h
  cases s with
  | mk _ _ _ _ _ _ _ _ _ _ _ _ sl _ _ _ =>
    cases sl
    simp only at hp hf hr hw
    subst hp hf hr hw
    simp [arrive, whenPowered, offerFrame, takeNext, State.onSl, State.serving]

/-- R187: on a link that can take it, a command comes to what its owning block does. -/
theorem exec_command {c : Instr} {k : CommandKind} {tag : Byte} {body : List Byte} (h : c.frame? = some (k, tag, body)) {s : State}
    (hr : s.LinkReady) : exec c s = .next (serveCommand k body (s.serving k tag body)) := by
  rw [exec_of_frame h, arrive_ready hr]
  rfl

/-- R187, R191: the reply to the command in service, after what the command did elsewhere. -/
theorem reply_serving {s u : State} {k : CommandKind} {tag : Byte} {body : List Byte} (hfree : s.sl.inService = none)
    (hslot : s.sl.replySlot = none) (hu : u.sl = (s.serving k tag body).sl) (r : Result) (content : List Byte) :
    reply r content u = { u with sl := s.sl }.replyTo k tag r content := by
  have hlink : ({ u.sl with inService := none } : StationLink) = s.sl := by
    rw [hu]
    show { s.sl with inService := none } = s.sl
    rw [← hfree]
  rw [reply_eq_replyTo (by rw [hu]; exact hslot) (by rw [hu]; rfl) r content, hlink]

theorem State.serving_link (s : State) (k : CommandKind) (tag : Byte) (body : List Byte) :
    { s.serving k tag body with sl := s.sl } = s := rfl

/-- R187: a command that only replies. -/
theorem reply_serving_same {s : State} (h : s.LinkFree) (k : CommandKind) (tag : Byte) (body : List Byte) (r : Result) (content : List Byte) :
    reply r content (s.serving k tag body) = s.replyTo k tag r content :=
  reply_serving h.free h.slot rfl r content

theorem withLength_eq {n : Nat} {body : List Byte} (h : body.length = n) (f : State → State) (s : State) : withLength n body f s = f s :=
  if_pos h

theorem withLength_ne {n : Nat} {body : List Byte} (h : body.length ≠ n) (f : State → State) (s : State) :
    withLength n body f s = reply .badLength [] s := if_neg h

theorem withLength_nil (f : State → State) (s : State) : withLength 0 [] f s = f s := rfl

theorem withLength_one (b : Byte) (f : State → State) (s : State) : withLength 1 [b] f s = f s := rfl

theorem setGroup_ne {fields : List Field} {n : Nat} {body : List Byte} (h : body.length ≠ n) (ordered : List Nat → Bool)
    (take : List Nat → State → State) (s : State) (hn : fieldsSize fields = n := by rfl) :
    setGroup fields ordered take body s = reply .badLength [] s :=
  if_neg (hn ▸ h)

theorem withSlot_ne {n : Nat} {body : List Byte} (h : body.length ≠ n) (f : Fin 4 → State → State) (s : State) :
    withSlot n body f s = reply .badLength [] s := if_neg h

theorem withFeeder_ne {n : Nat} {body : List Byte} (h : body.length ≠ n) (f : Fin 12 → State → State) (s : State) :
    withFeeder n body f s = reply .badLength [] s := if_neg h

/-- R196: every command but SET_TARIFF takes a body of one length. -/
theorem serveCommand_badLength {k : CommandKind} {n : Nat} (hk : fixedLength k = some n) {body : List Byte} (h : body.length ≠ n) (s : State) :
    serveCommand k body s = reply .badLength [] s := by
  cases k
  case setTariff => cases hk
  case setGovernor => cases hk; simp only [serveCommand]; exact setGroup_ne (fields := GovParams.fields) h _ _ s
  case setLevels => cases hk; simp only [serveCommand]; exact setGroup_ne (fields := LevelParams.fields) h _ _ s
  case setDispatch => cases hk; simp only [serveCommand]; exact setGroup_ne (fields := DispatchParams.fields) h _ _ s
  case setRake => cases hk; simp only [serveCommand]; exact setGroup_ne (fields := RakeParams.fields) h _ _ s
  case setShedding => cases hk; simp only [serveCommand]; exact setGroup_ne (fields := SheddingParams.fields) h _ _ s
  case setCorrection => cases hk; simp only [serveCommand]; exact setGroup_ne (fields := CorrectionParams.fields) h _ _ s
  case setDrive | engage | cut | halt | release | clearDrive => cases hk; simp only [serveCommand]; exact withSlot_ne h _ s
  case setFeeder | connect | disconnect | lockFeeder | unlockFeeder | readMeter => cases hk; simp only [serveCommand]; exact withFeeder_ne h _ s
  all_goals cases hk; simp only [serveCommand]; exact withLength_ne h _ s

theorem serveSetTariff_badLength {body : List Byte} (h : body.length ≠ 1 + 3 * (body.getD 0 0).toNat) (s : State) :
    serveSetTariff body s = reply .badLength [] s := if_pos h

/-- Settles O20: the length is tested before all else; during start-up the test of the kind comes before it. -/
theorem lengthAndStartUpRefusals : Obligations.LengthAndStartUpRefusals := by
  refine fun c k tag body s hc => ⟨fun hr => ⟨fun n hn hlen => ?_, fun hk hlen => ?_⟩, fun hp hstart hf hs hw hello status => ?_⟩
  · rw [exec_command hc hr, serveCommand_badLength hn hlen, reply_serving_same hr.linkFree]
  · subst hk
    rw [exec_command hc hr, show serveCommand .setTariff = serveSetTariff from rfl, serveSetTariff_badLength hlen,
      reply_serving_same hr.linkFree]
  · have hfree : s.LinkFree := ⟨hp, hf, hs, hw⟩
    have hserve : serve { kind := k.code, tag := tag, body := body } (s.serving k tag body) = reply .busy [] (s.serving k tag body) := by
      have hbusy : (s.serving k tag body).sl.startup = true ∧ servedInStartup k = false := ⟨hstart, by simp [servedInStartup, hello, status]⟩
      unfold serve
      rw [CommandKind.ofCode_code]
      exact if_pos hbusy
    rw [exec_of_frame hc, arrive_free hfree, hserve, reply_serving_same hfree]

/-! ### Frames that wait, are discarded, or name no command -/

/-- R186: what offers a frame to the link of a powered part. -/
theorem exec_offers {c : Instr} {fr : Frame} {s : State} (hp : s.powered = true)
    (h : (∃ k, c.frame? = some (k, fr.tag, fr.body) ∧ fr.kind = k.code)
      ∨ c = .unknownCommand fr.kind fr.tag fr.body ∧ CommandKind.ofCode fr.kind = none) : exec c s = .next (offerFrame fr s) := by
  obtain ⟨k, hc, hk⟩ | ⟨rfl, _⟩ := h
  · rw [exec_of_frame hc]
    unfold arrive whenPowered
    rw [if_pos hp, ← hk]
  · show Host.Outcome.next (whenPowered s (offerFrame fr)) = .next (offerFrame fr s)
    unfold whenPowered
    rw [if_pos hp]

theorem offerFrame_full {fr : Frame} {s : State} (h : 2 ≤ s.sl.inputQueue.length) :
    offerFrame fr s = { s with sl := { s.sl with overruns := min 65535 (s.sl.overruns + 1) } } := if_neg (by omega)

/-- R187: while a command is in service or a reply waits, no frame is taken. -/
theorem takeNext_busy {s : State} (h : s.sl.inService.isSome = true ∨ s.sl.replySlot.isSome = true) : takeNext s = s := by
  unfold takeNext
  split
  · next hin hslot _ => simp [hin, hslot] at h
  · rfl

theorem offerFrame_waits {fr : Frame} {s : State} (hroom : s.sl.inputQueue.length < 2)
    (h : s.sl.inService.isSome = true ∨ s.sl.replySlot.isSome = true) :
    offerFrame fr s = { s with sl := { s.sl with inputQueue := s.sl.inputQueue ++ [fr] } } := by
  unfold offerFrame
  rw [if_pos hroom]
  exact takeNext_busy h

/-- R187: a kind that is no command is answered UNKNOWN. -/
theorem offerFrame_unknown {fr : Frame} {s : State} (hkind : CommandKind.ofCode fr.kind = none) (hr : s.LinkReady) :
    offerFrame fr s = { s with sl := { s.sl with
      replySlot := some { kind := fr.kind + 0x80, tag := fr.tag, body := [0x10] }
      tx := match s.sl.tx with
        | .idle => .reply (7 * 2604)
        | sending => sending } } := by
  obtain ⟨_, _, hf, hs, hw, _⟩ := hr
  have htaken : offerFrame fr s = reply .unknown [] (s.onSl fun l => { l with inService := some fr, inputQueue := [] }) := by
    unfold offerFrame
    rw [hw, if_pos (by decide), takeNext]
    simp only [State.onSl, hf, hs, hw, List.nil_append]
    unfold serve
    rw [hkind]
  rw [htaken]
  cases s with
  | mk _ _ _ _ _ _ _ _ _ _ _ _ sl _ _ _ =>
    cases sl with
    | mk _ _ _ _ _ _ _ tx _ _ _ _ =>
      simp only at hf hs hw
      subst hf hs hw
      cases tx <;> rfl

/-- Settles O21: what a frame finds decides whether it is discarded, waits, or is answered. -/
theorem frameArrival : Obligations.FrameArrival := by
  intro c fr s hc hp
  rw [exec_offers hp hc]
  exact ⟨fun h => by rw [offerFrame_full h], fun hroom h => by rw [offerFrame_waits hroom h], fun _ hkind hr => congrArg _ (offerFrame_unknown hkind hr)⟩

/-! ### The reads and the link commands -/

theorem flagByte_eq (b : Bool) : flagByte b = [if b then 1 else 0] := by cases b <;> rfl

theorem mean_eq (c : LevelChannel) (lo hi : Nat) :
    c.mean lo hi = if c.samples = [] then 0 else (lo + ((hi : Int) - lo) * c.samples.sum / 32760).toNat := rfl

theorem filled_eq (c : LevelChannel) : flagByte c.filled = [if c.samples = [] then 0 else 1] := by
  unfold LevelChannel.filled
  cases c.samples <;> rfl

theorem channelBytes_eq (c : LevelChannel) (lo hi : Nat) : channelBytes c lo hi =
    u16 c.lastRaw ++ u16 (lo + ((hi : Int) - lo) * c.lastRaw / 4095).toNat ++ [if c.samples = [] then 0 else 1]
      ++ [if c.fault then 1 else 0]
      ++ u16 (if c.samples = [] then 0 else (lo + ((hi : Int) - lo) * c.samples.sum / 32760).toNat) := by
  unfold channelBytes scaled
  rw [filled_eq, flagByte_eq, mean_eq]

theorem tableEntry_bytes_eq (e : TableEntry) : e.bytes =
    u8 (ownerByte e.owner) ++ [if e.phase = .lead then 0 else 1] ++ u16 e.booking ++ u32 e.grantTime.toNat := by
  unfold TableEntry.bytes
  cases e.phase <;> rfl

theorem queueEntry_bytes_eq (e : QueueEntry) (eligible : Bool) : e.bytes eligible =
    u8 (ownerByte e.owner) ++ u8 e.cls ++ u16 e.booking ++ u32 e.sequence ++ u16 e.waitLimit
      ++ u16 ((e.waitTimer.getD 0 + 999) / 1000) ++ [if e.origin = .host then 0 else 1] ++ [if eligible then 1 else 0] := by
  unfold QueueEntry.bytes
  rw [flagByte_eq]
  cases e.origin <;> rfl

theorem shiftBytes_eq (x : Option Bool) :
    shiftBytes x = [(match x with | some true => 0x01 | some false => 0xFF | none => 0x80 : Byte)] := by
  obtain _ | _ | _ := x <;> rfl

theorem correction_bytes_eq (x : CorrectionState) : u8 x.code = [(match x with | .inactive => 0 | .slow => 1 | .fast => 2 : Byte)] := by
  cases x <;> rfl

/-- R197: the owner byte of a feeder names it. -/
theorem feederOfByte_ofNat (i : Fin 12) : feederOfByte (u8At [BitVec.ofNat 8 (0x10 + i.val)] 0) = some i := by revert i; decide

theorem feederOfByte_outside {b : Byte} (h : b.toNat < 0x10 ∨ 0x1B < b.toNat) : feederOfByte (u8At [b] 0) = none := by
  unfold feederOfByte u8At
  simp only [List.getD_cons_zero]
  split
  · omega
  · rfl

/-- Settles O25: each read replies with its bytes and changes nothing. -/
theorem readCommands : Obligations.ReadCommands := by
  intro tag s hr
  have hread : ∀ {c : Instr} {k : CommandKind} {body : List Byte} {r : Result} {content : List Byte}, c.frame? = some (k, tag, body) →
      serveCommand k body (s.serving k tag body) = reply r content (s.serving k tag body) → exec c s = .next (s.replyTo k tag r content) := by
    intro c k body r content hc hserve
    rw [exec_command hc hr, hserve, reply_serving_same hr.linkFree]
  refine ⟨hread rfl ?_, hread rfl ?_, hread rfl ?_, hread rfl ?_, fun i => hread rfl ?_, fun b hb => hread rfl ?_, hread rfl ?_⟩
  · show serveReadLevels [] _ = _
    unfold serveReadLevels
    rw [withLength_nil]
    simp only [channelBytes_eq, flagByte_eq]
    rfl
  · show serveListTable [] _ = _
    unfold serveListTable
    rw [withLength_nil, funext tableEntry_bytes_eq]
    rfl
  · show serveListQueue [] _ = _
    unfold serveListQueue
    rw [withLength_nil]
    simp only [queueEntry_bytes_eq, flagByte_eq]
    rfl
  · show serveReadClock [] _ = _
    unfold serveReadClock
    rw [withLength_nil]
    simp only [shiftBytes_eq, correction_bytes_eq, flagByte_eq]
    rfl
  · show serveReadMeter _ _ = _
    unfold serveReadMeter withFeeder
    rw [withLength_one]
    simp only [feederOfByte_ofNat]
    unfold meterValues feederValues
    simp only [flagByte_eq]
    rfl
  · show serveReadMeter _ _ = _
    unfold serveReadMeter withFeeder
    rw [withLength_one]
    simp only [feederOfByte_outside hb]
  · show serveReadCommission [] _ = _
    unfold serveReadCommission Commissioning.bytes
    rw [withLength_nil, flagByte_eq]
    rfl

end Sys2Proof.Machine

/-! PROOFS. The link (chapter 11): its own commands, the transmitter, and the receive assembler. -/

namespace Sys2Proof.Machine

/-! ### HELLO, STATUS and RESET -/

/-- R189: HELLO and STATUS are served in start-up as well. -/
theorem exec_always {c : Instr} {k : CommandKind} {tag : Byte} {body : List Byte} (hc : c.frame? = some (k, tag, body)) {s : State}
    (hf : s.LinkFree) (hk : s.sl.startup = false ∨ servedInStartup k = true) :
    exec c s = .next (serveCommand k body (s.serving k tag body)) := by
  have hserved : ¬((s.serving k tag body).sl.startup = true ∧ servedInStartup k = false) := by
    rintro ⟨h1, h2⟩
    obtain h | h := hk
    · have : s.sl.startup = true := h1
      simp [h] at this
    · simp [h] at h2
  rw [exec_of_frame hc, arrive_free hf]
  unfold serve
  rw [CommandKind.ofCode_code]
  simp only
  rw [if_neg hserved]

theorem latchBits_eq (s : State) : latchBits s = (if (s.input 0).latched then 1 else 0) + (if (s.input 1).latched then 2 else 0)
    + (if (s.input 2).latched then 4 else 0) + (if (s.input 3).latched then 8 else 0) := by
  have hall : allInputs = [0, 1, 2, 3] := by decide
  unfold latchBits
  rw [hall]
  simp only [List.map_cons, List.map_nil, List.sum_cons, List.sum_nil, Fin.val_zero, Fin.val_one, Fin.val_two, pow_zero, pow_one]
  norm_num
  omega

theorem helloValues_eq (s : State) : helloValues s = [0x14, 0x03, 0x18, 0x04, 0x01, if s.store.configDefault then 1 else 0,
    if s.store.fault then 1 else 0, if s.store.commissioning.locked then 1 else 0, if s.sl.startup then 1 else 0] := by
  unfold helloValues
  simp only [flagByte_eq]
  rfl

/-- R191, R194: RESET's reply is placed and sent, and the command stays in service. -/
theorem answerAndHold_serving {s : State} (hf : s.LinkFree) (k : CommandKind) (tag : Byte) (body : List Byte) (r : Result) :
    answerAndHold [r.code] (s.serving k tag body) = (s.serving k tag body).replyTo k tag r [] := by
  obtain ⟨_, hfree, hslot, _⟩ := hf
  cases s with
  | mk _ _ _ _ _ _ _ _ _ _ _ _ sl _ _ _ =>
    cases sl with
    | mk _ _ _ _ _ _ _ tx _ _ _ _ =>
      simp only at hfree hslot
      subst hfree hslot
      cases tx <;> rfl

/-- Settles O26: the three commands of the link, the first two in start-up as well. -/
theorem linkCommands : Obligations.LinkCommands := by
  intro tag s hp hfree hslot hqueue
  have hf : s.LinkFree := ⟨hp, hfree, hslot, hqueue⟩
  refine ⟨?_, ?_, fun hstart h1 h2 => ?_, fun hstart h => ?_⟩
  · rw [exec_always (k := .hello) rfl hf (.inr rfl), show serveCommand .hello = serveHello from rfl, serveHello, withLength_nil,
      helloValues_eq, reply_serving_same hf]
    rfl
  · rw [exec_always (k := .status) rfl hf (.inr rfl), show serveCommand .status = serveStatus from rfl, serveStatus, withLength_nil]
    have hu : ((s.serving .status tag []).onSl fun l => { l with lostReports := 0 }).sl
        = (({ s with sl := { s.sl with lostReports := 0 } } : State).serving .status tag []).sl := rfl
    rw [reply_serving (s := { s with sl := { s.sl with lostReports := 0 } }) hfree hslot hu]
    unfold statusValues
    rw [latchBits_eq]
    simp only [flagByte_eq]
    rfl
  · rw [exec_always (k := .reset) rfl hf (.inl hstart), show serveCommand .reset = serveReset from rfl, serveReset, withLength_nil]
    have hne : ¬((s.serving .reset tag []).ss.station = .stopped ∨ (s.serving .reset tag []).ss.station = .tripped) := not_or.mpr ⟨h1, h2⟩
    rw [if_neg hne, reply_serving_same hf]
  · rw [exec_always (k := .reset) rfl hf (.inl hstart), show serveCommand .reset = serveReset from rfl, serveReset, withLength_nil]
    have hin : (s.serving .reset tag []).ss.station = .stopped ∨ (s.serving .reset tag []).ss.station = .tripped := h
    rw [if_pos hin, answerAndHold_serving hf]
    rfl

/-! ### The transmitter -/

theorem airTime_eq (f : Frame) : f.airTime = (f.body.length + 6) * 2604 := rfl

theorem transmitArbitrate_busy {s : State} (h : s.sl.tx ≠ .idle) : transmitArbitrate s = s := by
  unfold transmitArbitrate
  split
  · next hidle => exact absurd hidle h
  · rfl

theorem transmitArbitrate_reply {s : State} {f : Frame} (h : s.sl.tx = .idle) (hf : s.sl.replySlot = some f) :
    transmitArbitrate s = { s with sl := { s.sl with tx := .reply ((f.body.length + 6) * 2604) } } := by
  unfold transmitArbitrate
  split
  · split
    · next g hg => rw [hf] at hg; cases hg; rfl
    · next hg => rw [hf] at hg; cases hg
  · next hbusy => exact absurd h hbusy

theorem transmitArbitrate_report {s : State} {r : Report} {rest : List Report} (h : s.sl.tx = .idle) (hslot : s.sl.replySlot = none)
    (hr : s.sl.reports = r :: rest) :
    transmitArbitrate s = { s with sl := { s.sl with reports := rest, tx := .report r ((r.body.length + 6) * 2604) } } := by
  unfold transmitArbitrate
  split
  · split
    · next hg => rw [hslot] at hg; cases hg
    · split
      · next r' rest' hr' => rw [hr] at hr'; cases hr'; rfl
      · next hr' => rw [hr] at hr'; cases hr'
  · next hbusy => exact absurd h hbusy

theorem transmitArbitrate_nothing {s : State} (h : s.sl.tx = .idle) (hslot : s.sl.replySlot = none) (hr : s.sl.reports = []) :
    transmitArbitrate s = s := by
  unfold transmitArbitrate
  simp only [h, hslot, hr]

theorem post_full {s : State} (hp : s.powered = true) (h : 16 ≤ s.sl.reports.length) (r : Report) :
    post r s = { s with sl := { s.sl with lostReports := min 255 (s.sl.lostReports + 1) } } := by
  unfold post
  rw [if_pos hp, if_neg (by omega)]
  rfl

/-- R190: a report has joined the report queue. -/
def State.joined (s : State) (r : Report) : State := { s with sl := { s.sl with reports := s.sl.reports ++ [r] } }

theorem post_joins {s : State} (hp : s.powered = true) (h : s.sl.reports.length < 16) (r : Report) :
    post r s = transmitArbitrate (s.joined r) := by
  unfold post
  rw [if_pos hp, if_pos h]
  rfl

theorem exec_transmitCompletion {s : State} (hp : s.powered = true) : exec .transmitCompletion s = .next (transmitDone s) := by
  show Host.Outcome.next (whenPowered s transmitDone) = _
  unfold whenPowered
  rw [if_pos hp]

theorem transmitDone_idle {s : State} (h : s.sl.tx = .idle) : transmitDone s = s := by
  unfold transmitDone
  rw [h]

theorem transmitDone_report {s : State} {r : Report} {left : Nat} (h : s.sl.tx = .report r left) :
    transmitDone s = transmitArbitrate (s.onSl fun l => { l with tx := .idle }) := by
  unfold transmitDone
  rw [h]

theorem transmitDone_reply {s : State} {left : Nat} (h : s.sl.tx = .reply left) (hr : s.sl.resetting = false) :
    transmitDone s = takeNext (transmitArbitrate (s.onSl fun l => { l with tx := .idle, replySlot := none })) := by
  unfold transmitDone
  rw [h]
  simp [hr]

theorem resetting_of_free {l : StationLink} (h : l.inService = none) : l.resetting = false := by
  unfold StationLink.resetting
  rw [h]
  rfl

theorem takeNext_empty {s : State} (h : s.sl.inputQueue = []) : takeNext s = s := by
  unfold takeNext
  split
  · next hq => rw [h] at hq; cases hq
  · rfl

theorem takeNext_frame {s : State} {fr : Frame} {rest : List Frame} (hf : s.sl.inService = none) (hs : s.sl.replySlot = none)
    (hq : s.sl.inputQueue = fr :: rest) :
    takeNext s = serve fr { s with sl := { s.sl with inService := some fr, inputQueue := rest } } := by
  unfold takeNext
  split
  · next fr' rest' _ _ hq' => rw [hq] at hq'; cases hq'; rfl
  · next hno => exact absurd hq (hno fr rest hf hs)

/-- R186: serving a command takes no other frame. -/
theorem serve_waiting {fr : Frame} {s : State} (hin : s.sl.inService = some fr) : (serve fr s).sl.inputQueue = s.sl.inputQueue := by
  have hchanges : ∀ {m : Bool} {u v : State}, Changes m u v → v.sl.inputQueue = u.sl.inputQueue := fun h =>
    h.keeps (P := fun x => x.sl.inputQueue = _) (fun _ _ hc hx => hc.waiting.1.trans hx) rfl
  obtain ⟨u, bytes, hu, h⟩ | ⟨_, bytes, h⟩ | ⟨_, j, p, h⟩ := serve_cases fr s
  · obtain ⟨f, tx, rs, hframe, _⟩ := answer_frame bytes u
    rw [h, hframe]
    exact (hchanges hu : u.sl.inputQueue = _)
  · obtain ⟨f, tx, rs, hframe, _⟩ := answerAndHold_frame bytes hin
    rw [h, hframe]
  · rw [h]
    exact (hchanges (changes_kick (m := false) _)).trans rfl

/-- R187: a command that waited is taken as if its frame came then (log 15). -/
theorem takeNext_exec {c : Instr} {k : CommandKind} {tag : Byte} {body : List Byte} (hc : c.frame? = some (k, tag, body)) {s : State}
    (hp : s.powered = true) (hf : s.sl.inService = none) (hs : s.sl.replySlot = none)
    (hq : s.sl.inputQueue = [{ kind := k.code, tag := tag, body := body }]) :
    Host.Outcome.next (takeNext s) = exec c { s with sl := { s.sl with inputQueue := [] } } := by
  have hfree : ({ s with sl := { s.sl with inputQueue := [] } } : State).LinkFree := ⟨hp, hf, hs, rfl⟩
  rw [exec_of_frame hc, arrive_free hfree, takeNext_frame hf hs hq]
  rfl

/-- R190: the three cases of a report that joins an idle transmitter's queue, and the two of one that does not. -/
theorem post_cases {s : State} (hp : s.powered = true) (r : Report) :
    (16 ≤ s.sl.reports.length → post r s = { s with sl := { s.sl with lostReports := min 255 (s.sl.lostReports + 1) } })
    ∧ (s.sl.reports.length < 16 → s.sl.tx ≠ .idle → post r s = { s with sl := { s.sl with reports := s.sl.reports ++ [r] } })
    ∧ (s.sl.reports.length < 16 → s.sl.tx = .idle →
      (∀ f : Frame, s.sl.replySlot = some f → post r s = { s with sl := { s.sl with
        reports := s.sl.reports ++ [r], tx := .reply ((f.body.length + 6) * 2604) } })
      ∧ (s.sl.replySlot = none → s.sl.reports = [] → post r s = { s with sl := { s.sl with
        tx := .report r ((r.body.length + 6) * 2604) } })
      ∧ ∀ (first : Report) (rest : List Report), s.sl.replySlot = none → s.sl.reports = first :: rest →
        post r s = { s with sl := { s.sl with
          reports := rest ++ [r], tx := .report first ((first.body.length + 6) * 2604) } }) := by
  refine ⟨fun h => post_full hp h r, fun h htx => ?_, fun h htx => ⟨fun f hf => ?_, fun hslot hr => ?_, fun first rest hslot hr => ?_⟩⟩
  · rw [post_joins hp h, transmitArbitrate_busy (s := s.joined r) htx]
    rfl
  · rw [post_joins hp h, transmitArbitrate_reply (s := s.joined r) htx hf]
    rfl
  · rw [post_joins hp h, transmitArbitrate_report (s := s.joined r) (r := r) (rest := []) htx hslot (by simp [State.joined, hr])]
    exact congrArg (fun l => { s with sl := { s.sl with reports := l, tx := .report r ((r.body.length + 6) * 2604) } }) hr.symm
  · rw [post_joins hp h, transmitArbitrate_report (s := s.joined r) (r := first) (rest := rest ++ [r]) htx hslot (by simp [State.joined, hr])]
    rfl

/-- R191: after a report. -/
theorem transmitDone_report_cases {s : State} {r : Report} {left : Nat} (htx : s.sl.tx = .report r left) :
    (∀ f : Frame, s.sl.replySlot = some f → transmitDone s = { s with sl := { s.sl with tx := .reply ((f.body.length + 6) * 2604) } })
    ∧ (∀ (first : Report) (rest : List Report), s.sl.replySlot = none → s.sl.reports = first :: rest →
      transmitDone s = { s with sl := { s.sl with reports := rest, tx := .report first ((first.body.length + 6) * 2604) } })
    ∧ (s.sl.replySlot = none → s.sl.reports = [] → transmitDone s = { s with sl := { s.sl with tx := .idle } }) := by
  refine ⟨fun f hf => ?_, fun first rest hslot hr => ?_, fun hslot hr => ?_⟩
  · rw [transmitDone_report htx, transmitArbitrate_reply (s := s.onSl fun l => { l with tx := .idle }) rfl hf]
    rfl
  · rw [transmitDone_report htx, transmitArbitrate_report (s := s.onSl fun l => { l with tx := .idle }) rfl hslot hr]
    rfl
  · rw [transmitDone_report htx, transmitArbitrate_nothing (s := s.onSl fun l => { l with tx := .idle }) rfl hslot hr]
    rfl

/-- R191: after a reply the slot is empty, and a report may be on its way. -/
def State.sent (s : State) (reports : List Report) (tx : Transmitter) : State :=
  { s with sl := { s.sl with tx := tx, reports := reports, replySlot := none } }

/-- R187, R191: after a reply. -/
theorem transmitDone_reply_cases {s : State} {left : Nat} (htx : s.sl.tx = .reply left) (hf : s.sl.inService = none) :
    (s.sl.reports = [] → transmitDone s = takeNext (s.sent [] .idle))
    ∧ ∀ first rest, s.sl.reports = first :: rest →
      transmitDone s = takeNext (s.sent rest (.report first ((first.body.length + 6) * 2604))) := by
  rw [transmitDone_reply htx (resetting_of_free hf)]
  refine ⟨fun hr => ?_, fun first rest hr => ?_⟩
  · rw [transmitArbitrate_nothing (s := s.onSl fun l => { l with tx := .idle, replySlot := none }) rfl rfl hr]
    exact congrArg (fun l => takeNext (s.sent l .idle)) hr
  · rw [transmitArbitrate_report (s := s.onSl fun l => { l with tx := .idle, replySlot := none }) rfl rfl hr]
    rfl

/-- R194: after RESET's reply the part makes a main-domain reset. -/
theorem transmitDone_resetting {s : State} {left : Nat} (htx : s.sl.tx = .reply left) (hr : s.sl.resetting = true) :
    transmitDone s = mainReset s := by
  unfold transmitDone
  rw [htx]
  simp [hr]

/-- Settles O27: what the transmitter sends next, and what the link takes when the reply slot is empty again. -/
theorem transmission : Obligations.Transmission := by
  refine ⟨fun r s hp => post_cases hp r, fun s hp => ?_⟩
  rw [exec_transmitCompletion hp]
  refine ⟨fun htx => by rw [transmitDone_idle htx], fun r left htx => ?_, fun left htx hf => ?_, fun left c k tag body rest htx hf hc hq => ?_,
    fun left tag body htx hin => ?_⟩
  · obtain ⟨h1, h2, h3⟩ := transmitDone_report_cases htx
    exact ⟨fun f hf => by rw [h1 f hf], fun first rest hs hr => by rw [h2 first rest hs hr], fun hs hr => by rw [h3 hs hr]⟩
  · obtain ⟨h1, h2⟩ := transmitDone_reply_cases htx hf
    refine ⟨fun hq hr => ?_, fun first rest hq hr => ?_⟩
    · rw [h1 hr, takeNext_empty (s := s.sent [] .idle) hq]
      exact congrArg (fun l => Host.Outcome.next (s.sent l .idle)) hr.symm
    · rw [h2 first rest hr, takeNext_empty (s := s.sent rest _) hq]
      rfl
  · obtain ⟨h1, h2⟩ := transmitDone_reply_cases htx hf
    refine ⟨fun hrest hr => ?_, fun first after hrest hr => ?_, _, rfl, ?_⟩
    · rw [h1 hr, takeNext_exec (s := s.sent [] .idle) hc hp hf rfl (hrest ▸ hq)]
      rfl
    · rw [h2 first after hr, takeNext_exec (s := s.sent after _) hc hp hf rfl (hrest ▸ hq)]
      rfl
    · have htaken : ∀ reports tx, (takeNext (s.sent reports tx)).sl.inputQueue = rest := fun reports tx => by
        rw [takeNext_frame (s := s.sent reports tx) hf rfl hq, serve_waiting rfl]
      cases hr : s.sl.reports with
      | nil => rw [h1 hr, htaken]
      | cons first after => rw [h2 first after hr, htaken]
  · have hreset : s.sl.resetting = true := by
      unfold StationLink.resetting
      rw [hin]
      rfl
    obtain ⟨_, _, hblock, _, hpowered⟩ := mainReset_keeps s
    exact ⟨mainReset s, by rw [transmitDone_resetting htx hreset], mainReset_mainReset s, hpowered.trans hp, hblock⟩

/-! ### The receive assembler -/

/-- The assembler in the midst of a frame, its gap timer just started. -/
def State.assembling (s : State) (rx : RxState) (bytes : List Byte) : State :=
  { s with sl := { s.sl with rx := rx, rxFrame := bytes, gapTimer := some 10 } }

theorem exec_characterReceived {s : State} (hp : s.powered = true) (c : Byte) (bad : Bool) :
    exec (.characterReceived c bad) s = .next (characterIn c bad s) := by
  show Host.Outcome.next (whenPowered s (characterIn c bad)) = _
  unfold whenPowered
  rw [if_pos hp]

theorem characterIn_sync {s : State} (h : s.sl.rx = .hunt) : characterIn 0xA5 false s = s.assembling .length [] := by
  unfold characterIn
  rw [h]
  rfl

theorem characterIn_length {c : Byte} (h2 : 2 ≤ c.toNat) (h242 : c.toNat ≤ 242) (s : State) :
    characterIn c false (s.assembling .length []) = s.assembling .content [c] := by
  have hok : ¬(false = true ∨ c.toNat < 2 ∨ 242 < c.toNat) := by simp; omega
  unfold characterIn
  simp only [State.assembling]
  rw [if_neg hok]
  rfl

theorem characterIn_content (s : State) (bytes : List Byte) (c : Byte) :
    characterIn c false (s.assembling .content bytes) =
      s.assembling (if (bytes ++ [c]).length < u8At (bytes ++ [c]) 0 + 1 then .content else .check) (bytes ++ [c]) := rfl

theorem characterIn_check_first {s : State} {bytes : List Byte} {c : Byte} (h : (bytes ++ [c]).length < u8At (bytes ++ [c]) 0 + 3) :
    characterIn c false (s.assembling .check bytes) = s.assembling .check (bytes ++ [c]) := by
  unfold characterIn
  simp only [State.assembling]
  exact if_pos h

theorem characterIn_check_last {s : State} {bytes : List Byte} {c : Byte} (h : ¬(bytes ++ [c]).length < u8At (bytes ++ [c]) 0 + 3) :
    characterIn c false (s.assembling .check bytes) = finishFrame (s.assembling .check (bytes ++ [c])) := by
  unfold characterIn
  simp only [State.assembling]
  exact if_neg h

/-- R183 to R185: the characters of a run, one after another. -/
def receive (r : Answer) (c : Byte) : Answer :=
  match r with
  | .next s => exec (.characterReceived c false) s
  | stopped => stopped

theorem receive_next {s : State} (hp : s.powered = true) (c : Byte) : receive (.next s) c = .next (characterIn c false s) :=
  exec_characterReceived hp c false

theorem u8At_append {bytes more : List Byte} (h : bytes ≠ []) : u8At (bytes ++ more) 0 = u8At bytes 0 := by
  cases bytes with
  | nil => exact absurd rfl h
  | cons b bytes => rfl

/-- R183: the kind, the tag and the body, as many characters as the length byte says. -/
theorem receive_content {s : State} (hp : s.powered = true) (cs : List Byte) (hne : cs ≠ []) {bytes : List Byte} (hb : bytes ≠ [])
    (hlen : bytes.length + cs.length = u8At bytes 0 + 1) :
    cs.foldl receive (.next (s.assembling .content bytes)) = .next (s.assembling .check (bytes ++ cs)) := by
  induction cs generalizing bytes with
  | nil => exact absurd rfl hne
  | cons c cs ih =>
    rw [List.foldl_cons, receive_next (s := s.assembling _ _) hp, characterIn_content, u8At_append hb]
    rw [List.length_cons] at hlen
    cases cs with
    | nil =>
      rw [if_neg (by rw [List.length_append, List.length_singleton]; simp at hlen; omega)]
      rfl
    | cons d cs =>
      rw [if_pos (by rw [List.length_append, List.length_singleton]; simp at hlen ⊢; omega),
        ih (by simp) (by simp) (by rw [u8At_append hb, List.length_append, List.length_singleton]; omega), List.append_assoc]
      rfl

/-- R185: a whole frame is offered where its CRC-16 fits and its kind is a command's. -/
theorem finishFrame_whole {f : Frame} (hbody : f.body.length ≤ 240) (hi lo : Byte) (s : State) :
    let covered : List Byte := BitVec.ofNat 8 (f.body.length + 2) :: f.kind :: f.tag :: f.body
    let ended : State := { s with sl := { s.sl with rx := .hunt, rxFrame := [], gapTimer := none } }
    finishFrame (s.assembling .check (covered ++ [hi, lo])) =
      if hi.toNat * 256 + lo.toNat = (crc16 covered).toNat ∧ f.kind.toNat < 0x80 then offerFrame f ended
      else { ended with sl := { ended.sl with badFrames := min 65535 (s.sl.badFrames + 1) } } := by
  intro covered ended
  have hn : (BitVec.ofNat 8 (f.body.length + 2)).toNat = f.body.length + 2 := by
    rw [BitVec.toNat_ofNat]
    omega
  have hlen : covered.length = f.body.length + 3 := rfl
  have hfirst : (s.assembling .check (covered ++ [hi, lo])).sl.rxLength = f.body.length + 2 := hn
  have hbytes : (s.assembling .check (covered ++ [hi, lo])).sl.rxFrame = covered ++ [hi, lo] := rfl
  have htake : (covered ++ [hi, lo]).take (f.body.length + 2 + 1) = covered := List.take_left' hlen
  have hhi : u8At (covered ++ [hi, lo]) (f.body.length + 2 + 1) = hi.toNat := by
    unfold u8At
    rw [List.getD_eq_getElem?_getD, List.getElem?_append_right (by omega), hlen, Nat.sub_self]
    rfl
  have hlo : u8At (covered ++ [hi, lo]) (f.body.length + 2 + 2) = lo.toNat := by
    unfold u8At
    rw [List.getD_eq_getElem?_getD, List.getElem?_append_right (by omega), hlen,
      show f.body.length + 2 + 2 - (f.body.length + 3) = 1 by omega]
    rfl
  have hkind : u8At covered 1 = f.kind.toNat := rfl
  unfold finishFrame
  simp only [hfirst, hbytes, htake, hhi, hlo, hkind]
  by_cases hcrc : hi.toNat * 256 + lo.toNat = (crc16 covered).toNat
  · by_cases hk : f.kind.toNat < 0x80
    · rw [if_neg (not_not.mpr hcrc), if_neg (by omega), if_pos ⟨hcrc, hk⟩]
      rfl
    · rw [if_neg (not_not.mpr hcrc), if_pos (by omega), if_neg (fun h => hk h.2)]
      rfl
  · rw [if_pos hcrc, if_neg (fun h => hcrc h.1)]
    rfl

/-- R183 to R185: the characters of a whole frame from HUNT. -/
theorem receive_frame {f : Frame} (hbody : f.body.length ≤ 240) (hi lo : Byte) {s : State} (hp : s.powered = true) (hrx : s.sl.rx = .hunt) :
    let covered : List Byte := BitVec.ofNat 8 (f.body.length + 2) :: f.kind :: f.tag :: f.body
    (0xA5 :: covered ++ [hi, lo]).foldl receive (.next s) = .next (finishFrame (s.assembling .check (covered ++ [hi, lo]))) := by
  intro covered
  have hn : (BitVec.ofNat 8 (f.body.length + 2)).toNat = f.body.length + 2 := by
    rw [BitVec.toNat_ofNat]
    omega
  have hcontent := receive_content (s := s) hp (f.kind :: f.tag :: f.body) (by simp) (bytes := [BitVec.ofNat 8 (f.body.length + 2)]) (by simp)
    (by show 1 + (f.body.length + 1 + 1) = (BitVec.ofNat 8 (f.body.length + 2)).toNat + 1; omega)
  have hfirst : ∀ more, u8At (covered ++ more) 0 = f.body.length + 2 := fun more => hn
  have hlen : covered.length = f.body.length + 3 := rfl
  have hcovered : covered.foldl receive (.next (s.assembling .length [])) = .next (s.assembling .check covered) := by
    show List.foldl receive _ (_ :: _) = _
    rw [List.foldl_cons, receive_next (s := s.assembling _ _) hp, characterIn_length (by omega) (by omega), hcontent]
    rfl
  rw [List.cons_append, List.foldl_cons, receive_next hp, characterIn_sync hrx, List.foldl_append, hcovered, List.foldl_cons,
    receive_next (s := s.assembling _ _) hp,
    characterIn_check_first (by rw [hfirst, List.length_append, hlen, List.length_singleton]; omega), List.foldl_cons,
    receive_next (s := s.assembling _ _) hp, characterIn_check_last (by rw [List.append_assoc, hfirst]; simp [hlen]), List.append_assoc]
  rfl

theorem characterIn_broken {s : State} (h : s.sl.rx ≠ .hunt) (c : Byte) : characterIn c true s = discardFrame s := by
  unfold characterIn
  cases hrx : s.sl.rx with
  | hunt => exact absurd hrx h
  | length | content | check => simp

theorem exec_gapTimerExpiry {s : State} (hp : s.powered = true) :
    exec .gapTimerExpiry s = .next (if s.sl.gapTimer.isSome then gapExpired s else s) := congrArg Host.Outcome.next (if_pos hp)

theorem gapExpired_of_hunt {s : State} (h : s.sl.rx = .hunt) : gapExpired s = s := by
  unfold gapExpired
  rw [h]

theorem gapExpired_of_ne {s : State} (h : s.sl.rx ≠ .hunt) : gapExpired s = discardFrame s := by
  unfold gapExpired
  split
  · next hrx => exact absurd hrx h
  all_goals rfl

/-- Settles O28: a run over the frame's characters, and each single character that is ignored or ends a frame. -/
theorem frameReception : Obligations.FrameReception := by
  refine ⟨fun f hi lo s hbody hp hrx => ?_, fun c bad s hp => ?_⟩
  · exact (receive_frame hbody hi lo hp hrx).trans (congrArg _ (finishFrame_whole hbody hi lo s))
  · refine ⟨fun hrx h => ?_, fun hrx => ?_, fun hrx => ?_, fun hrx h => ?_, fun hrx hrun => ?_, fun hrx => ?_⟩
    · have hno : ¬(bad = false ∧ c = 0xA5) := by
        rintro ⟨h1, h2⟩
        obtain h | h := h
        · exact h h2
        · rw [h1] at h; cases h
      rw [exec_characterReceived hp]
      unfold characterIn
      rw [hrx]
      simp only
      rw [if_neg hno]
    · rw [exec_characterReceived hp, characterIn_sync hrx]
      rfl
    · rw [exec_characterReceived hp, characterIn_broken hrx]
      rfl
    · rw [exec_characterReceived hp]
      unfold characterIn
      rw [hrx]
      simp only
      rw [if_pos (.inr h)]
      rfl
    · rw [exec_gapTimerExpiry hp, if_pos hrun, gapExpired_of_ne hrx]
      rfl
    · rw [exec_gapTimerExpiry hp, gapExpired_of_hunt hrx, ite_self]

end Sys2Proof.Machine

/-! PROOFS. The resets as the chapters state them, LOCK_COMMISSION, the clock commands, and the four plain parameter commands. -/

namespace Sys2Proof.Machine

/-! ### Resets -/

theorem whenPowered_on {s : State} (hp : s.powered = true) (f : State → State) : whenPowered s f = f s := if_pos hp

theorem whenPowered_off {s : State} (hp : s.powered = false) (f : State → State) : whenPowered s f = s := if_neg (by simp [hp])

/-- R181: where nothing is in flight and nothing suspended, a reset cuts nothing off. -/
theorem cutOff_idle {s : State} (hf : s.store.flight = none) (he : s.store.erase = none) : cutOff s = s := by
  have hprogram : cutProgram s = s := by
    unfold cutProgram
    rw [hf]
  unfold cutOff cutErase
  rw [hprogram, he]

theorem mainReset_array {s : State} (hf : s.store.flight = none) (he : s.store.erase = none) :
    (mainReset s).store.array = s.store.array := by
  unfold mainReset
  rw [cutOff_idle hf he]
  rfl

/-- R151: whether a power-on makes a cold start. -/
theorem coldStart_cases (failed : Bool) (u : CalendarUnit) :
    (failed = false → u.valid = true → coldStartIfLost (cuReset (loseCell failed u)) = cuReset u)
    ∧ ((failed = true ∨ u.valid = false) → coldStartIfLost (cuReset (loseCell failed u)) = cuCold) := by
  unfold coldStartIfLost
  refine ⟨fun hf hv => ?_, fun h => ?_⟩
  · subst hf
    exact if_pos hv
  · refine if_neg ?_
    obtain rfl | hv := h
    · simp [loseCell, cuReset]
    · cases failed
      · simpa [loseCell, cuReset] using hv
      · simp [loseCell, cuReset]

/-- Settles O52: the reset values, what no reset reaches, and the calendar domain. -/
theorem resets : Obligations.Resets := by
  intro s kept runsOn
  have hmain : ∀ x : State, x.wu = s.wu → x.pending = s.pending → x.store = s.store →
      (mainReset x).wu.pins = s.wu.pins ∧ (mainReset x).pending = s.pending ∧ (mainReset x).store.commissioning = s.store.commissioning
      ∧ (s.store.flight = none → s.store.erase = none → (mainReset x).store.array = s.store.array) := by
    intro x hw hq hs
    obtain ⟨h1, h2, h3, _⟩ := mainReset_keeps x
    exact ⟨h1.trans (by rw [hw]), h2.trans hq, h3.trans (by rw [hs]), fun hf he =>
      (mainReset_array (by rw [hs]; exact hf) (by rw [hs]; exact he)).trans (by rw [hs])⟩
  obtain ⟨_, _, _, hcu, hpowered⟩ := mainReset_keeps s
  have hkept := hmain s rfl rfl rfl
  refine ⟨fun hp => ⟨⟨mainReset s, ?_, ⟨mainReset_mainReset s, hkept⟩, hpowered.trans hp, hcu⟩, losePower s, ?_,
    ⟨losePower_mainReset s, hkept⟩, rfl, hcu⟩, fun hp => ⟨?_, ?_⟩, fun failed => ⟨powerOn failed s, rfl, ⟨powerOn_mainReset failed s, ?_⟩, rfl, ?_⟩⟩
  · exact congrArg Host.Outcome.next (whenPowered_on hp mainReset)
  · exact congrArg Host.Outcome.next (whenPowered_on hp losePower)
  · exact congrArg Host.Outcome.next (whenPowered_off hp mainReset)
  · exact congrArg Host.Outcome.next (whenPowered_off hp losePower)
  · exact hmain (s.onCu (loseCell failed)) rfl rfl rfl
  · have hcold : (powerOn failed s).cu = coldStartIfLost (cuReset (loseCell failed s.cu)) := by
      obtain ⟨_, _, _, hcu', _⟩ := mainReset_keeps (s.onCu (loseCell failed))
      exact congrArg coldStartIfLost hcu'
    rw [hcold]
    exact coldStart_cases failed s.cu

/-! ### Commands that act on one block and reply -/

/-- R187: a command that acts outside the link, and replies. -/
theorem exec_replies {c : Instr} {k : CommandKind} {tag : Byte} {body : List Byte} (hc : c.frame? = some (k, tag, body)) {s v : State}
    (hr : s.LinkReady) {r : Result} {content : List Byte}
    (hserve : serveCommand k body (s.serving k tag body) = reply r content (v.serving k tag body)) (hv : v.sl = s.sl := by rfl) :
    exec c s = .next (v.replyTo k tag r content) := by
  rw [exec_command hc hr, hserve, reply_serving (s := v) (by rw [hv]; exact hr.free) (by rw [hv]; exact hr.slot) rfl, State.serving_link]

/-! ### LOCK_COMMISSION -/

theorem exec_lockCommission {s : State} (hr : s.LinkReady) (tag : Byte) : exec (.lockCommission tag []) s =
    .next ({ s with store := { s.store with commissioning := { s.store.commissioning with locked := true } } }.replyTo
      .lockCommission tag .ok []) :=
  exec_replies rfl hr rfl

/-- Settles O48: the lock is set once, and nothing that a step does reaches a locked block or the unused bytes. -/
theorem lockCommission : Obligations.LockCommission := by
  refine ⟨fun tag s hr => ⟨exec_lockCommission hr tag, fun hl => ?_, fun body hb => ?_, fun body hlen hl => ?_, helloValues s, ?_, ?_⟩,
    fun s t h => ?_⟩
  · rw [exec_lockCommission hr]
    simp only [← hl]
  · exact exec_replies rfl hr (serveCommand_badLength (k := .lockCommission) rfl (by simpa using hb) _)
  · refine exec_replies rfl hr ?_
    show serveWriteCommission body _ = _
    unfold serveWriteCommission
    rw [withLength_eq hlen]
    exact if_pos hl
  · exact exec_replies rfl hr rfl
  · rw [helloValues_eq]
    rfl
  · exact (kept_commissioning s.store.commissioning).step h ⟨fun _ => rfl, rfl⟩

end Sys2Proof.Machine

/-! PROOFS. A command that posts reports before it replies; the time error and its correction; the clock commands and the plain parameter
groups (chapters 8 and 11). -/

namespace Sys2Proof.Machine

/-! ### A reply after what the command did -/

/-- R187: from `s`, a command has come to `u` and then replied: only the link differs between `u` and `t`. -/
structure State.AnsweredFrom (s u t : State) (k : CommandKind) (tag : Byte) (r : Result) (content : List Byte) : Prop where
  same : t = { u with sl := t.sl }
  replied : t.Replied k tag r content
  reports : ∀ rep, s.reportsSince u rep → s.reportsSince t rep

/-- A reply changes the link alone. -/
theorem State.AnsweredFrom.proj {s u t : State} {k : CommandKind} {tag : Byte} {r : Result} {content : List Byte}
    (h : s.AnsweredFrom u t k tag r content) {α : Type} (f : State → α)
    (hf : ∀ (x : State) (l : StationLink), f { x with sl := l } = f x := by exact fun _ _ => rfl) : f t = f u := by
  rw [h.same, hf]

/-- R187: what a reply makes of a link that still serves the command. -/
theorem reply_answeredFrom {s u : State} {k : CommandKind} {tag : Byte} {body : List Byte}
    (hserved : u.sl.inService = some { kind := k.code, tag := tag, body := body }) (hslot : u.sl.replySlot = none)
    (hqueue : u.sl.inputQueue = []) (r : Result) (content : List Byte) : s.AnsweredFrom u (reply r content u) k tag r content := by
  rw [reply_eq_replyTo hslot hserved]
  refine ⟨rfl, ⟨rfl, rfl, hqueue⟩, fun rep hrep => ?_⟩
  obtain hin | ⟨left, htx⟩ | hlost | hfull := hrep
  · exact .inl hin
  · refine .inr (.inl ⟨left, ?_⟩)
    show (match u.sl.tx with
      | .idle => Transmitter.reply ((content.length + 7) * 2604)
      | sending => sending) = _
    rw [htx]
  · exact .inr (.inr (.inl hlost))
  · exact .inr (.inr (.inr hfull))

/-- R187: a command's frame on a link that can take it, where its block acts, by elementary changes, before it replies. -/
theorem exec_answers {c : Instr} {k : CommandKind} {tag : Byte} {body : List Byte} (hc : c.frame? = some (k, tag, body)) {s u : State}
    (hr : s.LinkReady) {r : Result} {content : List Byte} (h : Changes false (s.serving k tag body) u)
    (hserve : serveCommand k body (s.serving k tag body) = reply r content u) :
    ∃ t, exec c s = .next t ∧ s.AnsweredFrom u t k tag r content := by
  obtain ⟨hserved, hslot, hqueue⟩ : u.sl.inService = some { kind := k.code, tag := tag, body := body } ∧ u.sl.replySlot = none
      ∧ u.sl.inputQueue = [] := by
    have hkept := Changes.keeps (P := fun x => x.store.readJob = none ∧ x.sl.inService = some { kind := k.code, tag := tag, body := body }
      ∧ x.sl.replySlot = none ∧ x.sl.inputQueue = []) (fun x y hxy hx => ?_) h ⟨hr.journal, rfl, hr.slot, hr.waiting⟩
    · exact hkept.2
    · obtain ⟨hj, hs, hf, hq⟩ := hx
      obtain ⟨hj', hs', hf'⟩ | ⟨hj', _⟩ := hxy.serviceKept
      · exact ⟨by simpa [hj] using hj', hs'.trans hs, hf'.trans hf, hxy.waiting.1.trans hq⟩
      · simp [hj] at hj'
  exact ⟨_, by rw [exec_command hc hr, hserve], reply_answeredFrom hserved hslot hqueue r content⟩

/-- `still` looks at the link without its reports: an equal state with another link. -/
theorem still_with_sl {a b : State} (h : a.still = b.still) (l : StationLink) : ({ a with sl := l } : State).still = ({ b with sl := l } : State).still := by
  have e : ∀ x : State, ({ x with sl := l } : State).still = { x.still with sl := { l with reports := [], tx := .idle, lostReports := 0 } } := fun _ => rfl
  rw [e, e, h]

/-- What `still` shows after a command that only the reply ends. -/
theorem State.AnsweredFrom.still {s u t v : State} {k : CommandKind} {tag : Byte} {r : Result} {content : List Byte}
    (h : s.AnsweredFrom u t k tag r content) (hu : u.still = v.still) : t.still = ({ v with sl := t.sl } : State).still := by
  conv_lhs => rw [h.same]
  exact still_with_sl hu _

/-! ### The time error (R146) and its correction (R148) -/

/-- R146: the Calendar Unit after the range test. -/
def CalendarUnit.ranged (u : CalendarUnit) : CalendarUnit := { u with teRange := u.teRange || decide (u.params.limit < u.teMs.natAbs) }

theorem ranged_of_passed {u : CalendarUnit} (h : u.params.limit < u.teMs.natAbs) : u.ranged = { u with teRange := true } := by
  unfold CalendarUnit.ranged
  rw [decide_eq_true h, Bool.or_true]

theorem ranged_of_kept {u : CalendarUnit} (h : ¬u.params.limit < u.teMs.natAbs) : u.ranged = u := by
  unfold CalendarUnit.ranged
  rw [decide_eq_false h, Bool.or_false]

theorem rangeTest_eq (s : State) : rangeTest s = s.onCu CalendarUnit.ranged := by
  unfold rangeTest
  split
  · next h =>
    unfold State.onCu
    rw [ranged_of_passed h]
  · next h =>
    unfold State.onCu
    rw [ranged_of_kept h]

/-- R148: whether a correction that runs goes on. -/
def CalendarUnit.goesOn (u : CalendarUnit) : Bool :=
  match u.correction with
  | .inactive => false
  | .slow => decide (0 < u.teCycles) && u.permitted
  | .fast => decide (u.teCycles < 0) && u.permitted

/-- R148: whether a correction starts. -/
def CalendarUnit.starts (u : CalendarUnit) : Bool :=
  decide (u.correction = .inactive) && u.permitted && decide (u.params.deadband < u.teMs.natAbs)

/-- R148: the correction after an evaluation. -/
def CalendarUnit.corrected (u : CalendarUnit) : CorrectionState :=
  if u.goesOn then u.correction else if u.starts then (if 0 < u.teCycles then .slow else .fast) else .inactive

/-- R148: a correction that ends leaves INACTIVE. -/
theorem endCorrection_cu (cause : EndCause) (s : State) : (endCorrection cause s).cu = { s.cu with correction := .inactive } := post_cu _ _

theorem startCorrection_cu (dir : CorrectionState) (s : State) : (startCorrection dir s).cu = { s.cu with correction := dir } := post_cu _ _

/-- R148: what an evaluation comes to. -/
theorem evaluateCorrection_cases (s : State) :
    (s.cu.starts = true ∧ evaluateCorrection s = startCorrection (if 0 < s.cu.teCycles then .slow else .fast) s)
    ∨ (s.cu.goesOn = true ∧ evaluateCorrection s = s)
    ∨ (s.cu.starts = false ∧ s.cu.goesOn = false ∧ s.cu.correction = .inactive ∧ evaluateCorrection s = s)
    ∨ (s.cu.starts = false ∧ s.cu.goesOn = false ∧ ∃ cause, evaluateCorrection s = endCorrection cause s
      ∧ (s.cu.correction = .slow ∧ s.cu.teCycles ≤ 0 ∨ s.cu.correction = .fast ∧ 0 ≤ s.cu.teCycles → cause = .zero)) := by
  unfold evaluateCorrection CalendarUnit.starts CalendarUnit.goesOn
  cases hc : s.cu.correction with
  | inactive =>
    simp only
    split
    · next h => exact .inl ⟨by simp [h.1]; exact h.2, rfl⟩
    · next h => exact .inr (.inr (.inl ⟨by simpa using h, by simp⟩))
  | slow =>
    simp only
    split
    · next h => exact .inr (.inr (.inr ⟨by simp, by simp; omega, .zero, rfl, fun _ => rfl⟩))
    · next h =>
      split
      · next hp => exact .inr (.inl ⟨by simp [hp]; omega, rfl⟩)
      · next hp => exact .inr (.inr (.inr ⟨by simp, by simp [hp], _, rfl, by simp; omega⟩))
  | fast =>
    simp only
    split
    · next h => exact .inr (.inr (.inr ⟨by simp, by simp; omega, .zero, rfl, fun _ => rfl⟩))
    · next h =>
      split
      · next hp => exact .inr (.inl ⟨by simp [hp]; omega, rfl⟩)
      · next hp => exact .inr (.inr (.inr ⟨by simp, by simp [hp], _, rfl, by simp; omega⟩))

theorem CalendarUnit.goesOn_of_starts {u : CalendarUnit} (h : u.starts = true) : u.goesOn = false := by
  have hi : u.correction = .inactive := by
    unfold CalendarUnit.starts at h
    simp only [Bool.and_eq_true, decide_eq_true_eq] at h
    exact h.1.1
  unfold CalendarUnit.goesOn
  rw [hi]

/-- R148: an evaluation leaves of the Calendar Unit all but the correction. -/
theorem evaluateCorrection_cu (s : State) : (evaluateCorrection s).cu = { s.cu with correction := s.cu.corrected } := by
  unfold CalendarUnit.corrected
  obtain ⟨hs, he⟩ | ⟨hg, he⟩ | ⟨hs, hg, hi, he⟩ | ⟨hs, hg, cause, he, _⟩ := evaluateCorrection_cases s
  · rw [he, startCorrection_cu, CalendarUnit.goesOn_of_starts hs, hs]
    rfl
  · rw [he, hg]
    rfl
  · rw [he, hs, hg]
    simp only [← hi]
    rfl
  · rw [he, endCorrection_cu, hs, hg]
    rfl

theorem evaluateTime_cu (s : State) : (evaluateTime s).cu = { s.cu.ranged with correction := s.cu.ranged.corrected } := by
  unfold evaluateTime
  rw [evaluateCorrection_cu, rangeTest_eq]
  rfl

theorem evaluateTime_frame (s : State) : evaluateTime s = { s with cu := (evaluateTime s).cu, sl := (evaluateTime s).sl } := by
  obtain ⟨c, l, h⟩ := evaluateCorrection_frame (rangeTest s)
  unfold evaluateTime
  rw [h, rangeTest_eq]
  rfl

theorem evaluateTime_reportsOnly (s : State) : ReportsOnly s (evaluateTime s) := by
  refine .trans (t := rangeTest s) ?_ (evaluateCorrection_reportsOnly _)
  rw [rangeTest_eq]
  exact .of_sl rfl rfl

/-- R148: the reports of an evaluation that starts a correction, or ends one at a time error of zero. -/
theorem evaluateTime_reports {s : State} (hp : s.powered = true) :
    (s.cu.ranged.starts = true → s.reportsSince (evaluateTime s) (.correctionStart (if 0 < s.cu.teCycles then .slow else .fast)
        s.cu.teMsShown ({ s.cu with correction := if 0 < s.cu.teCycles then .slow else .fast } : CalendarUnit).offset))
    ∧ (s.cu.correction = .slow → s.cu.teCycles ≤ 0 → s.reportsSince (evaluateTime s) (.correctionEnd .slow .zero s.cu.teMsShown 0))
    ∧ (s.cu.correction = .fast → 0 ≤ s.cu.teCycles → s.reportsSince (evaluateTime s) (.correctionEnd .fast .zero s.cu.teMsShown 0)) := by
  have hcases := evaluateCorrection_cases (s.onCu CalendarUnit.ranged)
  have hte : (s.onCu CalendarUnit.ranged).cu.teCycles = s.cu.teCycles := rfl
  have hcorr : (s.onCu CalendarUnit.ranged).cu.correction = s.cu.correction := rfl
  unfold evaluateTime
  rw [rangeTest_eq]
  rw [hte, hcorr] at hcases
  have hends : ∀ dir, s.cu.correction = dir → (dir = .slow ∧ s.cu.teCycles ≤ 0 ∨ dir = .fast ∧ 0 ≤ s.cu.teCycles) →
      s.reportsSince (evaluateCorrection (s.onCu CalendarUnit.ranged)) (.correctionEnd dir .zero s.cu.teMsShown 0) := by
    intro dir hdir hzero
    have hne : s.cu.ranged.starts = false ∧ s.cu.ranged.goesOn = false := by
      unfold CalendarUnit.starts CalendarUnit.goesOn
      rw [show s.cu.ranged.correction = dir from hdir, show s.cu.ranged.teCycles = s.cu.teCycles from rfl]
      obtain ⟨rfl, h⟩ | ⟨rfl, h⟩ := hzero <;> exact ⟨rfl, by simp; omega⟩
    obtain ⟨hs, _⟩ | ⟨hg, _⟩ | ⟨_, _, hi, _⟩ | ⟨_, _, cause, he, hcause⟩ := hcases
    · exact absurd (hne.1.symm.trans hs) (by decide)
    · exact absurd (hne.2.symm.trans hg) (by decide)
    · obtain ⟨rfl, _⟩ | ⟨rfl, _⟩ := hzero <;> simp [hi] at hdir
    · have hc : cause = .zero := hcause (by rw [hdir]; exact hzero)
      rw [he, hc]
      unfold endCorrection
      rw [hcorr, hdir]
      exact post_reportsSince _ hp
  refine ⟨fun hs => ?_, fun hc hz => hends _ hc (.inl ⟨rfl, hz⟩), fun hc hz => hends _ hc (.inr ⟨rfl, hz⟩)⟩
  obtain ⟨_, he⟩ | ⟨hg, _⟩ | ⟨hns, _⟩ | ⟨hns, _⟩ := hcases
  · rw [he]
    exact post_reportsSince _ hp
  · exact absurd hg (by simp [CalendarUnit.goesOn_of_starts hs])
  · exact absurd (hns.symm.trans hs) (by decide)
  · exact absurd (hns.symm.trans hs) (by decide)

/-! ### The clock commands -/

theorem u16At_u16 {n : Nat} (h : n < 65536) (rest : List Byte) : u16At (u16 n ++ rest) 0 = n := by
  show (BitVec.ofNat 8 n).toNat + 256 * (BitVec.ofNat 8 (n / 256)).toNat = n
  simp only [BitVec.toNat_ofNat]
  omega

theorem daysInMonth_eq (year month : Nat) : daysInMonth year month = if month = 2 then (if year % 4 = 0 then 29 else 28)
    else if month = 4 ∨ month = 6 ∨ month = 9 ∨ month = 11 then 30 else 31 := by
  unfold daysInMonth
  split <;> simp_all

theorem validClock_iff (year month day hour minute second : Nat) : validClock year month day hour minute second = true ↔
    2000 ≤ year ∧ year ≤ 2099 ∧ 1 ≤ month ∧ month ≤ 12 ∧ 1 ≤ day ∧ day ≤ daysInMonth year month ∧ hour ≤ 23 ∧ minute ≤ 59 ∧ second ≤ 59 := by
  simp [validClock, and_assoc]

theorem i16At_pair (lo hi : Byte) : i16At [lo, hi] 0 = (hi ++ lo).toInt := by
  have e : BitVec.ofNat 16 (lo.toNat + 256 * hi.toNat) = hi ++ lo := by
    apply BitVec.eq_of_toNat_eq
    have := lo.isLt
    have := hi.isLt
    rw [BitVec.toNat_append, ← Nat.shiftLeft_add_eq_or_of_lt lo.isLt, Nat.shiftLeft_eq, BitVec.toNat_ofNat]
    omega
  show (BitVec.ofNat 16 (lo.toNat + 256 * hi.toNat)).toInt = _
  rw [e]

/-- R143: the bytes that SHIFT_HOUR takes. -/
theorem shiftOf_byte (b : Byte) : shiftOf (i8At [b] 0) = if b = 0x01 then some true else if b = 0xFF then some false else none := by
  revert b; decide

end Sys2Proof.Machine

/-! PROOFS. The clock commands, the trim window and the generator crossing; the plain parameter groups (chapters 4, 6, 7 and 8). -/

namespace Sys2Proof.Machine

/-! ### SET_CLOCK, SHIFT_HOUR, SET_TRIM -/

theorem exec_setClock {s : State} (hr : s.LinkReady) (tag : Byte) {year : Nat} (hy : year < 65536) (month day hour minute second : Byte) :
    exec (.setClock tag (u16 year ++ [month, day, hour, minute, second])) s = .next
      (if validClock year month.toNat day.toNat hour.toNat minute.toNat second.toNat = true then
        { s with cu := { s.cu.beginSecond with
          calendar :=
            { year := year, month := month.toNat, day := day.toNat, weekday := weekdayOf year month.toNat day.toNat
              hour := hour.toNat, minute := minute.toNat, second := second.toNat }
          pendingShift := none, clockCold := false } }.replyTo .setClock tag .ok []
      else s.replyTo .setClock tag .badArg []) := by
  have hserve : ∀ x : State, serveCommand .setClock (u16 year ++ [month, day, hour, minute, second]) x =
      if validClock year month.toNat day.toNat hour.toNat minute.toNat second.toNat = true then
        reply .ok [] (x.onCu fun u => { u.beginSecond with
          calendar :=
            { year := year, month := month.toNat, day := day.toNat, weekday := weekdayOf year month.toNat day.toNat
              hour := hour.toNat, minute := minute.toNat, second := second.toNat }
          pendingShift := none, clockCold := false })
      else reply .badArg [] x := by
    intro x
    show serveSetClock _ x = _
    unfold serveSetClock
    rw [withLength_eq (n := 7) rfl, u16At_u16 hy]
    rfl
  split
  · next h => exact exec_replies rfl hr (by rw [hserve, if_pos h]; rfl)
  · next h => exact exec_replies rfl hr (by rw [hserve, if_neg h])

theorem exec_shiftHour {s : State} (hr : s.LinkReady) (tag b : Byte) :
    (b ≠ 0x01 → b ≠ 0xFF → exec (.shiftHour tag [b]) s = .next (s.replyTo .shiftHour tag .badArg []))
    ∧ (b = 0x01 ∨ b = 0xFF → exec (.shiftHour tag [b]) s = .next
      (if s.cu.pendingShift.isSome = true then s.replyTo .shiftHour tag .busy []
       else if s.cu.calendar.hour = (if b = 0x01 then 23 else 0) then s.replyTo .shiftHour tag .state []
       else { s with cu := { s.cu with pendingShift := some (decide (b = 0x01)) } }.replyTo .shiftHour tag .ok [])) := by
  have hserve : ∀ x : State, serveCommand .shiftHour [b] x =
      match (if b = 0x01 then some true else if b = 0xFF then some false else none) with
      | none => reply .badArg [] x
      | some forward =>
        if x.cu.pendingShift.isSome then reply .busy [] x
        else if x.cu.calendar.hour = (if forward then 23 else 0) then reply .state [] x
        else reply .ok [] (x.onCu fun u => { u with pendingShift := some forward }) := by
    intro x
    show serveShiftHour _ x = _
    unfold serveShiftHour
    rw [withLength_one, shiftOf_byte] <;> rfl
  have htaken : ∀ forward : Bool, (if b = 0x01 then some true else if b = 0xFF then some false else none) = some forward →
      exec (.shiftHour tag [b]) s = .next
      (if s.cu.pendingShift.isSome = true then s.replyTo .shiftHour tag .busy []
       else if s.cu.calendar.hour = (if forward then 23 else 0) then s.replyTo .shiftHour tag .state []
       else { s with cu := { s.cu with pendingShift := some forward } }.replyTo .shiftHour tag .ok []) := by
    intro forward hb
    have hs := hserve (s.serving .shiftHour tag [b])
    rw [hb] at hs
    simp only at hs
    by_cases hbusy : s.cu.pendingShift.isSome = true
    · rw [if_pos hbusy]
      exact exec_replies rfl hr (hs.trans (if_pos hbusy))
    · rw [if_neg hbusy]
      rw [if_neg (c := (s.serving .shiftHour tag [b]).cu.pendingShift.isSome = true) hbusy] at hs
      by_cases hend : s.cu.calendar.hour = if forward then 23 else 0
      · rw [if_pos hend]
        exact exec_replies rfl hr (hs.trans (if_pos hend))
      · rw [if_neg hend]
        exact exec_replies rfl hr (hs.trans (if_neg hend))
  refine ⟨fun h1 hff => exec_replies rfl hr ?_, ?_⟩
  · rw [hserve, if_neg h1, if_neg hff]
  · rintro (rfl | rfl)
    · exact htaken true rfl
    · exact htaken false rfl

theorem exec_setTrim {s : State} (hr : s.LinkReady) (tag lo hi : Byte) :
    let sent : Int := (hi ++ lo).toInt
    let taken : Int := max (-511) (min 511 sent)
    exec (.setTrim tag [lo, hi]) s = .next
      (if s.cu.pendingTrim.isSome = true then s.replyTo .setTrim tag .busy
         (i16 s.cu.trim ++ i16 (s.cu.pendingTrim.getD 0) ++ u8 ((1048576 - s.cu.windowPos + 32767) / 32768))
       else { s with cu := { s.cu with pendingTrim := some taken } }.replyTo .setTrim tag
         (if sent = taken then .ok else .clamped)
         (i16 s.cu.trim ++ i16 taken ++ u8 ((1048576 - s.cu.windowPos + 32767) / 32768))) := by
  intro sent taken
  have hserve : ∀ x : State, serveCommand .setTrim [lo, hi] x =
      if x.cu.pendingTrim.isSome then reply .busy (trimValues x.cu) x
      else reply (if sent = taken then .ok else .clamped) (trimValues { x.cu with pendingTrim := some taken })
        (x.onCu fun u => { u with pendingTrim := some taken }) := by
    intro x
    show serveSetTrim _ x = _
    unfold serveSetTrim
    rw [withLength_eq (n := 2) rfl, i16At_pair]
    rfl
  split
  · next h =>
    obtain ⟨n, hn⟩ := Option.isSome_iff_exists.mp h
    have hbytes : trimValues s.cu = i16 s.cu.trim ++ i16 (s.cu.pendingTrim.getD 0) ++ u8 ((1048576 - s.cu.windowPos + 32767) / 32768) := by
      unfold trimValues trimBytes
      rw [hn]
      rfl
    rw [← hbytes]
    exact exec_replies rfl hr ((hserve _).trans (if_pos h))
  · next h => exact exec_replies rfl hr ((hserve _).trans (if_neg h))

/-- R139: the start of a trim window. -/
theorem exec_trimWindowStart (s : State) : exec .trimWindowStart s = .next { s with cu := { s.cu with
    trim := s.cu.pendingTrim.getD s.cu.trim, pendingTrim := none, windowPos := 0 } } := by
  have h : ∀ u : CalendarUnit, (match u.pendingTrim with
      | some t => { u with trim := t, pendingTrim := none, windowPos := 0 }
      | none => { u with windowPos := 0 } : CalendarUnit)
      = { u with trim := u.pendingTrim.getD u.trim, pendingTrim := none, windowPos := 0 } := by
    rintro ⟨_, _, _, _ | _⟩ <;> rfl
  show Host.Outcome.next (startTrimWindow s) = _
  unfold startTrimWindow State.onCu
  simp only [← h] <;> rfl

/-- R145: a crossing while the field contactor is closed. -/
theorem exec_generatorCrossing_closed {s : State} (hp : s.powered = true) (hf : s.ss.fieldClosed = true) :
    exec .generatorCrossing s = .next (evaluateTime (s.onCu fun u => { u with n := u.n + 1 })) := by
  show Host.Outcome.next (generatorCrossing s) = _
  unfold generatorCrossing
  rw [if_pos ⟨hp, hf⟩]

theorem exec_generatorCrossing_open {s : State} (h : s.powered = false ∨ s.ss.fieldClosed = false) : exec .generatorCrossing s = .next s := by
  show Host.Outcome.next (generatorCrossing s) = _
  unfold generatorCrossing
  rw [if_neg]
  rintro ⟨hp, hf⟩
  obtain h | h := h
  · exact absurd (h.symm.trans hp) (by decide)
  · exact absurd (h.symm.trans hf) (by decide)

theorem sign_of_teMs (u : CalendarUnit) : (0 < u.teMs ↔ 0 < u.teCycles) ∧ (u.teMs < 0 ↔ u.teCycles < 0) := by
  unfold CalendarUnit.teMs
  omega

/-- R148: the offset of a correction that starts. -/
theorem offset_of_start (u : CalendarUnit) (p : Prop) [Decidable p] :
    ({ u with correction := if p then .slow else .fast } : CalendarUnit).offset = if p then -(u.params.off : Int) else u.params.off := by
  unfold CalendarUnit.offset
  split <;> split <;> simp_all

/-- Settles O46: each clock command by the branches of its service; a crossing is one change of N and an evaluation. -/
theorem clockCommands : Obligations.ClockCommands := by
  refine fun tag s => ⟨fun hr => ⟨?_, fun b => exec_shiftHour hr tag b, exec_replies rfl hr rfl, fun lo hi => exec_setTrim hr tag lo hi⟩,
    exec_trimWindowStart s, exec_generatorCrossing_open, fun hp hf => ?_⟩
  · intro year month day hour minute second hy
    simp only [exec_setClock hr tag hy, validClock_iff, daysInMonth_eq]
    rfl
  · refine ⟨_, exec_generatorCrossing_closed hp hf, ?_, ?_⟩
    · rw [evaluateTime_frame]
      rfl
    · generalize hx : s.onCu (fun u => { u with n := u.n + 1 }) = x
      have hcu : x.cu = { s.cu with n := s.cu.n + 1 } := by rw [← hx]; rfl
      have hte : (20 * (s.cu.n + 1 - 50 * s.cu.e).toInt : Int) = x.cu.teMs := by rw [hcu]; rfl
      intro te range permitted kept starts offset
      have hteq : te = x.cu.teMs := hte
      obtain ⟨hpos, hneg⟩ := sign_of_teMs x.cu
      have hranged : x.cu.ranged = { s.cu with n := s.cu.n + 1, teRange := range } := by
        unfold CalendarUnit.ranged
        simp only [range, hteq]
        rw [hcu]
      have hpermit : x.cu.ranged.permitted = permitted := by rw [hranged]; rfl
      have hrte : x.cu.ranged.teCycles = x.cu.teCycles := rfl
      have hstarts : x.cu.ranged.starts = starts := by
        unfold CalendarUnit.starts
        rw [hpermit, show x.cu.ranged.teMs = x.cu.teMs from rfl, hranged]
        simp only [starts, hteq]
      have hkept : x.cu.ranged.goesOn = kept := by
        unfold CalendarUnit.goesOn
        rw [hpermit, hrte, hranged]
        simp only [kept, hteq, hpos, hneg] <;> rfl
      obtain ⟨hstart, hslow, hfast⟩ := evaluateTime_reports (s := x) (by rw [← hx]; exact hp)
      have hdir : (if 0 < te then CorrectionState.slow else .fast) = if 0 < x.cu.teCycles then .slow else .fast := by simp only [hteq, hpos]
      have hshown : clampInt (-2147483648) 2147483647 te = x.cu.teMsShown := by rw [hteq]; rfl
      have hsince : ∀ r, x.reportsSince (evaluateTime x) r → s.reportsSince (evaluateTime x) r := fun r h => by rw [← hx] at h ⊢; exact h
      have hcorr : x.cu.correction = s.cu.correction := by rw [hcu]
      refine ⟨?_, fun hs => ?_, fun hc hz => ?_, fun hc hz => ?_⟩
      · rw [evaluateTime_cu, hdir]
        unfold CalendarUnit.corrected
        rw [hkept, hstarts, hrte, hranged]
      · rw [hdir, hshown]
        have := hstart (hstarts.trans hs)
        rw [offset_of_start] at this
        simp only [offset, hteq, hpos]
        rw [show s.cu.params = x.cu.params by rw [hcu]]
        exact hsince _ this
      · rw [hshown]
        exact hsince _ (hslow (hcorr.trans hc) (by rw [hteq] at hz; omega))
      · rw [hshown]
        exact hsince _ (hfast (hcorr.trans hc) (by rw [hteq] at hz; omega))

end Sys2Proof.Machine

/-! PROOFS. The gate limit, the capacity and the level quantities as what `still` shows of them; the parameter commands (chapters 1, 3, 4, 6,
7 and 8). -/

namespace Sys2Proof.Machine

/-! ### The plain parameter groups -/

/-- R187: the values that a body brings, clamped. -/
def takenFields (fields : List Field) (body : List Byte) : List Nat := clampFields fields (decodeFields fields body)

/-- R187: a group of parameters whose order is right is put in force. -/
theorem setGroup_taken {fields : List Field} {body : List Byte} (hlen : body.length = fieldsSize fields) {ordered : List Nat → Bool}
    (hord : ordered (takenFields fields body) = true) (take : List Nat → State → State) (s : State) :
    setGroup fields ordered take body s = reply (if decodeFields fields body = takenFields fields body then .ok else .clamped)
      (encodeFields fields (takenFields fields body)) (take (takenFields fields body) s) :=
  (withLength_eq hlen _ s).trans (if_pos hord)

theorem setGroup_refused {fields : List Field} {body : List Byte} (hlen : body.length = fieldsSize fields) {ordered : List Nat → Bool}
    (hord : ordered (takenFields fields body) ≠ true) (take : List Nat → State → State) (s : State) :
    setGroup fields ordered take body s = reply .badArg [] s :=
  (withLength_eq hlen _ s).trans (if_neg hord)

/-- R67: while the spacing timer runs, an arbitration changes nothing. -/
theorem arbitrate_of_spacing {s : State} (h : s.da.spacingTimer.isSome = true) : arbitrate s = s :=
  arbitrate_of_walk_none (by unfold walk; rw [if_pos h])

/-- R74: the shortfall test, as one value of the timer. -/
theorem shortfallTest_eq (s : State) : shortfallTest s = s.onDa fun d => { d with
    shortfallTimer := if d.capacity < s.bookingSum then some (d.shortfallTimer.getD (d.params.grace * 1000)) else none } := by
  have hsame : ∀ t, t = s.da.shortfallTimer → s.onDa (fun d => { d with shortfallTimer := t }) = s := fun t ht => by subst ht; rfl
  unfold shortfallTest
  by_cases h : s.bookingSum > s.da.capacity
  · rw [if_pos h]
    cases ht : s.da.shortfallTimer with
    | none => simp [State.onDa, ht, h]
    | some n =>
      refine (if_pos rfl).trans (Eq.symm (Eq.trans ?_ (hsame (some n) ht.symm)))
      simp [State.onDa, ht, h]
  · rw [if_neg h]
    simp [State.onDa, h]

/-- R187: the result and the content of the reply to a group that was put in force. -/
def groupResult (fields : List Field) (body : List Byte) : Result :=
  if decodeFields fields body = takenFields fields body then .ok else .clamped

theorem serveSetDispatch_taken {body : List Byte} (hlen : body.length = 4) (x : State) : serveCommand .setDispatch body x =
    reply (groupResult DispatchParams.fields body) (encodeFields DispatchParams.fields (takenFields DispatchParams.fields body))
      (arbitrate (shortfallTest (x.onDa fun d => { d with params := .ofList (takenFields DispatchParams.fields body) }))) := by
  simp only [serveCommand]
  exact setGroup_taken (fields := DispatchParams.fields) hlen (ordered := fun _ => true) rfl _ x

theorem serveSetRake_taken {body : List Byte} (hlen : body.length = 7) (x : State) : serveCommand .setRake body x =
    reply (groupResult RakeParams.fields body) (encodeFields RakeParams.fields (takenFields RakeParams.fields body))
      (x.onRk fun k => { k with params := .ofList (takenFields RakeParams.fields body) }) := by
  simp only [serveCommand]
  exact setGroup_taken (fields := RakeParams.fields) hlen (ordered := fun _ => true) rfl _ x

theorem serveSetCorrection_taken {body : List Byte} (hlen : body.length = 7) (x : State) : serveCommand .setCorrection body x =
    reply (groupResult CorrectionParams.fields body) (encodeFields CorrectionParams.fields (takenFields CorrectionParams.fields body))
      (evaluateTime (x.onCu fun u => { u with params := .ofList (takenFields CorrectionParams.fields body) })) := by
  simp only [serveCommand]
  exact setGroup_taken (fields := CorrectionParams.fields) hlen (ordered := fun _ => true) rfl _ x

theorem serveSetShedding_cases {body : List Byte} (hlen : body.length = 32) (x : State) :
    let p := SheddingParams.ofList (takenFields SheddingParams.fields body)
    serveCommand .setShedding body x =
    if p.threshold2 < p.threshold1 ∧ p.threshold3 < p.threshold2 ∧ p.threshold1 < p.restoreThreshold ∧ p.holdThreshold < p.holdRelease then
      reply (groupResult SheddingParams.fields body) (encodeFields SheddingParams.fields (takenFields SheddingParams.fields body))
        (x.onFu fun u => { u with params := p })
    else reply .badArg [] x := by
  intro p
  simp only [serveCommand]
  split
  · next h => exact setGroup_taken (fields := SheddingParams.fields) hlen (ordered := sheddingOrdered) (decide_eq_true h) _ x
  · next h => exact setGroup_refused (fields := SheddingParams.fields) hlen (ordered := sheddingOrdered) (fun h' => h (of_decide_eq_true h')) _ x

/-- R148: the correction that an evaluation leaves, by the one that runs. -/
theorem corrected_eq (u : CalendarUnit) : u.corrected =
    match u.correction with
    | .inactive =>
      if u.permitted = true ∧ u.params.deadband < u.teMs.natAbs then (if 0 < u.teCycles then .slow else .fast) else .inactive
    | .slow => if 0 < u.teCycles ∧ u.permitted = true then .slow else .inactive
    | .fast => if u.teCycles < 0 ∧ u.permitted = true then .fast else .inactive := by
  unfold CalendarUnit.corrected CalendarUnit.goesOn CalendarUnit.starts
  cases u.correction <;> simp [Bool.and_eq_true]

theorem exec_setCorrection {s : State} (hr : s.LinkReady) (tag : Byte) {body : List Byte} (hlen : body.length = 7) :
    ∃ t, exec (.setCorrection tag body) s = .next t
      ∧ s.AnsweredFrom (evaluateTime ((s.serving .setCorrection tag body).onCu fun u =>
          { u with params := .ofList (takenFields CorrectionParams.fields body) })) t .setCorrection tag
        (groupResult CorrectionParams.fields body) (encodeFields CorrectionParams.fields (takenFields CorrectionParams.fields body)) := by
  have hset : Changes false (s.serving .setCorrection tag body) ((s.serving .setCorrection tag body).onCu fun u =>
      { u with params := .ofList (takenFields CorrectionParams.fields body) }) :=
    Change.one (.cu _ (params := fun _ => CorrectionParams.ofList_inRange (sent_inRange (by decide) body)))
  exact exec_answers rfl hr (hset.trans (changes_evaluateTime _)) (serveSetCorrection_taken hlen _)

theorem exec_setDispatch {s : State} (hr : s.LinkReady) (tag : Byte) {body : List Byte} (hlen : body.length = 4) :
    ∃ t, exec (.setDispatch tag body) s = .next t
      ∧ s.AnsweredFrom (arbitrate (shortfallTest ((s.serving .setDispatch tag body).onDa fun d =>
          { d with params := .ofList (takenFields DispatchParams.fields body) }))) t .setDispatch tag
        (groupResult DispatchParams.fields body) (encodeFields DispatchParams.fields (takenFields DispatchParams.fields body)) := by
  have hset : Changes false (s.serving .setDispatch tag body) ((s.serving .setDispatch tag body).onDa fun d =>
      { d with params := .ofList (takenFields DispatchParams.fields body) }) :=
    Change.one (.da _ (params := fun _ => DispatchParams.ofList_inRange (sent_inRange (by decide) body)))
  exact exec_answers rfl hr ((hset.trans (changes_shortfallTest _)).trans (changes_arbitrate false _)) (serveSetDispatch_taken hlen _)

/-- Settles O23: every group is clamped and put in force, and what follows at once is an evaluation or an arbitration. -/
theorem parameterCommands : Obligations.ParameterCommands := by
  intro tag body s hr
  refine ⟨fun hlen => ?_, fun hlen => ?_, fun hlen => ?_, fun hlen => ?_⟩
  · exact exec_replies rfl hr (serveSetRake_taken hlen _)
  · intro sent v p
    split
    · next h => exact exec_replies rfl hr ((serveSetShedding_cases hlen _).trans (if_pos h))
    · next h => exact exec_replies rfl hr ((serveSetShedding_cases hlen _).trans (if_neg h))
  · intro sent v p range permitted
    obtain ⟨t, he, ha⟩ := exec_setCorrection hr tag hlen
    have hcu : t.cu = { (({ s.cu with params := p } : CalendarUnit)).ranged with
        correction := (({ s.cu with params := p } : CalendarUnit)).ranged.corrected } := by
      rw [ha.same]
      exact evaluateTime_cu _
    refine ⟨t, he, ?_, ?_, ha.replied⟩
    · rw [ha.same, evaluateTime_frame]
      rfl
    · rw [hcu, corrected_eq]
      rfl
  · intro sent v p
    obtain ⟨t, he, ha⟩ := exec_setDispatch hr tag hlen
    refine ⟨t, he, ha.replied, ha.still (v := { s.serving .setDispatch tag body with da := { s.da with params := p } }) ?_, fun hsp => ?_⟩
    · rw [still_arbitrate, still_shortfallTest]
      rfl
    · rw [ha.same, shortfallTest_eq, arbitrate_of_spacing (by exact hsp)]
      rfl

end Sys2Proof.Machine

/-! PROOFS. The gate limit, the capacity, the forebay gate limit, the rack loss and the drive pause, as what `still` shows of them (chapters 1
and 3): SET_GOVERNOR, SET_LEVELS and the level sample. -/

namespace Sys2Proof.Machine

/-! ### What each operation makes of what `still` shows -/

/-- R9: a new capacity, published. -/
def State.capacitated (s : State) : State :=
  { s with gc := { s.gc with capacity := s.gc.capacityNow }, da := { s.da with capacity := s.gc.capacityNow } }

/-- R8, R9: a new gate limit, and its capacity. -/
def State.limited (s : State) : State := (s.onGc fun g => { g with gLim := g.limitNow s.ss.standing }).capacitated

/-- R43: a forebay gate limit that is published. -/
def State.published (s : State) : State :=
  ((s.onLu fun u => { u with gFF := some s.lu.forebayLimit }).onGc fun g => { g with gFF := s.lu.forebayLimit }).limited

/-- R43: the forebay gate limit, computed where FOREBAY is filled. -/
def State.forebayLimited (handOver : Bool) (s : State) : State :=
  if s.lu.forebay.filled = true ∧ (handOver = true ∨ s.lu.gFF ≠ some s.lu.forebayLimit) then s.published else s

/-- R44: the rack loss and its flag. -/
def LevelUnit.racked (u : LevelUnit) : LevelUnit :=
  if u.rackHeld then u else { u with rackLoss := u.rackLossNow, rackHigh := decide (u.params.rackThreshold ≤ u.rackLossNow) }

/-- R45: the drive-pause flag. -/
def LevelUnit.paused (u : LevelUnit) : LevelUnit :=
  { u with drivePause :=
      if u.forebay.filled then
        (if u.forebayMean < u.params.lPause then true else if u.params.lPause + 100 ≤ u.forebayMean then false else u.drivePause)
      else u.drivePause }

theorem still_capacitated {s t : State} (h : s.still = t.still) : s.capacitated.still = t.capacitated.still := by
  have e : ∀ x : State, x.capacitated.still = x.still.capacitated := fun _ => rfl
  rw [e, e, h]

theorem still_limited {s t : State} (h : s.still = t.still) : s.limited.still = t.limited.still := by
  have e : ∀ x : State, x.limited.still = x.still.limited := fun _ => rfl
  rw [e, e, h]

theorem still_forebayLimited {s t : State} (handOver : Bool) (h : s.still = t.still) :
    (s.forebayLimited handOver).still = (t.forebayLimited handOver).still := by
  have e : ∀ x : State, x.published.still = x.still.published := fun _ => rfl
  have hlu : s.lu = t.lu := by
    show s.still.lu = t.still.lu
    rw [h]
  unfold State.forebayLimited
  rw [hlu]
  split
  · rw [e, e, h]
  · exact h

theorem still_mapLu {s t : State} (g : LevelUnit → LevelUnit) (h : s.still = t.still) : (s.onLu g).still = (t.onLu g).still := by
  have e : ∀ x : State, (x.onLu g).still = x.still.onLu g := fun _ => rfl
  rw [e, e, h]

theorem still_computeCapacity (s : State) : (computeCapacity s).still = s.capacitated.still := still_publishCapacity _

theorem still_recomputeLimit (s : State) : (recomputeLimit s).still = s.limited.still := still_computeCapacity _

theorem still_publishForebayLimit (handOver : Bool) (s : State) : (publishForebayLimit handOver s).still = (s.forebayLimited handOver).still := by
  unfold publishForebayLimit State.forebayLimited
  split
  · next hf =>
    simp only [hf, true_and]
    split
    · exact still_recomputeLimit _
    · rfl
  · next hf => rw [if_neg (by simp [hf])]

@[simp] theorem still_postLevel (event : LevelEvent) (c : Option Channel) (raw : Nat) (s : State) : (postLevel event c raw s).still = s.still :=
  still_post _ _

theorem onLu_same {s : State} {g : LevelUnit → LevelUnit} (h : g s.lu = s.lu) : s.onLu g = s := by
  unfold State.onLu
  rw [h]

theorem still_evaluateRack (s : State) : (evaluateRack s).still = (s.onLu LevelUnit.racked).still := by
  unfold evaluateRack
  split
  · next h => rw [onLu_same (by unfold LevelUnit.racked; rw [if_pos h])]
  · next h =>
    have hracked : s.onLu LevelUnit.racked = s.onLu fun u =>
        { u with rackLoss := s.lu.rackLossNow, rackHigh := decide (s.lu.params.rackThreshold ≤ s.lu.rackLossNow) } := by
      unfold State.onLu LevelUnit.racked
      rw [if_neg h]
    rw [hracked]
    unfold followRack
    simp only []
    by_cases hth : s.lu.params.rackThreshold ≤ s.lu.rackLossNow
    · rw [if_pos (by exact hth), decide_eq_true hth]
      split
      · next hhigh =>
        refine congrArg State.still ?_
        unfold State.onLu
        simp only [← show s.lu.rackHigh = true from hhigh]
      · rw [still_dueTrigger arbitrate_keeps, still_postLevel]
        rfl
    · rw [if_neg (by exact hth), decide_eq_false hth]
      split
      · rw [still_postLevel]
        rfl
      · next hhigh =>
        refine congrArg State.still ?_
        unfold State.onLu
        simp only [← show s.lu.rackHigh = false from Bool.eq_false_iff.mpr hhigh]

theorem still_setDrivePause (b : Bool) (s : State) : (setDrivePause b s).still = (s.onLu fun u => { u with drivePause := b }).still := by
  unfold setDrivePause
  rw [still_arbitrate, still_postLevel]

theorem still_evaluatePause (s : State) : (evaluatePause s).still = (s.onLu LevelUnit.paused).still := by
  have hto : ∀ b : Bool, s.lu.paused = { s.lu with drivePause := b } →
      (if s.lu.drivePause = b then s else setDrivePause b s).still = (s.onLu LevelUnit.paused).still := by
    intro b hb
    have hpaused : s.onLu LevelUnit.paused = s.onLu fun u => { u with drivePause := b } := by
      unfold State.onLu
      rw [hb]
    rw [hpaused]
    split
    · next h => rw [onLu_same (by rw [← h])]
    · exact still_setDrivePause b s
  have hsame : s.lu.paused = s.lu → s.still = (s.onLu LevelUnit.paused).still := fun h => by rw [onLu_same h]
  unfold evaluatePause
  split
  · next hf =>
    split
    · next h1 =>
      exact hto true (by unfold LevelUnit.paused; rw [if_pos hf, if_pos h1])
    · next h1 =>
      split
      · next h2 =>
        have := hto false (by unfold LevelUnit.paused; rw [if_pos hf, if_neg h1, if_pos h2])
        refine Eq.trans (congrArg State.still ?_) this
        cases s.lu.drivePause <;> rfl
      · next h2 => exact hsame (by unfold LevelUnit.paused; rw [if_pos hf, if_neg h1, if_neg h2])
  · next hf => exact hsame (by unfold LevelUnit.paused; rw [if_neg hf])

/-! ### What two states with the same `still` share -/

theorem lu_of_still {s t : State} (h : t.still = s.still) : t.lu = s.lu := by
  show t.still.lu = s.still.lu
  rw [h]

/-- Beyond the integrator and the feed-forward list, `still` shows the Gate Controller. -/
theorem gc_of_still {s t : State} (h : t.still = s.still) :
    t.gc = { s.gc with integrator := t.gc.integrator, feedForward := t.gc.feedForward } := by
  have e : ({ t.gc with integrator := 0, feedForward := [] } : GateController) = { s.gc with integrator := 0, feedForward := [] } := by
    show t.still.gc = s.still.gc
    rw [h]
  exact congrArg (fun g : GateController => { g with integrator := t.gc.integrator, feedForward := t.gc.feedForward }) e

theorem capacity_of_still {s t : State} (h : t.still = s.still) : t.da.capacity = s.da.capacity := by
  show t.still.da.capacity = s.still.da.capacity
  rw [h]

/-- The Gate Controller's part of a state counts in `still` without the integrator and the feed-forward list. -/
theorem still_with_gc {s : State} {a b : GateController}
    (h : a = { b with integrator := a.integrator, feedForward := a.feedForward }) : ({ s with gc := a } : State).still = ({ s with gc := b } : State).still := by
  have e : ∀ g : GateController, ({ s with gc := g } : State).still = { s.still with gc := { g with integrator := 0, feedForward := [] } } := fun _ => rfl
  rw [e a, e b]
  have hgc : ({ a with integrator := 0, feedForward := [] } : GateController) = { b with integrator := 0, feedForward := [] } :=
    congrArg (fun g : GateController => { g with integrator := 0, feedForward := [] }) h
  rw [hgc]

/-! ### SET_GOVERNOR -/

/-- R20: what `still` shows after new governor values. -/
def State.governed (p : GovParams) (s : State) : State :=
  let old := s.gc.params
  let s := s.onGc fun g => { g with params := p }
  let s := if old.gMax ≠ p.gMax ∨ old.standingLimit ≠ p.standingLimit then s.limited else s
  let s := if old.gMax ≠ p.gMax then (s.onLu fun u => { u with gMaxCopy := p.gMax }).forebayLimited true else s
  if old.pFull ≠ p.pFull then s.capacitated else s

theorem still_handOverGMax (s : State) :
    (handOverGMax s).still = ((s.onLu fun u => { u with gMaxCopy := s.gc.params.gMax }).forebayLimited true).still :=
  still_publishForebayLimit true _

theorem still_takeGovernor (p : GovParams) (s : State) : (takeGovernor p s).still = (s.governed p).still := by
  unfold takeGovernor State.governed
  simp only []
  generalize hs1 : s.onGc (fun g => { g with params := p }) = s1
  have hp1 : s1.gc.params.gMax = p.gMax := by rw [← hs1]; rfl
  have h2 : (if s.gc.params.gMax ≠ p.gMax ∨ s.gc.params.standingLimit ≠ p.standingLimit then recomputeLimit s1 else s1).still
      = (if s.gc.params.gMax ≠ p.gMax ∨ s.gc.params.standingLimit ≠ p.standingLimit then s1.limited else s1).still := by
    split
    · exact still_recomputeLimit s1
    · rfl
  generalize hx : (if s.gc.params.gMax ≠ p.gMax ∨ s.gc.params.standingLimit ≠ p.standingLimit then recomputeLimit s1 else s1) = x at h2 ⊢
  generalize hy : (if s.gc.params.gMax ≠ p.gMax ∨ s.gc.params.standingLimit ≠ p.standingLimit then s1.limited else s1) = y at h2 ⊢
  have hpx : x.gc.params.gMax = p.gMax := by
    rw [gc_of_still h2, ← hy]
    split <;> exact hp1
  have h3 : (if s.gc.params.gMax ≠ p.gMax then handOverGMax x else x).still
      = (if s.gc.params.gMax ≠ p.gMax then (y.onLu fun u => { u with gMaxCopy := p.gMax }).forebayLimited true else y).still := by
    split
    · rw [still_handOverGMax, hpx]
      exact still_forebayLimited true (still_mapLu _ h2)
    · exact h2
  generalize (if s.gc.params.gMax ≠ p.gMax then handOverGMax x else x) = v at h3 ⊢
  generalize (if s.gc.params.gMax ≠ p.gMax then (y.onLu fun u => { u with gMaxCopy := p.gMax }).forebayLimited true else y) = w at h3 ⊢
  split
  · rw [still_computeCapacity]
    exact still_capacitated h3
  · exact h3

/-- R43: the forebay gate limit, from the mean level and G_max. -/
def limitOf (p : LevelParams) (mean gMax : Nat) : Nat :=
  if p.lLow ≤ mean then gMax else if mean ≤ p.lMin then 0 else gMax * (mean - p.lMin) / (p.lLow - p.lMin)

theorem forebayLimit_eq (u : LevelUnit) : u.forebayLimit = limitOf u.params u.forebayMean u.gMaxCopy := rfl

theorem filled_iff (c : LevelChannel) : c.filled = true ↔ c.samples ≠ [] := by
  unfold LevelChannel.filled
  cases c.samples <;> simp

/-- R43: a hand-over of G_max computes the forebay gate limit wherever FOREBAY is filled. -/
theorem forebayLimited_true (s : State) : s.forebayLimited true = if s.lu.forebay.filled then s.published else s := by
  unfold State.forebayLimited
  simp

/-- R20, R43: what a hand-over of G_max does to a state. -/
theorem handed_eq (gMax : Nat) (s : State) : (s.onLu fun u => { u with gMaxCopy := gMax }).forebayLimited true =
    if s.lu.forebay.filled then
      ((s.onLu fun u => { u with gMaxCopy := gMax, gFF := some (limitOf u.params u.forebayMean gMax) }).onGc fun g =>
        { g with gFF := limitOf s.lu.params s.lu.forebayMean gMax }).limited
    else s.onLu fun u => { u with gMaxCopy := gMax } := forebayLimited_true _

/-- Two states that differ in the Gate Controller, the Level Unit and the held capacity alone. -/
def PlantOnly (s t : State) : Prop := t = { s with gc := t.gc, lu := t.lu, da := { s.da with capacity := t.da.capacity } }

theorem PlantOnly.refl (s : State) : PlantOnly s s := rfl

theorem PlantOnly.trans {s t u : State} (h : PlantOnly s t) (k : PlantOnly t u) : PlantOnly s u := by
  unfold PlantOnly at *
  rw [h] at k
  exact k

theorem PlantOnly.ite {p : Prop} [Decidable p] {s t u : State} (ht : PlantOnly s t) (hu : PlantOnly s u) : PlantOnly s (if p then t else u) := by
  split
  · exact ht
  · exact hu

theorem plantOnly_capacitated (s : State) : PlantOnly s s.capacitated := rfl

theorem plantOnly_limited (s : State) : PlantOnly s s.limited := (show PlantOnly s (s.onGc _) from rfl).trans (plantOnly_capacitated _)

theorem plantOnly_handed (gMax : Nat) (s : State) : PlantOnly s ((s.onLu fun u => { u with gMaxCopy := gMax }).forebayLimited true) := by
  rw [handed_eq]
  exact .ite ((show PlantOnly s (((s.onLu _).onGc _)) from rfl).trans (plantOnly_limited _)) rfl

theorem governed_frame (p : GovParams) (s : State) : PlantOnly s (s.governed p) := by
  have hparams : PlantOnly s (s.onGc fun g => { g with params := p }) := rfl
  have hlimited := hparams.trans (.ite (p := s.gc.params.gMax ≠ p.gMax ∨ s.gc.params.standingLimit ≠ p.standingLimit) (plantOnly_limited _) (.refl _))
  have hhanded := hlimited.trans (.ite (p := s.gc.params.gMax ≠ p.gMax) (plantOnly_handed p.gMax _) (.refl _))
  exact hhanded.trans (.ite (p := s.gc.params.pFull ≠ p.pFull) (plantOnly_capacitated _) (.refl _))

theorem governed_gate (p : GovParams) (s : State) :
    (s.governed p).gc.params = p ∧ (s.governed p).gc.gateOut = s.gc.gateOut
    ∧ (s.governed p).gc.gLim = (if p.gMax ≠ s.gc.params.gMax ∨ p.standingLimit ≠ s.gc.params.standingLimit then
        min (if s.ss.standing then p.standingLimit else p.gMax) (s.governed p).gc.gFF else s.gc.gLim)
    ∧ ((p.gMax ≠ s.gc.params.gMax ∨ p.standingLimit ≠ s.gc.params.standingLimit ∨ p.pFull ≠ s.gc.params.pFull) →
        (s.governed p).gc.capacity = p.pFull * (s.governed p).gc.gLim / 10000
        ∧ (s.governed p).da.capacity = (s.governed p).gc.capacity) := by
  unfold State.governed
  simp only [handed_eq, ne_eq, eq_comm (a := p.gMax), eq_comm (a := p.standingLimit), eq_comm (a := p.pFull)]
  by_cases hg : s.gc.params.gMax = p.gMax <;> by_cases hs : s.gc.params.standingLimit = p.standingLimit <;>
    by_cases hf : s.gc.params.pFull = p.pFull <;> by_cases hl : s.lu.forebay.filled = true <;>
    simp [hg, hs, hf, hl, State.limited, State.capacitated, GateController.limitNow, GateController.capacityNow] <;> rfl

theorem governed_levels (p : GovParams) (s : State) :
    (s.governed p).lu = { s.lu with
      gMaxCopy := if p.gMax ≠ s.gc.params.gMax then p.gMax else s.lu.gMaxCopy, gFF := (s.governed p).lu.gFF }
    ∧ (p.gMax = s.gc.params.gMax ∨ s.lu.forebay.samples = [] → (s.governed p).gc.gFF = s.gc.gFF ∧ (s.governed p).lu.gFF = s.lu.gFF)
    ∧ (p.gMax ≠ s.gc.params.gMax → s.lu.forebay.samples ≠ [] →
        (s.governed p).gc.gFF = limitOf s.lu.params s.lu.forebayMean p.gMax
        ∧ (s.governed p).lu.gFF = some (limitOf s.lu.params s.lu.forebayMean p.gMax)) := by
  unfold State.governed
  simp only [handed_eq, filled_iff, ne_eq, eq_comm (a := p.gMax)]
  by_cases hg : s.gc.params.gMax = p.gMax <;> by_cases hs : s.gc.params.standingLimit = p.standingLimit <;>
    by_cases hf : s.gc.params.pFull = p.pFull <;> by_cases hl : s.lu.forebay.samples = [] <;>
    simp [hg, hs, hf, hl, State.limited, State.capacitated]

/-- R20: where nothing that matters changes, the new values are in force and nothing follows. -/
theorem takeGovernor_same {p : GovParams} {s : State} (hg : p.gMax = s.gc.params.gMax) (hs : p.standingLimit = s.gc.params.standingLimit)
    (hf : p.pFull = s.gc.params.pFull) : takeGovernor p s = s.onGc fun g => { g with params := p } := by
  unfold takeGovernor
  simp [hg, hs, hf]

theorem serveSetGovernor_taken {body : List Byte} (hlen : body.length = 19) (x : State) : serveCommand .setGovernor body x =
    reply (groupResult GovParams.fields body) (encodeFields GovParams.fields (takenFields GovParams.fields body))
      (takeGovernor (.ofList (takenFields GovParams.fields body)) x) := by
  simp only [serveCommand]
  exact setGroup_taken (fields := GovParams.fields) hlen (ordered := fun _ => true) rfl _ x

/-- R20: SET_GOVERNOR, as what `still` shows of its effect. -/
theorem exec_setGovernor {s : State} (hr : s.LinkReady) (tag : Byte) {body : List Byte} (hlen : body.length = 19) :
    ∃ t, exec (.setGovernor tag body) s = .next t
      ∧ s.AnsweredFrom (takeGovernor (.ofList (takenFields GovParams.fields body)) (s.serving .setGovernor tag body)) t .setGovernor tag
        (groupResult GovParams.fields body) (encodeFields GovParams.fields (takenFields GovParams.fields body)) :=
  exec_answers rfl hr (changes_takeGovernor (GovParams.ofList_inRange (sent_inRange (by decide) body)) _) (serveSetGovernor_taken hlen _)

/-- What `still` shows of the Gate Controller, the Level Unit and the published capacity of an answered command. -/
theorem State.AnsweredFrom.plant {s u t v : State} {k : CommandKind} {tag : Byte} {r : Result} {content : List Byte}
    (h : s.AnsweredFrom u t k tag r content) (hu : u.still = v.still) :
    t.gc = { v.gc with integrator := t.gc.integrator, feedForward := t.gc.feedForward } ∧ t.lu = v.lu ∧ t.da.capacity = v.da.capacity := by
  have hgc : t.gc = u.gc := h.proj State.gc
  have hlu : t.lu = u.lu := h.proj State.lu
  have hda : t.da.capacity = u.da.capacity := h.proj fun x => x.da.capacity
  rw [hgc, hlu, hda]
  exact ⟨gc_of_still hu, lu_of_still hu, capacity_of_still hu⟩

end Sys2Proof.Machine

/-! PROOFS. SET_GOVERNOR, SET_LEVELS and the level sample (chapters 1 and 3), from what `still` shows of them. -/

namespace Sys2Proof.Machine

/-- R20, R187: SET_GOVERNOR, with what follows at once. -/
theorem governorCommand {s : State} (hr : s.LinkReady) (tag : Byte) {body : List Byte} (hlen : body.length = 19) :
    let p := GovParams.ofList (takenFields GovParams.fields body)
    let old := s.gc.params
    ∃ t : State, exec (.setGovernor tag body) s = .next t
      ∧ t.Replied .setGovernor tag (groupResult GovParams.fields body) (encodeFields GovParams.fields (takenFields GovParams.fields body))
      ∧ t.gc.params = p ∧ t.gc.gateOut = s.gc.gateOut
      ∧ t.gc.gLim = (if p.gMax ≠ old.gMax ∨ p.standingLimit ≠ old.standingLimit then
          min (if s.ss.standing then p.standingLimit else p.gMax) t.gc.gFF else s.gc.gLim)
      ∧ ((p.gMax ≠ old.gMax ∨ p.standingLimit ≠ old.standingLimit ∨ p.pFull ≠ old.pFull) →
          t.gc.capacity = p.pFull * t.gc.gLim / 10000 ∧ t.da.capacity = t.gc.capacity)
      ∧ t.lu = { s.lu with gMaxCopy := if p.gMax ≠ old.gMax then p.gMax else s.lu.gMaxCopy, gFF := t.lu.gFF }
      ∧ (p.gMax = old.gMax ∨ s.lu.forebay.samples = [] → t.gc.gFF = s.gc.gFF ∧ t.lu.gFF = s.lu.gFF)
      ∧ (p.gMax ≠ old.gMax → s.lu.forebay.samples ≠ [] →
          t.gc.gFF = limitOf s.lu.params s.lu.forebayMean p.gMax ∧ t.lu.gFF = some (limitOf s.lu.params s.lu.forebayMean p.gMax))
      ∧ t.still = { s with gc := t.gc, lu := t.lu, da := { s.da with capacity := t.da.capacity }, sl := t.sl }.still
      ∧ (p.gMax = old.gMax → p.standingLimit = old.standingLimit → p.pFull = old.pFull →
          t = { s with gc := { s.gc with params := p }, sl := t.sl }) := by
  intro p old
  obtain ⟨t, he, ha⟩ := exec_setGovernor hr tag hlen
  have hstill := still_takeGovernor p (s.serving .setGovernor tag body)
  have hframe : _ = _ := governed_frame p (s.serving .setGovernor tag body)
  obtain ⟨hgc, hlu, hda⟩ := ha.plant hstill
  obtain ⟨hparams, hout, hlim, hcap⟩ := governed_gate p (s.serving .setGovernor tag body)
  obtain ⟨hlevels, hkept, hcomputed⟩ := governed_levels p (s.serving .setGovernor tag body)
  have hans := ha.still hstill
  generalize (s.serving .setGovernor tag body).governed p = v at *
  have hgLim : t.gc.gLim = v.gc.gLim := by rw [hgc]
  have hgFF : t.gc.gFF = v.gc.gFF := by rw [hgc]
  have hcapacity : t.gc.capacity = v.gc.capacity := by rw [hgc]
  refine ⟨t, he, ha.replied, by rw [hgc]; exact hparams, by rw [hgc]; exact hout, ?_, fun h => ?_, ?_, fun h => ?_, fun h1 h2 => ?_, ?_,
    fun h1 h2 h3 => ?_⟩
  · rw [hgLim, hgFF]; exact hlim
  · rw [hcapacity, hgLim, hda]; exact hcap h
  · rw [hlu]; exact hlevels
  · rw [hgFF, hlu]; exact hkept h
  · rw [hgFF, hlu]; exact hcomputed h1 h2
  · rw [hans, hframe, hlu, hda]
    exact (still_with_gc (s := { s with lu := v.lu, da := { s.da with capacity := v.da.capacity }, sl := t.sl }) hgc).symm
  · rw [ha.same, takeGovernor_same (s := s.serving .setGovernor tag body) h1 h2 h3]
    rfl

/-! ### The rack loss, the drive pause and the forebay gate limit (R43 to R45) -/

/-- R44: what an evaluation of the rack loss gives (log 29). -/
theorem racked_facts (u : LevelUnit) :
    let unfilled := u.pond.samples = [] ∨ u.forebay.samples = []
    if unfilled ∨ u.pond.fault = false ∧ u.forebay.fault = false then
      u.racked.rackLoss = (if unfilled then 0 else u.pondMean - u.forebayMean)
      ∧ u.racked.rackHigh = decide (u.params.rackThreshold ≤ u.racked.rackLoss)
    else u.racked.rackLoss = u.rackLoss ∧ u.racked.rackHigh = u.rackHigh := by
  intro unfilled
  have hfilled : (u.pond.filled && u.forebay.filled) = true ↔ ¬unfilled := by
    rw [Bool.and_eq_true, filled_iff, filled_iff, not_or]
  have hloss : u.rackLossNow = if unfilled then 0 else u.pondMean - u.forebayMean := by
    unfold LevelUnit.rackLossNow
    by_cases h : unfilled
    · rw [if_neg (fun h' => (hfilled.mp h') h), if_pos h]
    · rw [if_pos (hfilled.mpr h), if_neg h]
  have hheld : u.rackHeld = true ↔ ¬(unfilled ∨ u.pond.fault = false ∧ u.forebay.fault = false) := by
    unfold LevelUnit.rackHeld
    rw [Bool.and_eq_true, hfilled, Bool.or_eq_true]
    cases u.pond.fault <;> cases u.forebay.fault <;> simp
  unfold LevelUnit.racked
  split
  · next h =>
    rw [if_neg (fun h' => (hheld.mp h') h)]
    exact ⟨hloss, by rw [hloss]⟩
  · next h =>
    rw [if_pos (hheld.mpr h)]
    exact ⟨rfl, rfl⟩

theorem racked_frame (u : LevelUnit) : u.racked = { u with rackLoss := u.racked.rackLoss, rackHigh := u.racked.rackHigh } := by
  unfold LevelUnit.racked
  split <;> rfl

/-- R45: the drive-pause flag, by the FOREBAY mean. -/
theorem paused_drivePause (u : LevelUnit) : u.paused.drivePause =
    if u.forebay.samples = [] then u.drivePause
    else if u.forebayMean < u.params.lPause then true
    else if u.params.lPause + 100 ≤ u.forebayMean then false else u.drivePause := by
  unfold LevelUnit.paused
  by_cases h : u.forebay.samples = []
  · rw [if_pos h]
    exact if_neg (fun h' => (filled_iff _).mp h' h)
  · rw [if_neg h]
    exact if_pos ((filled_iff _).mpr h)

/-- R43: what a publication that goes by the value last published comes to. -/
theorem forebayLimited_false (s : State) : s.forebayLimited false =
    if s.lu.forebay.samples = [] ∨ s.lu.gFF = some s.lu.forebayLimit then s else s.published := by
  have hcond : (s.lu.forebay.filled = true ∧ (false = true ∨ s.lu.gFF ≠ some s.lu.forebayLimit)) ↔
      ¬(s.lu.forebay.samples = [] ∨ s.lu.gFF = some s.lu.forebayLimit) := by
    rw [filled_iff, not_or]
    simp
  unfold State.forebayLimited
  by_cases h : s.lu.forebay.samples = [] ∨ s.lu.gFF = some s.lu.forebayLimit
  · rw [if_pos h, if_neg (fun h' => hcond.mp h' h)]
  · rw [if_neg h, if_pos (hcond.mpr h)]

/-- R43: the publication reaches the gate limits, the capacities and the value last published. -/
theorem published_eq (s : State) : s.published = { s with
    lu := { s.lu with gFF := some s.lu.forebayLimit }
    gc := { s.gc with
      gFF := s.lu.forebayLimit
      gLim := min (if s.ss.standing then s.gc.params.standingLimit else s.gc.params.gMax) s.lu.forebayLimit
      capacity :=
        s.gc.params.pFull * min (if s.ss.standing then s.gc.params.standingLimit else s.gc.params.gMax) s.lu.forebayLimit / 10000 }
    da := { s.da with capacity :=
        s.gc.params.pFull * min (if s.ss.standing then s.gc.params.standingLimit else s.gc.params.gMax) s.lu.forebayLimit / 10000 } } := rfl

/-- R44, R45: the Level Unit after an evaluation of the rack loss and one of the drive pause. -/
def State.evaluated (s : State) : State := (s.onLu LevelUnit.racked).onLu LevelUnit.paused

theorem still_evaluations {s w : State} (h : s.still = w.still) : (evaluatePause (evaluateRack s)).still = w.evaluated.still := by
  rw [still_evaluatePause]
  refine still_mapLu _ ?_
  rw [still_evaluateRack]
  exact still_mapLu _ h

theorem racked_with_gFF (u : LevelUnit) (g : Option Nat) : ({ u with gFF := g } : LevelUnit).racked = { u with
    rackLoss := u.racked.rackLoss, rackHigh := u.racked.rackHigh, gFF := g } := by
  unfold LevelUnit.racked
  rw [show ({ u with gFF := g } : LevelUnit).rackHeld = u.rackHeld from rfl]
  split <;> rfl

/-- What the evaluations leave alone after a publication or without one. -/
theorem evaluated_frame {s w : State} (h : w = s ∨ w = s.published) : w.evaluated = { s with
    lu := { s.lu with
      rackLoss := s.lu.racked.rackLoss, rackHigh := s.lu.racked.rackHigh, drivePause := s.lu.paused.drivePause, gFF := w.lu.gFF }
    gc := w.gc, da := { s.da with capacity := w.da.capacity } } := by
  unfold State.evaluated
  obtain rfl | rfl := h
  · show { w with lu := w.lu.racked.paused } = _
    rw [racked_frame]
    rfl
  · show { s.published with lu := ({ s.lu with gFF := some s.lu.forebayLimit } : LevelUnit).racked.paused } = _
    rw [racked_with_gFF]
    rfl

theorem forebayLimited_false_or (s : State) : s.forebayLimited false = s ∨ s.forebayLimited false = s.published := by
  unfold State.forebayLimited
  split
  · exact .inr rfl
  · exact .inl rfl

end Sys2Proof.Machine

/-! PROOFS. SET_LEVELS and the level sample (chapter 3). -/

namespace Sys2Proof.Machine

/-- R43: which forebay gate limit is in force after an evaluation. -/
theorem forebayLimited_false_facts (s : State) :
    if s.lu.forebay.samples = [] ∨ s.lu.gFF = some s.lu.forebayLimit then
      (s.forebayLimited false).lu.gFF = s.lu.gFF ∧ (s.forebayLimited false).gc = s.gc
      ∧ (s.forebayLimited false).da.capacity = s.da.capacity
    else
      (s.forebayLimited false).lu.gFF = some s.lu.forebayLimit ∧ (s.forebayLimited false).gc.gFF = s.lu.forebayLimit
      ∧ (s.forebayLimited false).gc.gLim = min (if s.ss.standing then s.gc.params.standingLimit else s.gc.params.gMax) s.lu.forebayLimit
      ∧ (s.forebayLimited false).gc.capacity = s.gc.params.pFull * (s.forebayLimited false).gc.gLim / 10000
      ∧ (s.forebayLimited false).da.capacity = (s.forebayLimited false).gc.capacity := by
  rw [forebayLimited_false]
  split
  · exact ⟨rfl, rfl, rfl⟩
  · exact ⟨rfl, rfl, rfl, rfl, rfl⟩

/-- R43: a publication changes of the Gate Controller the gate limits and the capacity. -/
theorem forebayLimited_gc (s : State) : (s.forebayLimited false).gc = { s.gc with
    gFF := (s.forebayLimited false).gc.gFF, gLim := (s.forebayLimited false).gc.gLim
    capacity := (s.forebayLimited false).gc.capacity } := by
  rw [forebayLimited_false]
  split <;> rfl

/-! ### SET_LEVELS -/

theorem serveSetLevels_cases {body : List Byte} (hlen : body.length = 16) (x : State) :
    let p := LevelParams.ofList (takenFields LevelParams.fields body)
    serveCommand .setLevels body x =
    if p.lMin < p.lLow ∧ p.pondLow < p.pondHigh ∧ p.forebayLow < p.forebayHigh then
      reply (groupResult LevelParams.fields body) (encodeFields LevelParams.fields (takenFields LevelParams.fields body))
        (takeLevels p x)
    else reply .badArg [] x := by
  intro p
  simp only [serveCommand]
  split
  · next h => exact setGroup_taken (fields := LevelParams.fields) hlen (ordered := levelsOrdered) (decide_eq_true h) _ x
  · next h => exact setGroup_refused (fields := LevelParams.fields) hlen (ordered := levelsOrdered) (fun h' => h (of_decide_eq_true h')) _ x

theorem exec_setLevels {s : State} (hr : s.LinkReady) (tag : Byte) {body : List Byte} (hlen : body.length = 16)
    {p : LevelParams} (hp : p = LevelParams.ofList (takenFields LevelParams.fields body))
    (hord : p.lMin < p.lLow ∧ p.pondLow < p.pondHigh ∧ p.forebayLow < p.forebayHigh) :
    ∃ t, exec (.setLevels tag body) s = .next t
      ∧ s.AnsweredFrom (takeLevels p (s.serving .setLevels tag body)) t .setLevels tag
        (groupResult LevelParams.fields body) (encodeFields LevelParams.fields (takenFields LevelParams.fields body)) := by
  subst hp
  exact exec_answers rfl hr (changes_takeLevels (LevelParams.ofList_inRange (sent_inRange (by decide) body)) _)
    ((serveSetLevels_cases hlen _).trans (if_pos hord))

/-- R43 to R46: SET_LEVELS whose order is right, with what follows at once. -/
theorem levelsCommand {s : State} (hr : s.LinkReady) (tag : Byte) {body : List Byte} (hlen : body.length = 16)
    {p : LevelParams} (hp : p = LevelParams.ofList (takenFields LevelParams.fields body))
    (hord : p.lMin < p.lLow ∧ p.pondLow < p.pondHigh ∧ p.forebayLow < p.forebayHigh) :
    let u : LevelUnit := { s.lu with params := p }
    ∃ t : State, exec (.setLevels tag body) s = .next t
      ∧ t.Replied .setLevels tag (groupResult LevelParams.fields body) (encodeFields LevelParams.fields (takenFields LevelParams.fields body))
      ∧ t.lu =
        { s.lu with
          params := p, rackLoss := t.lu.rackLoss, rackHigh := t.lu.rackHigh, drivePause := t.lu.drivePause
          gFF := t.lu.gFF }
      ∧ (let unfilled := s.lu.pond.samples = [] ∨ s.lu.forebay.samples = []
         if unfilled ∨ s.lu.pond.fault = false ∧ s.lu.forebay.fault = false then
           t.lu.rackLoss = (if unfilled then 0 else t.lu.pondMean - t.lu.forebayMean)
           ∧ t.lu.rackHigh = decide (p.rackThreshold ≤ t.lu.rackLoss)
         else t.lu.rackLoss = s.lu.rackLoss ∧ t.lu.rackHigh = s.lu.rackHigh)
      ∧ (let g := u.forebayLimit
         if s.lu.forebay.samples = [] ∨ s.lu.gFF = some g then
           t.lu.gFF = s.lu.gFF ∧ t.gc = { s.gc with integrator := t.gc.integrator, feedForward := t.gc.feedForward }
           ∧ t.da.capacity = s.da.capacity
         else t.lu.gFF = some g ∧ t.gc.gFF = g
           ∧ t.gc.gLim = min (if s.ss.standing then s.gc.params.standingLimit else s.gc.params.gMax) g
           ∧ t.gc.capacity = s.gc.params.pFull * t.gc.gLim / 10000 ∧ t.da.capacity = t.gc.capacity)
      ∧ t.lu.drivePause =
        (if s.lu.forebay.samples = [] then s.lu.drivePause
         else if t.lu.forebayMean < p.lPause then true
         else if p.lPause + 100 ≤ t.lu.forebayMean then false else s.lu.drivePause)
      ∧ t.gc.gateOut = s.gc.gateOut
      ∧ t.still = { s with
          lu := t.lu, gc := { s.gc with gFF := t.gc.gFF, gLim := t.gc.gLim, capacity := t.gc.capacity }
          da := { s.da with capacity := t.da.capacity }, sl := t.sl }.still := by
  intro u
  obtain ⟨t, he, ha⟩ := exec_setLevels hr tag hlen hp hord
  have hstill : (takeLevels p (s.serving .setLevels tag body)).still = _ := still_evaluations (still_publishForebayLimit false _)
  obtain ⟨hgc, hlu, hda⟩ := ha.plant hstill
  have hans := ha.still hstill
  rw [evaluated_frame (forebayLimited_false_or _)] at hgc hlu hda hans
  have hfacts := forebayLimited_false_facts ((s.serving .setLevels tag body).onLu fun u => { u with params := p })
  have hgates := forebayLimited_gc ((s.serving .setLevels tag body).onLu fun u => { u with params := p })
  generalize ((s.serving .setLevels tag body).onLu fun u => { u with params := p }).forebayLimited false = w at hgc hlu hda hans hfacts hgates
  have hrack := racked_facts u
  have hpause := paused_drivePause u
  have hmeans : t.lu.pondMean = u.pondMean ∧ t.lu.forebayMean = u.forebayMean := by rw [hlu]; exact ⟨rfl, rfl⟩
  have hloss : t.lu.rackLoss = u.racked.rackLoss := by rw [hlu]; rfl
  have hhigh : t.lu.rackHigh = u.racked.rackHigh := by rw [hlu]; rfl
  have hdp : t.lu.drivePause = u.paused.drivePause := by rw [hlu]; rfl
  have hgff : t.lu.gFF = w.lu.gFF := by rw [hlu]
  have hlim : t.gc.gFF = w.gc.gFF ∧ t.gc.gLim = w.gc.gLim ∧ t.gc.capacity = w.gc.capacity := by rw [hgc]; exact ⟨rfl, rfl, rfl⟩
  refine ⟨t, he, ha.replied, ?_, ?_, ?_, ?_, ?_, ?_⟩
  · rw [hlu]; rfl
  · rw [hmeans.1, hmeans.2, hloss, hhigh]
    exact hrack
  · intro g
    by_cases h : s.lu.forebay.samples = [] ∨ s.lu.gFF = some g
    · rw [if_pos (by exact h)] at hfacts
      obtain ⟨hf1, hf2, hf3⟩ := hfacts
      rw [if_pos h, hgff, hda]
      refine ⟨hf1, ?_, hf3⟩
      rw [hf2] at hgc
      exact hgc
    · rw [if_neg (by exact h)] at hfacts
      rw [if_neg h, hgff, hda, hlim.1, hlim.2.1, hlim.2.2]
      exact hfacts
  · rw [hmeans.2, hdp]
    exact hpause
  · rw [hgc, hgates]; rfl
  · rw [hans, hlim.1, hlim.2.1, hlim.2.2, hda, hlu]
    show ({ s with gc := w.gc, lu := _, da := _, sl := t.sl } : State).still = _
    rw [hgates]
    rfl

/-- R41: the mean of a filled FOREBAY. -/
theorem forebayMean_of_filled {u : LevelUnit} (h : u.forebay.samples ≠ []) : u.forebayMean =
    (u.params.forebayLow + ((u.params.forebayHigh : Int) - u.params.forebayLow) * u.forebay.samples.sum / 32760).toNat := if_neg h

/-- Settles O24: SET_GOVERNOR and SET_LEVELS as what `still` shows of their effects. -/
theorem governorAndLevelCommands : Obligations.GovernorAndLevelCommands := by
  intro tag body s hr mean limit
  have hlimit : ∀ (p : LevelParams) (gMax : Nat), s.lu.forebay.samples ≠ [] →
      limitOf p ({ s.lu with params := p } : LevelUnit).forebayMean gMax = limit p gMax := fun p gMax h => by
    rw [forebayMean_of_filled (u := { s.lu with params := p }) h]
    rfl
  refine ⟨fun hlen => ?_, fun hlen => ?_⟩
  · intro sent v p old
    obtain ⟨t, he, h1, h2, h3, h4, h5, h6, h7, hcomputed, h8⟩ := governorCommand hr tag hlen
    refine ⟨t, he, h1, h2, h3, h4, h5, h6, h7, fun hg hf => ?_, h8⟩
    have hl : limitOf s.lu.params s.lu.forebayMean p.gMax = limit s.lu.params p.gMax := hlimit s.lu.params p.gMax hf
    rw [← hl]
    exact hcomputed hg hf
  · intro sent v p
    by_cases hord : p.lMin < p.lLow ∧ p.pondLow < p.pondHigh ∧ p.forebayLow < p.forebayHigh
    · rw [if_pos hord]
      obtain ⟨t, he, h1, h2, h3, hgate, h4⟩ := levelsCommand hr tag hlen rfl hord
      refine ⟨t, he, h1, h2, h3, ?_, h4⟩
      intro g
      by_cases hf : s.lu.forebay.samples = []
      · simp only [hf, true_or, if_true] at hgate ⊢
        exact hgate
      · have hg : ({ s.lu with params := p } : LevelUnit).forebayLimit = g := by
          rw [forebayLimit_eq]
          exact hlimit p s.lu.gMaxCopy hf
        rw [← hg]
        exact hgate
    · rw [if_neg hord]
      exact exec_replies rfl hr ((serveSetLevels_cases hlen _).trans (if_neg hord))

/-! ### The level sample -/

/-- R41: a channel that has taken its raw value. -/
def LevelChannel.sampled (c : LevelChannel) (raw : Nat) : LevelChannel :=
  if accepted raw then { fault := false, lastRaw := raw, samples := if c.samples = [] then List.replicate 8 raw else c.samples.tail ++ [raw] }
  else { c with fault := true, lastRaw := raw }

/-- R41, R42: a sample changes its channel; beyond it only a report is posted. -/
theorem sampleChannel_frame (c : Channel) (raw : Nat) (s : State) :
    sampleChannel c raw s = { s.onChannel c fun h => h.sampled raw with sl := (sampleChannel c raw s).sl }
    ∧ ReportsOnly s (sampleChannel c raw s) := by
  have hpost : ∀ (r : Report) (x : State), post r x = { x with sl := (post r x).sl } := fun r x => by
    obtain ⟨l, h⟩ := post_eq r x
    rw [h]
  have hchannel : ∀ (g : LevelChannel → LevelChannel) (x : State), ReportsOnly x (x.onChannel c g) := fun g x => by
    cases c <;> exact .of_sl rfl rfl
  have htwice : ∀ (g g' : LevelChannel → LevelChannel) (l : StationLink),
      ({ s.onChannel c g with sl := l } : State).onChannel c g' = { s.onChannel c fun h => g' (g h) with sl := l } := fun g g' l => by
    cases c <;> rfl
  unfold sampleChannel
  simp only []
  cases haccepted : accepted raw
  · have hsampled : (fun h : LevelChannel => h.sampled raw) = fun h => { h with lastRaw := raw, fault := true } := by
      funext h
      unfold LevelChannel.sampled
      rw [haccepted]
      rfl
    rw [hsampled]
    simp only [Bool.false_eq_true, if_false, Bool.not_false]
    split
    · exact ⟨rfl, hchannel _ s⟩
    · exact ⟨hpost _ _, (hchannel _ s).trans (post_reportsOnly _ _)⟩
  · have hsampled : (fun h : LevelChannel => h.sampled raw) = fun h => ({ h with lastRaw := raw, fault := false } : LevelChannel).enter raw := by
      funext h
      unfold LevelChannel.sampled
      rw [haccepted]
      rfl
    rw [hsampled]
    simp only [if_true, Bool.not_true]
    split
    · refine ⟨?_, ((hchannel _ s).trans (post_reportsOnly _ _)).trans (hchannel _ _)⟩
      unfold postLevel
      rw [hpost, htwice]
    · refine ⟨?_, (hchannel _ s).trans (hchannel _ _)⟩
      cases c <;> rfl

theorem publishCapacity_reportsOnly (s : State) : ReportsOnly s (publishCapacity s) := by
  have hset : ReportsOnly s (s.onDa fun d => { d with capacity := s.gc.capacity }) := .of_sl rfl rfl
  unfold publishCapacity
  simp only []
  split
  · exact hset.trans ((calm_shortfallTest [] _).trans (calm_arbitrate _)).reportsOnly
  · split
    · exact hset.trans (calm_shortfallTest [] _).reportsOnly
    · exact .refl s

theorem computeCapacity_reportsOnly (s : State) : ReportsOnly s (computeCapacity s) :=
  .trans (t := s.onGc fun g => { g with capacity := g.capacityNow }) (.of_sl rfl rfl) (publishCapacity_reportsOnly _)

theorem recomputeLimit_reportsOnly (s : State) : ReportsOnly s (recomputeLimit s) :=
  .trans (t := s.onGc fun g => { g with gLim := g.limitNow s.ss.standing }) (.of_sl rfl rfl) (computeCapacity_reportsOnly _)

theorem publishForebayLimit_reportsOnly (handOver : Bool) (s : State) : ReportsOnly s (publishForebayLimit handOver s) := by
  unfold publishForebayLimit
  simp only []
  split
  · split
    · exact .trans (t := (s.onLu fun u => { u with gFF := some s.lu.forebayLimit }).onGc fun g => { g with gFF := s.lu.forebayLimit })
        (.of_sl rfl rfl) (recomputeLimit_reportsOnly _)
    · exact .refl s
  · exact .refl s

theorem onLu_post_reportsOnly (g : LevelUnit → LevelUnit) (r : Report) (s : State) : ReportsOnly s (post r (s.onLu g)) :=
  .trans (t := s.onLu g) (.of_sl rfl rfl) (post_reportsOnly _ _)

theorem evaluateRack_reportsOnly (s : State) : ReportsOnly s (evaluateRack s) := by
  have hloss : ReportsOnly s (s.onLu fun u => { u with rackLoss := u.rackLossNow }) := .of_sl rfl rfl
  unfold evaluateRack followRack
  simp only []
  split
  · exact .refl s
  · refine hloss.trans ?_
    split
    · split
      · exact .refl _
      · exact (onLu_post_reportsOnly _ _ _).trans (calm_dueTrigger arbitrate_arbitrates feedersOnly_nil _ _).reportsOnly
    · split
      · exact onLu_post_reportsOnly _ _ _
      · exact .refl _

theorem evaluatePause_reportsOnly (s : State) : ReportsOnly s (evaluatePause s) := by
  have hset : ∀ b, ReportsOnly s (setDrivePause b s) := fun b =>
    (onLu_post_reportsOnly _ _ s).trans (calm_arbitrate _).reportsOnly
  unfold evaluatePause
  repeat' split
  all_goals first | exact .refl s | exact hset _

end Sys2Proof.Machine

/-! PROOFS. The level sample period (R41 to R45). -/

namespace Sys2Proof.Machine

/-- A report that has been posted does not count in `still`. -/
theorem still_of_link {s : State} {l : StationLink}
    (h : l = { s.sl with reports := l.reports, tx := l.tx, lostReports := l.lostReports }) : ({ s with sl := l } : State).still = s.still := by
  have e : ∀ k : StationLink, ({ s with sl := k } : State).still = { s.still with sl := { k with reports := [], tx := .idle, lostReports := 0 } } :=
    fun _ => rfl
  have hl : ({ l with reports := [], tx := .idle, lostReports := 0 } : StationLink) = { s.sl with reports := [], tx := .idle, lostReports := 0 } :=
    congrArg (fun k : StationLink => { k with reports := [], tx := .idle, lostReports := 0 }) h
  rw [e, hl]
  rfl

/-- R41: the state after both channels have taken their raw values. -/
def State.sampledBoth (pond forebay : Nat) (s : State) : State :=
  { s with lu := { s.lu with pond := s.lu.pond.sampled pond, forebay := s.lu.forebay.sampled forebay, sampleTimer := some 100 } }

/-- R41, R42: both channels take their raw values, POND first; beyond it only reports are posted. -/
theorem sampleBoth (pond forebay : Nat) (s : State) :
    let u := sampleChannel .forebay forebay (sampleChannel .pond pond (s.onLu fun u => { u with sampleTimer := some Config.samplePeriod }))
    u = { s.sampledBoth pond forebay with sl := u.sl } ∧ ReportsOnly s u := by
  intro u
  obtain ⟨h1, hr1⟩ := sampleChannel_frame .pond pond (s.onLu fun u => { u with sampleTimer := some Config.samplePeriod })
  obtain ⟨h2, hr2⟩ := sampleChannel_frame .forebay forebay (sampleChannel .pond pond (s.onLu fun u => { u with sampleTimer := some Config.samplePeriod }))
  have hstart : ReportsOnly s (s.onLu fun u => { u with sampleTimer := some Config.samplePeriod }) := .of_sl rfl rfl
  have hboth : ∀ x y : State, x = { (s.onLu fun u => { u with sampleTimer := some Config.samplePeriod }).onChannel .pond
        fun h => h.sampled pond with sl := x.sl } →
      y = { x.onChannel .forebay fun h => h.sampled forebay with sl := y.sl } →
      y = { s.sampledBoth pond forebay with sl := y.sl } := by
    intro x y hx hy
    rw [hy, hx]
    rfl
  exact ⟨hboth _ _ h1 h2, (hstart.trans hr1).trans hr2⟩

/-- R42: a raw value outside 1 to 4094 on a channel without a fault posts FAULT_ENTER. -/
theorem sampleChannel_faultEnter {c : Channel} {raw : Nat} {s : State} (hp : s.powered = true) (hraw : accepted raw = false)
    (hfault : (s.channel c).fault = false) : s.reportsSince (sampleChannel c raw s)
      (.level .faultEnter (some c) raw s.lu.pondMean s.lu.forebayMean s.lu.rackLoss) := by
  unfold sampleChannel
  simp only [hraw, hfault, Bool.not_false, Bool.false_eq_true, if_false]
  cases c <;> exact post_reportsSince _ hp

theorem accepted_iff (raw : BitVec 12) : accepted raw.toNat = false ↔ raw = 0 ∨ raw = 4095 := by
  have := raw.isLt
  have h0 : raw = 0 ↔ raw.toNat = 0 := by rw [← BitVec.toNat_inj]; rfl
  have h1 : raw = 4095 ↔ raw.toNat = 4095 := by rw [← BitVec.toNat_inj]; rfl
  rw [h0, h1]
  unfold accepted
  rw [decide_eq_false_iff_not]
  omega

/-- R41 to R45: the sample period as one operation on what `still` shows. -/
theorem still_levelSample (pond forebay : BitVec 12) (s : State) : (levelSample pond forebay s).still =
    (if accepted forebay.toNat then (s.sampledBoth pond.toNat forebay.toNat).forebayLimited false
      else s.sampledBoth pond.toNat forebay.toNat).evaluated.still := by
  obtain ⟨hu, hr⟩ := sampleBoth pond.toNat forebay.toNat s
  unfold levelSample
  simp only []
  generalize sampleChannel .forebay forebay.toNat (sampleChannel .pond pond.toNat
    (s.onLu fun u => { u with sampleTimer := some Config.samplePeriod })) = u at hu hr ⊢
  have hstill : u.still = (s.sampledBoth pond.toNat forebay.toNat).still := by
    rw [hu]
    exact still_of_link (s := s.sampledBoth pond.toNat forebay.toNat) hr.link
  refine still_evaluations ?_
  split
  · rw [still_publishForebayLimit]
    exact still_forebayLimited false hstill
  · exact hstill

theorem levelSample_faultEnter {pond forebay : BitVec 12} {s : State} (hp : s.powered = true) (hraw : pond = 0 ∨ pond = 4095)
    (hfault : s.lu.pond.fault = false) : s.reportsSince (levelSample pond forebay s)
      (.level .faultEnter (some .pond) pond.toNat s.lu.pondMean s.lu.forebayMean s.lu.rackLoss) := by
  have hfirst := sampleChannel_faultEnter (c := .pond) (s := s.onLu fun u => { u with sampleTimer := some Config.samplePeriod }) hp
    ((accepted_iff pond).mpr hraw) hfault
  unfold levelSample
  simp only []
  refine ReportsOnly.reportsSince hfirst (((sampleChannel_frame .forebay forebay.toNat _).2.trans ?_).trans
    ((evaluateRack_reportsOnly _).trans (evaluatePause_reportsOnly _)))
  split
  · exact publishForebayLimit_reportsOnly false _
  · exact .refl _

theorem exec_levelSamplePeriod {s : State} (hp : s.powered = true) (ht : s.lu.sampleTimer.isSome = true) (pond forebay : BitVec 12) :
    exec (.levelSamplePeriod pond forebay) s = .next (levelSample pond forebay s) := by
  show Host.Outcome.next (whenPowered s fun s => whenRunning s.lu.sampleTimer s (levelSample pond forebay)) = _
  rw [whenPowered_on hp]
  unfold whenRunning
  rw [if_pos ht]

/-- Settles O16: the sample period by what `still` shows of it. -/
theorem levelSample_holds : Obligations.LevelSample := by
  intro pond forebay s hp ht taken
  have htaken : ∀ (c : LevelChannel) (raw : BitVec 12), c.sampled raw.toNat = taken c raw := by
    intro c raw
    unfold LevelChannel.sampled
    by_cases h : raw = 0 ∨ raw = 4095
    · simp only [(accepted_iff raw).mpr h, taken]
      rw [if_pos h]
      rfl
    · have hacc : accepted raw.toNat = true := by
        rw [← Bool.not_eq_false, accepted_iff]
        exact h
      simp only [hacc, taken]
      rw [if_neg h]
      rfl
  refine ⟨_, exec_levelSamplePeriod hp ht pond forebay, ?_⟩
  have hstill := still_levelSample pond forebay s
  have hreport := levelSample_faultEnter (pond := pond) (forebay := forebay) (s := s) hp
  generalize levelSample pond forebay s = t at hstill hreport ⊢
  have hy : (s.sampledBoth pond.toNat forebay.toNat).lu = { s.lu with
      pond := taken s.lu.pond pond, forebay := taken s.lu.forebay forebay, sampleTimer := some 100 } := by
    rw [← htaken, ← htaken]
    rfl
  have hkept : (s.sampledBoth pond.toNat forebay.toNat) = { s with lu := (s.sampledBoth pond.toNat forebay.toNat).lu } := rfl
  generalize s.sampledBoth pond.toNat forebay.toNat = y at hstill hy hkept
  generalize hw : (if accepted forebay.toNat then y.forebayLimited false else y) = w at hstill
  have hor : w = y ∨ w = y.published := by
    rw [← hw]
    split
    · exact forebayLimited_false_or y
    · exact .inl rfl
  rw [evaluated_frame hor] at hstill
  have hlu : t.lu = { y.lu with
      rackLoss := y.lu.racked.rackLoss, rackHigh := y.lu.racked.rackHigh, drivePause := y.lu.paused.drivePause, gFF := w.lu.gFF } :=
    lu_of_still hstill
  have hgc : t.gc = { w.gc with integrator := t.gc.integrator, feedForward := t.gc.feedForward } := (gc_of_still hstill :)
  have hda : t.da.capacity = w.da.capacity := (capacity_of_still hstill :)
  have hpond : t.lu.pond = y.lu.pond := by rw [hlu]
  have hforebay : t.lu.forebay = y.lu.forebay := by rw [hlu]
  have hmeans : t.lu.pondMean = y.lu.pondMean ∧ t.lu.forebayMean = y.lu.forebayMean := by rw [hlu]; exact ⟨rfl, rfl⟩
  have hloss : t.lu.rackLoss = y.lu.racked.rackLoss ∧ t.lu.rackHigh = y.lu.racked.rackHigh := by rw [hlu]; exact ⟨rfl, rfl⟩
  have hdp : t.lu.drivePause = y.lu.paused.drivePause := by rw [hlu]
  have hgff : t.lu.gFF = w.lu.gFF := by rw [hlu]
  have hlim : t.gc.gFF = w.gc.gFF ∧ t.gc.gLim = w.gc.gLim ∧ t.gc.capacity = w.gc.capacity := by rw [hgc]; exact ⟨rfl, rfl, rfl⟩
  have hparams : y.lu.params = s.lu.params ∧ y.lu.gFF = s.lu.gFF ∧ y.lu.gMaxCopy = s.lu.gMaxCopy
      ∧ y.lu.drivePause = s.lu.drivePause ∧ y.lu.rackLoss = s.lu.rackLoss ∧ y.lu.rackHigh = s.lu.rackHigh := by
    rw [hy]; exact ⟨rfl, rfl, rfl, rfl, rfl, rfl⟩
  obtain ⟨hp1, hp2, hp3, hp4, hp5, hp6⟩ := hparams
  have hgate : y.gc = s.gc ∧ y.da = s.da ∧ y.ss = s.ss := by rw [hkept]; exact ⟨rfl, rfl, rfl⟩
  have hrefused : forebay = 0 ∨ forebay = 4095 → w = y := fun h => by
    rw [← hw, (accepted_iff forebay).mpr h]
    rfl
  have hfacts : ¬(forebay = 0 ∨ forebay = 4095) → _ := fun h => by
    have hacc : accepted forebay.toNat = true := by
      rw [← Bool.not_eq_false, accepted_iff]
      exact h
    rw [hacc, if_pos rfl] at hw
    have := forebayLimited_false_facts y
    rw [hw] at this
    exact this
  refine ⟨?_, ?_, ?_, fun h0 h1 => ?_, fun h => ?_, fun h => ?_, ?_, hreport⟩
  · rw [hlu, hy]
  · have := racked_facts y.lu
    rw [hpond, hforebay, hmeans.1, hmeans.2, hloss.1, hloss.2, ← hp1, ← hp5, ← hp6]
    exact this
  · rw [hforebay, hmeans.2, hdp, ← hp1, ← hp4]
    exact paused_drivePause y.lu
  · have hraw : ¬(forebay = 0 ∨ forebay = 4095) := fun h => h.elim h0 h1
    have hfilled : y.lu.forebay.samples ≠ [] := by
      rw [hy]
      simp only [taken]
      rw [if_neg hraw]
      split <;> simp
    have hcases := hfacts hraw
    refine ⟨y.lu.forebayLimit, ?_, fun hl => ?_, fun hl hm => ?_, fun hl hm => ?_, fun hne => ?_⟩
    · rw [hgff]
      split at hcases
      · next h => exact hcases.1.trans (h.resolve_left hfilled)
      · exact hcases.1
    · rw [hmeans.2, ← hp1] at hl
      rw [forebayLimit_eq, limitOf, if_pos hl, hp3]
    · rw [hmeans.2, ← hp1] at hl hm
      rw [forebayLimit_eq, limitOf, if_neg (by omega), if_pos hm]
    · rw [hmeans.2, ← hp1] at hl hm ⊢
      rw [forebayLimit_eq, limitOf, if_neg (by omega), if_neg (by omega), hp3]
    · rw [if_neg (fun h => h.elim hfilled fun h => hne (hp2 ▸ h))] at hcases
      obtain ⟨_, hf, hl, hc, hd⟩ := hcases
      rw [hgate.1, hgate.2.2] at hl
      rw [hgate.1] at hc
      rw [hlim.1, hlim.2.1, hlim.2.2, hda]
      exact ⟨hf, hl, hc, hd⟩
  · rw [hgff, hrefused h, hp2]
  · rw [hlim.1, hlim.2.1, hlim.2.2, hda]
    have hsame : w = y := by
      obtain hwy | hwy := hor
      · exact hwy
      · by_cases hraw : forebay = 0 ∨ forebay = 4095
        · exact hrefused hraw
        · have hcases := hfacts hraw
          split at hcases
          · next hcond =>
            rw [← hw, forebayLimited_false, if_pos hcond]
            split <;> rfl
          · next hcond =>
            exact absurd (.inr (hp2.trans (h.symm.trans (hgff.trans hcases.1)))) hcond
    rw [hsame, hgate.1, hgate.2.1]
    exact ⟨rfl, rfl, rfl, rfl⟩
  · have hwgc : w.gc = { s.gc with gFF := t.gc.gFF, gLim := t.gc.gLim, capacity := t.gc.capacity } := by
      rw [hlim.1, hlim.2.1, hlim.2.2, ← hgate.1]
      obtain h | h := hor
      · rw [h]
      · rw [h]; rfl
    rw [hstill, ← hlu, hwgc, hda, hkept]

end Sys2Proof.Machine

/-! PROOFS. The configuration image reads back (R173, R180, R200). -/

namespace Sys2Proof.Machine

/-! ### Fields -/

/-- Every field has one of the three sizes, and its range fits in it. -/
def fieldsFit (fs : List Field) : Bool :=
  fs.all fun f => (decide (f.size = 1) && decide (f.hi < 256)) || (decide (f.size = 2) && decide (f.hi < 65536))
    || (decide (f.size = 4) && decide (f.hi < 4294967296))

theorem u8At_u8 {n : Nat} (h : n < 256) (rest : List Byte) : u8At (u8 n ++ rest) 0 = n := by
  show (BitVec.ofNat 8 n).toNat = n
  rw [BitVec.toNat_ofNat]
  omega

theorem u32At_u32 {n : Nat} (h : n < 4294967296) (rest : List Byte) : u32At (u32 n ++ rest) 0 = n := by
  show (BitVec.ofNat 8 n).toNat + 256 * (BitVec.ofNat 8 (n / 256)).toNat
    + 65536 * ((BitVec.ofNat 8 (n / 65536)).toNat + 256 * (BitVec.ofNat 8 (n / 16777216)).toNat) = n
  simp only [BitVec.toNat_ofNat]
  omega

/-- R196: a value that fits its field reads back. -/
theorem fieldValue_fieldBytes {f : Field} (h : fieldsFit [f] = true) {v : Nat} (hv : v ≤ f.hi) (rest : List Byte) :
    fieldValue f.size (fieldBytes f.size v ++ rest) = v ∧ (fieldBytes f.size v).length = f.size := by
  obtain ⟨size, lo, hi⟩ := f
  simp only [fieldsFit, List.all_cons, List.all_nil, Bool.and_true, Bool.or_eq_true, Bool.and_eq_true, decide_eq_true_eq] at h hv ⊢
  obtain (⟨rfl, hhi⟩ | ⟨rfl, hhi⟩) | ⟨rfl, hhi⟩ := h
  · exact ⟨u8At_u8 (by omega) rest, rfl⟩
  · exact ⟨u16At_u16 (by omega) rest, rfl⟩
  · exact ⟨u32At_u32 (by omega) rest, rfl⟩

theorem fieldsFit_cons {f : Field} {fs : List Field} (h : fieldsFit (f :: fs) = true) : fieldsFit [f] = true ∧ fieldsFit fs = true := by
  unfold fieldsFit at *
  rw [List.all_cons, Bool.and_eq_true] at h
  exact ⟨by rw [List.all_cons, h.1]; rfl, h.2⟩

theorem encodeFields_length {fs : List Field} (hfit : fieldsFit fs = true) {v : List Nat} (h : fieldsInRange fs v = true) :
    (encodeFields fs v).length = fieldsSize fs := by
  induction fs generalizing v with
  | nil => rfl
  | cons f fs ih =>
    cases v with
    | nil => simp [fieldsInRange] at h
    | cons x xs =>
      obtain ⟨⟨_, hx⟩, hxs⟩ := (fieldsInRange_cons f fs x xs).mp h
      obtain ⟨hf, hfs⟩ := fieldsFit_cons hfit
      show (fieldBytes f.size x ++ encodeFields fs xs).length = f.size + fieldsSize fs
      rw [List.length_append, (fieldValue_fieldBytes hf hx []).2, ih hfs hxs]

/-- R180, R200: stored values in range are put in force as they stand. -/
theorem settleFields_encode (choice : Nat) {fs : List Field} (hfit : fieldsFit fs = true) {v : List Nat} (h : fieldsInRange fs v = true)
    (rest : List Byte) : settleFields choice fs (encodeFields fs v ++ rest) = v := by
  induction fs generalizing v with
  | nil =>
    cases v with
    | nil => rfl
    | cons => simp [fieldsInRange] at h
  | cons f fs ih =>
    cases v with
    | nil => simp [fieldsInRange] at h
    | cons x xs =>
      obtain ⟨⟨hlo, hhi⟩, hxs⟩ := (fieldsInRange_cons f fs x xs).mp h
      obtain ⟨hf, hfs⟩ := fieldsFit_cons hfit
      obtain ⟨hvalue, hlen⟩ := fieldValue_fieldBytes hf hhi (encodeFields fs xs ++ rest)
      have hassoc : encodeFields (f :: fs) (x :: xs) ++ rest = fieldBytes f.size x ++ (encodeFields fs xs ++ rest) := List.append_assoc _ _ _
      have hdrop : (encodeFields (f :: fs) (x :: xs) ++ rest).drop f.size = encodeFields fs xs ++ rest := by
        rw [hassoc]
        exact List.drop_left' hlen
      unfold settleFields
      rw [hdrop, ih hfs hxs, hassoc, hvalue]
      unfold settle
      rw [if_pos ⟨hlo, hhi⟩]

theorem afterFields_encode {fs : List Field} (hfit : fieldsFit fs = true) {v : List Nat} (h : fieldsInRange fs v = true)
    (rest : List Byte) : afterFields fs (encodeFields fs v ++ rest) = rest := by
  unfold afterFields
  rw [← encodeFields_length hfit h, List.drop_left]

/-! ### Codes, flags and filter counts -/

theorem settleCode_of_code {α : Type} (choice : Nat) {n : Nat} (hn : n < 256) (rest : List Byte) (m : Nat) {ofCode : Nat → Option α} {x : α}
    (h : ofCode n = some x) (first : α) : settleCode choice (u8 n ++ rest) m ofCode first = x := by
  unfold settleCode
  rw [u8At_u8 hn, h]

theorem settleFlag_flagByte (choice : Nat) (b : Bool) (rest : List Byte) : settleFlag choice (flagByte b ++ rest) = b := by
  cases b <;> rfl

theorem settleFilter_u8 (choice : Nat) {n : Nat} (h : n = 2 ∨ n = 4 ∨ n = 8) (rest : List Byte) : settleFilter choice (u8 n ++ rest) = n := by
  unfold settleFilter
  rw [u8At_u8 (by omega)]
  exact if_pos h

theorem takeWatchSetting_bytes (choice : Nat) {w : WatchSetting} (h : w.filterCount = 2 ∨ w.filterCount = 4 ∨ w.filterCount = 8)
    (rest : List Byte) : takeWatchSetting choice (w.bytes ++ rest) = w := by
  obtain ⟨mode, count, action⟩ := w
  have hmode : WatchMode.ofCode mode.code = some mode ∧ mode.code < 256 := by cases mode <;> decide
  have haction : WatchAction.ofCode action.code = some action ∧ action.code < 256 := by cases action <;> decide
  have hsplit : (WatchSetting.bytes ⟨mode, count, action⟩) ++ rest = u8 mode.code ++ (u8 count ++ (u8 action.code ++ rest)) := rfl
  unfold takeWatchSetting
  rw [hsplit, settleCode_of_code choice hmode.2 _ 5 hmode.1,
    show (u8 mode.code ++ (u8 count ++ (u8 action.code ++ rest))).drop 1 = u8 count ++ (u8 action.code ++ rest) from rfl,
    show (u8 mode.code ++ (u8 count ++ (u8 action.code ++ rest))).drop 2 = u8 action.code ++ rest from rfl,
    settleFilter_u8 choice h, settleCode_of_code choice haction.2 _ 5 haction.1]

/-! ### Profiles -/

theorem driveProfile_ofList_toList (p : DriveProfile) : DriveProfile.ofList p.toList = p := rfl

theorem driveImage_length {p : Option DriveProfile} (h : ∀ q, p = some q → fieldsInRange DriveProfile.fields q.toList = true) :
    (driveImage p).length = 1 + fieldsSize DriveProfile.fields := by
  cases p with
  | none => rfl
  | some q =>
    show (encodeFields DriveProfile.fields q.toList).length + 1 = _
    rw [encodeFields_length (by decide) (h q rfl), Nat.add_comm]

theorem takeDrive_image (choice : Nat) {p : Option DriveProfile} (h : ∀ q, p = some q → fieldsInRange DriveProfile.fields q.toList = true)
    (rest : List Byte) : takeDrive choice (driveImage p ++ rest) = p := by
  unfold takeDrive driveImage
  rw [List.append_assoc, settleFlag_flagByte]
  cases p with
  | none => rfl
  | some q =>
    refine congrArg some ?_
    show DriveProfile.ofList (settleFields choice DriveProfile.fields (encodeFields DriveProfile.fields q.toList ++ rest)) = q
    rw [settleFields_encode choice (by decide) (h q rfl)]
    rfl

theorem feeder_bytes_length {p : FeederProfile} (h : fieldsInRange FeederProfile.fields p.toList = true) :
    p.bytes.length = fieldsSize FeederProfile.fields + 1 := by
  unfold FeederProfile.bytes
  rw [List.length_append, encodeFields_length (by decide) h]
  rfl

theorem takeFeeder_bytes (choice : Nat) {p : FeederProfile} (h : fieldsInRange FeederProfile.fields p.toList = true) (rest : List Byte) :
    takeFeeder choice (p.bytes ++ rest) = p := by
  unfold takeFeeder FeederProfile.bytes
  rw [List.append_assoc, afterFields_encode (by decide) h, settleFields_encode choice (by decide) h, settleFlag_flagByte]
  rfl

/-! ### The whole image -/

/-- Of chunks of one length, laid end to end, what stands behind some of them. -/
theorem drop_chunks {m : Nat} (L : List (List Byte)) (h : ∀ x ∈ L, x.length = m) (rest : List Byte) (k : Nat) (hk : k ≤ L.length) :
    (L.foldr (fun a b => a ++ b) rest).drop (k * m) = (L.drop k).foldr (fun a b => a ++ b) rest := by
  induction L generalizing k with
  | nil =>
    obtain rfl : k = 0 := by simpa using hk
    rw [Nat.zero_mul]
    rfl
  | cons a L ih =>
    cases k with
    | zero => rw [Nat.zero_mul]; rfl
    | succ k =>
      have ha : a.length = m := h a List.mem_cons_self
      show (a ++ L.foldr (fun a b => a ++ b) rest).drop ((k + 1) * m) = _
      rw [show (k + 1) * m = a.length + k * m by rw [ha, Nat.add_mul]; omega, ← List.drop_drop, List.drop_left]
      exact ih (fun x hx => h x (List.mem_cons_of_mem _ hx)) k (by simpa using hk)

theorem vector4_eta {α : Type} (v : Vector α 4) : #v[v[0], v[1], v[2], v[3]] = v := by
  ext i hi
  match i, hi with
  | 0, _ | 1, _ | 2, _ | 3, _ => rfl

theorem vector12_eta {α : Type} (v : Vector α 12) :
    #v[v[0], v[1], v[2], v[3], v[4], v[5], v[6], v[7], v[8], v[9], v[10], v[11]] = v := by
  ext i hi
  match i, hi with
  | 0, _ | 1, _ | 2, _ | 3, _ | 4, _ | 5, _ | 6, _ | 7, _ | 8, _ | 9, _ | 10, _ | 11, _ => rfl

theorem vector4_of {α : Type} {v : Vector α 4} (f : Fin 4 → α) (h : ∀ i : Fin 4, f i = v[i]) : #v[f 0, f 1, f 2, f 3] = v := by
  rw [funext h]
  exact vector4_eta v

theorem vector12_of {α : Type} {v : Vector α 12} (f : Fin 12 → α) (h : ∀ i : Fin 12, f i = v[i]) :
    #v[f 0, f 1, f 2, f 3, f 4, f 5, f 6, f 7, f 8, f 9, f 10, f 11] = v := by
  rw [funext h]
  exact vector12_eta v

theorem configImage_eq {a b : ConfigImage} (gov : a.gov = b.gov) (levels : a.levels = b.levels) (watch : a.watch = b.watch)
    (dispatch : a.dispatch = b.dispatch) (rake : a.rake = b.rake) (shedding : a.shedding = b.shedding)
    (correction : a.correction = b.correction) (drives : a.drives = b.drives) (feeders : a.feeders = b.feeders)
    (source : a.alarmSource = b.alarmSource) (inverted : a.alarmInverted = b.alarmInverted) : a = b := by
  cases a
  cases b
  simp_all

/-- R200: the bytes of the slots' profiles, of the feeders' and of the alarm setting. -/
def ConfigImage.alarmBytes (c : ConfigImage) : List Byte := u8 c.alarmSource.code ++ flagByte c.alarmInverted

def ConfigImage.feederChunks (c : ConfigImage) : List (List Byte) := c.feeders.toList.map FeederProfile.bytes

def ConfigImage.driveChunks (c : ConfigImage) : List (List Byte) := c.drives.toList.map driveImage

/-- R200: the image without its drives, feeders and alarm. -/
theorem bytes_eq (c : ConfigImage) : c.bytes =
    encodeFields GovParams.fields c.gov.toList ++ (encodeFields LevelParams.fields c.levels.toList
    ++ (c.watch[0].bytes ++ (c.watch[1].bytes ++ (c.watch[2].bytes ++ (c.watch[3].bytes
    ++ (encodeFields DispatchParams.fields c.dispatch.toList ++ (encodeFields RakeParams.fields c.rake.toList
    ++ (encodeFields SheddingParams.fields c.shedding.toList
    ++ (encodeFields CorrectionParams.fields c.correction.toList
    ++ c.driveChunks.foldr (fun a b => a ++ b) (c.feederChunks.foldr (fun a b => a ++ b) c.alarmBytes)))))))))) := by
  have hd : c.driveChunks = [driveImage c.drives[0], driveImage c.drives[1], driveImage c.drives[2], driveImage c.drives[3]] := by
    unfold ConfigImage.driveChunks
    rw [← vector4_eta c.drives]
    rfl
  have hf : c.feederChunks = [c.feeders[0].bytes, c.feeders[1].bytes, c.feeders[2].bytes, c.feeders[3].bytes, c.feeders[4].bytes,
      c.feeders[5].bytes, c.feeders[6].bytes, c.feeders[7].bytes, c.feeders[8].bytes, c.feeders[9].bytes, c.feeders[10].bytes,
      c.feeders[11].bytes] := by
    unfold ConfigImage.feederChunks
    rw [← vector12_eta c.feeders]
    rfl
  rw [hd, hf]
  rfl

section
variable {c : ConfigImage} (h : c.InRange)
include h

theorem driveChunks_length : ∀ x ∈ c.driveChunks, x.length = 1 + fieldsSize DriveProfile.fields := by
  intro x hx
  obtain ⟨p, hp, rfl⟩ := List.mem_map.mp hx
  obtain ⟨i, hi, rfl⟩ := List.mem_iff_getElem.mp hp
  exact driveImage_length (h.drives ⟨i, by simpa using hi⟩)

theorem feederChunks_length : ∀ x ∈ c.feederChunks, x.length = fieldsSize FeederProfile.fields + 1 := by
  intro x hx
  obtain ⟨p, hp, rfl⟩ := List.mem_map.mp hx
  obtain ⟨i, hi, rfl⟩ := List.mem_iff_getElem.mp hp
  exact feeder_bytes_length (h.feeders ⟨i, by simpa using hi⟩)

/-- R200: the slot's profile stands at its place among the drives. -/
theorem takeDrive_chunk (choice : Nat) (i : Fin 4) (rest : List Byte) :
    takeDrive choice ((c.driveChunks.foldr (fun a b => a ++ b) rest).drop (i.val * (1 + fieldsSize DriveProfile.fields))) = c.drives[i] := by
  have hlen : c.driveChunks.length = 4 := by simp [ConfigImage.driveChunks]
  have hget : c.driveChunks[i.val]'(by omega) = driveImage c.drives[i] := by simp [ConfigImage.driveChunks]
  rw [drop_chunks _ (driveChunks_length h) rest i.val (by omega), List.drop_eq_getElem_cons (by omega), List.foldr_cons, hget]
  exact takeDrive_image choice (h.drives i) _

theorem takeFeeder_chunk (choice : Nat) (i : Fin 12) (rest : List Byte) :
    takeFeeder choice ((c.feederChunks.foldr (fun a b => a ++ b) rest).drop (i.val * (fieldsSize FeederProfile.fields + 1))) = c.feeders[i] := by
  have hlen : c.feederChunks.length = 12 := by simp [ConfigImage.feederChunks]
  have hget : c.feederChunks[i.val]'(by omega) = c.feeders[i].bytes := by simp [ConfigImage.feederChunks]
  rw [drop_chunks _ (feederChunks_length h) rest i.val (by omega), List.drop_eq_getElem_cons (by omega), List.foldr_cons, hget]
  exact takeFeeder_bytes choice (h.feeders i) _

theorem drop_driveChunks (rest : List Byte) :
    (c.driveChunks.foldr (fun a b => a ++ b) rest).drop (4 * (1 + fieldsSize DriveProfile.fields)) = rest := by
  have hlen : c.driveChunks.length = 4 := by simp [ConfigImage.driveChunks]
  rw [drop_chunks _ (driveChunks_length h) rest 4 (by omega), List.drop_eq_nil_of_le (by omega)]
  rfl

theorem drop_feederChunks (rest : List Byte) :
    (c.feederChunks.foldr (fun a b => a ++ b) rest).drop (12 * (fieldsSize FeederProfile.fields + 1)) = rest := by
  have hlen : c.feederChunks.length = 12 := by simp [ConfigImage.feederChunks]
  rw [drop_chunks _ (feederChunks_length h) rest 12 (by omega), List.drop_eq_nil_of_le (by omega)]
  rfl

end

theorem foldr_append_length {m : Nat} (L : List (List Byte)) (h : ∀ x ∈ L, x.length = m) (rest : List Byte) :
    (L.foldr (fun a b => a ++ b) rest).length = L.length * m + rest.length := by
  induction L with
  | nil => simp
  | cons a L ih =>
    rw [List.foldr_cons, List.length_append, ih (fun x hx => h x (List.mem_cons_of_mem _ hx)), h a List.mem_cons_self, List.length_cons]
    ring

/-- R200: the image fills 311 bytes. -/
theorem image_length {c : ConfigImage} (h : c.InRange) : c.bytes.length = 311 := by
  have hd : c.driveChunks.length = 4 := by simp [ConfigImage.driveChunks]
  have hf : c.feederChunks.length = 12 := by simp [ConfigImage.feederChunks]
  have hw : ∀ w : WatchSetting, w.bytes.length = 3 := fun _ => rfl
  have ha : c.alarmBytes.length = 2 := rfl
  rw [bytes_eq]
  simp only [List.length_append, foldr_append_length _ (driveChunks_length h), foldr_append_length _ (feederChunks_length h), hd, hf, hw, ha,
    encodeFields_length (fs := GovParams.fields) (by decide) h.gov, encodeFields_length (fs := LevelParams.fields) (by decide) h.levels,
    encodeFields_length (fs := DispatchParams.fields) (by decide) h.dispatch, encodeFields_length (fs := RakeParams.fields) (by decide) h.rake,
    encodeFields_length (fs := SheddingParams.fields) (by decide) h.shedding,
    encodeFields_length (fs := CorrectionParams.fields) (by decide) h.correction]
  decide

/-- R180, R200: every part of the image reads back. -/
theorem decodeImage_bytes (choice : Nat) {c : ConfigImage} (h : c.InRange) : decodeImage choice c.bytes = c := by
  have hsource : AlarmSource.ofCode c.alarmSource.code = some c.alarmSource ∧ c.alarmSource.code < 256 := by
    cases c.alarmSource <;> decide
  have hwatch : ∀ (w0 w1 w2 w3 : WatchSetting) (rest : List Byte),
      (w0.bytes ++ (w1.bytes ++ (w2.bytes ++ (w3.bytes ++ rest)))).drop 3 = w1.bytes ++ (w2.bytes ++ (w3.bytes ++ rest))
      ∧ (w0.bytes ++ (w1.bytes ++ (w2.bytes ++ (w3.bytes ++ rest)))).drop 6 = w2.bytes ++ (w3.bytes ++ rest)
      ∧ (w0.bytes ++ (w1.bytes ++ (w2.bytes ++ (w3.bytes ++ rest)))).drop 9 = w3.bytes ++ rest
      ∧ (w0.bytes ++ (w1.bytes ++ (w2.bytes ++ (w3.bytes ++ rest)))).drop 12 = rest := fun _ _ _ _ _ => ⟨rfl, rfl, rfl, rfl⟩
  have halarm : c.alarmBytes = u8 c.alarmSource.code ++ (flagByte c.alarmInverted ++ []) := rfl
  have halarm1 : (u8 c.alarmSource.code ++ (flagByte c.alarmInverted ++ [])).drop 1 = flagByte c.alarmInverted ++ [] := rfl
  have hd : ∀ (i : Fin 4) (rest : List Byte), _ := fun i rest => takeDrive_chunk h choice i rest
  have hf : ∀ (i : Fin 12) (rest : List Byte), _ := fun i rest => takeFeeder_chunk h choice i rest
  have hw : ∀ (i : Fin 4) (rest : List Byte), _ := fun i rest => takeWatchSetting_bytes choice (h.watch i) rest
  unfold decodeImage
  rw [bytes_eq]
  simp only [afterFields_encode (fs := GovParams.fields) (by decide) h.gov, afterFields_encode (fs := LevelParams.fields) (by decide) h.levels,
    afterFields_encode (fs := DispatchParams.fields) (by decide) h.dispatch, afterFields_encode (fs := RakeParams.fields) (by decide) h.rake,
    afterFields_encode (fs := SheddingParams.fields) (by decide) h.shedding,
    afterFields_encode (fs := CorrectionParams.fields) (by decide) h.correction, hwatch, drop_driveChunks h, drop_feederChunks h,
    settleFields_encode choice (fs := GovParams.fields) (by decide) h.gov, settleFields_encode choice (fs := LevelParams.fields) (by decide) h.levels,
    settleFields_encode choice (fs := DispatchParams.fields) (by decide) h.dispatch,
    settleFields_encode choice (fs := RakeParams.fields) (by decide) h.rake,
    settleFields_encode choice (fs := SheddingParams.fields) (by decide) h.shedding,
    settleFields_encode choice (fs := CorrectionParams.fields) (by decide) h.correction]
  rw [halarm, halarm1, settleCode_of_code choice hsource.2 _ 5 hsource.1, settleFlag_flagByte]
  refine configImage_eq rfl rfl ?_ rfl rfl rfl rfl ?_ ?_ rfl rfl
  · show #v[takeWatchSetting choice (c.watch[(0 : Fin 4)].bytes ++ _), takeWatchSetting choice (c.watch[(1 : Fin 4)].bytes ++ _),
      takeWatchSetting choice (c.watch[(2 : Fin 4)].bytes ++ _), takeWatchSetting choice (c.watch[(3 : Fin 4)].bytes ++ _)] = c.watch
    rw [hw, hw, hw, hw]
    exact vector4_eta c.watch
  · exact vector4_of _ fun i => hd i _
  · exact vector12_of _ fun i => hf i _

/-- Settles O60: each part of the image reads back from its bytes, whatever follows. -/
theorem configImageRoundTrip : Obligations.ConfigImageRoundTrip := fun choice _ h => ⟨decodeImage_bytes choice h, image_length h⟩

end Sys2Proof.Machine

/-! PROOFS. The commands of the Station Sequencer: START, READ_TRIP, CLEAR_TRIP, SET_ALARM and the standing mode (chapter 2). -/

namespace Sys2Proof.Machine

/-! ### A command that posts a report and replies -/

/-- R190: whether a command is in service does not matter to a report. -/
theorem post_serving (r : Report) (s : State) (k : CommandKind) (tag : Byte) (body : List Byte) :
    post r (s.serving k tag body) = (post r s).serving k tag body := by
  have harb : ∀ x : State, transmitArbitrate (x.serving k tag body) = (transmitArbitrate x).serving k tag body := by
    intro x
    cases x with
    | mk _ _ _ _ _ _ _ _ _ _ _ _ sl _ _ _ =>
      cases sl with
      | mk _ _ _ _ _ slot reports tx _ _ _ _ =>
        cases tx <;> cases slot <;> cases reports <;> rfl
  unfold post
  by_cases hp : s.powered
  · rw [if_pos (show (s.serving k tag body).powered = true from hp), if_pos hp]
    by_cases hroom : s.sl.reports.length < 16
    · rw [if_pos (show (s.serving k tag body).sl.reports.length < 16 from hroom), if_pos hroom]
      exact harb (s.onSl fun l => { l with reports := l.reports ++ [r] })
    · rw [if_neg (show ¬(s.serving k tag body).sl.reports.length < 16 from hroom), if_neg hroom]
      rfl
  · rw [if_neg (show ¬(s.serving k tag body).powered = true from hp), if_neg hp]

theorem post_link (r : Report) (s : State) : (post r s).sl.inService = s.sl.inService ∧ (post r s).sl.replySlot = s.sl.replySlot
    ∧ (post r s).sl.inputQueue = s.sl.inputQueue := by
  have h := (post_reportsOnly r s).link
  exact ⟨by rw [h], by rw [h], by rw [h]⟩

/-- R187, R190: a command that acts outside the link, posts one report, and replies. -/
theorem exec_posts {c : Instr} {k : CommandKind} {tag : Byte} {body : List Byte} (hc : c.frame? = some (k, tag, body)) {s v : State}
    (hr : s.LinkReady) {r : Result} {content : List Byte} {rep : Report}
    (hserve : serveCommand k body (s.serving k tag body) = reply r content (post rep (v.serving k tag body))) (hv : v.sl = s.sl := by rfl) :
    exec c s = .next ((post rep v).replyTo k tag r content) := by
  obtain ⟨hfree, hslot, _⟩ := post_link rep v
  rw [exec_command hc hr, hserve, post_serving, reply_serving (s := post rep v) (by rw [hfree, hv]; exact hr.free)
    (by rw [hslot, hv]; exact hr.slot) rfl, State.serving_link]

/-! ### Station states (R23) -/

/-- R23: where TRIPPED is neither left nor entered, a change of the station state sets the state and posts its report. -/
theorem setStation_plain {new : StationState} {s : State} (cause : StationCause) (hold : s.ss.station ≠ .tripped) (hnew : new ≠ .tripped) :
    setStation new cause s = post (.station new s.ss.station s.ss.standing cause) (s.onSs fun q => { q with station := new }) := by
  unfold setStation
  simp only []
  rw [if_neg (by simp [hold, hnew])]
  rfl

/-- R23, R38: what a change of the station state that TRIPPED is part of does to the relay. -/
theorem setStation_ss (new : StationState) (cause : StationCause) (s : State) : (setStation new cause s).ss = { s.ss with
    station := new
    alarmRelay := if (s.ss.station = .tripped ∨ new = .tripped) ∧ s.ss.alarmSource = .trip then xor (decide (new = .tripped)) s.ss.alarmInverted
      else s.ss.alarmRelay } := by
  unfold setStation
  simp only [post_ss]
  by_cases h : s.ss.station = .tripped ∨ new = .tripped
  · rw [if_pos h]
    unfold alarmChanged
    by_cases ha : s.ss.alarmSource = .trip
    · rw [if_pos (show (s.onSs fun q => { q with station := new }).ss.alarmSource = .trip from ha), if_pos ⟨h, ha⟩]
      simp only [setAlarmRelay, State.onSs, State.alarmCondition, ha]
    · rw [if_neg (show ¬(s.onSs fun q => { q with station := new }).ss.alarmSource = .trip from ha), if_neg fun hk => ha hk.2]
      rfl
  · rw [if_neg h, if_neg fun hk => h hk.1]
    rfl

/-- R23: the STATION report is in sight after the change. -/
theorem setStation_reportsSince (new : StationState) (cause : StationCause) {s : State} (hp : s.powered = true) :
    s.reportsSince (setStation new cause s) (.station new s.ss.station s.ss.standing cause) := by
  unfold setStation
  simp only []
  split
  · have hstanding : (alarmChanged .trip (s.onSs fun q => { q with station := new })).ss.standing = s.ss.standing := by
      obtain ⟨x, hx⟩ := alarmChanged_frame .trip (s.onSs fun q => { q with station := new })
      rw [hx]
      rfl
    rw [hstanding]
    exact reportsSince_of_post (t := alarmChanged .trip (s.onSs fun q => { q with station := new })) (by simpa using hp)
      (.of_sl (by simp) (by simp)) (.refl _)
  · exact reportsSince_of_post (t := s.onSs fun q => { q with station := new }) hp (.of_sl rfl rfl) (.refl _)

/-! ### Reports stay in sight through the account store's work -/

/-- What was in sight at `s` is in sight at `t`. -/
def ReportsKept (s t : State) : Prop := ∀ (o : State) (r : Report), o.reportsSince s r → o.reportsSince t r

theorem ReportsKept.trans {s t u : State} (h : ReportsKept s t) (k : ReportsKept t u) : ReportsKept s u := fun o r hr => k o r (h o r hr)

theorem ReportsKept.refl (s : State) : ReportsKept s s := fun _ _ h => h

theorem ReportsOnly.kept_sight {s t : State} (h : ReportsOnly s t) : ReportsKept s t := fun _ _ hr => h.reportsSince hr

theorem reportsKept_of_carries {s t : State} (h : ∀ r, s.carries r → t.carries r) (hlost : t.sl.lostReports = s.sl.lostReports) :
    ReportsKept s t := by
  rintro o r (hr | hr | hr | hr)
  · exact (h r (.inl hr)).imp_right .inl
  · exact (h r (.inr hr)).imp_right .inl
  · exact .inr (.inr (.inl (hlost ▸ hr)))
  · exact .inr (.inr (.inr (hlost ▸ hr)))

theorem transmitArbitrate_reportsKept (s : State) : ReportsKept s (transmitArbitrate s) := by
  refine reportsKept_of_carries (transmitArbitrate_carries s) ?_
  obtain ⟨tx, rs, h, _⟩ := transmitArbitrate_frame s
  rw [h]

theorem reply_reportsKept (r : Result) (content : List Byte) (s : State) : ReportsKept s (reply r content s) := by
  unfold reply answer
  split
  · next fr _ =>
    have hslot : ReportsKept s (s.onSl fun l => { l with replySlot := some (replyFrame fr (r.code :: content)), inService := none }) :=
      reportsKept_of_carries (fun _ h => h) rfl
    exact hslot.trans (transmitArbitrate_reportsKept _)
  · exact .refl s

theorem onStore_reportsKept (g : AccountStore → AccountStore) (s : State) : ReportsKept s (s.onStore g) :=
  reportsKept_of_carries (fun _ h => h) rfl

theorem pageRead_reportsKept (p : Fin 224) (s : State) : ReportsKept s (pageRead p s) := by
  refine (onStore_reportsKept (fun a => { a with readRequest := none }) s).trans ?_
  unfold pageRead
  simp only []
  generalize s.onStore (fun a => { a with readRequest := none }) = x
  split
  · split
    · exact onStore_reportsKept _ _
    · exact (onStore_reportsKept _ _).trans (reply_reportsKept _ _ _)
  · exact .refl x

theorem serveReads_reportsKept (n : Nat) (s : State) : ReportsKept s (serveReads n s) := by
  induction n generalizing s with
  | zero => exact .refl s
  | succ n ih =>
    unfold serveReads
    split
    · exact (pageRead_reportsKept _ s).trans (ih _)
    · exact .refl s

theorem kick_reportsKept (s : State) : ReportsKept s (kick s) := by
  unfold kick
  split
  · exact (serveReads_reportsKept 2 s).trans (onStore_reportsKept _ _)
  · split
    · exact onStore_reportsKept _ _
    · exact .refl s
  all_goals exact .refl s

theorem checkpointTrigger_reportsKept (t : Trigger) (s : State) : ReportsKept s (checkpointTrigger t s) := by
  unfold checkpointTrigger postSkipped takeCheckpoint
  repeat' split
  case isFalse => exact (onStore_reportsKept _ s).trans (kick_reportsKept _)
  all_goals exact (post_reportsOnly _ s).kept_sight

/-- R30, R35: the entry to STOPPED in full. -/
theorem enterStopped_eq (cause : StationCause) {s : State} (hp : s.powered = true) :
    let q : Sequencer := { s.ss with runDownTimer := none, runDownMark := false }
    let t := enterStopped cause s
    t.ss = { q with station := .stopped, alarmRelay := (setStation .stopped cause (s.onSs fun _ => q)).ss.alarmRelay }
    ∧ t = { s with ss := t.ss, store := t.store, sl := t.sl }
    ∧ s.reportsSince t (.station .stopped s.ss.station s.ss.standing cause) := by
  intro q t
  obtain ⟨relay, l, hset⟩ := setStation_frame .stopped cause (s.onSs fun _ => q)
  have htrigger : t = { setStation .stopped cause (s.onSs fun _ => q) with store := t.store, sl := t.sl } :=
    onlyLinkAndStore_checkpointTrigger .stop (setStation .stopped cause (s.onSs fun _ => q))
  have hss : t.ss = (setStation .stopped cause (s.onSs fun _ => q)).ss := by rw [htrigger]
  refine ⟨?_, ?_, ?_⟩
  · rw [hss, hset]
    rfl
  · conv_lhs => rw [htrigger]
    rw [hss, hset]
    rfl
  · exact checkpointTrigger_reportsKept .stop (setStation .stopped cause (s.onSs fun _ => q)) s _
      ((setStation_reportsSince .stopped cause (s := s.onSs fun _ => q) hp))

/-! ### START, READ_TRIP, CLEAR_TRIP and SET_ALARM -/

theorem captureHeld_iff (s : State) : s.captureHeld = true ↔
    ∃ (r : TripRecord) (i : Fin 4), s.ss.capture = some r ∧ r.cause = .watch i ∧ (s.input i).latched = true := by
  unfold State.captureHeld
  cases s.ss.capture with
  | none => simp
  | some r => cases hc : r.cause <;> simp [hc]

/-- R196: a flag byte. -/
theorem flagAt_eq (body : List Byte) (i : Nat) : flagAt body i =
    if body.getD i 0 = 0 then some false else if body.getD i 0 = 1 then some true else none := by
  have hall : ∀ b : Byte, (match b.toNat with
      | 0 => some false
      | 1 => some true
      | _ => none) = if b = 0 then some false else if b = 1 then some true else none := by decide
  exact hall (body.getD i 0)

theorem flagAt_flag {body : List Byte} {i : Nat} (h : body.getD i 0 = 0 ∨ body.getD i 0 = 1) :
    flagAt body i = some (decide (body.getD i 0 = 1)) := by
  rw [flagAt_eq]
  obtain h | h := h <;> rw [h] <;> rfl

theorem flagAt_outside {body : List Byte} {i : Nat} (h : 1 < (body.getD i 0).toNat) : flagAt body i = none := by
  rw [flagAt_eq, if_neg (by intro h0; rw [h0] at h; simp at h), if_neg (by intro h1; rw [h1] at h; simp at h)]

theorem alarmSource_ofCode_code (a : AlarmSource) : AlarmSource.ofCode a.code = some a := by cases a <;> rfl

theorem alarmSource_ofCode_none {n : Nat} (h : 4 < n) : AlarmSource.ofCode n = none := by
  unfold AlarmSource.ofCode
  split <;> first | omega | rfl

/-- Settles O11: each command's test, its change, and its reply. -/
theorem startTripAndAlarmCommands : Obligations.StartTripAndAlarmCommands := by
  intro tag s hr
  have hstart : ∀ x, serveCommand .start [] x = if x.ss.station = .stopped then
      reply .ok [] (setStation .starting .start (x.onSs fun q => { q with startTimer := some Config.startTime })) else reply .state [] x :=
    fun _ => rfl
  have hclear : ∀ x, serveCommand .clearTrip [] x = if x.ss.station = .tripped ∧ x.captureHeld = false then
      reply .ok [] (enterStopped .clear (x.onSs fun q => { q with capture := none })) else reply .state [] x := fun _ => rfl
  have halarm : ∀ (a b : Byte) (x : State), serveCommand .setAlarm [a, b] x = match AlarmSource.ofCode a.toNat, flagAt [a, b] 1 with
      | some source, some inverted => reply .ok [] (takeAlarm source inverted x)
      | _, _ => reply .badArg [] x := fun _ _ _ => rfl
  refine ⟨fun hst => ?_, fun hst => ?_, ?_, fun hst => ?_, fun r i hc hi hl => ?_, fun hst hheld => ?_, fun a b => ⟨fun source ha hb => ?_, fun h => ?_⟩⟩
  · refine exec_posts rfl hr (v := { s with ss := { s.ss with station := .starting, startTimer := some 60000 } }) (rep := .station .starting .stopped s.ss.standing .start) ?_
    have hplain := setStation_plain (new := .starting)
      (s := (s.serving .start tag []).onSs fun q => { q with startTimer := some Config.startTime }) .start
      (by show s.ss.station ≠ .tripped; rw [hst]; decide) (by decide)
    rw [hstart, if_pos (by exact hst), hplain]
    show reply .ok [] (post (.station .starting s.ss.station s.ss.standing .start) _) = _
    rw [hst]
    rfl
  · exact exec_replies rfl hr ((hstart _).trans (if_neg (by exact hst)))
  · refine exec_replies rfl hr (content := match s.ss.capture with
      | none => [0]
      | some r => 1 :: (u8 r.cause.code ++ u8 r.cause.inputByte ++ u32 r.time ++ u32 r.freq ++ u16 r.gateOut
        ++ u32 r.bookings ++ u8 r.entries ++ [if r.overflow then 1 else 0])) ?_
    show serveReadTrip [] _ = _
    unfold serveReadTrip
    rw [withLength_nil]
    show (match s.ss.capture with
      | some r => reply .ok (flagByte true ++ r.bytes) (s.serving .readTrip tag [])
      | none => reply .ok (flagByte false) (s.serving .readTrip tag [])) = _
    cases s.ss.capture with
    | none => rfl
    | some r =>
      unfold TripRecord.bytes
      simp only [flagByte_eq]
      rfl
  · exact exec_replies rfl hr ((hclear _).trans (if_neg fun h => hst h.1))
  · have hheld : s.captureHeld = true := (captureHeld_iff s).mpr ⟨r, i, hc, hi, hl⟩
    refine exec_replies rfl hr ((hclear _).trans (if_neg fun h => ?_))
    exact absurd (h.2.symm.trans (show (s.serving .clearTrip tag []).captureHeld = true from hheld)) (by decide)
  · have hfree : s.captureHeld = false := by
      rw [← Bool.not_eq_true, captureHeld_iff]
      rintro ⟨r, i, hc, hi, hl⟩
      exact absurd (hheld r i hc hi) (by simp [hl])
    obtain ⟨t, he, ha⟩ := exec_answers (c := .clearTrip tag []) (u := enterStopped .clear ((s.serving .clearTrip tag []).onSs fun q => { q with capture := none })) rfl hr
      (changes_enterStopped_clear (by exact hst)) ((hclear _).trans (if_pos ⟨hst, hfree⟩))
    obtain ⟨hss, hframe, hrep⟩ := enterStopped_eq .clear (s := (s.serving .clearTrip tag []).onSs fun q => { q with capture := none }) hr.powered
    have hst' : t.ss = _ := (ha.proj State.ss).trans hss
    refine ⟨t, he, ha.replied, ?_, ?_, ha.reports _ ?_⟩
    · rw [hst', setStation_ss]
      simp [State.onSs, State.serving, hst]
    · have hstore : t.store = _ := ha.proj State.store
      conv_lhs => rw [ha.same, hframe]
      rw [hstore, ha.proj State.ss]
      rfl
    · rw [← hst]
      exact hrep
  · refine exec_replies rfl hr (v := { s with ss := { s.ss with
        alarmSource := source, alarmInverted := decide (b = 1), alarmRelay := xor (s.alarmCondition source) (decide (b = 1)) } }) ?_
    rw [halarm, ha, alarmSource_ofCode_code, flagAt_flag (by exact hb)]
    cases source <;> rfl
  · refine exec_replies rfl hr ?_
    rw [halarm]
    obtain h | h := h
    · rw [alarmSource_ofCode_none h]
    · rw [flagAt_outside (i := 1) (by exact h)]
      cases AlarmSource.ofCode a.toNat <;> rfl

end Sys2Proof.Machine

/-! PROOFS. A grant in full (R16, R57, R66, R67, R87, R109, R120): what it does to the two collections and to the owner's block. -/

namespace Sys2Proof.Machine

@[simp] theorem State.onDa_slot (s : State) (g : Arbiter → Arbiter) (i : Fin 4) : (s.onDa g).slot i = s.slot i := rfl
@[simp] theorem State.onDa_feeder (s : State) (g : Arbiter → Arbiter) (i : Fin 12) : (s.onDa g).feeder i = s.feeder i := rfl

/-- R87, R88: a slot at its grant. -/
def Slot.granted (d : Slot) : Slot :=
  { d with
    state := if d.profile.lead = 0 then .clutching else .lead
    remaining := 0, strokes := 0, releaseFlag := false, rakeHalt := false
    cycleTimer := if d.profile.cycle = 0 then d.cycleTimer else some (d.profile.cycle * 1000)
    leadTimer := if d.profile.lead = 0 then none else some d.profile.lead
    spinUpTimer := if d.profile.lead = 0 then some d.profile.spinUp else d.spinUpTimer }

/-- R58: the clutch-in notice, on the table. -/
def clutchedIn (i : Fin 4) (l : List TableEntry) : List TableEntry :=
  l.map fun e => if e.owner = .drive i then { e with phase := .active } else e

theorem slotGranted_eq (i : Fin 4) (s : State) : slotGranted i s = { s with
    ds := { s.ds with slots := s.ds.slots.set i (s.slot i).granted }
    da := { s.da with table := if (s.slot i).profile.lead = 0 then clutchedIn i s.da.table else s.da.table } } := by
  have htwice : ∀ g h : Slot → Slot, (s.onSlot i g).onSlot i h =
      { s with ds := { s.ds with slots := s.ds.slots.set i (h (g (s.slot i))) } } := by
    intro g h
    simp [State.onSlot, State.onDs, State.slot]
  unfold slotGranted Slot.granted
  simp only []
  by_cases h : (s.slot i).profile.lead = 0
  · rw [if_pos (by simpa using h)]
    unfold clutchIn clutchInNotice
    rw [htwice]
    simp only [if_pos h]
    rfl
  · rw [if_neg (by simpa using h), htwice]
    simp only [if_neg h]

/-- R56, R66: the table entry of a grant. -/
def grantedEntry (e : QueueEntry) (s : State) : TableEntry :=
  { owner := e.owner, booking := e.booking, grantTime := s.cu.e, phase := grantPhase e.owner }

/-- R56, R58, R66: the table after a grant. -/
def grantedTable (e : QueueEntry) (s : State) : List TableEntry :=
  match e.owner with
  | .drive i => if (s.slot i).profile.lead = 0 then clutchedIn i (s.da.table ++ [grantedEntry e s]) else s.da.table ++ [grantedEntry e s]
  | .feeder _ | .rake => s.da.table ++ [grantedEntry e s]

/-- R16: the Gate Controller after a grant. -/
def grantedGate (e : QueueEntry) (g : GateController) : GateController :=
  match e.owner with
  | .drive i => { g with
      integrator := g.clampIntegrator (g.integrator + g.feedForwardOf e.booking)
      feedForward := g.feedForward ++ [(i, g.feedForwardOf e.booking)] }
  | .feeder _ | .rake => g

/-- What a grant leaves. -/
structure Granted (e : QueueEntry) (s t : State) : Prop where
  queue : t.da.queue = s.da.queue.filter fun x => decide (x.owner ≠ e.owner)
  table : t.da.table = grantedTable e s
  spacing : t.da.spacingTimer = if s.da.params.spacing = 0 then none else some (s.da.params.spacing * 1000)
  gate : t.gc = grantedGate e s.gc
  slots : ∀ j, t.slot j = if e.owner = .drive j then (s.slot j).granted else s.slot j
  feeders : ∀ j, t.feeder j = if e.owner = .feeder j then (s.feeder j).enter .on else s.feeder j
  rake : t.rk = if e.owner = .rake then
    { s.rk with state := .running, entryHeld := false, runTimer := some (s.rk.params.runTime * 1000) } else s.rk
  permit : t.fu.permit = true → s.fu.permit = true
  stages : t.fu.stages = s.fu.stages
  accounts : t.mu = s.mu

/-- R116, R133: a change of a feeder's state never sets the restore permit. -/
theorem shedChanged_permit (had : Bool) (s : State) : (shedChanged had s).fu.permit = true → s.fu.permit = true := by
  have hhand : ∀ (b : Bool) (x : State), (handShed b (alarmChanged .shed x)).fu = x.fu := by
    intro b x
    unfold handShed
    rw [evaluateCorrection_fu]
    simp
  unfold shedChanged
  split
  · exact id
  · simp only []
    rw [hhand]
    split
    · exact id
    · simp

theorem setFeederState_permit {i : Fin 12} {new : FeederState} {s : State} (h : (setFeederState i new s).fu.permit = true) :
    s.fu.permit = true := shedChanged_permit _ (s.onFeeder i fun d => d.enter new) h

theorem setFeederState_stages (i : Fin 12) (new : FeederState) (s : State) : (setFeederState i new s).fu.stages = s.fu.stages := by
  obtain ⟨_, _, _, _, _, _, h⟩ := setFeederState_frame i new s
  rw [h]
  rfl

theorem grantEntry_eq (e : QueueEntry) (s : State) : ∃ timer : Timer, grantEntry e s = { s with
    gc := grantedGate e s.gc
    da := { s.da with
      queue := s.da.queue.filter fun x => decide (x.owner ≠ e.owner)
      sequence := if s.da.queue.filter (fun x => decide (x.owner ≠ e.owner)) = [] then 0 else s.da.sequence
      table := s.da.table ++ [grantedEntry e s], shortfallTimer := timer } } := by
  obtain ⟨timer, h⟩ := shortfallTest_frame (moveToTable e s)
  refine ⟨timer, ?_⟩
  unfold grantEntry grantFeedForward grantedGate
  rw [h]
  cases ho : e.owner <;> simp only [moveToTable, setQueue, feedForwardAdd, State.onDa, State.onGc, grantedEntry, ho]

theorem grant_granted (e : QueueEntry) (s : State) : Granted e s (grant e s) := by
  obtain ⟨timer, hentry⟩ := grantEntry_eq e s
  have hslot : ∀ j, (grantEntry e s).slot j = s.slot j := fun j => by rw [hentry]; rfl
  rw [grant_eq]
  unfold startSpacing postGrant
  cases ho : e.owner with
  | drive i =>
    rw [ownerGranted, slotGranted_eq, hslot, hentry]
    refine ⟨by simp [ho], ?_, by simp, by simp [ho], fun j => ?_, fun j => by simp [State.feeder, ho], by simp [ho], by simp, by simp, by simp⟩
    · simp [grantedTable, ho]
    · by_cases hij : i = j
      · subst hij
        simp [State.slot, ho]
      · have hne : ¬(i : Nat) = j := fun hk => hij (Fin.ext hk)
        simp [State.slot, ho, hij, hne]
  | feeder i =>
    have hf : ∀ j, (grantEntry e s).feeder j = s.feeder j := fun j => by rw [hentry]; rfl
    refine ⟨?_, ?_, ?_, ?_, fun j => ?_, fun j => ?_, ?_, fun hp => ?_, ?_, ?_⟩
    · simp [ownerGranted, feederGranted, hentry, ho]
    · simp [ownerGranted, feederGranted, hentry, grantedTable, ho]
    · simp [ownerGranted, feederGranted, hentry]
    · simp [ownerGranted, feederGranted, hentry]
    · simp [ownerGranted, feederGranted, hslot, ho]
    · by_cases hij : i = j
      · subst hij
        simp [ownerGranted, feederGranted, hf, ho]
      · simp [ownerGranted, feederGranted, hf, ho, hij]
    · simp [ownerGranted, feederGranted, hentry, ho]
    · have := setFeederState_permit (i := i) (new := .on) (s := grantEntry e s) (by simpa [ownerGranted, feederGranted] using hp)
      simpa [hentry] using this
    · simpa [ownerGranted, feederGranted, hentry] using setFeederState_stages i .on (grantEntry e s)
    · simp [ownerGranted, feederGranted, hentry]
  | rake =>
    rw [ownerGranted, hentry]
    exact ⟨by simp [rakeGranted, ho], by simp [rakeGranted, grantedTable, ho], by simp [rakeGranted], by simp [rakeGranted],
      fun j => by simp [rakeGranted, State.slot, ho], fun j => by simp [rakeGranted, State.feeder, ho], by simp [rakeGranted, ho],
      by simp [rakeGranted], by simp [rakeGranted], by simp [rakeGranted]⟩

theorem clutchedIn_owners (i : Fin 4) (l : List TableEntry) : (clutchedIn i l).map TableEntry.owner = l.map TableEntry.owner := by
  unfold clutchedIn
  rw [List.map_map]
  refine List.map_congr_left fun e _ => ?_
  simp only [Function.comp]
  split <;> rfl

theorem clutchedIn_bookings (i : Fin 4) (l : List TableEntry) : (clutchedIn i l).map TableEntry.booking = l.map TableEntry.booking := by
  unfold clutchedIn
  rw [List.map_map]
  refine List.map_congr_left fun e _ => ?_
  simp only [Function.comp]
  split <;> rfl

theorem grantedTable_owners (e : QueueEntry) (s : State) : (grantedTable e s).map TableEntry.owner = s.tableOwners ++ [e.owner] := by
  unfold grantedTable State.tableOwners
  cases ho : e.owner with
  | drive i =>
    simp only []
    split
    · rw [clutchedIn_owners]
      simp [grantedEntry, ho]
    · simp [grantedEntry, ho]
  | feeder i => simp [grantedEntry, ho]
  | rake => simp [grantedEntry, ho]

theorem grantedTable_bookings (e : QueueEntry) (s : State) : ((grantedTable e s).map TableEntry.booking).sum = s.bookingSum + e.booking := by
  unfold grantedTable State.bookingSum
  cases ho : e.owner with
  | drive i =>
    simp only []
    split
    · rw [clutchedIn_bookings]
      simp [grantedEntry]
    · simp [grantedEntry]
  | feeder i => simp [grantedEntry]
  | rake => simp [grantedEntry]

end Sys2Proof.Machine

/-! PROOFS. What an arbitration, with all that follows from it, leaves as it was (R61 to R66, R101, R107, R108, R132): whom it can reach
beyond the owners that wait. -/

namespace Sys2Proof.Machine

/-- R107, R108: the rake is DUE with its grace spent, so that its next request forces it. -/
def State.spent (s : State) : Prop := s.rk.state = .due ∧ s.rk.graceSpent = true

/-- R132: a feeder in SHED while the restore permit is set. -/
def State.offered (s : State) (i : Fin 12) : Prop := (s.feeder i).state = .shed ∧ s.fu.permit = true

/-- The owners that a space notice may bring into the queue. -/
def State.mayAsk (s : State) : Owner → Prop
  | .drive _ => False
  | .feeder i => s.offered i
  | .rake => s.rk.state.asks = true

/-- What stays while the spacing timer keeps grants back; `force` says whether the rake may force the slots. -/
structure Held (force : Prop) (s t : State) : Prop where
  timer : t.da.spacingTimer = s.da.spacingTimer
  feeders : ∀ i, ¬s.offered i → t.feeder i = s.feeder i
  slots : ∀ i, (s.slot i).state.engaged = false ∨ ¬force → t.slot i = s.slot i
  table : ¬force → t.da.table = s.da.table
  shortfall : ¬force → t.da.shortfallTimer = s.da.shortfallTimer
  gate : ¬force → t.gc = s.gc

/-- What an arbitration and what follows from it leave: an owner that does not wait, and that no space notice brings into the queue, stays
as it is; only the rake's forcing, where `force` allows it, reaches slots that are engaged. -/
structure Aftermath (force : Prop) (s t : State) : Prop where
  still : t.still = s.still
  queue : ∀ o, t.queueHas o = true → s.queueHas o = true ∨ s.mayAsk o
  table : ∀ o, t.tableHas o = true → s.tableHas o = true ∨ s.queueHas o = true ∨ s.mayAsk o
  engaged : ∀ i, s.queueHas (.drive i) = false → (t.slot i).state.engaged = true → (s.slot i).state.engaged = true
  slots : ∀ i, s.queueHas (.drive i) = false → (s.slot i).state.engaged = false ∨ ¬force → t.slot i = s.slot i
  spent : t.spent → s.spent
  feeders : ∀ i, s.queueHas (.feeder i) = false → ¬s.offered i → t.feeder i = s.feeder i
  rake : s.queueHas .rake = false → s.rk.state.asks = false → t.rk = s.rk
  permit : t.fu.permit = true → s.fu.permit = true
  stages : t.fu.stages = s.fu.stages
  accounts : t.mu = s.mu
  sum : t.bookingSum ≤ s.bookingSum ∨ (t.bookingSum : Int) ≤ (s.da.capacity : Int) - s.da.params.reserve
  held : s.da.spacingTimer.isSome = true → Held force s t

theorem Held.refl (force : Prop) (s : State) : Held force s s :=
  ⟨rfl, fun _ _ => rfl, fun _ _ => rfl, fun _ => rfl, fun _ => rfl, fun _ => rfl⟩

theorem Held.mono {f f' : Prop} (hf : f → f') {s t : State} (h : Held f s t) : Held f' s t :=
  ⟨h.timer, h.feeders, fun i hi => h.slots i (hi.imp_right (mt hf)), fun hn => h.table (mt hf hn), fun hn => h.shortfall (mt hf hn),
    fun hn => h.gate (mt hf hn)⟩

theorem Aftermath.refl (force : Prop) (s : State) : Aftermath force s s :=
  ⟨rfl, fun _ => .inl, fun _ => .inl, fun _ _ => id, fun _ _ _ => rfl, id, fun _ _ _ => rfl, fun _ _ => rfl, id, rfl, rfl, .inl le_rfl,
    fun _ => .refl force s⟩

theorem Aftermath.mono {f f' : Prop} (hf : f → f') {s t : State} (h : Aftermath f s t) : Aftermath f' s t where
  still := h.still
  queue := h.queue
  table := h.table
  engaged := h.engaged
  slots i hq hi := h.slots i hq (hi.imp_right (mt hf))
  spent := h.spent
  feeders := h.feeders
  rake := h.rake
  permit := h.permit
  stages := h.stages
  accounts := h.accounts
  sum := h.sum
  held hs := (h.held hs).mono hf

section
variable {force : Prop} {s t u : State}

theorem Aftermath.offered (h : Aftermath force s t) {i : Fin 12} (ho : t.offered i) : s.queueHas (.feeder i) = true ∨ s.offered i := by
  by_contra hk
  push Not at hk
  obtain ⟨hq, hno⟩ := hk
  exact hno ⟨h.feeders i (Bool.eq_false_iff.mpr hq) hno ▸ ho.1, h.permit ho.2⟩

theorem Aftermath.mayAsk (h : Aftermath force s t) {o : Owner} (ho : t.mayAsk o) : s.queueHas o = true ∨ s.mayAsk o := by
  cases o with
  | drive i => exact absurd ho id
  | feeder i => exact h.offered ho
  | rake =>
    by_contra hk
    push Not at hk
    obtain ⟨hq, hno⟩ := hk
    have hasks : s.rk.state.asks = false := Bool.eq_false_iff.mpr hno
    have hsame : t.rk = s.rk := h.rake (Bool.eq_false_iff.mpr hq) hasks
    rw [State.mayAsk, hsame, hasks] at ho
    cases ho

/-- An owner that does not wait and is not asked in does not wait afterwards. -/
theorem Aftermath.not_queued (h : Aftermath force s t) {o : Owner} (hq : s.queueHas o = false) (ho : ¬s.mayAsk o) : t.queueHas o = false :=
  Bool.eq_false_iff.mpr fun hk => (h.queue o hk).elim (fun hk => by simp [hq] at hk) ho

theorem Held.offered (hp : t.fu.permit = true → s.fu.permit = true) (h : Held force s t) {i : Fin 12} (ho : t.offered i) : s.offered i := by
  by_contra hno
  exact hno ⟨h.feeders i hno ▸ ho.1, hp ho.2⟩

theorem Aftermath.capacity (h : Aftermath force s t) : t.da.capacity = s.da.capacity ∧ t.da.params = s.da.params := by
  refine ⟨capacity_of_still h.still, ?_⟩
  show t.still.da.params = s.still.da.params
  rw [h.still]

theorem Aftermath.trans (h : Aftermath force s t) (k : Aftermath force t u) : Aftermath force s u where
  still := k.still.trans h.still
  queue o ho := (k.queue o ho).elim (h.queue o) fun ha => h.mayAsk ha
  table o ho := by
    obtain ht | hq | ha := k.table o ho
    · exact h.table o ht
    · exact .inr (h.queue o hq)
    · exact .inr (h.mayAsk ha)
  engaged i hq hu := h.engaged i hq (k.engaged i (h.not_queued hq id) hu)
  slots i hq hi := by
    have ht := h.slots i hq hi
    exact (k.slots i (h.not_queued hq id) (ht ▸ hi)).trans ht
  spent hu := h.spent (k.spent hu)
  feeders i hq hno := by
    have ht := h.feeders i hq hno
    refine (k.feeders i (h.not_queued hq hno) fun ho => ?_).trans ht
    exact (h.offered ho).elim (fun hk => by simp [hq] at hk) hno
  rake hq ha := by
    have ht := h.rake hq ha
    exact (k.rake (h.not_queued hq (by simp [State.mayAsk, ha])) (ht ▸ ha)).trans ht
  permit hu := h.permit (k.permit hu)
  stages := k.stages.trans h.stages
  accounts := k.accounts.trans h.accounts
  sum := by
    obtain ⟨hc, hp⟩ := h.capacity
    have hk := k.sum
    rw [hc, hp] at hk
    have := h.sum
    omega
  held hs := by
    have ht := h.held hs
    have hu := k.held (ht.timer ▸ hs)
    refine ⟨hu.timer.trans ht.timer, fun i hno => ?_, fun i hi => ?_, fun hn => (hu.table hn).trans (ht.table hn),
      fun hn => (hu.shortfall hn).trans (ht.shortfall hn), fun hn => (hu.gate hn).trans (ht.gate hn)⟩
    · exact (hu.feeders i fun ho => hno (ht.offered h.permit ho)).trans (ht.feeders i hno)
    · have hsame := ht.slots i hi
      exact (hu.slots i (hsame ▸ hi)).trans hsame

/-! ### The elementary parts -/

/-- What changes neither the collections nor an owner. -/
theorem Aftermath.of_frame (hstill : t.still = s.still) (hda : t.da = s.da) (hds : t.ds = s.ds) (hrk : t.rk = s.rk) (hfu : t.fu = s.fu)
    (hmu : t.mu = s.mu) (hgc : t.gc = s.gc) : Aftermath force s t := by
  have hslot : ∀ i, t.slot i = s.slot i := fun i => by unfold State.slot; rw [hds]
  have hfeeder : ∀ i, t.feeder i = s.feeder i := fun i => by unfold State.feeder; rw [hfu]
  have hq : ∀ o, t.queueHas o = s.queueHas o := fun o => by unfold State.queueHas; rw [hda]
  have ht : ∀ o, t.tableHas o = s.tableHas o := fun o => by unfold State.tableHas; rw [hda]
  have hsum : t.bookingSum = s.bookingSum := by unfold State.bookingSum; rw [hda]
  exact ⟨hstill, fun o h => .inl (hq o ▸ h), fun o h => .inl (ht o ▸ h), fun i _ h => hslot i ▸ h, fun i _ _ => hslot i,
    fun h => by unfold State.spent at *; rwa [hrk] at h, fun i _ _ => hfeeder i, fun _ _ => hrk, fun h => hfu ▸ h, by rw [hfu], hmu, .inl hsum.le,
    fun _ => ⟨by rw [hda], fun i _ => hfeeder i, fun i _ => hslot i, fun _ => by rw [hda], fun _ => by rw [hda], fun _ => hgc⟩⟩

theorem aftermath_post (r : Report) (s : State) : Aftermath force s (post r s) :=
  .of_frame (by simp) (by simp) (by simp) (by simp) (by simp) (by simp) (by simp)

/-- What the rake's forcing may do: it reaches the table and the slots that are engaged. -/
theorem Aftermath.of_forcing (hforce : force) (hstill : t.still = s.still) (hq : t.da.queue = s.da.queue)
    (hT : t.da.table.Sublist s.da.table) (hspacing : t.da.spacingTimer = s.da.spacingTimer)
    (hslot : ∀ i, (s.slot i).state.engaged = false → t.slot i = s.slot i) (hrk : t.rk = s.rk) (hfu : t.fu = s.fu) (hmu : t.mu = s.mu) :
    Aftermath force s t := by
  have hfeeder : ∀ i, t.feeder i = s.feeder i := fun i => by unfold State.feeder; rw [hfu]
  have hqueue : ∀ o, t.queueHas o = s.queueHas o := fun o => by unfold State.queueHas; rw [hq]
  have htable : ∀ o, t.tableHas o = true → s.tableHas o = true := fun o h => by
    rw [tableHas_iff] at *
    exact (hT.map _).subset h
  have heng : ∀ i, (t.slot i).state.engaged = true → (s.slot i).state.engaged = true := fun i h => by
    by_contra hk
    have hk := Bool.eq_false_iff.mpr hk
    rw [hslot i hk, hk] at h
    cases h
  have hslot' : ∀ i, (s.slot i).state.engaged = false ∨ ¬force → t.slot i = s.slot i := fun i hi =>
    hslot i (hi.resolve_right (not_not.mpr hforce))
  exact ⟨hstill, fun o h => .inl (hqueue o ▸ h), fun o h => .inl (htable o h), fun i _ => heng i, fun i _ => hslot' i,
    fun h => by unfold State.spent at *; rwa [hrk] at h, fun i _ _ => hfeeder i, fun _ _ => hrk, fun h => hfu ▸ h, by rw [hfu], hmu,
    .inl ((hT.map _).sum_le_sum fun _ _ => Nat.zero_le _), fun _ => ⟨hspacing, fun i _ => hfeeder i, hslot', fun hn => absurd hforce hn,
      fun hn => absurd hforce hn, fun hn => absurd hforce hn⟩⟩

/-- R66: a grant. -/
theorem aftermath_grant {e : QueueEntry} (hw : walk s = some e) : Aftermath force s (grant e s) := by
  obtain ⟨hspacing, hfirst, hfits⟩ := walk_eq_some.mp hw
  have hg := grant_granted e s
  have hwaits : s.queueHas e.owner = true := queueHas_iff.mpr (List.mem_map_of_mem (List.mem_of_find?_eq_some hfirst))
  have hother : ∀ {o}, s.queueHas o = false → e.owner ≠ o := fun hq he => by rw [← he, hwaits] at hq; cases hq
  have hslot : ∀ i, s.queueHas (.drive i) = false → (grant e s).slot i = s.slot i := fun i hq => by
    rw [hg.slots, if_neg (hother hq)]
  refine ⟨still_grant e s, fun o ho => .inl ?_, fun o ho => ?_, fun i hq h => hslot i hq ▸ h, fun i hq _ => hslot i hq, fun h => ?_,
    fun i hq _ => by rw [hg.feeders, if_neg (hother hq)], fun hq _ => by rw [hg.rake, if_neg (hother hq)], hg.permit, hg.stages,
    hg.accounts, .inr ?_, fun hs => by simp [hspacing] at hs⟩
  · rw [queueHas_iff, State.queueOwners, hg.queue] at ho
    exact queueHas_iff.mpr ((List.filter_sublist.map _).subset ho)
  · rw [tableHas_iff, State.tableOwners, hg.table, grantedTable_owners] at ho
    obtain ho | ho := List.mem_append.mp ho
    · exact .inl (tableHas_iff.mpr ho)
    · rw [List.mem_singleton] at ho
      exact .inr (.inl (ho ▸ hwaits))
  · unfold State.spent at *
    rw [hg.rake] at h
    split at h
    · exact absurd h.1 RakeState.noConfusion
    · exact h
  · have hsum : (grant e s).bookingSum = s.bookingSum + e.booking := by
      unfold State.bookingSum
      rw [hg.table]
      exact grantedTable_bookings e s
    rw [hsum]
    exact_mod_cast hfits

theorem queueHas_insertRequest (e : QueueEntry) (s : State) (o : Owner) :
    (insertRequest e s).queueHas o = true ↔ o = e.owner ∨ s.queueHas o = true := by
  rw [queueHas_iff, queueHas_iff, (insertRequest_queueOwners e s).mem_iff, List.mem_cons]

/-- R107: the rake's request is taken. -/
theorem Aftermath.asks_rake (h : Aftermath force s t) (hasks : s.rk.state.asks = true) {e : QueueEntry} (he : e.owner = .rake) :
    Aftermath force s ((insertRequest e t).onRk fun k => { k with entryHeld := true }) where
  still := ((still_onRk _ _ fun _ => rfl).trans (still_onDa _ _ (fun _ => rfl) fun _ => rfl)).trans h.still
  queue o ho := by
    obtain rfl | ho := (queueHas_insertRequest e t o).mp ho
    · exact .inr (he ▸ hasks)
    · exact h.queue o ho
  table := h.table
  engaged := h.engaged
  slots := h.slots
  spent := h.spent
  feeders := h.feeders
  rake _ hno := by simp [hasks] at hno
  permit := h.permit
  stages := h.stages
  accounts := h.accounts
  sum := h.sum
  held hs := ⟨(h.held hs).timer, (h.held hs).feeders, (h.held hs).slots, (h.held hs).table, (h.held hs).shortfall, (h.held hs).gate⟩

/-- R132: the offer of a feeder in SHED is taken. -/
theorem Aftermath.asks_feeder (h : Aftermath force s t) (hpermit : s.fu.permit = true) {i : Fin 12} (hshed : (t.feeder i).state = .shed)
    {e : QueueEntry} (he : e.owner = .feeder i) (r : Report) :
    Aftermath force s (setFeederState i .queued (post r (insertRequest e t))) := by
  have hoffered : ∀ j, i = j → t.feeder j = s.feeder j → s.offered j := by
    rintro j rfl hj
    exact ⟨hj ▸ hshed, hpermit⟩
  have hq : ∀ o, (setFeederState i .queued (post r (insertRequest e t))).queueHas o = (insertRequest e t).queueHas o := fun o => by
    simp [State.queueHas]
  have hT : (setFeederState i .queued (post r (insertRequest e t))).da.table = t.da.table := by
    simp [insertRequest]
  have hslot : ∀ j, (setFeederState i .queued (post r (insertRequest e t))).slot j = t.slot j := fun j => by
    simp [insertRequest]
  have hfeeder : ∀ j, i ≠ j → (setFeederState i .queued (post r (insertRequest e t))).feeder j = t.feeder j := fun j hij => by
    simp [insertRequest, hij]
  have hrk : (setFeederState i .queued (post r (insertRequest e t))).rk = t.rk := by simp [insertRequest]
  refine ⟨?_, fun o ho => ?_, fun o ho => ?_, fun j hj hs => ?_, fun j hj hs => ?_, fun hs => ?_, fun j hj hno => ?_, fun h1 h2 => ?_, fun hp => ?_, ?_, ?_,
    ?_, fun hs => ?_⟩
  · rw [still_setFeederState, still_post]
    exact (still_onDa _ _ (fun _ => rfl) fun _ => rfl).trans h.still
  · rw [hq, queueHas_insertRequest] at ho
    obtain rfl | ho := ho
    · rw [he]
      by_cases hs : s.queueHas (.feeder i) = true
      · exact .inl hs
      · by_contra hk
        push Not at hk
        exact hk.2 (hoffered i rfl (h.feeders i (Bool.eq_false_iff.mpr hs) hk.2))
    · exact h.queue o ho
  · refine h.table o ?_
    unfold State.tableHas at *
    rwa [hT] at ho
  · exact h.engaged j hj (hslot j ▸ hs)
  · rw [hslot, h.slots j hj hs]
  · refine h.spent ?_
    unfold State.spent at *
    rwa [hrk] at hs
  · have ht := h.feeders j hj hno
    rw [hfeeder j fun hij => hno (hoffered j hij ht), ht]
  · rw [hrk, h.rake h1 h2]
  · refine h.permit ?_
    simpa [insertRequest] using setFeederState_permit hp
  · rw [setFeederState_stages]
    simpa [insertRequest] using h.stages
  · simpa [insertRequest] using h.accounts
  · have hsum : (setFeederState i .queued (post r (insertRequest e t))).bookingSum = t.bookingSum := by unfold State.bookingSum; rw [hT]
    rw [hsum]
    exact h.sum
  · have ht := h.held hs
    refine ⟨?_, fun j hno => ?_, fun j hj => ?_, fun hn => ?_, fun hn => ?_, fun hn => ?_⟩
    · simpa [insertRequest] using ht.timer
    · have hj := ht.feeders j hno
      rw [hfeeder j fun hij => hno (hoffered j hij hj), hj]
    · rw [hslot, ht.slots j hj]
    · rw [hT, ht.table hn]
    · simpa [insertRequest] using ht.shortfall hn
    · simpa [insertRequest] using ht.gate hn

/-- R70: the rake's entry moves to the head. -/
theorem aftermath_rakeFirst {e : QueueEntry} (he : (s.da.queue.find? fun e => decide (e.owner = .rake)) = some e) :
    Aftermath force s (s.onDa fun d => { d with queue := { e with cls := 0 } :: d.queue.filter fun x => decide (x.owner ≠ .rake) }) := by
  have hq : ∀ o, (s.onDa fun d => { d with queue := { e with cls := 0 } :: d.queue.filter fun x => decide (x.owner ≠ .rake) }).queueHas o = true →
      s.queueHas o = true := by
    intro o ho
    rw [queueHas_iff] at *
    obtain hhead | hrest := List.mem_cons.mp ho
    · have hmem : e ∈ s.da.queue := List.mem_of_find?_eq_some he
      have hown : e.owner ∈ s.queueOwners := List.mem_map_of_mem hmem
      rw [hhead]
      exact hown
    · exact (List.filter_sublist.map _).subset hrest
  exact ⟨still_onDa _ _ (fun _ => rfl) fun _ => rfl, fun o ho => .inl (hq o ho), fun _ => .inl, fun _ _ => id, fun _ _ _ => rfl, id, fun _ _ _ => rfl,
    fun _ _ => rfl, id, rfl, rfl, .inl le_rfl, fun _ => ⟨rfl, fun _ _ => rfl, fun _ _ => rfl, fun _ => rfl, fun _ => rfl, fun _ => rfl⟩⟩

end

/-! ### The operations -/

/-- What an arbitration handed to an operation may do. -/
def Settling (arb : State → State) : Prop := ∀ s, Aftermath s.spent s (arb s)

section
variable {arb : State → State} (harb : Settling arb)
include harb

theorem Aftermath.thenArb {force : Prop} {s t : State} (h : Aftermath force s t) (hforce : s.spent → force) : Aftermath force s (arb t) :=
  h.trans ((harb t).mono fun ht => hforce (h.spent ht))

omit harb in
theorem aftermath_removeFromTable (o : Owner) (s : State) : Aftermath True s (removeFromTable o s) := by
  obtain ⟨g, h⟩ := removeFromTable_frame o s
  exact .of_forcing trivial (still_removeFromTable o s) (by rw [h]) (by rw [h]; exact List.filter_sublist) (by rw [h]) (fun _ _ => by rw [h]; rfl)
    (by rw [h]) (by rw [h]) (by rw [h])

omit harb in
theorem aftermath_shortfallTest (s : State) : Aftermath True s (shortfallTest s) := by
  obtain ⟨timer, h⟩ := shortfallTest_frame s
  exact .of_forcing trivial (still_shortfallTest s) (by rw [h]) (by rw [h]) (by rw [h]) (fun _ _ => by rw [h]; rfl)
    (by rw [h]) (by rw [h]) (by rw [h])

theorem aftermath_releaseNotice (o : Owner) (s : State) : Aftermath True s (releaseNotice arb o s) := by
  unfold releaseNotice
  split
  · exact ((aftermath_removeFromTable o s).trans (aftermath_shortfallTest _)).thenArb harb fun _ => trivial
  · exact .refl _ s

omit harb in
theorem aftermath_onSlot {i : Fin 4} {s : State} (h : (s.slot i).state.engaged = true) (g : Slot → Slot) (hp : ∀ d, (g d).profile = d.profile)
    (hq : ∀ d, (g d).present = d.present) : Aftermath True s (s.onSlot i g) := by
  refine .of_forcing trivial (still_onSlot s i g hp hq) rfl (List.Sublist.refl _) rfl (fun j hj => ?_) rfl rfl rfl
  rw [State.onSlot_slot, if_neg]
  rintro rfl
  simp [h] at hj

omit harb in
theorem aftermath_postAborted {force : Prop} (i : Fin 4) (d : Slot) (s : State) : Aftermath force s (postAborted i d s) := by
  unfold postAborted
  split
  · exact aftermath_post _ s
  · exact .refl _ s

theorem aftermath_forcedOut {cause : DriveCause} (hc : cause ≠ .shortfall) (i : Fin 4) (s : State) :
    Aftermath True s (forcedOut arb cause i s) := by
  unfold forcedOut
  rw [if_neg hc]
  split
  · next h =>
    unfold takeOut
    have hout : Aftermath True s (s.onSlot i Slot.toCoasting) := aftermath_onSlot h Slot.toCoasting (fun _ => rfl) fun _ => rfl
    have hreleased := hout.trans (aftermath_releaseNotice harb (.drive i) (s.onSlot i Slot.toCoasting))
    have haborted := hreleased.trans (aftermath_postAborted i (s.slot i) _)
    exact haborted.trans (aftermath_post _ _)
  · exact .refl _ s

theorem aftermath_rakeForcesSlot (i : Fin 4) (s : State) : Aftermath True s (rakeForcesSlot arb i s) := by
  unfold rakeForcesSlot
  split
  · next h => exact aftermath_onSlot (by rw [h]; rfl) _ (fun _ => rfl) fun _ => rfl
  · exact aftermath_forcedOut harb (by simp) i s
  · exact aftermath_forcedOut harb (by simp) i s
  · exact aftermath_forcedOut harb (by simp) i s
  · exact aftermath_forcedOut harb (by simp) i s
  all_goals exact .refl _ s

omit harb in
theorem aftermath_foldl {α : Type} {force : Prop} {g : State → α → State} (hg : ∀ s a, Aftermath force s (g s a)) (l : List α) (s : State) :
    Aftermath force s (l.foldl g s) :=
  List.foldlRecOn (motive := fun t => Aftermath force s t) l g (.refl _ s) fun _ ht a _ => ht.trans (hg _ a)

theorem aftermath_rakeForcesDrives (s : State) : Aftermath True s (rakeForcesDrives arb s) :=
  aftermath_foldl (fun s i => aftermath_rakeForcesSlot harb i s) _ s

theorem aftermath_forceRakeEntry (s : State) : Aftermath True s (forceRakeEntry arb s) := by
  unfold forceRakeEntry
  split
  · next e he => exact (aftermath_rakeFirst he).thenArb harb fun _ => trivial
  · exact .refl _ s

/-- R108: the rake is forced. -/
theorem aftermath_forceRake {s : State} (h : s.rk.state = .due) : Aftermath True s (forceRake arb s) := by
  have hforced : Aftermath True s (s.onRk fun k => { k with state := .forced }) :=
    { Aftermath.refl True s with
      still := still_onRk _ _ fun _ => rfl
      spent := fun hs => absurd hs.1 RakeState.noConfusion
      rake := fun _ ha => by rw [h] at ha; cases ha
      held := fun _ => ⟨rfl, fun _ _ => rfl, fun _ _ => rfl, fun _ => rfl, fun _ => rfl, fun _ => rfl⟩ }
  exact ((hforced.trans (aftermath_post _ _)).trans (aftermath_forceRakeEntry harb _)).trans (aftermath_rakeForcesDrives harb _)

/-- R107: an occasion for the rake's request. -/
theorem aftermath_rakeRequest (s : State) : Aftermath s.spent s (rakeRequest arb s) := by
  unfold rakeRequest
  split
  · next hask =>
    obtain ⟨hasks, _, _⟩ := hask
    have hforced : Aftermath s.spent s (if s.rk.state = .due ∧ s.rk.graceSpent then forceRake arb s else s) := by
      split
      · next hs => exact (aftermath_forceRake harb hs.1).mono fun _ => hs
      · exact .refl _ s
    simp only []
    generalize (if s.rk.state = .due ∧ s.rk.graceSpent then forceRake arb s else s) = t at hforced ⊢
    generalize hr : ({ owner := .rake, cls := _, booking := _, waitLimit := 0, origin := .host } : Request) = r
    obtain ⟨_, hsame⟩ | ⟨_, _, _, hsame⟩ | ⟨_, _, _, e, he, _, _, _, _, _, _, htaken⟩ :=
      enqueue_cases arb r (fun s => s.onRk fun k => { k with entryHeld := true }) t
    · rw [hsame]; exact hforced
    · rw [hsame]; exact hforced
    · rw [htaken]
      exact (hforced.asks_rake hasks (he.trans (by rw [← hr]))).thenArb harb id
  · exact .refl _ s

/-- R132: the offer of some feeders. -/
theorem Aftermath.thenOffer {force : Prop} {s t : State} (h : Aftermath force s t) (hforce : s.spent → force) (hpermit : s.fu.permit = true)
    (l : List (Fin 12)) : Aftermath force s (offerList arb l t) := by
  induction l generalizing t with
  | nil => exact h
  | cons i rest ih =>
    unfold offerList
    split
    · next hshed =>
      simp only []
      obtain ⟨_, hsame⟩ | ⟨_, _, _, hsame⟩ | ⟨_, _, _, e, he, _, _, _, _, _, _, htaken⟩ :=
        enqueue_cases arb (restoreRequest t i)
          (fun s => setFeederState i .queued (post (.restore i (t.feeder i).profile.cls (t.feeder i).profile.booking) s)) t
      · rw [hsame]; exact ih h
      · rw [hsame]; exact h
      · rw [htaken]
        exact ih ((h.asks_feeder hpermit hshed he _).thenArb harb hforce)
    · exact ih h

theorem Aftermath.thenFeederOffer {force : Prop} {s t : State} (h : Aftermath force s t) (hforce : s.spent → force) :
    Aftermath force s (feederOffer arb t) := by
  unfold feederOffer
  split
  · next hp => exact h.thenOffer harb hforce (h.permit hp.1) _
  · exact h

theorem aftermath_spaceNotice (s : State) : Aftermath s.spent s (spaceNotice arb s) :=
  (aftermath_rakeRequest harb s).thenFeederOffer harb id

end

theorem settling_arbitrateRounds (n : Nat) : Settling (arbitrateRounds n) := by
  induction n with
  | zero => exact fun s => .refl _ s
  | succ n ih =>
    intro s
    unfold arbitrateRounds
    split
    · next e he =>
      have hgrant : Aftermath s.spent s (grant e s) := aftermath_grant he
      exact (hgrant.trans ((aftermath_spaceNotice ih _).mono hgrant.spent)).thenArb ih id
    · exact .refl _ s

theorem settling_arbitrate : Settling arbitrate := settling_arbitrateRounds 18

theorem aftermath_giveSpace (s : State) : Aftermath s.spent s (giveSpace s) := aftermath_spaceNotice settling_arbitrate s

end Sys2Proof.Machine

/-! PROOFS. Withdrawals and publications in the terms of their aftermath; the standing mode, DRIVES_OUT (R36, R37, R53, R69, R73). -/

namespace Sys2Proof.Machine

/-! ### Withdrawals -/

/-- R68, R69: the state in which the entries have left the queue and their owners have been told, before the space notices. -/
def toldOf (named : QueueEntry → Bool) (cause : ExpiredCause) (tell : Owner → State → State) (s : State) : State :=
  (s.da.queue.filter named).foldl (fun s e => tell e.owner (postExpired cause e s)) (setQueue (s.da.queue.filter fun e => !named e) s)

/-- R68: a withdrawal that names an entry. -/
theorem withdraw_of_named (arb notices : State → State) {named : QueueEntry → Bool} (cause : ExpiredCause) (tell : Owner → State → State)
    {s : State} (h : s.da.queue.filter named ≠ []) : withdraw arb notices named cause tell s = arb (notices (toldOf named cause tell s)) :=
  if_neg h

theorem withdraw_of_unnamed (arb notices : State → State) {named : QueueEntry → Bool} (cause : ExpiredCause) (tell : Owner → State → State)
    {s : State} (h : s.da.queue.filter named = []) : withdraw arb notices named cause tell s = s := if_pos h

theorem withdraw_aftermath {named : QueueEntry → Bool} (cause : ExpiredCause) (tell : Owner → State → State) {s : State}
    (h : s.da.queue.filter named ≠ []) :
    Aftermath (toldOf named cause tell s).spent (toldOf named cause tell s) (withdraw arbitrate giveSpace named cause tell s) := by
  rw [withdraw_of_named _ _ _ _ h]
  exact (aftermath_giveSpace _).thenArb settling_arbitrate id

theorem toldOf_told (named : QueueEntry → Bool) (cause : ExpiredCause) (s : State) :
    Told ((s.da.queue.filter named).map QueueEntry.owner) (setQueue (s.da.queue.filter fun e => !named e) s) (toldOf named cause tellGone s) :=
  tellAll_told cause _ _

theorem isDrive_iff (e : QueueEntry) : e.isDrive = true ↔ ∃ i, e.owner = .drive i := by
  unfold QueueEntry.isDrive
  cases e.owner <;> simp

/-- No drive entry stands in the queue. -/
theorem no_drive_queued_iff {s : State} : (∀ e ∈ s.da.queue, e.isDrive = false) ↔ ∀ i, s.queueHas (.drive i) = false := by
  simp only [← Bool.not_eq_true, isDrive_iff, queueHas_iff, State.queueOwners, List.mem_map]
  constructor
  · rintro h i ⟨e, he, ho⟩
    exact h e he ⟨i, ho⟩
  · rintro h e he ⟨i, ho⟩
    exact h i ⟨e, he, ho⟩

/-- R69: what a withdrawal of every drive entry leaves of the drives. -/
structure DrivesWithdrawn (s t : State) : Prop where
  queue : ∀ i, t.queueHas (.drive i) = false
  idle : ∀ i, s.queueHas (.drive i) = true → (t.slot i).state = .idle
  engaged : ∀ i, (t.slot i).state.engaged = true → (s.slot i).state.engaged = true

theorem withdrawDrives_withdrawn (cause : ExpiredCause) (s : State) : DrivesWithdrawn s (withdrawDrives cause s) := by
  unfold withdrawDrives
  by_cases hgone : s.da.queue.filter QueueEntry.isDrive = []
  · rw [withdraw_of_unnamed _ _ _ _ hgone]
    have hnone : ∀ i, s.queueHas (.drive i) = false := no_drive_queued_iff.mp fun e he => by
      simpa using List.filter_eq_nil_iff.mp hgone e he
    exact ⟨hnone, fun i hi => by simp [hnone] at hi, fun _ => id⟩
  · have haft := withdraw_aftermath cause tellGone hgone
    have htold := toldOf_told QueueEntry.isDrive cause s
    generalize withdraw arbitrate giveSpace QueueEntry.isDrive cause tellGone s = t at haft ⊢
    generalize toldOf QueueEntry.isDrive cause tellGone s = x at haft htold
    have hq : ∀ i, x.queueHas (.drive i) = false := no_drive_queued_iff.mp fun e he => by
      rw [htold.da] at he
      simpa using (List.mem_filter.mp he).2
    have hin : ∀ i, s.queueHas (.drive i) = true → Owner.drive i ∈ (s.da.queue.filter QueueEntry.isDrive).map QueueEntry.owner := by
      intro i hi
      obtain ⟨e, he, ho⟩ := List.mem_map.mp (queueHas_iff.mp hi)
      exact List.mem_map.mpr ⟨e, List.mem_filter.mpr ⟨he, (isDrive_iff e).mpr ⟨i, ho⟩⟩, ho⟩
    refine ⟨fun i => haft.not_queued (hq i) id, fun i hi => ?_, fun i hi => ?_⟩
    · have hidle : (x.slot i).state = .idle := by rw [htold.slots, if_pos (hin i hi)]
      rw [haft.slots i (hq i) (.inl (by rw [hidle]; rfl)), hidle]
    · have heng := haft.engaged i (hq i) hi
      rw [htold.slots] at heng
      split at heng
      · cases heng
      · exact heng

/-! ### Publications -/

/-- R73: what a publication of the capacity leaves of the drives. -/
theorem publishCapacity_aftermath (s : State) : Aftermath True { s with da := { s.da with capacity := s.gc.capacity } } (publishCapacity s) := by
  have hstay : ∀ x : State, x.da.capacity = s.gc.capacity → x = s → Aftermath True { s with da := { s.da with capacity := s.gc.capacity } } x := by
    rintro x hx rfl
    rw [← hx]
    exact .refl _ _
  unfold publishCapacity
  simp only []
  split
  · exact (aftermath_shortfallTest _).thenArb settling_arbitrate fun _ => trivial
  · split
    · exact aftermath_shortfallTest _
    · exact hstay s (by omega) rfl

/-- R8, R9: a new gate limit reaches the drives by the arbitration that its capacity brings. -/
theorem recomputeLimit_drives (s : State) : (∀ i, s.queueHas (.drive i) = false → (recomputeLimit s).queueHas (.drive i) = false)
    ∧ ∀ i, s.queueHas (.drive i) = false → (s.slot i).state.engaged = false → (recomputeLimit s).slot i = s.slot i := by
  have h : Aftermath True s.limited (recomputeLimit s) := publishCapacity_aftermath
    ((s.onGc fun g => { g with gLim := g.limitNow s.ss.standing }).onGc fun g => { g with capacity := g.capacityNow })
  exact ⟨fun i hi => h.not_queued (show s.limited.queueHas (.drive i) = false from hi) id, fun i hq hi => h.slots i hq (.inl hi)⟩

/-! ### The standing mode -/

/-- R36: some slot works. -/
def State.someWorking (s : State) : Prop := (allSlots.any fun i => (s.slot i).state.working) = true

theorem someWorking_iff (s : State) : s.someWorking ↔ ∃ i, (s.slot i).state.engaged = true ∨ (s.slot i).state = .coasting := by
  unfold State.someWorking SlotState.working
  simp [List.any_eq_true, mem_allSlots]

theorem serveStandingOn_outside {x : State} (h : x.ss.station ≠ .live) : serveCommand .standingOn [] x = reply .state [] x := if_pos h

theorem serveStandingOn_busy {x : State} (h : x.ss.station = .live) (hw : x.someWorking) :
    serveCommand .standingOn [] x = reply .busy [] x := (if_neg (not_not.mpr h)).trans (if_pos hw)

theorem serveStandingOn_set {x : State} (h : x.ss.station = .live) (hw : ¬x.someWorking) (hs : x.ss.standing = true) :
    serveCommand .standingOn [] x = reply .ok [] x := ((if_neg (not_not.mpr h)).trans (if_neg hw)).trans (if_pos hs)

theorem serveStandingOn_taken {x : State} (h : x.ss.station = .live) (hw : ¬x.someWorking) (hs : x.ss.standing = false) :
    serveCommand .standingOn [] x = reply .ok [] (standingOn x) :=
  ((if_neg (not_not.mpr h)).trans (if_neg hw)).trans (if_neg (by simp [hs]))

theorem serveStandingOff_eq (x : State) : serveCommand .standingOff [] x = reply .ok [] (if x.ss.standing then standingOff x else x) := rfl

/-- R36: what STANDING_ON does in the part. -/
theorem standingOn_still (s : State) : (standingOn s).still = (s.onSs fun q => { q with standing := true }).limited.still := by
  unfold standingOn
  simp only []
  rw [still_recomputeLimit]
  exact still_limited ((still_withdrawDrives _ _).trans (still_post _ _))

theorem standingOff_still (s : State) : (standingOff s).still = (s.onSs fun q => { q with standing := false }).limited.still := by
  unfold standingOff
  simp only []
  rw [still_recomputeLimit]
  exact still_limited (still_post _ _)

theorem standingOn_reports {s : State} (hp : s.powered = true) :
    s.reportsSince (standingOn s) (.station s.ss.station s.ss.station true .standingOn) := by
  refine reportsSince_of_post (t := s.onSs fun q => { q with standing := true }) hp (.of_sl rfl rfl) ?_
  exact (calm_withdrawDrives .mode _).reportsOnly.trans (recomputeLimit_reportsOnly _)

theorem standingOff_reports {s : State} (hp : s.powered = true) :
    s.reportsSince (standingOff s) (.station s.ss.station s.ss.station false .standingOff) :=
  reportsSince_of_post (t := s.onSs fun q => { q with standing := false }) hp (.of_sl rfl rfl) (recomputeLimit_reportsOnly _)

/-- R36: what STANDING_ON leaves of the drives that were queued. -/
theorem standingOn_drives (s : State) : (∀ i, (standingOn s).queueHas (.drive i) = false)
    ∧ ∀ i, s.queueHas (.drive i) = true → ((standingOn s).slot i).state = .idle := by
  have hw : DrivesWithdrawn (post (.station s.ss.station s.ss.station true .standingOn) (s.onSs fun q => { q with standing := true })) _ :=
    withdrawDrives_withdrawn .mode _
  obtain ⟨hqueue, hslot⟩ := recomputeLimit_drives (withdrawDrives .mode
    (post (.station s.ss.station s.ss.station true .standingOn) (s.onSs fun q => { q with standing := true })))
  refine ⟨fun i => hqueue i (hw.queue i), fun i hi => ?_⟩
  have hidle := hw.idle i (by simpa [State.queueHas] using hi)
  exact (congrArg Slot.state (hslot i (hw.queue i) (by rw [hidle]; rfl))).trans hidle

/-- Settles O15: the tests, then the withdrawal and the gate limit of the standing mode. -/
theorem standingCommands : Obligations.StandingCommands := by
  intro tag s hr
  refine ⟨fun hst => ?_, fun hst hbusy => ?_, fun hst hfree => ?_, fun hs => ?_, fun hs => ?_⟩
  · exact exec_replies rfl hr (serveStandingOn_outside (by exact hst))
  · exact exec_replies rfl hr (serveStandingOn_busy (by exact hst) ((someWorking_iff _).mpr hbusy))
  · have hno : ¬s.someWorking := fun hk => by
      obtain ⟨i, h | h⟩ := (someWorking_iff s).mp hk
      · simp [hfree i] at h
      · exact (hfree i).2 h
    refine ⟨fun hs => exec_replies rfl hr (serveStandingOn_set (by exact hst) (by exact hno) (by exact hs)), fun hs => ?_⟩
    obtain ⟨t, he, ha⟩ := exec_answers (c := .standingOn tag []) rfl hr (changes_standingOn (by exact hst))
      (serveStandingOn_taken (x := s.serving .standingOn tag []) hst hno hs)
    have hstill := standingOn_still (s.serving .standingOn tag [])
    obtain ⟨hgc, _, hda⟩ := ha.plant hstill
    obtain ⟨hqueue, hidle⟩ := standingOn_drives (s.serving .standingOn tag [])
    have hss : t.ss.standing = true ∧ t.ss.station = .live := by
      have h : t.still.ss = _ := congrArg State.ss (ha.still hstill)
      exact ⟨congrArg Sequencer.standing h, (congrArg Sequencer.station h).trans hst⟩
    have hlim : t.gc.gLim = min s.gc.params.standingLimit s.gc.gFF := by rw [hgc]; rfl
    have hcap : t.gc.capacity = s.gc.params.pFull * t.gc.gLim / 10000 := by rw [hgc]; rfl
    have hheld : t.da.capacity = t.gc.capacity := by rw [hda, hgc]; rfl
    refine ⟨t, he, ha.replied, hss.1, hss.2, hlim, hcap, hheld, ?_, ?_, fun i hi => ?_, ?_⟩
    · rw [ha.still hstill, hgc]
      rfl
    · rw [ha.same]
      exact no_drive_queued_iff.mpr hqueue
    · rw [ha.same]
      exact hidle i hi
    · have h := ha.reports _ (standingOn_reports (s := s.serving .standingOn tag []) hr.powered)
      rwa [show (s.serving .standingOn tag []).ss.station = .live from hst] at h
  · exact exec_replies rfl hr ((serveStandingOff_eq _).trans (by rw [if_neg (by simp [State.serving, hs])]))
  · obtain ⟨t, he, ha⟩ := exec_answers (c := .standingOff tag []) rfl hr (changes_standingOff _)
      ((serveStandingOff_eq (s.serving .standingOff tag [])).trans (by rw [if_pos (by exact hs)]))
    have hstill := standingOff_still (s.serving .standingOff tag [])
    obtain ⟨hgc, _, hda⟩ := ha.plant hstill
    refine ⟨t, he, ha.replied, by rw [hgc]; rfl, by rw [hgc]; rfl, by rw [hda, hgc]; rfl, ?_, ?_⟩
    · rw [ha.still hstill, hgc]
      rfl
    · exact ha.reports _ (standingOff_reports (s := s.serving .standingOff tag []) hr.powered)

end Sys2Proof.Machine

/-! PROOFS. Station stops and trips in full (R29, R32, R33): STOP and the station's timers. -/

namespace Sys2Proof.Machine

/-! ### The account stays through the taking down of the loads -/

theorem foldl_mu {α : Type} {g : State → α → State} (hg : ∀ s a, (g s a).mu = s.mu) (l : List α) (s : State) : (l.foldl g s).mu = s.mu :=
  List.foldlRecOn (motive := fun t => t.mu = s.mu) l g rfl fun _ ht a _ => (hg _ a).trans ht

theorem tellGone_mu (o : Owner) (s : State) : (tellGone o s).mu = s.mu := by
  cases o with
  | drive i => rfl
  | feeder i => exact setFeederState_mu i .off s
  | rake => rfl

theorem takeDownLoads_mu {c : DownCause} (hc : c.drive ≠ .shortfall) (s : State) : (takeDownLoads c s).mu = s.mu := by
  have hrelease : ∀ o x, (releaseNotice arbitrate o x).mu = x.mu := fun o x => (aftermath_releaseNotice settling_arbitrate o x).accounts
  have hqueue : (withdrawAll c.expired s).mu = s.mu := by
    unfold withdrawAll
    by_cases h : (s.onDa fun d => { d with spacingTimer := none }).da.queue.filter (fun _ => true) = []
    · rw [withdraw_of_unnamed _ _ _ _ h]
      rfl
    · refine (withdraw_aftermath c.expired tellGone h).accounts.trans ?_
      have htell : ∀ (x : State) (e : QueueEntry), (tellGone e.owner (postExpired c.expired e x)).mu = x.mu := fun x e =>
        (tellGone_mu e.owner _).trans (by simp [postExpired])
      unfold toldOf
      rw [foldl_mu htell]
      rfl
  have hfeeder : ∀ (x : State) (i : Fin 12), (feederStop arbitrate x i).mu = x.mu := by
    intro x i
    unfold feederStop openFeeder
    split
    · rw [setFeederState_mu, hrelease]
    · exact setFeederState_mu _ _ _
    · exact setFeederState_mu _ _ _
    all_goals rfl
  have hfeeders : ∀ x, (feedersStop arbitrate x).mu = x.mu := by
    intro x
    unfold feedersStop
    simp only [State.onFu_mu]
    exact foldl_mu hfeeder _ x
  have hdrives : ∀ x, (forcedOutAll arbitrate c.drive (fun _ => true) x).mu = x.mu := fun x =>
    foldl_mu (fun y i => (aftermath_forcedOut settling_arbitrate hc i y).accounts) _ x
  have hrake : ∀ x, (rakeStop arbitrate c.rake x).mu = x.mu := by
    intro x
    unfold rakeStop
    split
    · rw [postRake, post_mu, hrelease]
      rfl
    · rfl
  unfold takeDownLoads
  simp only []
  rw [hrake, hdrives, hfeeders, hqueue]

/-! ### Leaving for STOPPING or TRIPPED -/

theorem handOff_liveCopy (wasLive : Bool) (s : State) : (handOff wasLive s).cu.liveCopy = if wasLive then false else s.cu.liveCopy := by
  unfold handOff handLive
  cases wasLive with
  | false => rfl
  | true =>
    obtain ⟨c, l, h⟩ := evaluateCorrection_frame (s.onCu fun u => { u with liveCopy := false })
    rw [if_pos rfl, if_pos rfl, h]
    rfl

theorem leaveFor_eq (new : StationState) (cause : StationCause) (c : DownCause) (g : Sequencer → Sequencer) (s : State)
    (station : (g s.ss).station = s.ss.station) : leaveFor new cause c (s.onSs g) =
      if (g s.ss).standing then
        recomputeLimit ((evict new cause c (fun q => { g q with standing := false }) s).onDs fun d => { d with feedHold := false })
      else (evict new cause c (fun q => { g q with standing := false }) s).onDs fun d => { d with feedHold := false } := by
  have hset : (s.onSs g).onSs (fun q => { q with standing := false }) = s.onSs fun q => { g q with standing := false } := rfl
  have hcomm : ∀ x : State, (x.onDs fun d => { d with feedHold := false }).onSs (fun q => { q with fieldClosed := false })
      = (x.onSs fun q => { q with fieldClosed := false }).onDs fun d => { d with feedHold := false } := fun _ => rfl
  unfold leaveFor evict handOff
  simp only [hset, hcomm, State.onSs_ss, station]

/-- R8, R9: with an empty queue a new gate limit reaches the Gate Controller, the held capacity and the shortfall timer alone. -/
theorem recomputeLimit_of_queue_nil {s : State} (h : s.da.queue = []) : ∃ (gLim capacity held : Nat) (timer : Timer), recomputeLimit s =
    { s with gc := { s.gc with gLim := gLim, capacity := capacity }, da := { s.da with capacity := held, shortfallTimer := timer } } := by
  have hpublish : ∀ x : State, x.da.queue = [] → ∃ (held : Nat) (timer : Timer), publishCapacity x =
      { x with da := { x.da with capacity := held, shortfallTimer := timer } } := by
    intro x hx
    obtain ⟨timer, htest⟩ := shortfallTest_frame (x.onDa fun d => { d with capacity := x.gc.capacity })
    unfold publishCapacity
    simp only []
    have hq : (shortfallTest (x.onDa fun d => { d with capacity := x.gc.capacity })).da.queue = [] := by
      rw [htest]
      exact hx
    rw [arbitrate_of_queue_nil hq, htest]
    split
    · exact ⟨_, timer, rfl⟩
    · split
      · exact ⟨_, timer, rfl⟩
      · exact ⟨x.da.capacity, x.da.shortfallTimer, rfl⟩
  obtain ⟨held, timer, hp⟩ := hpublish ((s.onGc fun g => { g with gLim := g.limitNow s.ss.standing }).onGc fun g =>
    { g with capacity := g.capacityNow }) h
  exact ⟨_, _, held, timer, hp⟩

/-- What a station stop or a trip leaves; `q` is what the Station Sequencer holds when it reports its new state. -/
structure LeftFor (new : StationState) (cause : StationCause) (q : Sequencer) (s t : State) : Prop where
  sequencer : ∃ relay, t.ss = { q with station := new, standing := false, fieldClosed := false, alarmRelay := relay }
  loads : s.LoadsTakenDown t
  gate : t.gc.gateOut = s.gc.gateOut
  report : s.reportsSince t (.station new s.ss.station false cause)
  copy : t.cu.liveCopy = if s.ss.station = .live then false else s.cu.liveCopy
  rest : t.store = s.store ∧ t.wu = s.wu ∧ t.lu = s.lu ∧ t.smu = s.smu ∧ t.mu = s.mu
  link : ReportsOnly s t

theorem Down.loadsTakenDown {s t : State} (h : Down s t) (hfield : t.ss.fieldClosed = false) (hhold : t.ds.feedHold = false) :
    s.LoadsTakenDown t where
  driven :=
    { feeders := fun i => by
        have hf := h.feeders i
        unfold State.contactor
        cases hs : (s.feeder i).state <;> simp [hs, FeederState.down] at hf <;> simp [hf]
      drives := fun i => by
        have hd := h.slots i
        unfold State.driveClutch State.feedEnable
        cases hs : (s.slot i).state <;> simp [hs, SlotState.down] at hd <;> simp [hd, SlotState.clutchIn, SlotState.feedOn]
      rake := by
        unfold State.rakeClutch
        rw [h.rake]
        split
        · rfl
        · next hk => simpa using hk
      queue := h.queue
      field := hfield }
  table := h.table
  feeders i := by
    rw [h.feeders]
    cases (s.feeder i).state <;> rfl
  slots i := by
    rw [h.slots]
    cases (s.slot i).state <;> rfl
  rake := ⟨h.rake, h.held⟩
  stages := h.stages
  restoration := ⟨h.restore, h.permit⟩
  hold := hhold
  spacing := h.spacing

theorem evict_leftFor {new : StationState} {cause : StationCause} {c : DownCause} {g : Sequencer → Sequencer} {s : State}
    (hp : s.powered = true) (hs : s.Consistent) (hnew : new ≠ .live) (hc : c.drive ≠ .shortfall) (station : (g s.ss).station = s.ss.station)
    (hstanding : (g s.ss).standing = false) :
    LeftFor new cause (g s.ss) s ((evict new cause c g s).onDs fun d => { d with feedHold := false })
    ∧ ((evict new cause c g s).onDs fun d => { d with feedHold := false }).da.queue = [] := by
  obtain ⟨v, w, ⟨⟨relay, copy, correction, l, hv⟩, hreports, hw, hcalm⟩, hoff, hevict⟩ := evict_parts new cause c g s hnew hc
  have hvs : v.ss.station ≠ .live := by rw [hv]; exact hnew
  have hagree : Agree [] v := by
    rw [hv]
    exact ((consistent_iff s).mp hs).of_eq rfl rfl (fun _ => rfl) rfl (fun _ => rfl) rfl
  have hdown : Down s w := by
    have hd := takeDownLoads_down hc hvs hagree
    rw [← hw] at hd
    obtain ⟨h1, h2, h3, h4, h5, h6, h7, h8, h9, h10⟩ := hd
    refine ⟨h1, h2, h3, fun i => ?_, fun i => ?_, ?_, h7, h8, h9, h10⟩
    · rw [h4, hv]; rfl
    · rw [h5, hv]; rfl
    · rw [h6, hv]
  have hstill : w.still = v.still := Disps.still hcalm
  have hshown : ∀ {α : Type} (f : State → α), (∀ x, f x.still = f x) → f w = f v := fun f hf => by rw [← hf w, hstill, hf v]
  have hwss : w.ss = { v.ss with alarmRelay := w.ss.alarmRelay } := by
    have e : ({ w.ss with alarmRelay := false } : Sequencer) = { v.ss with alarmRelay := false } := congrArg State.ss hstill
    exact congrArg (fun q : Sequencer => { q with alarmRelay := w.ss.alarmRelay }) e
  rw [hevict]
  have hq : w.da.queue = [] := hdown.queue
  refine ⟨⟨⟨w.ss.alarmRelay, ?_⟩, ?_, ?_, ?_, ?_, ⟨?_, ?_, ?_, ?_, ?_⟩, ?_⟩, hq⟩
  · show { w.ss with fieldClosed := false } = _
    rw [hwss, hv]
    simp only [hstanding]
  · exact (show Down s ((w.onSs fun q => { q with fieldClosed := false }).onDs fun d => { d with feedHold := false }) from
      ⟨hdown.queue, hdown.table, hdown.spacing, hdown.feeders, hdown.slots, hdown.rake, hdown.held, hdown.stages, hdown.restore,
        hdown.permit⟩).loadsTakenDown rfl rfl
  · show w.gc.gateOut = s.gc.gateOut
    rw [hshown (fun x => x.gc.gateOut) fun _ => rfl, hv]
  · have hset := setStation_reportsSince new cause (s := s.onSs g) hp
    rw [show (s.onSs g).ss.station = s.ss.station from station, show (s.onSs g).ss.standing = false from hstanding] at hset
    have hsetv : ReportsOnly (setStation new cause (s.onSs g)) v := by
      obtain ⟨_, _, _, _, h⟩ := handOff_frame (decide (s.ss.station = .live)) (setStation new cause (s.onSs g))
      rw [hoff]
      exact h
    have hwt : ReportsOnly w ((w.onSs fun q => { q with fieldClosed := false }).onDs fun d => { d with feedHold := false }) := .of_sl rfl rfl
    exact ((hsetv.trans hcalm.reportsOnly).trans hwt).reportsSince hset
  · show w.cu.liveCopy = _
    rw [hshown (fun x => x.cu.liveCopy) fun _ => rfl, hoff, handOff_liveCopy]
    obtain ⟨_, _, hframe⟩ := setStation_frame new cause (s.onSs g)
    rw [hframe]
    simp only [decide_eq_true_eq]
    rfl
  · show w.store = s.store
    rw [hshown State.store fun _ => rfl, hv]
  · show w.wu = s.wu
    rw [hshown State.wu fun _ => rfl, hv]
  · show w.lu = s.lu
    rw [hshown State.lu fun _ => rfl, hv]
  · show w.smu = s.smu
    rw [hshown State.smu fun _ => rfl, hv]
  · show w.mu = s.mu
    rw [hw, takeDownLoads_mu hc, hv]
  · exact (hreports.trans hcalm.reportsOnly).trans (.of_sl rfl rfl)

theorem leaveFor_leftFor {new : StationState} {cause : StationCause} {c : DownCause} {g : Sequencer → Sequencer} {s : State}
    (hp : s.powered = true) (hs : s.Consistent) (hnew : new ≠ .live) (hc : c.drive ≠ .shortfall) (station : (g s.ss).station = s.ss.station) :
    LeftFor new cause (g s.ss) s (leaveFor new cause c (s.onSs g)) := by
  obtain ⟨h, hq⟩ := evict_leftFor (cause := cause) (g := fun q => { g q with standing := false }) hp hs hnew hc station rfl
  rw [leaveFor_eq new cause c g s station]
  have hlift : ∀ t, LeftFor new cause ({ g s.ss with standing := false }) s t → LeftFor new cause (g s.ss) s t :=
    fun t ht => ⟨ht.sequencer, ht.loads, ht.gate, ht.report, ht.copy, ht.rest, ht.link⟩
  generalize (evict new cause c (fun q => { g q with standing := false }) s).onDs (fun d => { d with feedHold := false }) = x at h hq ⊢
  split
  · obtain ⟨gLim, capacity, held, timer, hr⟩ := recomputeLimit_of_queue_nil hq
    have hrep := recomputeLimit_reportsOnly x
    refine hlift _ ⟨?_, ?_, ?_, hrep.reportsSince h.report, ?_, ?_, h.link.trans hrep⟩
    · rw [hr]; exact h.sequencer
    · rw [hr]
      obtain ⟨⟨d1, d2, d3, d4, d5⟩, h2, h3, h4, h5, h6, h7, h8, h9⟩ := h.loads
      exact ⟨⟨d1, d2, d3, d4, d5⟩, h2, h3, h4, h5, h6, h7, h8, h9⟩
    · rw [hr]; exact h.gate
    · rw [hr]; exact h.copy
    · rw [hr]; exact h.rest
  · exact hlift x h

/-! ### STOP -/

theorem stationStop_stoppedBy {cause : StationCause} {s : State} (hp : s.powered = true) (hs : s.Consistent) :
    s.StoppedBy (stationStop cause s) cause ∧ LeftFor .stopping cause
      { s.ss with startTimer := none, settleTimer := none, underspeedTimer := none, runDownTimer := some Config.runDownTime } s (stationStop cause s) := by
  have h : LeftFor .stopping cause _ s (stationStop cause s) := leaveFor_leftFor (c := stopCauses) (g := fun q =>
    { q with startTimer := none, settleTimer := none, underspeedTimer := none, runDownTimer := some Config.runDownTime }) hp hs
    (by decide) (by decide) rfl
  obtain ⟨relay, hss⟩ := h.sequencer
  refine ⟨⟨by rw [hss], ⟨by rw [hss], by rw [hss], by rw [hss], by rw [hss]; rfl⟩, by rw [hss], h.loads, ⟨by rw [hss], h.gate⟩, h.report⟩, h⟩

theorem stoppable_iff (x : StationState) : x.stoppable = true ↔ x = .starting ∨ x = .runUp ∨ x = .live := by cases x <;> decide

theorem serveStop_eq (x : State) : serveCommand .stop [] x =
    if x.ss.station.stoppable then reply .ok [] (stationStop .hostStop x) else reply .state [] x := rfl

/-- An answered command keeps what a stop has left. -/
theorem State.StoppedBy.of_answered {s u t : State} {cause : StationCause} {k : CommandKind} {tag : Byte} {r : Result} {content : List Byte}
    (h : s.StoppedBy u cause) (ha : s.AnsweredFrom u t k tag r content) : s.StoppedBy t cause := by
  have hrep := ha.reports _ h.changed
  obtain ⟨h1, h2, h3, ⟨⟨d1, d2, d3, d4, d5⟩, l2, l3, l4, l5, l6, l7, l8, l9⟩, h5, _⟩ := h
  rw [ha.same] at hrep ⊢
  exact ⟨h1, h2, h3, ⟨⟨d1, d2, d3, d4, d5⟩, l2, l3, l4, l5, l6, l7, l8, l9⟩, h5, hrep⟩

/-- Whether a command is in service does not matter to what a stop does. -/
theorem State.StoppedBy.of_serving {s u : State} {cause : StationCause} {k : CommandKind} {tag : Byte} {body : List Byte}
    (h : (s.serving k tag body).StoppedBy u cause) : s.StoppedBy u cause := by
  obtain ⟨h1, h2, h3, ⟨d, l2, l3, l4, l5, l6, l7, l8, l9⟩, h5, h6⟩ := h
  exact ⟨h1, h2, h3, ⟨d, l2, l3, l4, l5, l6, l7, l8, l9⟩, h5, h6⟩

/-- Settles O12: STOP takes the loads down, or is refused. -/
theorem stopCommand : Obligations.StopCommand := by
  intro tag s hr hs
  refine ⟨fun hst => ?_, fun hst => ?_⟩
  · have hstop := (stoppable_iff s.ss.station).mpr hst
    obtain ⟨t, he, ha⟩ := exec_answers (c := .stop tag []) rfl hr (changes_stationStop (not_tripped_of_stoppable (by exact hstop)))
      ((serveStop_eq (s.serving .stop tag [])).trans (if_pos hstop))
    have hserving : (s.serving .stop tag []).Consistent :=
      (consistent_iff _).mpr (((consistent_iff s).mp hs).of_eq rfl rfl (fun _ => rfl) rfl (fun _ => rfl) rfl)
    obtain ⟨hstopped, hleft⟩ := stationStop_stoppedBy (s := s.serving .stop tag []) (cause := .hostStop) hr.powered hserving
    have hby := hstopped.of_serving
    generalize stationStop .hostStop (s.serving .stop tag []) = u at ha hleft hby
    obtain ⟨hstore, hwu, hlu, hsmu, hmu⟩ := hleft.rest
    exact ⟨t, he, hby.of_answered ha, ha.replied, (ha.proj fun x => x.cu.liveCopy).trans hleft.copy, (ha.proj State.store).trans hstore,
      (ha.proj State.wu).trans hwu, (ha.proj State.lu).trans hlu, (ha.proj State.smu).trans hsmu, (ha.proj State.mu).trans hmu⟩
  · refine exec_replies rfl hr ((serveStop_eq _).trans (if_neg ?_))
    show ¬s.ss.station.stoppable = true
    rw [stoppable_iff]
    obtain h | h | h := hst <;> simp [h]

end Sys2Proof.Machine

/-! PROOFS. Trips in full, and the timers of the station (R25, R30 to R33). -/

namespace Sys2Proof.Machine

theorem whenRunning_of_isSome {t : Timer} (h : t.isSome = true) (s : State) (f : State → State) : whenRunning t s f = f s := if_pos h

theorem whenRunning_of_none {t : Timer} (h : t = none) (s : State) (f : State → State) : whenRunning t s f = s := by
  rw [h]
  rfl

theorem whenPowered_same {s : State} {f : State → State} (h : f s = s) : whenPowered s f = s := by
  unfold whenPowered
  split
  · exact h
  · rfl

/-- R33: a trip with the capture empty fills it. -/
theorem fillCapture_empty {cause : TripCause} {f : Nat} {s : State} (h : s.ss.capture = none) :
    fillCapture cause f s = s.onSs fun q => { q with capture := some (tripRecord cause f s) } := by
  unfold fillCapture State.onSs
  simp only [h]

theorem fillCapture_full {cause : TripCause} {f : Nat} {s : State} {r : TripRecord} (h : s.ss.capture = some r) :
    fillCapture cause f s = s.onSs fun q => { q with capture := some { r with overflow := true } } := by
  unfold fillCapture State.onSs
  simp only [h]

/-- R32, R33: a trip from a state other than TRIPPED. -/
theorem takeTrip_trippedBy {cause : TripCause} {f : Nat} {s : State} (hp : s.powered = true) (hs : s.Consistent)
    (hcapture : s.ss.capture = none) (hst : s.ss.station ≠ .tripped) : s.TrippedBy (takeTrip cause f s) cause f := by
  have h : LeftFor .tripped .trip _ s _ := leaveFor_leftFor (c := tripCauses) (g := fun q => { q with
    capture := some (tripRecord cause f s), startTimer := none, settleTimer := none, underspeedTimer := none, runDownTimer := none
    runDownMark := false }) hp hs (by decide) (by decide) rfl
  have htrip : takeTrip cause f s = post (.trip cause true) (leaveFor .tripped .trip tripCauses (s.onSs fun q => { q with
      capture := some (tripRecord cause f s), startTimer := none, settleTimer := none, underspeedTimer := none, runDownTimer := none
      runDownMark := false })) := by
    unfold takeTrip
    simp only []
    rw [if_neg hst, fillCapture_empty hcapture, hcapture]
    rfl
  rw [htrip]
  generalize leaveFor .tripped .trip tripCauses _ = t at h ⊢
  obtain ⟨relay, hss⟩ := h.sequencer
  obtain ⟨⟨d1, d2, d3, d4, d5⟩, l2, l3, l4, l5, l6, l7, l8, l9⟩ := h.loads
  have hpost := post_reportsOnly (.trip cause true) t
  have htripped := reportsSince_of_post (r := .trip cause true) (h.link.power.trans hp) h.link (.refl _)
  refine ⟨by rw [post_ss, hss], ?_, ?_, ?_, ?_, by rw [post_gc]; exact h.gate, hpost.reportsSince h.report, htripped⟩
  · rw [post_ss, hss]
    exact ⟨rfl, rfl, rfl, rfl⟩
  · rw [post_ss, hss]
    exact ⟨rfl, rfl⟩
  · obtain ⟨l, hl⟩ := post_eq (.trip cause true) t
    rw [hl]
    exact ⟨⟨d1, d2, d3, d4, d5⟩, l2, l3, l4, l5, l6, l7, l8, l9⟩
  · rw [post_ss, hss]
    rfl

/-- A trip counts from the state before the Station Sequencer stopped a timer. -/
theorem State.TrippedBy.of_onSs {s u : State} {cause : TripCause} {f : Nat} {g : Sequencer → Sequencer} (h : (s.onSs g).TrippedBy u cause f)
    (hg : (g s.ss).station = s.ss.station) : s.TrippedBy u cause f := by
  obtain ⟨h1, h2, h3, ⟨d, l2, l3, l4, l5, l6, l7, l8, l9⟩, h5, h6, h7, h8⟩ := h
  exact ⟨h1, h2, h3, ⟨d, l2, l3, l4, l5, l6, l7, l8, l9⟩, h5, h6, hg ▸ h7, h8⟩

theorem consistent_onSs {s : State} (h : s.Consistent) (g : Sequencer → Sequencer) : (s.onSs g).Consistent :=
  (consistent_iff _).mpr (((consistent_iff s).mp h).of_eq rfl rfl (fun _ => rfl) rfl (fun _ => rfl) rfl)

/-! ### The timers -/

theorem exec_startTimer_stopped {s : State} (h : s.ss.startTimer = none) : exec .startTimerExpiry s = .next s :=
  congrArg Host.Outcome.next (whenPowered_same (whenRunning_of_none h s _))

theorem exec_underspeedTimer_stopped {s : State} (h : s.ss.underspeedTimer = none) : exec .underspeedTimerExpiry s = .next s :=
  congrArg Host.Outcome.next (whenPowered_same (whenRunning_of_none h s _))

theorem exec_startTimer {s : State} (hp : s.powered = true) (h : s.ss.startTimer.isSome = true) :
    exec .startTimerExpiry s = .next (startTimeout s) :=
  congrArg Host.Outcome.next ((whenPowered_on hp _).trans (whenRunning_of_isSome h s _))

theorem exec_underspeedTimer {s : State} (hp : s.powered = true) (h : s.ss.underspeedTimer.isSome = true) :
    exec .underspeedTimerExpiry s = .next (underspeedTimeout s) :=
  congrArg Host.Outcome.next ((whenPowered_on hp _).trans (whenRunning_of_isSome h s _))

theorem exec_runDownTimer {s : State} (hp : s.powered = true) (h : s.ss.runDownTimer.isSome = true) :
    exec .runDownTimerExpiry s = .next (runDownTimeout s) :=
  congrArg Host.Outcome.next ((whenPowered_on hp _).trans (whenRunning_of_isSome h s _))

/-- Settles O13: a timer that runs out in its state trips or ends the run-down. -/
theorem stationTimers : Obligations.StationTimers := by
  intro s hp
  refine ⟨fun hs hcapture => ⟨fun ht => ?_, fun ht => ?_, exec_startTimer_stopped, exec_underspeedTimer_stopped⟩,
    fun hst ht => ⟨fun hgate => ?_, fun hgate => ?_⟩⟩
  · split
    · next hst =>
      refine ⟨_, (exec_startTimer hp ht).trans (congrArg _ (if_pos hst)), ?_⟩
      refine State.TrippedBy.of_onSs (takeTrip_trippedBy hp (consistent_onSs hs _) hcapture ?_) rfl
      show s.ss.station ≠ .tripped
      obtain h | h := hst <;> simp [h]
    · next hst => exact (exec_startTimer hp ht).trans (congrArg _ (if_neg hst))
  · split
    · next hst =>
      refine ⟨_, (exec_underspeedTimer hp ht).trans (congrArg _ (if_pos hst)), ?_⟩
      refine State.TrippedBy.of_onSs (takeTrip_trippedBy hp (consistent_onSs hs _) hcapture ?_) rfl
      show s.ss.station ≠ .tripped
      simp [hst]
    · next hst => exact (exec_underspeedTimer hp ht).trans (congrArg _ (if_neg hst))
  · rw [exec_runDownTimer hp ht]
    exact congrArg _ ((if_pos hst).trans (if_neg hgate))
  · refine ⟨_, (exec_runDownTimer hp ht).trans (congrArg _ ((if_pos hst).trans (if_pos hgate))), ?_⟩
    obtain ⟨hss, hframe, hrep⟩ := enterStopped_eq .runDown
      (s := (s.onSs fun q => { q with runDownTimer := none }).onSs fun q => { q with runDownMark := true }) hp
    refine ⟨?_, hframe, ?_⟩
    · rw [hss, setStation_ss]
      simp [State.onSs, hst]
    · rw [← hst]
      exact hrep

end Sys2Proof.Machine

/-! PROOFS. A release notice in full, and the ways out of engagement (R72, R82, R98, R99). -/

namespace Sys2Proof.Machine

/-! ### Release notices -/

/-- R56, R74: an entry is removed, and the shortfall tested. -/
def released (o : Owner) (s : State) : State := shortfallTest (removeFromTable o s)

theorem released_frame (o : Owner) (s : State) : ∃ (g : GateController) (timer : Timer), released o s =
    { s with da := { s.da with table := s.da.table.filter fun e => decide (e.owner ≠ o), shortfallTimer := timer }, gc := g } := by
  obtain ⟨g, hg⟩ := removeFromTable_frame o s
  obtain ⟨timer, ht⟩ := shortfallTest_frame (removeFromTable o s)
  unfold released
  rw [ht, hg]
  exact ⟨g, timer, rfl⟩

theorem releaseNotice_cases (arb : State → State) (o : Owner) (s : State) :
    s.tableHas o = false ∧ releaseNotice arb o s = s ∨ s.tableHas o = true ∧ releaseNotice arb o s = arb (released o s) := by
  unfold releaseNotice released
  split
  · next h => exact .inr ⟨h, rfl⟩
  · next h => exact .inl ⟨Bool.eq_false_iff.mpr h, rfl⟩

theorem released_tableHas (o : Owner) (s : State) : (released o s).tableHas o = false := by
  obtain ⟨g, timer, h⟩ := released_frame o s
  rw [h]
  simp [State.tableHas]

/-- R72: after a release notice its owner, where it does not wait, has no entry. -/
theorem releaseNotice_tableHas {o : Owner} {s : State} (hq : s.queueHas o = false) (hask : ¬s.mayAsk o) :
    (releaseNotice arbitrate o s).tableHas o = false := by
  obtain ⟨hno, hsame⟩ | ⟨_, hrel⟩ := releaseNotice_cases arbitrate o s
  · rw [hsame, hno]
  · rw [hrel]
    obtain ⟨g, timer, hframe⟩ := released_frame o s
    have hq' : (released o s).queueHas o = false := by rw [hframe]; exact hq
    have hask' : ¬(released o s).mayAsk o := by
      rw [hframe]
      cases o <;> exact hask
    refine Bool.eq_false_iff.mpr fun ht => ?_
    obtain h | h | h := (settling_arbitrate (released o s)).table o ht
    · simp [released_tableHas] at h
    · simp [hq'] at h
    · exact hask' h

/-- R67, R72: while the spacing timer runs, a release notice is the removal and the shortfall test alone. -/
theorem releaseNotice_of_spacing {o : Owner} {s : State} (hs : s.da.spacingTimer.isSome = true) (ht : s.tableHas o = true) :
    releaseNotice arbitrate o s = released o s := by
  obtain ⟨g, timer, hframe⟩ := released_frame o s
  obtain ⟨hno, _⟩ | ⟨_, hrel⟩ := releaseNotice_cases arbitrate o s
  · simp [ht] at hno
  · rw [hrel]
    exact arbitrate_of_spacing (by rw [hframe]; exact hs)

/-! ### A slot is taken out -/

theorem postAborted_sight {i : Fin 4} {b : Slot} {s : State} (hp : s.powered = true) (h : b.state = .cutting ∨ b.state = .held) :
    s.reportsSince (postAborted i b s) (.stroke i .aborted b.strokes b.remaining) := by
  unfold postAborted
  rw [if_pos h]
  exact reportsSince_of_post hp (.refl s) (.refl _)

theorem postAborted_reportsOnly (i : Fin 4) (b : Slot) (s : State) : ReportsOnly s (postAborted i b s) := by
  unfold postAborted
  split
  · exact post_reportsOnly _ s
  · exact .refl s

/-- What taking a slot out leaves. -/
structure Out (s t : State) (i : Fin 4) (cause : DriveCause) : Prop where
  takenOut : s.TakenOut t i cause
  after : Aftermath True s t
  reports : ReportsOnly s t
  aborted : (s.slot i).state = .cutting ∨ (s.slot i).state = .held →
    s.reportsSince t (.stroke i .aborted (s.slot i).strokes (s.slot i).remaining)

/-- R98, R99: a slot is taken out, by whatever drops its table entry. -/
theorem takeOut_out {release : State → State} {cause : DriveCause} {i : Fin 4} {s : State} (hp : s.powered = true)
    (heng : (s.slot i).state.engaged = true) (hslot : (release (s.onSlot i Slot.toCoasting)).slot i = (s.slot i).toCoasting)
    (htable : (release (s.onSlot i Slot.toCoasting)).tableHas (.drive i) = false)
    (hafter : Aftermath True (s.onSlot i Slot.toCoasting) (release (s.onSlot i Slot.toCoasting)))
    (hreports : ReportsOnly (s.onSlot i Slot.toCoasting) (release (s.onSlot i Slot.toCoasting))) :
    Out s (takeOut release cause i s) i cause := by
  unfold takeOut
  simp only []
  generalize release (s.onSlot i Slot.toCoasting) = x at *
  have hout : Aftermath True s (s.onSlot i Slot.toCoasting) := aftermath_onSlot heng Slot.toCoasting (fun _ => rfl) fun _ => rfl
  have hx : ReportsOnly s x := (show ReportsOnly s (s.onSlot i Slot.toCoasting) from .of_sl rfl rfl).trans hreports
  have ha := postAborted_reportsOnly i (s.slot i) x
  have hpost := post_reportsOnly (.drive i .coasting (s.slot i).state cause 0 (s.slot i).strokes) (postAborted i (s.slot i) x)
  have hpx : x.powered = true := hx.power.trans hp
  refine ⟨⟨?_, ?_, reportsSince_of_post (ha.power.trans hpx) (hx.trans ha) (.refl _)⟩, ?_, (hx.trans ha).trans hpost, fun h => ?_⟩
  · rw [post_slot, postAborted_slot, hslot]
    rfl
  · unfold State.tableHas at *
    rw [post_da, postAborted_da]
    exact htable
  · exact ((hout.trans hafter).trans (aftermath_postAborted i _ x)).trans (aftermath_post _ _)
  · exact hpost.reportsSince (hx.since ha (postAborted_sight hpx h))

theorem releaseNotice_reportsOnly (o : Owner) (s : State) : ReportsOnly s (releaseNotice arbitrate o s) := by
  obtain ⟨_, hsame⟩ | ⟨_, hrel⟩ := releaseNotice_cases arbitrate o s
  · rw [hsame]
    exact .refl s
  · obtain ⟨g, timer, hframe⟩ := released_frame o s
    rw [hrel]
    have h : ReportsOnly s (released o s) := .of_sl (by rw [hframe]) (by rw [hframe])
    exact h.trans (calm_arbitrate _).reportsOnly

/-- R72: a release notice leaves a slot alone that is not engaged and does not wait. -/
theorem releaseNotice_slot {o : Owner} {j : Fin 4} {s : State} (hq : s.queueHas (.drive j) = false) (he : (s.slot j).state.engaged = false) :
    (releaseNotice arbitrate o s).slot j = s.slot j :=
  (aftermath_releaseNotice settling_arbitrate o s).slots j hq (.inl he)

/-- R98, R99: an engaged slot that does not wait is taken out with a release notice. -/
theorem takeOut_release {cause : DriveCause} {i : Fin 4} {s : State} (hp : s.powered = true) (heng : (s.slot i).state.engaged = true)
    (hq : s.queueHas (.drive i) = false) : Out s (takeOut (releaseNotice arbitrate (.drive i)) cause i s) i cause := by
  have hself : (s.onSlot i Slot.toCoasting).slot i = (s.slot i).toCoasting := (State.onSlot_slot s i i _).trans (if_pos rfl)
  refine takeOut_out hp heng ?_ (releaseNotice_tableHas (o := .drive i) hq id) (aftermath_releaseNotice settling_arbitrate _ _)
    (releaseNotice_reportsOnly _ _)
  rw [releaseNotice_slot (s := s.onSlot i Slot.toCoasting) (j := i) hq (by rw [hself]; rfl), hself]

theorem forcedOut_of_engaged {cause : DriveCause} (hc : cause ≠ .shortfall) {i : Fin 4} {s : State} (heng : (s.slot i).state.engaged = true) :
    forcedOut arbitrate cause i s = takeOut (releaseNotice arbitrate (.drive i)) cause i s := by
  unfold forcedOut
  rw [if_pos heng, if_neg hc]

theorem forcedOut_of_free (arb : State → State) (cause : DriveCause) {i : Fin 4} {s : State} (h : (s.slot i).state.engaged = false) :
    forcedOut arb cause i s = s := if_neg (by simp [h])

/-- R99: after a forced out the slot is not engaged. -/
theorem forcedOut_engaged {cause : DriveCause} (hc : cause ≠ .shortfall) (i : Fin 4) {s : State} (hp : s.powered = true)
    (hq : s.queueHas (.drive i) = false) : ((forcedOut arbitrate cause i s).slot i).state.engaged = false := by
  by_cases h : (s.slot i).state.engaged = true
  · rw [forcedOut_of_engaged hc h, (takeOut_release hp h hq).takenOut.slot]
    rfl
  · have h := Bool.eq_false_iff.mpr h
    rw [forcedOut_of_free _ _ h, h]

end Sys2Proof.Machine

/-! PROOFS. The Watch Unit (R49 to R54): transitions, sample periods, SET_WATCH and ACK_WATCH. -/

namespace Sys2Proof.Machine

/-! ### What the action of a detection leaves: the watch inputs, and the reports in sight -/

theorem wu_of_still {s t : State} (h : t.still = s.still) : t.wu = s.wu := by
  show t.still.wu = s.still.wu
  rw [h]

theorem evict_reports (new : StationState) (cause : StationCause) (c : DownCause) (g : Sequencer → Sequencer) (s : State)
    (hnew : new ≠ .live) (hc : c.drive ≠ .shortfall) :
    ReportsOnly s (evict new cause c g s) ∧ (evict new cause c g s).wu = s.wu := by
  obtain ⟨v, w, ⟨⟨relay, copy, correction, l, hv⟩, hreports, _, hcalm⟩, _, hevict⟩ := evict_parts new cause c g s hnew hc
  have hwu : w.wu = v.wu := wu_of_still (Disps.still hcalm)
  rw [hevict]
  exact ⟨(hreports.trans hcalm.reportsOnly).trans (.of_sl rfl rfl), hwu.trans (by rw [hv])⟩

theorem recomputeLimit_wu (s : State) : (recomputeLimit s).wu = s.wu := wu_of_still (s := s.limited) (still_recomputeLimit s)

theorem leaveFor_reports {new : StationState} (cause : StationCause) {c : DownCause} {g : Sequencer → Sequencer} {s : State}
    (hnew : new ≠ .live) (hc : c.drive ≠ .shortfall) (station : (g s.ss).station = s.ss.station) :
    ReportsOnly s (leaveFor new cause c (s.onSs g)) ∧ (leaveFor new cause c (s.onSs g)).wu = s.wu := by
  obtain ⟨hreports, hwu⟩ := evict_reports new cause c (fun q => { g q with standing := false }) s hnew hc
  rw [leaveFor_eq new cause c g s station]
  generalize evict new cause c (fun q => { g q with standing := false }) s = x at hreports hwu ⊢
  have hhold : ReportsOnly s (x.onDs fun d => { d with feedHold := false }) := hreports.trans (.of_sl rfl rfl)
  split
  · exact ⟨hhold.trans (recomputeLimit_reportsOnly _), (recomputeLimit_wu _).trans hwu⟩
  · exact ⟨hhold, hwu⟩

theorem stationStop_reports (cause : StationCause) (s : State) : ReportsOnly s (stationStop cause s) ∧ (stationStop cause s).wu = s.wu :=
  leaveFor_reports cause (c := stopCauses) (by decide) (by decide) rfl

theorem fillCapture_eq (cause : TripCause) (f : Nat) (s : State) : ∃ r, fillCapture cause f s = s.onSs fun q => { q with capture := some r } := by
  cases h : s.ss.capture with
  | none => exact ⟨_, fillCapture_empty h⟩
  | some r => exact ⟨_, fillCapture_full h⟩

theorem takeTrip_reports (cause : TripCause) (f : Nat) (s : State) : ReportsOnly s (takeTrip cause f s) ∧ (takeTrip cause f s).wu = s.wu := by
  obtain ⟨r, hr⟩ := fillCapture_eq cause f s
  unfold takeTrip
  simp only []
  rw [hr, post_wu]
  split
  · have hset : ReportsOnly s (s.onSs fun q => { q with capture := some r }) := .of_sl rfl rfl
    exact ⟨hset.trans (post_reportsOnly _ _), rfl⟩
  · obtain ⟨hreports, hwu⟩ := leaveFor_reports (new := .tripped) .trip (c := tripCauses) (s := s) (g := fun q => { q with
      capture := some r, startTimer := none, settleTimer := none, underspeedTimer := none, runDownTimer := none
      runDownMark := false }) (by decide) (by decide) rfl
    exact ⟨hreports.trans (post_reportsOnly _ _), hwu⟩

theorem drivesOut_still (s : State) : (drivesOut s).still = s.still :=
  (still_forcedOutAll arbitrate_keeps _ _ _).trans (still_withdrawDrives _ _)

/-- R52: no action reaches the watch inputs, and every one keeps the reports in sight. -/
theorem watchAct_reports (i : Fin 4) (a : WatchAction) (s : State) : ReportsOnly s (watchAct i a s) ∧ (watchAct i a s).wu = s.wu := by
  cases a with
  | report => exact ⟨.refl s, rfl⟩
  | rake => exact ⟨(calm_dueTrigger arbitrate_arbitrates feedersOnly_nil .watch s).reportsOnly, wu_of_still (still_dueTrigger arbitrate_keeps .watch s)⟩
  | drivesOut =>
    have hcalm : Calm [] s (drivesOut s) :=
      (calm_withdrawDrives .watch s).trans (calm_forcedOutAll arbitrate_arbitrates feedersOnly_nil (by decide) _ _)
    exact ⟨hcalm.reportsOnly, wu_of_still (drivesOut_still s)⟩
  | stop =>
    unfold watchAct
    simp only []
    split
    · exact stationStop_reports _ s
    · exact ⟨.refl s, rfl⟩
  | trip => exact takeTrip_reports _ _ s

/-! ### A detection -/

/-- R52: the state in which a detection's action is applied. -/
def detected (i : Fin 4) (s : State) : State :=
  postWatch i true (alarmChanged .watch (s.onInput i fun w => { w with latched := true, counter := 0 }))

/-- R52, R54: what a latched flag that changes reaches, with its report. -/
theorem postLatch_frame (i : Fin 4) (b : Bool) (g : WatchInput → WatchInput) (s : State) :
    let x := postWatch i b (alarmChanged .watch (s.onInput i g))
    x = { s with wu := (s.onInput i g).wu, ss := { s.ss with alarmRelay := x.ss.alarmRelay }, sl := x.sl } := by
  intro x
  obtain ⟨relay, hrelay⟩ := alarmChanged_frame .watch (s.onInput i g)
  obtain ⟨l, hl⟩ := post_eq (.watch i b ((alarmChanged .watch (s.onInput i g)).input i).setting.mode
    ((alarmChanged .watch (s.onInput i g)).input i).setting.action (alarmChanged .watch (s.onInput i g)).wu.pins[i]) (alarmChanged .watch (s.onInput i g))
  have hx : x = { s with wu := (s.onInput i g).wu, ss := { s.ss with alarmRelay := relay }, sl := l } := by
    refine hl.trans ?_
    rw [hrelay]
    rfl
  rw [hx]

theorem alarmChanged_onInput (i : Fin 4) (g : WatchInput → WatchInput) (s : State) :
    (alarmChanged .watch (s.onInput i g)).input i = g (s.input i) := by
  unfold State.input
  rw [alarmChanged_wu]
  exact (State.onInput_input s i i g).trans (if_pos rfl)

theorem postLatch_reports (i : Fin 4) (b : Bool) (g : WatchInput → WatchInput) (hg : ∀ w, (g w).setting = w.setting) {s : State} (hp : s.powered = true) :
    let x := postWatch i b (alarmChanged .watch (s.onInput i g))
    ReportsOnly s x ∧ s.reportsSince x (.watch i b (s.input i).setting.mode (s.input i).setting.action s.wu.pins[i]) := by
  have hlatch : ReportsOnly s (alarmChanged .watch (s.onInput i g)) := .of_sl (by simp) (by simp)
  have hsetting := congrArg WatchInput.setting (alarmChanged_onInput i g s)
  rw [hg] at hsetting
  have hpins : (alarmChanged .watch (s.onInput i g)).wu.pins = s.wu.pins := by
    rw [alarmChanged_wu]
    rfl
  unfold postWatch
  rw [hsetting, hpins]
  exact ⟨hlatch.trans (post_reportsOnly _ _), reportsSince_of_post (by simpa using hp) hlatch (.refl _)⟩

theorem detect_eq (i : Fin 4) (s : State) : detect i s = watchAct i (s.input i).setting.action (detected i s) := by
  unfold detect detected
  simp only [alarmChanged_onInput]

/-- R52: a detection latches its input, is reported, and leaves the other inputs. -/
theorem detect_spec (i : Fin 4) {s : State} (hp : s.powered = true) : (detect i s).wu = (s.onInput i fun w => { w with latched := true, counter := 0 }).wu
    ∧ ReportsOnly s (detect i s)
    ∧ s.reportsSince (detect i s) (.watch i true (s.input i).setting.mode (s.input i).setting.action s.wu.pins[i]) := by
  obtain ⟨hlink, hreport⟩ := postLatch_reports i true (fun w => { w with latched := true, counter := 0 }) (fun _ => rfl) hp
  obtain ⟨hact, hwu⟩ := watchAct_reports i (s.input i).setting.action (detected i s)
  rw [detect_eq]
  refine ⟨hwu.trans ?_, hlink.trans hact, hact.reportsSince hreport⟩
  rw [detected, postLatch_frame]

/-! ### A transition (R51) -/

/-- R49, R51: what an input in an EDGE mode waits for. -/
theorem edge_at_level_iff (m : WatchMode) (high : Bool) : (m.isEdge = true ∧ m.destination = some high)
    ↔ high = true ∧ m = .edgeRising ∨ high = false ∧ m = .edgeFalling := by
  cases m <;> cases high <;> simp [WatchMode.isEdge, WatchMode.destination]

/-- The wire of an input moves. -/
def State.moved (s : State) (i : Fin 4) (high : Bool) : State := { s with wu := { s.wu with pins := s.wu.pins.set i high } }

theorem watchTransition_eq (i : Fin 4) (high : Bool) {s : State} (hp : s.powered = true) : watchTransition i high s =
    if (high = true ∧ (s.input i).setting.mode = .edgeRising ∨ high = false ∧ (s.input i).setting.mode = .edgeFalling)
      ∧ (s.input i).latched = false then detect i (s.moved i high) else s.moved i high := by
  have hpin : (s.moved i high).wu.pins[i] = high := by
    show (s.wu.pins.set i high)[i] = high
    simp
  have hiff : (s.powered = true ∧ (s.input i).setting.mode.isEdge = true ∧ (s.moved i high).atDestination i = true ∧ (s.input i).latched = false)
      ↔ (high = true ∧ (s.input i).setting.mode = .edgeRising ∨ high = false ∧ (s.input i).setting.mode = .edgeFalling)
        ∧ (s.input i).latched = false := by
    rw [← edge_at_level_iff]
    unfold State.atDestination
    rw [hpin, decide_eq_true_eq]
    show (s.powered = true ∧ (s.input i).setting.mode.isEdge = true ∧ (s.input i).setting.mode.destination = some high ∧ _) ↔ _
    simp only [hp, true_and, and_assoc]
  show (if s.powered = true ∧ (s.input i).setting.mode.isEdge = true ∧ (s.moved i high).atDestination i = true ∧ (s.input i).latched = false
    then detect i (s.moved i high) else s.moved i high) = _
  simp only [hiff]

/-! ### What a detection's action leaves (R53) -/

/-- R53: DRIVES_OUT leaves no drive engaged and none waiting. -/
theorem drivesOut_drives {s : State} (hp : s.powered = true) :
    (∀ j, ((drivesOut s).slot j).state.engaged = false) ∧ ∀ j, (drivesOut s).queueHas (.drive j) = false := by
  have hfold : ∀ (l : List (Fin 4)) (x : State), x.powered = true → (∀ j, x.queueHas (.drive j) = false) →
      (∀ j, j ∉ l → (x.slot j).state.engaged = false) →
      let t := l.foldl (fun s i => forcedOut arbitrate .watch i s) x
      (∀ j, t.queueHas (.drive j) = false) ∧ ∀ j, (t.slot j).state.engaged = false := by
    intro l
    induction l with
    | nil => exact fun x _ hq hl => ⟨hq, fun j => hl j List.not_mem_nil⟩
    | cons i rest ih =>
      intro x hpx hq hl
      have haft := aftermath_forcedOut settling_arbitrate (cause := .watch) (by decide) i x
      refine ih _ ?_ (fun j => haft.not_queued (hq j) id) fun j hj => ?_
      · exact (calm_forcedOut arbitrate_arbitrates feedersOnly_nil (by decide) i x).reportsOnly.power.trans hpx
      · by_cases hij : j = i
        · subst hij
          exact forcedOut_engaged (by decide) j hpx (hq j)
        · refine Bool.eq_false_iff.mpr fun hk => ?_
          have := haft.engaged j (hq j) hk
          rw [hl j (by simp [hij, hj])] at this
          cases this
  have hpw : (withdrawDrives .watch s).powered = true := (calm_withdrawDrives .watch s).reportsOnly.power.trans hp
  obtain ⟨hq, he⟩ := hfold allSlots _ hpw (withdrawDrives_withdrawn .watch s).queue fun j hj => absurd (mem_allSlots j) hj
  exact ⟨he, hq⟩

end Sys2Proof.Machine

/-! PROOFS. The obligations of the Watch Unit (R49 to R54). -/

namespace Sys2Proof.Machine

/-- What a detection reaches before its action. -/
structure DetectedFrom (s x : State) : Prop where
  frame : x = { s with wu := x.wu, ss := { s.ss with alarmRelay := x.ss.alarmRelay }, sl := x.sl }
  link : ReportsOnly s x

theorem detected_from (i : Fin 4) {s : State} (hp : s.powered = true) : DetectedFrom s (detected i s)
    ∧ (detected i s).wu = (s.onInput i fun w => { w with latched := true, counter := 0 }).wu := by
  have hframe := postLatch_frame i true (fun w => { w with latched := true, counter := 0 }) s
  have hwu : (detected i s).wu = (s.onInput i fun w => { w with latched := true, counter := 0 }).wu := by rw [detected, hframe]
  refine ⟨⟨?_, (postLatch_reports i true (fun w => { w with latched := true, counter := 0 }) (fun _ => rfl) hp).1⟩, hwu⟩
  rw [hwu]
  exact hframe

theorem DetectedFrom.consistent {s x : State} (h : DetectedFrom s x) (hs : s.Consistent) : x.Consistent := by
  rw [h.frame]
  exact (consistent_iff _).mpr (((consistent_iff s).mp hs).of_eq rfl rfl (fun _ => rfl) rfl (fun _ => rfl) rfl)

theorem DetectedFrom.still {s x : State} (h : DetectedFrom s x) : x.still = ({ s with wu := x.wu } : State).still := by
  conv_lhs => rw [h.frame]
  exact still_of_link (s := { s with wu := x.wu }) h.link.link

theorem DetectedFrom.loads {s x t : State} (h : DetectedFrom s x) (k : x.LoadsTakenDown t) : s.LoadsTakenDown t := by
  obtain ⟨d, l2, l3, l4, l5, l6, l7, l8, l9⟩ := k
  rw [h.frame] at l3 l4 l5
  exact ⟨d, l2, l3, l4, l5, l6, l7, l8, l9⟩

/-- A stop at a detection counts from the state before the detection. -/
theorem DetectedFrom.stoppedBy {s x t : State} {cause : StationCause} (h : DetectedFrom s x) (hxt : ReportsOnly x t) (k : x.StoppedBy t cause) :
    s.StoppedBy t cause := by
  obtain ⟨h1, h2, h3, h4, ⟨h5, h6⟩, h7⟩ := k
  have hst : x.ss.station = s.ss.station := by rw [h.frame]
  have hcap : x.ss.capture = s.ss.capture := by rw [h.frame]
  have hgate : x.gc.gateOut = s.gc.gateOut := by rw [h.frame]
  exact ⟨h1, h2, h3, h.loads h4, ⟨h5.trans hcap, h6.trans hgate⟩, h.link.since hxt (hst ▸ h7)⟩

/-- A trip at a detection counts from the state before the detection. -/
theorem DetectedFrom.trippedBy {s x t : State} {cause : TripCause} {f : Nat} (h : DetectedFrom s x) (hxt : ReportsOnly x t)
    (k : x.TrippedBy t cause f) : s.TrippedBy t cause f := by
  obtain ⟨h1, h2, h3, h4, h5, h6, h7, h8⟩ := k
  have hst : x.ss.station = s.ss.station := by rw [h.frame]
  have hgate : x.gc.gateOut = s.gc.gateOut := by rw [h.frame]
  have hcu : x.cu = s.cu := by rw [h.frame]
  have hsum : x.bookingSum = s.bookingSum := by unfold State.bookingSum; rw [h.frame]
  have hda : x.da = s.da := by rw [h.frame]
  rw [hcu, hgate, hsum, hda] at h5
  exact ⟨h1, h2, h3, h.loads h4, h5, h6.trans hgate, h.link.since hxt (hst ▸ h7), h.link.since hxt h8⟩

/-- R106: after a due trigger the rake is not IDLE. -/
theorem dueTrigger_not_idle (cause : RakeCause) (s : State) : (dueTrigger arbitrate cause s).rk.state ≠ .idle := by
  by_cases h : s.rk.state = .idle
  · have hdue : dueTrigger arbitrate cause s = rakeRequest arbitrate (postRake .idle cause (s.onRk fun k =>
        { k with dueTimer := none, graceTimer := some (k.params.grace * 60000), graceSpent := false, state := .due })) := if_pos h
    rw [hdue]
    refine Disps.rakeBusy (calm_rakeRequest arbitrate_arbitrates feedersOnly_nil _) ?_
    simp [postRake]
  · have hsame : dueTrigger arbitrate cause s = s := if_neg h
    rwa [hsame]

/-- R33: a trip in TRIPPED sets the overflow flag of the capture alone. -/
theorem takeTrip_tripped {cause : TripCause} {f : Nat} {s : State} {r : TripRecord} (hst : s.ss.station = .tripped) (hr : s.ss.capture = some r) :
    takeTrip cause f s = post (.trip cause false) (s.onSs fun q => { q with capture := some { r with overflow := true } }) := by
  unfold takeTrip
  simp only []
  rw [if_pos hst, fillCapture_full hr, hr]
  rfl

theorem dueTrigger_eq_watchAct (i : Fin 4) (s : State) : watchAct i .rake s = dueTrigger arbitrate .watch s := rfl

/-- Settles O17: a transition moves the wire, and a detection's action is applied. -/
theorem watchEdge : Obligations.WatchEdge := by
  intro i high s hp
  refine ⟨fun h => ?_, fun hl hedge => ?_⟩
  · refine congrArg Host.Outcome.next ((watchTransition_eq i high hp).trans (if_neg ?_))
    rintro ⟨hedge, hl⟩
    obtain h | ⟨hup, hdown⟩ := h
    · simp [h] at hl
    · obtain ⟨hh, hm⟩ | ⟨hh, hm⟩ := hedge
      · exact hup hh hm
      · exact hdown hh hm
  · have hpin : (s.moved i high).wu.pins[i] = high := by
      show (s.wu.pins.set i high)[i] = high
      simp
    obtain ⟨hfrom, hwu⟩ := detected_from i (s := s.moved i high) hp
    obtain ⟨htwu, hlink, hreport⟩ := detect_spec i (s := s.moved i high) hp
    obtain ⟨hact, hactwu⟩ := watchAct_reports i (s.input i).setting.action (detected i (s.moved i high))
    have heq : detect i (s.moved i high) = watchAct i (s.input i).setting.action (detected i (s.moved i high)) := detect_eq i (s.moved i high)
    rw [hpin] at hreport
    refine ⟨detect i (s.moved i high), congrArg Host.Outcome.next ((watchTransition_eq i high hp).trans (if_pos ⟨hedge, hl⟩)), htwu, hreport, ?_⟩
    have hlast : (detected i (s.moved i high)).smu = s.smu := by rw [hfrom.frame]; rfl
    have hsame : ∀ t : State, t.still = (detected i (s.moved i high)).still → t.wu = (detected i (s.moved i high)).wu →
        t.still = ({ s.moved i high with wu := t.wu } : State).still := fun t ht hw => by rw [ht, hw, hfrom.still]
    have hstation : (detected i (s.moved i high)).ss.station = s.ss.station := by rw [hfrom.frame]; rfl
    have hcapture : (detected i (s.moved i high)).ss.capture = s.ss.capture := by rw [hfrom.frame]; rfl
    have hhere : DetectedFrom s (detected i (s.moved i high)) :=
      ⟨hfrom.frame, (show ReportsOnly s (s.moved i high) from .of_sl rfl rfl).trans hfrom.link⟩
    rw [heq]
    generalize hx : detected i (s.moved i high) = x at *
    have hpx : x.powered = true := hfrom.link.power.trans hp
    refine ⟨fun ha => ?_, fun ha => ?_, fun ha => ?_, fun ha hs => ?_, fun ha hs hc hst => ?_, fun r ha hst hr => ?_⟩
    · rw [ha]
      refine ⟨hsame x rfl rfl, ?_, ?_, ?_, ?_⟩ <;> exact (by rw [hfrom.frame]; rfl)
    · rw [ha] at hactwu ⊢
      exact ⟨hsame _ (still_dueTrigger arbitrate_keeps .watch x) hactwu, dueTrigger_not_idle .watch x⟩
    · rw [ha] at hactwu ⊢
      obtain ⟨hno, hq⟩ := drivesOut_drives hpx
      exact ⟨hsame _ (drivesOut_still x) hactwu, hno, no_drive_queued_iff.mpr hq⟩
    · rw [ha] at hactwu hact ⊢
      have hstop : watchAct i .stop x = if s.ss.station.stoppable then stationStop .watchStop x else x := by
        rw [← hstation]
        rfl
      rw [hstop] at hactwu hact ⊢
      split
      · next hst =>
        rw [if_pos ((stoppable_iff _).mpr hst)] at hact ⊢
        exact hhere.stoppedBy hact (stationStop_stoppedBy hpx (hhere.consistent hs)).1
      · next hst =>
        rw [if_neg (mt (stoppable_iff _).mp hst)]
        exact hsame x rfl rfl
    · rw [ha] at hact ⊢
      have htrip : watchAct i .trip x = takeTrip (.watch i) s.smu.lastFreq x := by
        rw [← hlast]
        rfl
      rw [htrip] at hact ⊢
      exact hhere.trippedBy hact (takeTrip_trippedBy hpx (hhere.consistent hs) (hcapture.trans hc) (by rw [hstation]; exact hst))
    · rw [ha]
      have htrip : watchAct i .trip x = post (.trip (.watch i) false) (x.onSs fun q => { q with capture := some { r with overflow := true } }) :=
        takeTrip_tripped (hstation.trans hst) (hcapture.trans hr)
      have hset : ReportsOnly s (x.onSs fun q => { q with capture := some { r with overflow := true } }) := hhere.link.trans (.of_sl rfl rfl)
      rw [htrip]
      refine ⟨?_, reportsSince_of_post (t := x.onSs fun q => { q with capture := some { r with overflow := true } }) hpx hset (.refl _)⟩
      obtain ⟨l, hl⟩ := post_eq (.trip (.watch i) false) (x.onSs fun q => { q with capture := some { r with overflow := true } })
      rw [hl]
      conv_lhs => rw [hhere.frame]
      rfl

end Sys2Proof.Machine

/-! PROOFS. A sample period of the Watch Unit (R52). -/

namespace Sys2Proof.Machine

/-- R52: an input in a LEVEL mode, not latched, its wire at `pin`, that stands at its level for the last time before its detection. -/
def WatchInput.ripe (w : WatchInput) (pin : Bool) : Prop :=
  (w.setting.mode.isLevel = true ∧ w.latched = false) ∧ w.setting.mode.destination = some pin ∧ w.setting.filterCount ≤ w.counter + 1

/-- R52: what a sample period makes of an input with its wire at `pin`. -/
def WatchInput.sampled (pin : Bool) (w : WatchInput) : WatchInput :=
  if w.setting.mode.isLevel = true ∧ w.latched = false then
    if w.setting.mode.destination = some pin then
      if w.counter + 1 ≥ w.setting.filterCount then { w with latched := true, counter := 0 } else { w with counter := w.counter + 1 }
    else { w with counter := 0 }
  else w

theorem onInput_wu_congr (i : Fin 4) {g h : WatchInput → WatchInput} {s : State} (hg : g (s.input i) = h (s.input i)) :
    (s.onInput i g).wu = (s.onInput i h).wu := by
  show ({ s.wu with inputs := s.wu.inputs.set i (g (s.input i)) } : WatchUnit) = { s.wu with inputs := s.wu.inputs.set i (h (s.input i)) }
  rw [hg]

theorem onInput_wu_same (i : Fin 4) {g : WatchInput → WatchInput} {s : State} (hg : g (s.input i) = s.input i) : (s.onInput i g).wu = s.wu := by
  show ({ s.wu with inputs := s.wu.inputs.set i (g (s.input i)) } : WatchUnit) = s.wu
  rw [hg]
  show ({ s.wu with inputs := s.wu.inputs.set i s.wu.inputs[i] } : WatchUnit) = s.wu
  simp

theorem input_of_wu {s t : State} (h : t.wu = s.wu) (j : Fin 4) : t.input j = s.input j := by
  unfold State.input
  rw [h]

/-- R52: one input's share of a sample period. -/
theorem sampleInput_spec (i : Fin 4) {s : State} (hp : s.powered = true) :
    (sampleInput s i).wu = (s.onInput i (WatchInput.sampled s.wu.pins[i])).wu ∧ ReportsOnly s (sampleInput s i)
    ∧ ((s.input i).ripe s.wu.pins[i] →
        s.reportsSince (sampleInput s i) (.watch i true (s.input i).setting.mode (s.input i).setting.action s.wu.pins[i])) := by
  have hdest : s.atDestination i = true ↔ (s.input i).setting.mode.destination = some s.wu.pins[i] := decide_eq_true_iff
  unfold sampleInput WatchInput.ripe
  simp only [hdest]
  by_cases hlevel : (s.input i).setting.mode.isLevel = true ∧ (s.input i).latched = false
  · by_cases hat : (s.input i).setting.mode.destination = some s.wu.pins[i]
    · by_cases hfull : (s.input i).counter + 1 ≥ (s.input i).setting.filterCount
      · rw [if_pos hlevel, if_pos hat, if_pos hfull]
        obtain ⟨hwu, hlink, hreport⟩ := detect_spec i hp
        refine ⟨hwu.trans (onInput_wu_congr i ?_), hlink, fun _ => hreport⟩
        simp only [WatchInput.sampled, if_pos hlevel, if_pos hat, if_pos hfull]
      · rw [if_pos hlevel, if_pos hat, if_neg hfull]
        refine ⟨onInput_wu_congr i ?_, .of_sl rfl rfl, fun h => absurd h.2.2 hfull⟩
        simp only [WatchInput.sampled, if_pos hlevel, if_pos hat, if_neg hfull]
    · rw [if_pos hlevel, if_neg hat]
      refine ⟨onInput_wu_congr i ?_, .of_sl rfl rfl, fun h => absurd h.2.1 hat⟩
      simp only [WatchInput.sampled, if_pos hlevel, if_neg hat]
  · rw [if_neg hlevel]
    refine ⟨(onInput_wu_same i ?_).symm, .refl s, fun h => absurd h.1 hlevel⟩
    simp only [WatchInput.sampled, if_neg hlevel]

theorem sampleInput_powered (s : State) (i : Fin 4) (hp : s.powered = true) : (sampleInput s i).powered = true :=
  (sampleInput_spec i hp).2.1.power.trans hp

theorem sampleInput_input {s : State} (hp : s.powered = true) (i j : Fin 4) :
    (sampleInput s i).input j = if i = j then (s.input j).sampled s.wu.pins[j] else s.input j := by
  rw [input_of_wu (sampleInput_spec i hp).1, State.onInput_input]
  split
  · next h => rw [h]
  · rfl

theorem sampleInput_wires {s : State} (hp : s.powered = true) (i : Fin 4) :
    (sampleInput s i).wu.pins = s.wu.pins ∧ (sampleInput s i).wu.sampleTimer = s.wu.sampleTimer := by
  rw [(sampleInput_spec i hp).1]
  exact ⟨rfl, rfl⟩

/-- An input ripe for its detection is reported, whatever the inputs before it do. -/
theorem samples_reportsSince {l : List (Fin 4)} {j : Fin 4} (hj : j ∈ l) {s : State} (hp : s.powered = true)
    (hripe : (s.input j).ripe s.wu.pins[j]) :
    s.reportsSince (l.foldl sampleInput s) (.watch j true (s.input j).setting.mode (s.input j).setting.action s.wu.pins[j]) := by
  induction l generalizing s with
  | nil => cases hj
  | cons i rest ih =>
    have hpi := sampleInput_powered s i hp
    have hrest : ReportsOnly (sampleInput s i) (rest.foldl sampleInput (sampleInput s i)) := by
      refine (foldl_keeps (I := fun x => ReportsOnly (sampleInput s i) x) (fun _ => ()) (fun x k hx => ?_) (fun _ _ _ => rfl) rest (.refl _)).1
      exact hx.trans (sampleInput_spec k (hx.power.trans hpi)).2.1
    by_cases hij : i = j
    · subst hij
      exact hrest.reportsSince ((sampleInput_spec i hp).2.2 hripe)
    · have hsame := (sampleInput_input hp i j).trans (if_neg hij)
      have hpins := (sampleInput_wires hp i).1
      have hlater := ih (List.mem_of_ne_of_mem (Ne.symm hij) hj) hpi (by rw [hsame, hpins]; exact hripe)
      rw [hsame, hpins] at hlater
      exact (sampleInput_spec i hp).2.1.since hrest hlater

theorem order4_inputs (n : Fin 24) : (order4 (0 : Fin 4) 1 2 3 n).Nodup ∧ ∀ j, j ∈ order4 (0 : Fin 4) 1 2 3 n := by
  revert n
  decide

/-- R52: a sample period. -/
theorem watchSample_spec {s : State} (hp : s.powered = true) : (watchSample s).wu.sampleTimer = some 100 ∧ (watchSample s).wu.pins = s.wu.pins
    ∧ ∀ i, (watchSample s).input i = (s.input i).sampled s.wu.pins[i]
      ∧ ((s.input i).ripe s.wu.pins[i] →
        s.reportsSince (watchSample s) (.watch i true (s.input i).setting.mode (s.input i).setting.action s.wu.pins[i])) := by
  let x := (s.onWu fun u => { u with sampleTimer := some Config.samplePeriod }).nextChoice
  obtain ⟨l, hnodup, hmem, hw⟩ : ∃ l : List (Fin 4), l.Nodup ∧ (∀ j, j ∈ l) ∧ watchSample s = l.foldl sampleInput x :=
    ⟨_, (order4_inputs _).1, (order4_inputs _).2, rfl⟩
  have hwires := (foldl_keeps (I := fun y => y.powered = true) (fun y => (y.wu.pins, y.wu.sampleTimer)) sampleInput_powered
    (fun y i hy => Prod.ext (sampleInput_wires hy i).1 (sampleInput_wires hy i).2) l (show x.powered = true from hp)).2
  rw [hw]
  refine ⟨congrArg Prod.snd hwires, congrArg Prod.fst hwires, fun i => ⟨?_, fun hripe => samples_reportsSince (hmem i) (s := x) hp hripe⟩⟩
  have heach := foldl_pointwise (I := fun y => y.powered = true) (fun y (j : Fin 4) => (y.input j, y.wu.pins[j]))
    (fun wp => (wp.1.sampled wp.2, wp.2)) sampleInput_powered (fun y k j hy => ?_) hnodup (show x.powered = true from hp) i
  · rw [if_pos (hmem i)] at heach
    exact congrArg Prod.fst heach
  · have hpins := (sampleInput_wires hy k).1
    simp only [sampleInput_input hy k j, hpins]
    split <;> rfl

theorem isLevel_iff (m : WatchMode) : m.isLevel = true ↔ m = .levelHigh ∨ m = .levelLow := by cases m <;> simp [WatchMode.isLevel]

/-- R49: the levels that a LEVEL mode waits for. -/
theorem level_destination_iff (m : WatchMode) (pin : Bool) (h : m.isLevel = true) :
    m.destination = some pin ↔ (m = .levelHigh ∧ pin = true) ∨ (m = .levelLow ∧ pin = false) := by
  cases m <;> cases pin <;> simp_all [WatchMode.isLevel, WatchMode.destination]

theorem sampled_setting (pin : Bool) (w : WatchInput) : (w.sampled pin).setting = w.setting := by
  unfold WatchInput.sampled
  repeat' split
  all_goals rfl

/-- Settles O18: a sample period is four samples, each of which reaches its own input alone. -/
theorem watchSample_holds : Obligations.WatchSample := by
  intro s hp ht
  obtain ⟨htimer, hpins, hinputs⟩ := watchSample_spec hp
  refine ⟨watchSample s, ?_, htimer, hpins, fun i => ?_⟩
  · show (.next (whenPowered s fun s => whenRunning s.wu.sampleTimer s watchSample) : Answer) = _
    rw [whenPowered_on hp, whenRunning_of_isSome ht]
  obtain ⟨hinput, hreport⟩ := hinputs i
  rw [hinput]
  simp only [← isLevel_iff]
  refine ⟨sampled_setting _ _, fun h => ?_, fun hl hactive hcount => ?_, fun hl hactive hcount => ?_, fun hl hlevel hactive => ?_⟩
  · refine if_neg fun hk => ?_
    obtain h | ⟨h1, h2⟩ := h
    · rw [h] at hk
      exact absurd hk.2 (by decide)
    · obtain k | k := (isLevel_iff _).mp hk.1
      exacts [h1 k, h2 k]
  · have hlevel := (isLevel_iff _).mpr (hactive.imp And.left And.left)
    have hat := (level_destination_iff _ _ hlevel).mpr hactive
    simp only [WatchInput.sampled, if_pos (And.intro hlevel hl), if_pos hat, if_neg (Nat.not_le.mpr hcount)]
  · have hlevel := (isLevel_iff _).mpr (hactive.imp And.left And.left)
    have hat := (level_destination_iff _ _ hlevel).mpr hactive
    refine ⟨?_, hreport ⟨⟨hlevel, hl⟩, hat, hcount⟩⟩
    simp only [WatchInput.sampled, if_pos (And.intro hlevel hl), if_pos hat, if_pos (ge_iff_le.mpr hcount)]
  · have hat := mt (level_destination_iff _ _ hlevel).mp hactive
    simp only [WatchInput.sampled, if_pos (And.intro hlevel hl), if_neg hat]

end Sys2Proof.Machine

/-! PROOFS. SET_WATCH and ACK_WATCH (R50, R51, R54). -/

namespace Sys2Proof.Machine

/-! ### The bytes of the commands (R50, R54) -/

theorem inputOfByte_ofNat (i : Fin 4) : inputOfByte (BitVec.ofNat 8 i.val).toNat = some i := by
  revert i
  decide

theorem inputOfByte_outside {b : Byte} (h : 3 < b.toNat) : inputOfByte b.toNat = none := dif_neg (by omega)

theorem watchMode_ofCode_code (m : WatchMode) : WatchMode.ofCode (BitVec.ofNat 8 m.code).toNat = some m := by cases m <;> rfl

theorem watchAction_ofCode_code (a : WatchAction) : WatchAction.ofCode (BitVec.ofNat 8 a.code).toNat = some a := by cases a <;> rfl

theorem watchMode_ofCode_none {n : Nat} (h : 4 < n) : WatchMode.ofCode n = none := by
  obtain ⟨k, rfl⟩ : ∃ k, n = k + 5 := ⟨n - 5, by omega⟩
  rfl

theorem watchAction_ofCode_none {n : Nat} (h : 4 < n) : WatchAction.ofCode n = none := by
  obtain ⟨k, rfl⟩ : ∃ k, n = k + 5 := ⟨n - 5, by omega⟩
  rfl

/-- R50: SET_WATCH's tests. -/
theorem serveSetWatch_eq (b m f a : Byte) (s : State) : serveSetWatch [b, m, f, a] s =
    match inputOfByte b.toNat, WatchMode.ofCode m.toNat, WatchAction.ofCode a.toNat with
    | some i, some mode, some action =>
      if mode.isLevel ∧ f.toNat ≠ 2 ∧ f.toNat ≠ 4 ∧ f.toNat ≠ 8 then reply .badArg [] s else reply .ok [] (setInput i mode f.toNat action s)
    | _, _, _ => reply .badArg [] s :=
  withLength_eq (n := 4) rfl _ s

theorem toNat_ne_of_ne {f : Byte} {n : Nat} (h : f ≠ BitVec.ofNat 8 n) (hn : n < 256) : f.toNat ≠ n := by
  intro hf
  exact h (BitVec.eq_of_toNat_eq (by simp [hf]; omega))

theorem serveSetWatch_refused {b m f a : Byte} (h : 3 < b.toNat ∨ 4 < m.toNat ∨ 4 < a.toNat ∨ (m = 3 ∨ m = 4) ∧ f ≠ 2 ∧ f ≠ 4 ∧ f ≠ 8)
    (s : State) : serveSetWatch [b, m, f, a] s = reply .badArg [] s := by
  rw [serveSetWatch_eq]
  obtain h | h | h | ⟨hm, h2, h4, h8⟩ := h
  · rw [inputOfByte_outside h]
  · rw [watchMode_ofCode_none h]
    split
    · next hmode _ => cases hmode
    · rfl
  · rw [watchAction_ofCode_none h]
    split
    · next haction => cases haction
    · rfl
  · split
    · next mode _ _ hmode _ =>
      have hlevel : mode.isLevel = true := by
        obtain rfl | rfl := hm
        all_goals
          obtain rfl := Option.some.inj hmode
          rfl
      exact if_pos ⟨hlevel, toNat_ne_of_ne h2 (by decide), toNat_ne_of_ne h4 (by decide), toNat_ne_of_ne h8 (by decide)⟩
    · rfl

theorem serveSetWatch_taken (i : Fin 4) (mode : WatchMode) {f : Byte} (action : WatchAction)
    (hf : mode = .levelHigh ∨ mode = .levelLow → f = 2 ∨ f = 4 ∨ f = 8) (s : State) :
    serveSetWatch [BitVec.ofNat 8 i.val, BitVec.ofNat 8 mode.code, f, BitVec.ofNat 8 action.code] s
      = reply .ok [] (setInput i mode f.toNat action s) := by
  rw [serveSetWatch_eq, inputOfByte_ofNat, watchMode_ofCode_code, watchAction_ofCode_code]
  refine if_neg fun ⟨hlevel, h2, h4, h8⟩ => ?_
  obtain rfl | rfl | rfl := hf ((isLevel_iff mode).mp hlevel)
  exacts [h2 rfl, h4 rfl, h8 rfl]

/-! ### Arming (R51) -/

theorem arm_eq (i : Fin 4) (s : State) : arm i s =
    if s.wu.pins[i] = true ∧ (s.input i).setting.mode = .edgeRising ∨ s.wu.pins[i] = false ∧ (s.input i).setting.mode = .edgeFalling
    then detect i s else s := by
  unfold arm State.atDestination
  simp only [decide_eq_true_eq, edge_at_level_iff]

/-- R50: an input with new settings. -/
def WatchInput.withSettings (w : WatchInput) (mode : WatchMode) (f : Nat) (action : WatchAction) : WatchInput :=
  { w with
    counter := 0
    setting := { mode := mode, action := action, filterCount := if mode = .levelHigh ∨ mode = .levelLow then f else w.setting.filterCount } }

theorem setInput_eq (i : Fin 4) (mode : WatchMode) (f : Nat) (action : WatchAction) (s : State) : setInput i mode f action s =
    if (s.input i).latched = true then s.onInput i fun w => w.withSettings mode f action
    else arm i (s.onInput i fun w => w.withSettings mode f action) := by
  have hset : ∀ w : WatchInput, w.withSettings mode f action = { w with
      setting := { mode := mode, filterCount := if mode.isLevel then f else w.setting.filterCount, action := action }, counter := 0 } := by
    intro w
    simp only [WatchInput.withSettings, isLevel_iff]
  have hlatched : ((s.onInput i fun w => w.withSettings mode f action).input i).latched = (s.input i).latched := by
    rw [State.onInput_input, if_pos rfl]
    rfl
  rw [← hlatched]
  simp only [hset]
  rfl

theorem onInput_settings_wires (i : Fin 4) (mode : WatchMode) (f : Nat) (action : WatchAction) (s : State) :
    let x := s.onInput i fun w => w.withSettings mode f action
    x.wu.pins = s.wu.pins ∧ x.input i = (s.input i).withSettings mode f action :=
  ⟨rfl, (State.onInput_input s i i _).trans (if_pos rfl)⟩

theorem setInput_waits {i : Fin 4} {mode : WatchMode} {f : Nat} {action : WatchAction} {s : State}
    (h : (s.input i).latched = true ∨ (mode = .edgeRising → s.wu.pins[i] = false) ∧ (mode = .edgeFalling → s.wu.pins[i] = true)) :
    setInput i mode f action s = s.onInput i fun w => w.withSettings mode f action := by
  rw [setInput_eq]
  split
  · rfl
  · next hl =>
    obtain ⟨hr, hd⟩ := h.resolve_left hl
    obtain ⟨hpins, hinput⟩ := onInput_settings_wires i mode f action s
    rw [arm_eq, hpins, hinput]
    refine if_neg fun hk => ?_
    obtain ⟨hpin, hmode⟩ | ⟨hpin, hmode⟩ := hk
    · simp [hr hmode] at hpin
    · simp [hd hmode] at hpin

theorem setInput_detects {i : Fin 4} {mode : WatchMode} {f : Nat} {action : WatchAction} {s : State}
    (h : ¬((s.input i).latched = true ∨ (mode = .edgeRising → s.wu.pins[i] = false) ∧ (mode = .edgeFalling → s.wu.pins[i] = true))) :
    setInput i mode f action s = detect i (s.onInput i fun w => w.withSettings mode f action) := by
  obtain ⟨hl, hmode⟩ := not_or.mp h
  obtain ⟨hpins, hinput⟩ := onInput_settings_wires i mode f action s
  rw [setInput_eq, if_neg hl, arm_eq, hpins, hinput]
  refine if_pos ?_
  show _ ∧ mode = _ ∨ _ ∧ mode = _
  cases hpin : s.wu.pins[i] <;> cases mode <;> simp_all

/-! ### Acknowledging (R54) -/

/-- R54: a flag is cleared and its report posted. -/
def cleared (i : Fin 4) (s : State) : State :=
  postWatch i false (alarmChanged .watch (s.onInput i fun w => { w with latched := false, counter := 0 }))

theorem acknowledge_eq (i : Fin 4) (s : State) : acknowledge i s = if (s.input i).latched then arm i (cleared i s) else s := rfl

theorem cleared_wu (i : Fin 4) (s : State) : (cleared i s).wu = (s.onInput i fun w => { w with latched := false, counter := 0 }).wu := by
  rw [cleared, postLatch_frame]

theorem cleared_input (i : Fin 4) (s : State) : (cleared i s).input i = { s.input i with latched := false, counter := 0 } :=
  (input_of_wu (cleared_wu i s) i).trans ((State.onInput_input s i i _).trans (if_pos rfl))

theorem arm_cleared (i : Fin 4) (s : State) : arm i (cleared i s) =
    if (s.input i).setting.mode = .edgeRising ∧ s.wu.pins[i] = true ∨ (s.input i).setting.mode = .edgeFalling ∧ s.wu.pins[i] = false
    then detect i (cleared i s) else cleared i s := by
  have hpins : (cleared i s).wu.pins = s.wu.pins := by
    rw [cleared_wu]
    rfl
  rw [arm_eq, cleared_input, hpins]
  simp only [and_comm]

theorem detect_input (i : Fin 4) {s : State} (hp : s.powered = true) : (detect i s).input i = { s.input i with latched := true, counter := 0 } :=
  (input_of_wu (detect_spec i hp).1 i).trans ((State.onInput_input s i i _).trans (if_pos rfl))

theorem serveAckWatch_eq (i : Fin 4) (s : State) : serveAckWatch [BitVec.ofNat 8 i.val] s
    = reply .ok (flagByte ((acknowledge i s).input i).latched) (acknowledge i s) := by
  have hi : inputOfByte (u8At [BitVec.ofNat 8 i.val] 0) = some i := inputOfByte_ofNat i
  unfold serveAckWatch
  rw [withLength_one, hi]

theorem serveAckWatch_outside {b : Byte} (h : 3 < b.toNat) (s : State) : serveAckWatch [b] s = reply .badArg [] s := by
  have hi : inputOfByte (u8At [b] 0) = none := inputOfByte_outside h
  unfold serveAckWatch
  rw [withLength_one, hi]

/-- R54: ACK_WATCH of a set flag. -/
theorem exec_ackWatch (i : Fin 4) (tag : Byte) {s : State} (hr : s.LinkReady) (hl : (s.input i).latched = true) :
    ∃ t, exec (.ackWatch tag [BitVec.ofNat 8 i.val]) s = .next t
      ∧ s.AnsweredFrom (arm i (cleared i (s.serving .ackWatch tag [BitVec.ofNat 8 i.val]))) t .ackWatch tag .ok
        [if ((arm i (cleared i (s.serving .ackWatch tag [BitVec.ofNat 8 i.val]))).input i).latched then 1 else 0] := by
  have hack : acknowledge i (s.serving .ackWatch tag [BitVec.ofNat 8 i.val]) = arm i (cleared i (s.serving .ackWatch tag [BitVec.ofNat 8 i.val])) :=
    (acknowledge_eq i _).trans (if_pos hl)
  rw [← hack, ← flagByte_eq]
  exact exec_answers rfl hr (changes_acknowledge i _) (serveAckWatch_eq i _)

/-- Settles O19: new settings and an acknowledgement arm an input again, and an input at its level is detected at once. -/
theorem watchCommands : Obligations.WatchCommands := by
  intro tag i s hr
  refine ⟨fun b hb => exec_replies rfl hr (serveAckWatch_outside hb _), fun m f a b h => exec_replies rfl hr (serveSetWatch_refused h _),
    fun mode action f hf => ⟨fun hwaits => ?_, fun hwaits => ?_⟩, fun hl => ?_, fun hl => ?_⟩
  · refine exec_replies (v := s.onInput i fun w => w.withSettings mode f.toNat action) rfl hr ?_
    exact (serveSetWatch_taken i mode action hf _).trans (congrArg (reply .ok []) (setInput_waits (by exact hwaits)))
  · obtain ⟨t, ht, hfrom⟩ := exec_answers
      (c := .setWatch tag [BitVec.ofNat 8 i.val, BitVec.ofNat 8 mode.code, f, BitVec.ofNat 8 action.code]) rfl hr (changes_setInput i mode f.toNat action _) (serveSetWatch_taken i mode action hf _)
    generalize hx : s.serving _ tag _ = x at hfrom
    have hwu : x.wu = s.wu := by rw [← hx]; rfl
    have hpx : x.powered = true := by rw [← hx]; exact hr.powered
    have hinput := input_of_wu hwu i
    rw [setInput_detects (by rw [hinput, hwu]; exact hwaits)] at hfrom
    obtain ⟨hpins, hset⟩ := onInput_settings_wires i mode f.toNat action x
    have hreport := (detect_spec i (s := x.onInput i fun w => w.withSettings mode f.toNat action) hpx).2.2
    rw [hpins, hset, hwu] at hreport
    refine ⟨t, ht, ?_, hfrom.replied, hfrom.reports _ ?_⟩
    · rw [hfrom.proj (State.input · i), detect_input i (s := x.onInput i fun w => w.withSettings mode f.toNat action) hpx, hset, hinput]
      rfl
    · have hsl : x.sl.lostReports = s.sl.lostReports := by rw [← hx]; rfl
      unfold State.reportsSince at hreport ⊢
      rw [← hsl]
      exact hreport
  · refine exec_replies (v := s) rfl hr ((serveAckWatch_eq i _).trans ?_)
    have hsame : acknowledge i (s.serving .ackWatch tag [BitVec.ofNat 8 i.val]) = s.serving .ackWatch tag [BitVec.ofNat 8 i.val] :=
      (acknowledge_eq i _).trans (if_neg (by exact Bool.eq_false_iff.mp hl))
    rw [hsame, flagByte_eq]
    show reply .ok [if (s.input i).latched then 1 else 0] _ = _
    rw [hl]
    rfl
  · obtain ⟨t, ht, hfrom⟩ := exec_ackWatch i tag hr hl
    obtain ⟨hlink, hreport⟩ := postLatch_reports i false (fun w => { w with latched := false, counter := 0 }) (fun _ => rfl)
      (s := s.serving .ackWatch tag [BitVec.ofNat 8 i.val]) hr.powered
    have hpc : (cleared i (s.serving .ackWatch tag [BitVec.ofNat 8 i.val])).powered = true := hlink.power.trans hr.powered
    have harm := arm_cleared i (s.serving .ackWatch tag [BitVec.ofNat 8 i.val])
    have hinput := cleared_input i (s.serving .ackWatch tag [BitVec.ofNat 8 i.val])
    split
    · next hat =>
      rw [harm.trans (if_pos (by exact hat))] at hfrom
      have hdetected := detect_input i hpc
      obtain ⟨_, hmore, hreport'⟩ := detect_spec i hpc
      rw [hdetected] at hfrom
      refine ⟨t, ht, ?_, hfrom.replied, hfrom.reports _ (hmore.reportsSince hreport), hfrom.reports _ ?_⟩
      · rw [hfrom.proj (State.input · i), hdetected, hinput]
        show ({ s.input i with latched := true, counter := 0 } : WatchInput) = { s.input i with counter := 0 }
        rw [← hl]
      · rw [hinput, cleared_wu] at hreport'
        exact hlink.since hmore hreport'
    · next hat =>
      rw [harm.trans (if_neg (by exact hat)), hinput] at hfrom
      have hframe := postLatch_frame i false (fun w => { w with latched := false, counter := 0 }) (s.serving .ackWatch tag [BitVec.ofNat 8 i.val])
      refine ⟨t, ht, (hfrom.proj State.wu).trans (cleared_wu i _), ?_, hfrom.replied, hfrom.reports _ hreport⟩
      have hsame := hfrom.same
      have hcleared : cleared i (s.serving .ackWatch tag [BitVec.ofNat 8 i.val]) = _ := hframe
      generalize cleared i (s.serving .ackWatch tag [BitVec.ofNat 8 i.val]) = x at hsame hcleared
      rw [hsame, hcleared]
      rfl

end Sys2Proof.Machine

/-! PROOFS. The parts of a control step in any order (R5, log 3): the bounds of the gate's movement (R12, R14, R15) and the capacity it
publishes (R9). -/

namespace Sys2Proof.Machine

/-! ### The order of the parts -/

/-- What the parts that stand before one of four keep, and what they keep after it. -/
theorem foldl_order4_around {P Q : State → Prop} {a b c d : State → State} (ha : ∀ s, P s → Q (a s)) (hb : ∀ s, P s → P (b s))
    (hc : ∀ s, P s → P (c s)) (hd : ∀ s, P s → P (d s)) (hb' : ∀ s, Q s → Q (b s)) (hc' : ∀ s, Q s → Q (c s)) (hd' : ∀ s, Q s → Q (d s))
    (n : Fin 24) {s : State} (hs : P s) : Q ((order4 a b c d n).foldl (fun s part => part s) s) := by
  fin_cases n
  all_goals
    simp only [order4, List.foldl_cons, List.foldl_nil]
    apply_rules [ha, hb, hc, hd, hb', hc', hd']

/-! ### The Station Sequencer's part -/

/-- R25, R26, R30, R31: what the sequencer's tests come to. -/
inductive Tested (f : Nat) (s : State) : State → Prop
  | trip (h : s.ss.station ≠ .stopped ∧ s.ss.station ≠ .tripped) (hf : 55000 ≤ f) : Tested f s (takeTrip .overspeed f s)
  | speed (h : s.ss.station = .starting) : Tested f s (enterRunUp s)
  | timers (g : Sequencer → Sequencer) (station : (g s.ss).station = s.ss.station) : Tested f s (s.onSs g)
  | down (h : s.ss.station = .stopping) (hgate : s.gc.gateOut = 0) : Tested f s (enterStopped .runDown s)

theorem Tested.same (f : Nat) (s : State) : Tested f s s := .timers id rfl

theorem stationStep_tested (f : Nat) (s : State) : Tested f s (stationStep f s) := by
  unfold stationStep
  split
  case h_1 h =>
    repeat' split
    · next hf => exact .trip (by simp [h]) hf
    · exact .speed h
    · exact .same f s
  case h_2 h | h_3 h =>
    repeat' split
    · next hf => exact .trip (by simp [h]) hf
    · exact .timers _ rfl
    · exact .timers _ rfl
  case h_4 h =>
    split
    · next hf => exact .trip (by simp [h]) hf
    · unfold runDownTest
      split
      · next hdown => exact .down h hdown.1
      · exact .same f s
  case h_5 | h_6 => exact .same f s

/-! ### The gate's movement (R12, R14) -/

theorem moveGate_bounds (prev target openRate closeRate : Nat) : moveGate prev target openRate closeRate ≤ prev + openRate
    ∧ prev ≤ moveGate prev target openRate closeRate + closeRate := by
  unfold moveGate
  split
  · omega
  · split <;> omega

/-- R10 to R14: the gate's step keeps to the rates of its direction. -/
theorem GateController.step_rates (g : GateController) (st : StationState) (fRef : Int) (f : Nat) :
    (g.step st fRef f).gateOut ≤ g.gateOut + g.params.openRate
    ∧ g.gateOut ≤ (g.step st fRef f).gateOut + max g.params.closeRate g.params.tripRate := by
  have hclose : ∀ target, moveGate g.gateOut target g.params.openRate g.params.closeRate ≤ g.gateOut + g.params.openRate
      ∧ g.gateOut ≤ moveGate g.gateOut target g.params.openRate g.params.closeRate + max g.params.closeRate g.params.tripRate := fun target =>
    (moveGate_bounds _ _ _ _).imp_right (·.trans (Nat.add_le_add_left (Nat.le_max_left _ _) _))
  have htrip : ∀ target, moveGate g.gateOut target g.params.openRate g.params.tripRate ≤ g.gateOut + g.params.openRate
      ∧ g.gateOut ≤ moveGate g.gateOut target g.params.openRate g.params.tripRate + max g.params.closeRate g.params.tripRate := fun target =>
    (moveGate_bounds _ _ _ _).imp_right (·.trans (Nat.add_le_add_left (Nat.le_max_right _ _) _))
  cases st
  case stopped | tripped => exact htrip 0
  case stopping => exact hclose 0
  all_goals exact hclose _

/-- R10, R14: no target lies above the gate limit. -/
theorem GateController.step_not_opening (g : GateController) (st : StationState) (fRef : Int) (f : Nat) (h : g.gLim ≤ g.gateOut) :
    (g.step st fRef f).gateOut ≤ g.gateOut := by
  cases st
  case runUp | live => exact moveGate_le le_rfl ((g.rawDemand_le _ _).trans h)
  case starting => exact moveGate_le le_rfl ((Nat.min_le_right _ _).trans h)
  all_goals exact moveGate_le (openRate := g.params.openRate) le_rfl (Nat.zero_le _)

/-- R14: in TRIPPED the gate closes, wherever its limit lies. -/
theorem GateController.step_tripped_le (g : GateController) (fRef : Int) (f : Nat) : (g.step .tripped fRef f).gateOut ≤ g.gateOut :=
  moveGate_le (openRate := g.params.openRate) le_rfl (Nat.zero_le _)

/-- What the governor's step finds of the gate, whichever parts came before it. -/
structure GateBefore (s x : State) : Prop where
  params : x.gc.params = s.gc.params
  out : x.gc.gateOut = s.gc.gateOut
  limit : x.gc.gLim = s.gc.gLim ∨ x.ss.station = .tripped

/-- R5: the gate after a control step. -/
structure GateAfter (s x : State) : Prop where
  rises : x.gc.gateOut ≤ s.gc.gateOut + s.gc.params.openRate
  falls : s.gc.gateOut ≤ x.gc.gateOut + max s.gc.params.closeRate s.gc.params.tripRate
  limited : s.gc.gLim ≤ s.gc.gateOut → x.gc.gateOut ≤ s.gc.gateOut

theorem GateBefore.step {s x : State} (f : Nat) (h : GateBefore s x) : GateAfter s (governorStep f x) := by
  obtain ⟨_, _, hout, _⟩ := shaft_eq_iff.mp (governorStep_shaft f x)
  obtain ⟨hup, hdown⟩ := x.gc.step_rates x.ss.station x.fRef f
  rw [h.out, h.params] at hup hdown
  refine ⟨hout.le.trans hup, hout ▸ hdown, fun hlim => ?_⟩
  rw [hout, ← h.out]
  obtain hl | htrip := h.limit
  · exact x.gc.step_not_opening _ _ _ (by rw [hl, h.out]; exact hlim)
  · rw [htrip]
    exact x.gc.step_tripped_le _ _

theorem GateAfter.of_out {s x y : State} (h : GateAfter s x) (hy : y.gc.gateOut = x.gc.gateOut) : GateAfter s y :=
  ⟨hy ▸ h.rises, hy ▸ h.falls, hy ▸ h.limited⟩

theorem GateBefore.of_kept {s x y : State} (h : GateBefore s x) (hp : y.gc.params = x.gc.params) (ho : y.gc.gateOut = x.gc.gateOut)
    (hl : y.gc.gLim = x.gc.gLim) (hst : y.ss.station = x.ss.station) : GateBefore s y :=
  ⟨hp.trans h.params, ho.trans h.out, h.limit.imp hl.trans hst.trans⟩

theorem GateBefore.of_test {s x y : State} {f : Nat} (h : GateBefore s x) (ht : Tested f x y) : GateBefore s y := by
  cases ht with
  | trip =>
    obtain ⟨_, hparams, hout, hst⟩ := shaft_eq_iff.mp (takeTrip_shaft .overspeed f x)
    exact ⟨hparams.trans h.params, hout.trans h.out, .inr hst⟩
  | speed hst =>
    obtain ⟨q, l, hq, he⟩ := enterRunUp_frame x
    rw [he]
    exact ⟨h.params, h.out, .inl (h.limit.resolve_right (by simp [hst]))⟩
  | timers g station => exact h.of_kept rfl rfl rfl station
  | down hst =>
    obtain ⟨q, a, l, _, he⟩ := enterStopped_frame .runDown x
    rw [he]
    exact ⟨h.params, h.out, .inl (h.limit.resolve_right (by simp [hst]))⟩

/-! ### The Feeder Unit's and the Drive Scheduler's parts -/

/-- What `still` shows of a state without the drives. -/
theorem feedHoldStep_still (f : Nat) (s : State) : ∃ d : DriveScheduler, (feedHoldStep arbitrate f s).still = ({ s with ds := d } : State).still := by
  have hhold : ∀ (x : State) (i : Fin 4), (holdSlot arbitrate i x).still.onDs (fun _ => s.ds) = x.still.onDs fun _ => s.ds := by
    intro x i
    unfold holdSlot postDrive
    repeat' split
    · rw [still_forcedOut arbitrate_keeps]
    · rw [still_post]
      rfl
    · rfl
  have hresume : ∀ (x : State) (i : Fin 4), (resumeSlot i x).still.onDs (fun _ => s.ds) = x.still.onDs fun _ => s.ds := by
    intro x i
    unfold resumeSlot postDrive
    split
    · rw [still_post]
      rfl
    · rfl
  have hfold : ∀ (g : State → Fin 4 → State), (∀ x i, (g x i).still.onDs (fun _ => s.ds) = x.still.onDs fun _ => s.ds) → ∀ (l : List (Fin 4)) (x : State),
      (l.foldl g x).still.onDs (fun _ => s.ds) = x.still.onDs fun _ => s.ds := fun g hg l x =>
    List.foldlRecOn (motive := fun t => t.still.onDs (fun _ => s.ds) = x.still.onDs fun _ => s.ds) l g rfl fun _ ht a _ => (hg _ a).trans ht
  have hall : (feedHoldStep arbitrate f s).still.onDs (fun _ => s.ds) = s.still.onDs fun _ => s.ds := by
    unfold feedHoldStep
    repeat' split
    · rfl
    · exact (hfold _ (fun x i => hhold x i) _ _).trans rfl
    · exact (hfold _ (fun x i => hresume x i) _ _).trans rfl
    · rfl
    · rfl
  refine ⟨(feedHoldStep arbitrate f s).ds, ?_⟩
  generalize feedHoldStep arbitrate f s = t at hall ⊢
  have e : ∀ x : State, ({ x with ds := t.ds } : State).still = { x.still.onDs (fun _ => s.ds) with ds := ({ x with ds := t.ds } : State).still.ds } := fun _ => rfl
  have et := e t
  rw [hall] at et
  exact et

/-- What `still` shows and the drives do not touch, a control step leaves in the Feeder Unit and the Drive Scheduler. -/
theorem feederStep_proj {α : Type} (p : State → α) (hp : ∀ x, p x.still = p x) (f : Nat) (s : State) :
    p (feederStep arbitrate giveSpace f s) = p s := by
  rw [← hp, still_feederStep arbitrate_keeps still_giveSpace f s, hp]

theorem feedHoldStep_proj {α : Type} (p : State → α) (hp : ∀ x, p x.still = p x) (hd : ∀ (x : State) (d : DriveScheduler), p { x with ds := d } = p x)
    (f : Nat) (s : State) : p (feedHoldStep arbitrate f s) = p s := by
  obtain ⟨d, h⟩ := feedHoldStep_still f s
  rw [← hp, h, hp, hd]

theorem controlStep_gate (f : Nat) (s : State) : GateAfter s (controlStep f s) := by
  have hafter : ∀ (g : State → State), (∀ x, (g x).shaft = x.shaft) → ∀ x, GateAfter s x → GateAfter s (g x) := fun g hg x hx =>
    hx.of_out (shaft_eq_iff.mp (hg x)).2.2.1
  refine foldl_order4_around (P := GateBefore s) (fun x hx => hx.step f) (fun x hx => hx.of_test (stationStep_tested f x)) (fun x hx => ?_) (fun x hx => ?_)
    (fun x hx => ?_) (hafter _ (feederStep_shaft f)) (hafter _ (feedHoldStep_shaft f)) _ (s := s.nextChoice) ⟨rfl, rfl, .inl rfl⟩
  · exact hx.of_kept (feederStep_proj (fun x => x.gc.params) (fun _ => rfl) f x) (feederStep_proj (fun x => x.gc.gateOut) (fun _ => rfl) f x)
      (feederStep_proj (fun x => x.gc.gLim) (fun _ => rfl) f x) (feederStep_proj (fun x => x.ss.station) (fun _ => rfl) f x)
  · exact hx.of_kept (feedHoldStep_proj (fun x => x.gc.params) (fun _ => rfl) (fun _ _ => rfl) f x)
      (feedHoldStep_proj (fun x => x.gc.gateOut) (fun _ => rfl) (fun _ _ => rfl) f x)
      (feedHoldStep_proj (fun x => x.gc.gLim) (fun _ => rfl) (fun _ _ => rfl) f x)
      (feedHoldStep_proj (fun x => x.ss.station) (fun _ => rfl) (fun _ _ => rfl) f x)
  · obtain ⟨st, _, h⟩ := stationStep_shaft f x
    exact hx.of_out (shaft_eq_iff.mp h).2.2.1

/-! ### Every command but a control step or a reset leaves the gate -/

theorem Effect.gateOut {c : Instr} {s t : State} (h : Effect c s t) (hc : ∀ f, ¬isControlStep c s f) (hr : ¬isReset c s) :
    t.gc.gateOut = s.gc.gateOut := by
  have hwide : ∀ {t : State}, Wides false s t → t.gc.gateOut = s.gc.gateOut := fun hw =>
    hw.keeps (P := fun x => x.gc.gateOut = s.gc.gateOut) (fun _ _ hxy hs => hxy.gateOut.trans hs) (fun _ _ _ hs => hs) (fun _ _ _ hs => hs) rfl
  cases h with
  | changes m hchanges control =>
    cases m with
    | false => exact hwide hchanges.wides
    | true =>
      obtain ⟨f, hf⟩ := control rfl
      exact absurd hf (hc f)
  | offered hchanges fr => exact hwide (hchanges.wides.trans (wides_offerFrame fr _))
  | sent => exact hwide (wides_sent s)
  | reset h | unpowered h | powered _ h => exact absurd h hr

/-- R15, R21: a command that resets the main domain closes the gate; without its supply the part makes no reset but a power-on. -/
theorem exec_reset_gate {c : Instr} {s : State} (h : isReset c s) : ∃ t, exec c s = .next t
    ∧ ((s.powered = true ∨ ∃ failed, c = .powerOnReset failed) → t.gc.gateOut = 0)
    ∧ (s.powered = false → (∀ failed, c ≠ .powerOnReset failed) → t = s) := by
  have hzero : ∀ {x : State}, x.MainReset → x.gc.gateOut = 0 := fun hx => by rw [hx.gate]
  have hevent : ∀ (g : State → State), (s.powered = true → (g s).gc.gateOut = 0) → (∀ failed, c ≠ .powerOnReset failed) →
      exec c s = .next (whenPowered s g) → ∃ t, exec c s = .next t
        ∧ ((s.powered = true ∨ ∃ failed, c = .powerOnReset failed) → t.gc.gateOut = 0)
        ∧ (s.powered = false → (∀ failed, c ≠ .powerOnReset failed) → t = s) := by
    intro g hg hne hexec
    refine ⟨_, hexec, fun hk => ?_, fun hp _ => whenPowered_off hp g⟩
    obtain hp | ⟨failed, hpower⟩ := hk
    · rw [whenPowered_on hp]
      exact hg hp
    · exact absurd hpower (hne failed)
  obtain rfl | ⟨failed, rfl⟩ | rfl | ⟨rfl, hreset, left, htx⟩ := h
  · exact hevent mainReset (fun _ => hzero (mainReset_mainReset s)) (by simp) rfl
  · exact ⟨_, rfl, fun _ => hzero (powerOn_mainReset failed s), fun _ hk => absurd rfl (hk failed)⟩
  · exact hevent losePower (fun _ => hzero (losePower_mainReset s)) (by simp) rfl
  · refine hevent transmitDone (fun _ => ?_) (by simp) rfl
    rw [transmitDone_resetting htx hreset]
    exact hzero (mainReset_mainReset s)

theorem exec_controlStep_unpowered {c : Instr} {f : Nat} {s : State} (hp : s.powered = false) (h : isControlStep c s f) : exec c s = .next s := by
  obtain ⟨ticks, rfl, _⟩ | ⟨rfl, _⟩ := h
  · exact congrArg Host.Outcome.next (whenPowered_off hp _)
  · exact congrArg Host.Outcome.next (whenPowered_off hp _)

/-- Settles O10: the governor's part of a control step is the one place that moves the gate, and a reset closes it. -/
theorem gateMovesOnlyAtControlSteps : Obligations.GateMovesOnlyAtControlSteps := by
  intro c s t hexec
  refine ⟨fun hc hr => ?_, fun f hc => ?_, fun hr hp => ?_, fun hr hp hne => ?_⟩
  · obtain ⟨t', ht', heffect⟩ := exec_effect c s
    obtain rfl := Host.Outcome.next.inj (hexec.symm.trans ht')
    exact heffect.gateOut hc hr
  · have hafter : GateAfter s t := by
      cases hp : s.powered with
      | true =>
        obtain ⟨u, _, hu⟩ := exec_of_isControlStep hp hc
        obtain rfl := Host.Outcome.next.inj (hexec.symm.trans hu)
        obtain ⟨h1, h2, h3⟩ := controlStep_gate f (s.onSmu fun _ => u)
        exact ⟨h1, h2, h3⟩
      | false =>
        obtain rfl := Host.Outcome.next.inj (hexec.symm.trans (exec_controlStep_unpowered hp hc))
        exact ⟨Nat.le_add_right _ _, Nat.le_add_right _ _, fun _ => le_rfl⟩
    exact ⟨hafter.rises, hafter.falls, hafter.limited⟩
  · obtain ⟨t', ht', hzero, _⟩ := exec_reset_gate hr
    obtain rfl := Host.Outcome.next.inj (hexec.symm.trans ht')
    exact hzero hp
  · obtain ⟨t', ht', _, hsame⟩ := exec_reset_gate hr
    obtain rfl := Host.Outcome.next.inj (hexec.symm.trans ht')
    exact hsame hp hne

end Sys2Proof.Machine

/-! PROOFS. The measurement window (R1 to R5) with the capacity that a control step publishes (R9), and the PI step of RUN_UP (R10 to R12). -/

namespace Sys2Proof.Machine

/-! ### The capacity that a control step publishes -/

/-- R9: the capacity is that of the gate limit, and it is published. -/
def State.Rated (s : State) : Prop := s.gc.capacity = s.gc.params.pFull * s.gc.gLim / 10000 ∧ s.da.capacity = s.gc.capacity

/-- What R9 reads and publishes. -/
def State.rating (s : State) : GovParams × Nat × Nat × Nat := (s.gc.params, s.gc.gLim, s.gc.capacity, s.da.capacity)

theorem rating_eq_iff {s t : State} : t.rating = s.rating ↔ t.gc.params = s.gc.params ∧ t.gc.gLim = s.gc.gLim
    ∧ t.gc.capacity = s.gc.capacity ∧ t.da.capacity = s.da.capacity := by
  simp [State.rating]

theorem rating_of_still {s t : State} (h : t.still = s.still) : t.rating = s.rating := by
  show t.still.rating = s.still.rating
  rw [h]

theorem State.Rated.of_rating {s t : State} (hs : s.Rated) (h : t.rating = s.rating) : t.Rated := by
  obtain ⟨hparams, hlim, hcapacity, hheld⟩ := rating_eq_iff.mp h
  unfold State.Rated
  rw [hparams, hlim, hcapacity, hheld]
  exact hs

theorem recomputeLimit_rated (s : State) : (recomputeLimit s).Rated := State.Rated.of_rating (s := s.limited) ⟨rfl, rfl⟩ (rating_of_still (still_recomputeLimit s))

theorem governorStep_rated (f : Nat) (s : State) : (governorStep f s).Rated :=
  State.Rated.of_rating (s := (s.onGc fun g => g.step s.ss.station s.fRef f).capacitated) ⟨rfl, rfl⟩ (rating_of_still (still_computeCapacity _))

theorem takeTrip_rated {cause : TripCause} {f : Nat} {s : State} (hs : s.Rated) : (takeTrip cause f s).Rated := by
  have hevict : ∀ (c : DownCause) (g : Sequencer → Sequencer), c.drive ≠ .shortfall →
      ((evict .tripped .trip c g s).onDs fun d => { d with feedHold := false }).Rated := by
    intro c g hc
    obtain ⟨relay, copy, correction, l, w, h, hw⟩ := evict_proj (new := .tripped) State.rating (fun _ => rfl) .trip g s (by decide) hc
    rw [h]
    exact hs.of_rating hw
  have hleave : ∀ (c : DownCause) (g : Sequencer → Sequencer), c.drive ≠ .shortfall → (g s.ss).station = s.ss.station →
      (leaveFor .tripped .trip c (s.onSs g)).Rated := by
    intro c g hc station
    rw [leaveFor_eq .tripped .trip c g s station]
    split
    · exact recomputeLimit_rated _
    · exact hevict c _ hc
  obtain ⟨r, hr⟩ := fillCapture_eq cause f s
  unfold takeTrip
  simp only []
  rw [hr]
  refine State.Rated.of_rating ?_ (rating_of_still (still_post _ _))
  split
  · exact hs
  · exact hleave tripCauses (fun q => { q with
      capture := some r, startTimer := none, settleTimer := none, underspeedTimer := none, runDownTimer := none
      runDownMark := false }) (by decide) rfl

theorem Tested.rated {f : Nat} {s t : State} (h : Tested f s t) (hs : s.Rated) : t.Rated := by
  cases h with
  | trip => exact takeTrip_rated hs
  | speed =>
    obtain ⟨q, l, _, he⟩ := enterRunUp_frame s
    rw [he]
    exact hs
  | timers => exact hs
  | down =>
    obtain ⟨q, a, l, _, he⟩ := enterStopped_frame .runDown s
    rw [he]
    exact hs

theorem Tested.params {f : Nat} {s t : State} (h : Tested f s t) : t.gc.params = s.gc.params := by
  cases h with
  | trip => exact (shaft_eq_iff.mp (takeTrip_shaft .overspeed f s)).2.1
  | speed =>
    obtain ⟨q, l, _, he⟩ := enterRunUp_frame s
    rw [he]
  | timers => rfl
  | down =>
    obtain ⟨q, a, l, _, he⟩ := enterStopped_frame .runDown s
    rw [he]

/-- R5, R9: a control step publishes the capacity, whichever part of it comes first. -/
theorem controlStep_params (f : Nat) (s : State) : (controlStep f s).gc.params = s.gc.params :=
  foldl_order4_keeps (fun x => x.gc.params) (fun x => (shaft_eq_iff.mp (governorStep_shaft f x)).2.1) (fun x => (stationStep_tested f x).params)
    (feederStep_proj (fun x => x.gc.params) (fun _ => rfl) f) (feedHoldStep_proj (fun x => x.gc.params) (fun _ => rfl) (fun _ _ => rfl) f) _ s.nextChoice

theorem controlStep_rated (f : Nat) (s : State) : (controlStep f s).Rated := by
  have hfeeder : ∀ x : State, x.Rated → (feederStep arbitrate giveSpace f x).Rated := fun x hx =>
    hx.of_rating (feederStep_proj State.rating (fun _ => rfl) f x)
  have hhold : ∀ x : State, x.Rated → (feedHoldStep arbitrate f x).Rated := fun x hx =>
    hx.of_rating (feedHoldStep_proj State.rating (fun _ => rfl) (fun _ _ => rfl) f x)
  have hstation : ∀ x : State, x.Rated → (stationStep f x).Rated := fun x => (stationStep_tested f x).rated
  exact foldl_order4_around (P := fun _ => True) (Q := State.Rated) (fun x _ => governorStep_rated f x) (fun _ _ => trivial) (fun _ _ => trivial)
    (fun _ _ => trivial) hstation hfeeder hhold _ trivial

/-! ### Edges and timeouts (R1, R2, R4) -/

theorem edge_waiting {u : SpeedUnit} (ticks : Nat) (h : u.window = .waiting) :
    u.edge ticks = { u with window := .timing, toothCount := 0, ticks := 0, timeout := some 200 } := by
  unfold SpeedUnit.edge
  rw [h]
  rfl

theorem edge_timing {u : SpeedUnit} (ticks : Nat) (h : u.window = .timing) :
    u.edge ticks = { u with toothCount := u.toothCount + 1, ticks := u.ticks + ticks, timeout := some 200 } := by
  unfold SpeedUnit.edge
  rw [h]
  rfl

theorem toothEdge_short {ticks : Nat} {s : State} (h : (s.smu.edge ticks).toothCount < 24) :
    toothEdge ticks s = { s with smu := s.smu.edge ticks } := if_neg (Nat.not_le.mpr h)

theorem exec_tooth {ticks : Nat} {s : State} (hp : s.powered = true) : exec (.toothEdge ticks) s = .next (toothEdge ticks s) :=
  congrArg Host.Outcome.next (whenPowered_on hp _)

/-- R2, R3, R5: the edge that completes a window. -/
theorem exec_lastTooth {ticks : Nat} {s : State} (hp : s.powered = true) (hw : s.smu.window = .timing) (hcount : s.smu.toothCount = 23) :
    exec (.toothEdge ticks) s = .next (controlStep (windowFrequency (s.smu.ticks + ticks)) { s with smu :=
      { window := .timing, toothCount := 0, ticks := 0, lastFreq := windowFrequency (s.smu.ticks + ticks), timeout := some 200 } }) := by
  have hedge := edge_timing ticks hw
  have hfull : (s.smu.edge ticks).toothCount ≥ 24 := by
    rw [hedge, hcount]
  rw [exec_tooth hp]
  refine congrArg Host.Outcome.next ((if_pos hfull).trans ?_)
  rw [hedge, hw]
  rfl

theorem exec_windowTimeout_running {s : State} (hp : s.powered = true) (h : s.smu.timeout.isSome = true) : exec .windowTimeout s =
    .next (controlStep 0 { s with smu := { window := .waiting, toothCount := 0, ticks := 0, lastFreq := 0, timeout := some 200 } }) :=
  congrArg Host.Outcome.next ((whenPowered_on hp _).trans (whenRunning_of_isSome h s _))

theorem exec_windowTimeout_stopped {s : State} (h : s.smu.timeout = none) : exec .windowTimeout s = .next s :=
  congrArg Host.Outcome.next (whenPowered_same (whenRunning_of_none h s _))

/-- Settles O5: an edge counts, and a completed window and a timeout are control steps. -/
theorem measurementWindow : Obligations.MeasurementWindow := by
  intro ticks s hp
  have hstep : ∀ (f : Nat) (u : SpeedUnit), (controlStep f { s with smu := u }).smu = u ∧ (controlStep f { s with smu := u }).gc.params = s.gc.params
      ∧ (controlStep f { s with smu := u }).Rated := fun f u =>
    ⟨controlStep_smu f { s with smu := u }, controlStep_params f { s with smu := u }, controlStep_rated f _⟩
  refine ⟨fun hw => ?_, fun hw hcount => ?_, fun hw hcount => ?_, fun hrun => ?_, exec_windowTimeout_stopped⟩
  · have hedge := edge_waiting ticks hw
    rw [exec_tooth hp, toothEdge_short (by rw [hedge]; show 0 < 24; decide), hedge]
  · have hedge := edge_timing ticks hw
    rw [exec_tooth hp, toothEdge_short (by rw [hedge]; exact Nat.succ_lt_succ hcount), hedge]
  · obtain ⟨hsmu, hparams, hrated, hheld⟩ := hstep (windowFrequency (s.smu.ticks + ticks)) _
    exact ⟨_, exec_lastTooth hp hw hcount, hsmu, hparams, hrated, hheld⟩
  · obtain ⟨hsmu, hparams, hrated, hheld⟩ := hstep 0 _
    exact ⟨_, exec_windowTimeout_running hp hrun, hsmu, hparams, hrated, hheld⟩

/-! ### The PI step (R10 to R12) -/

/-- R10: the error at a control step. -/
def piError (offset : Int) (f : Nat) : Int := clampInt (-5000) 5000 (50000 + offset - f)

/-- R10: the integrator after a step with the error `e`. -/
def piIntegrator (p : GovParams) (gLim : Nat) (i e : Int) : Int := clampInt (1000 * min p.gMin gLim) (1000 * gLim) (i + p.ki * e)

/-- R11: the raw demand. -/
def piDemand (p : GovParams) (gLim : Nat) (i e : Int) : Int := clampInt (min p.gMin gLim) gLim (i / 1000 + (p.kp * e).tdiv 1000)

/-- R12: the gate after a step toward the raw demand `raw`. -/
def piGate (p : GovParams) (prev : Nat) (raw : Int) : Int :=
  if raw > prev then min raw (prev + p.openRate) else if raw < prev then max raw ((prev : Int) - p.closeRate) else raw

theorem moveGate_toInt (p : GovParams) (prev : Nat) {raw : Int} (h : 0 ≤ raw) :
    (moveGate prev raw.toNat p.openRate p.closeRate : Int) = piGate p prev raw := by
  unfold moveGate piGate
  repeat' split
  all_goals omega

theorem piDemand_nonneg (p : GovParams) (gLim : Nat) (i e : Int) : 0 ≤ piDemand p gLim i e := by
  unfold piDemand clampInt
  omega

theorem rawDemand_eq (g : GateController) (i e : Int) : g.rawDemand i e = (piDemand g.params g.gLim i e).toNat := by
  have hfloor : (g.floorGate : Int) = min (g.params.gMin : Int) g.gLim := Nat.cast_min _ _
  unfold GateController.rawDemand piDemand
  rw [hfloor]
  rfl

/-- R10 to R12: the PI step in the numbers of the rules. -/
theorem piStep_eq (g : GateController) (offset : Int) (f : Nat) :
    let e := piError offset f
    let i := piIntegrator g.params g.gLim g.integrator e
    g.piStep (50000 + offset) f = { g with integrator := i, gateOut := (g.piStep (50000 + offset) f).gateOut }
    ∧ ((g.piStep (50000 + offset) f).gateOut : Int) = piGate g.params g.gateOut (piDemand g.params g.gLim i e) := by
  intro e i
  refine ⟨rfl, ?_⟩
  rw [← moveGate_toInt g.params g.gateOut (piDemand_nonneg g.params g.gLim i e), ← rawDemand_eq]
  rfl

/-! ### A control step of the governor with no entry in the queue -/

/-- R9, R73: with an empty queue the capacity reaches the Gate Controller, the held capacity and the shortfall timer alone. -/
theorem computeCapacity_of_queue_nil {s : State} (h : s.da.queue = []) : ∃ timer : Timer, computeCapacity s =
    { s with gc := { s.gc with capacity := s.gc.capacityNow }, da := { s.da with capacity := s.gc.capacityNow, shortfallTimer := timer } } := by
  obtain ⟨timer, htest⟩ := shortfallTest_frame ({ s with
    gc := { s.gc with capacity := s.gc.capacityNow }, da := { s.da with capacity := s.gc.capacityNow } } : State)
  have hq : (shortfallTest ({ s with
      gc := { s.gc with capacity := s.gc.capacityNow }, da := { s.da with capacity := s.gc.capacityNow } } : State)).da.queue = [] := by
    rw [htest]
    exact h
  have hcompute : computeCapacity s = if s.gc.capacityNow > s.da.capacity then arbitrate (shortfallTest ({ s with
        gc := { s.gc with capacity := s.gc.capacityNow }, da := { s.da with capacity := s.gc.capacityNow } } : State))
      else if s.gc.capacityNow < s.da.capacity then shortfallTest ({ s with
        gc := { s.gc with capacity := s.gc.capacityNow }, da := { s.da with capacity := s.gc.capacityNow } } : State)
      else { s with gc := { s.gc with capacity := s.gc.capacityNow } } := rfl
  rw [hcompute, arbitrate_of_queue_nil hq]
  split
  · exact ⟨timer, htest⟩
  · split
    · exact ⟨timer, htest⟩
    · next h1 h2 =>
      have hsame : s.gc.capacityNow = s.da.capacity := by omega
      exact ⟨s.da.shortfallTimer, by rw [hsame]⟩

theorem governorStep_of_queue_nil (f : Nat) {s : State} (h : s.da.queue = []) : ∃ timer : Timer, governorStep f s =
    { s with
      gc := { s.gc.step s.ss.station s.fRef f with capacity := (s.gc.step s.ss.station s.fRef f).capacityNow }
      da := { s.da with capacity := (s.gc.step s.ss.station s.fRef f).capacityNow, shortfallTimer := timer } } :=
  computeCapacity_of_queue_nil (s := s.onGc fun g => g.step s.ss.station s.fRef f) h

/-- R26: the settle timer of a frequency in the settle band runs on. -/
theorem stationStep_settling {f : Nat} {s : State} (h : s.ss.station = .runUp) (hlow : 49500 ≤ f) (hhigh : f ≤ 50500) :
    stationStep f s = s.onSs fun q => { q with settleTimer := some (q.settleTimer.getD 3000) } := by
  unfold stationStep
  rw [h]
  simp only []
  rw [if_neg (by omega), if_pos ⟨hlow, hhigh⟩]
  rfl

/-- R5, R10, R26: a control step in the settle band. -/
theorem controlStep_settling {f : Nat} {s : State} (hst : s.ss.station = .runUp) (hq : s.da.queue = []) (hlow : 49500 ≤ f) (hhigh : f ≤ 50500) :
    ∃ timer : Timer, controlStep f s = { s.nextChoice with
      ss := { s.ss with settleTimer := some (s.ss.settleTimer.getD 3000) }
      gc := { s.gc.piStep s.fRef f with capacity := s.gc.capacityNow }
      da := { s.da with capacity := s.gc.capacityNow, shortfallTimer := timer } } := by
  obtain h | h := controlStep_of_ne_live f (s := s) (by simp [hst])
  · obtain ⟨timer, hgov⟩ := governorStep_of_queue_nil f (s := s.nextChoice) hq
    rw [State.nextChoice_ss, hst] at hgov
    refine ⟨timer, h.trans ?_⟩
    rw [stationStep_settling (s := governorStep f s.nextChoice) (by rw [hgov]; exact hst) hlow hhigh, hgov]
    rfl
  · obtain ⟨timer, hgov⟩ := governorStep_of_queue_nil f (s := s.nextChoice.onSs fun q => { q with settleTimer := some (q.settleTimer.getD 3000) }) hq
    have hrun : (s.nextChoice.onSs fun q => { q with settleTimer := some (q.settleTimer.getD 3000) }).ss.station = .runUp := hst
    rw [hrun] at hgov
    refine ⟨timer, h.trans ?_⟩
    rw [stationStep_settling (s := s.nextChoice) hst hlow hhigh, hgov]
    rfl

/-- Settles O6: in RUN_UP the sequencer's test reaches its timer and the governor's step the gate, in either order. -/
theorem runUpStepIsPI : Obligations.RunUpStepIsPI := by
  intro ticks s hp hw hcount hst hq f p e i raw hlow hhigh
  obtain ⟨timer, h⟩ := controlStep_settling (f := f)
    (s := { s with smu := { window := .timing, toothCount := 0, ticks := 0, lastFreq := f, timeout := some 200 } }) hst hq hlow hhigh
  obtain ⟨hsame, hgate⟩ := piStep_eq s.gc s.cu.offset f
  refine ⟨_, exec_lastTooth hp hw hcount, ?_⟩
  rw [h]
  exact ⟨rfl, rfl, congrArg (fun g : GateController => { g with capacity := s.gc.capacityNow }) hsame, hgate, rfl⟩

end Sys2Proof.Machine

/-! PROOFS. Eligibility, what ends an arbitration, and one grant with the space notices after it (R62 to R67). -/

namespace Sys2Proof.Machine

/-! ### Eligibility (R62, R63) -/

theorem forcedRakeQueued_iff (s : State) : s.forcedRakeQueued = true ↔ ∃ e ∈ s.da.queue, e.owner = .rake ∧ e.cls = 0 := by
  simp [State.forcedRakeQueued, List.any_eq_true]

theorem tableHas_iff_exists (s : State) (o : Owner) : s.tableHas o = true ↔ ∃ e ∈ s.da.table, e.owner = o := by
  simp [State.tableHas, List.any_eq_true]

theorem driveInTable_iff (s : State) : s.driveInTable = true ↔ ∃ e ∈ s.da.table, ∃ i : Fin 4, e.owner = .drive i := by
  unfold State.driveInTable
  simp only [List.any_eq_true, tableHas_iff_exists, mem_allSlots, true_and]
  exact ⟨fun ⟨i, e, he, ho⟩ => ⟨e, he, i, ho⟩, fun ⟨e, he, i, ho⟩ => ⟨i, e, he, ho⟩⟩

theorem eligible_drive_iff (s : State) (i : Fin 4) : s.eligible (.drive i) = false ↔
    s.lu.drivePause = true ∨ (∃ e ∈ s.da.queue, e.owner = .rake ∧ e.cls = 0)
      ∨ (∃ e ∈ s.da.table, e.owner = .rake) ∨ (s.slot i).cycleTimer.isSome = true := by
  rw [← forcedRakeQueued_iff, ← tableHas_iff_exists]
  unfold State.eligible
  simp only [Bool.and_eq_false_iff, Bool.not_eq_false', or_assoc, Option.isNone_eq_false_iff]

theorem eligible_rake_iff (s : State) : s.eligible .rake = true ↔ ∀ e ∈ s.da.table, ∀ i : Fin 4, e.owner ≠ .drive i := by
  show (!s.driveInTable) = true ↔ _
  rw [Bool.not_eq_true', ← Bool.not_eq_true, driveInTable_iff]
  push Not
  rfl

/-! ### What ends an arbitration (R65) -/

theorem arbitrate_of_none_eligible {s : State} (h : ∀ e ∈ s.da.queue, s.eligible e.owner = false) : arbitrate s = s := by
  refine arbitrate_of_walk_none (Option.eq_none_iff_forall_ne_some.mpr fun e he => ?_)
  obtain ⟨_, hfirst, _⟩ := walk_eq_some.mp he
  have helig := List.find?_some hfirst
  rw [h e (List.mem_of_find?_eq_some hfirst)] at helig
  cases helig

theorem firstEligible_of_front {s : State} {front back : List QueueEntry} {e : QueueEntry} (hq : s.da.queue = front ++ e :: back)
    (hfront : ∀ x ∈ front, s.eligible x.owner = false) (he : s.eligible e.owner = true) :
    (s.da.queue.find? fun e => s.eligible e.owner) = some e := by
  rw [hq, List.find?_append, List.find?_eq_none.mpr fun x hx => by simp [hfront x hx]]
  exact List.find?_cons_of_pos (p := fun x : QueueEntry => s.eligible x.owner) he

theorem arbitrate_of_not_fits {s : State} {front back : List QueueEntry} {e : QueueEntry} (hq : s.da.queue = front ++ e :: back)
    (hfront : ∀ x ∈ front, s.eligible x.owner = false) (he : s.eligible e.owner = true)
    (h : (s.da.capacity : Int) - s.da.params.reserve < s.bookingSum + e.booking) : arbitrate s = s := by
  refine arbitrate_of_walk_none (Option.eq_none_iff_forall_ne_some.mpr fun x hx => ?_)
  obtain ⟨_, hfirst, hfits⟩ := walk_eq_some.mp hx
  rw [firstEligible_of_front hq hfront he] at hfirst
  obtain rfl := Option.some.inj hfirst
  omega

theorem arbiter_of_still {s t : State} (h : t.still = s.still) : t.da.capacity = s.da.capacity ∧ t.da.params = s.da.params :=
  ⟨capacity_of_still h, show t.still.da.params = s.still.da.params by rw [h]⟩

/-- Settles O29: eligibility unfolded, and what a walk of the queue finds. -/
theorem arbitrationRule : Obligations.ArbitrationRule := by
  intro s
  refine ⟨fun i => ⟨eligible_drive_iff s i, fun hp => ?_⟩, fun i => ?_, eligible_rake_iff s, arbitrate_of_spacing, arbitrate_of_none_eligible,
    fun front back e => arbitrate_of_not_fits, ?_⟩
  · refine ⟨mainReset s, congrArg Host.Outcome.next (whenPowered_on hp _), ?_⟩
    rw [(mainReset_mainReset s).drives i]
  · show (s.feeder i).minOffTimer.isNone = true ↔ _
    exact Option.isNone_iff_eq_none
  · have h := settling_arbitrate s
    obtain ⟨hcapacity, hparams⟩ := arbiter_of_still h.still
    exact ⟨hcapacity, hparams, h.sum⟩

/-! ### One grant (R66) -/

/-- R58: the phase in which a granted entry comes to stand. -/
def phaseGranted (s : State) : Owner → Phase
  | .drive i => if (s.slot i).profile.lead = 0 then .active else .lead
  | .feeder _ | .rake => .active

theorem grantedTable_eq {e : QueueEntry} {s : State} (h : s.tableHas e.owner = false) : grantedTable e s =
    s.da.table ++ [{ owner := e.owner, booking := e.booking, grantTime := s.cu.e, phase := phaseGranted s e.owner }] := by
  unfold grantedTable phaseGranted
  cases ho : e.owner with
  | drive i =>
    simp only []
    split
    · have hkeep : s.da.table.map (fun e => if e.owner = .drive i then { e with phase := .active } else e) = s.da.table := by
        refine (List.map_congr_left fun x hx => if_neg fun hk => ?_).trans (List.map_id _)
        have := (tableHas_iff_exists s e.owner).mpr ⟨x, hx, hk.trans ho.symm⟩
        simp [h] at this
      unfold clutchedIn
      rw [List.map_append, hkeep]
      simp [grantedEntry, ho]
    · simp [grantedEntry, ho, grantPhase]
  | feeder i => simp [grantedEntry, ho, grantPhase]
  | rake => simp [grantedEntry, ho, grantPhase]

/-- R66: the GRANT report. -/
theorem grant_report {e : QueueEntry} {s : State} (hp : s.powered = true) (h : s.tableHas e.owner = false) :
    s.reportsSince (grant e s) (.grant e.owner e.booking e.cls e.origin s.cu.e (s.bookingSum + e.booking) s.da.capacity (s.da.table.length + 1)) := by
  have hentry : ReportsOnly s (ownerGranted e.owner (grantEntry e s)) := by
    obtain ⟨_, _, hframe, _⟩ := grantEntry_frame e s
    exact ReportsOnly.trans (.of_sl (by rw [hframe]) (by rw [hframe])) (ownerGranted_reportsOnly _ _)
  have hgrant := grant_eq e s
  have htable := (grant_granted e s).table
  have hstill := still_grant e s
  generalize ownerGranted e.owner (grantEntry e s) = y at hentry hgrant
  have hda : (grant e s).da.table = y.da.table ∧ (grant e s).da.capacity = y.da.capacity := by
    rw [hgrant]
    simp [startSpacing, postGrant]
  have hy : y.da.table = grantedTable e s := hda.1.symm.trans htable
  have hcapacity : y.da.capacity = s.da.capacity := hda.2.symm.trans (capacity_of_still hstill)
  have hfind : (y.da.table.find? fun x => decide (x.owner = e.owner)).elim y.cu.e TableEntry.grantTime = s.cu.e := by
    rw [hy, grantedTable_eq h, List.find?_append, List.find?_eq_none.mpr fun x hx => ?_]
    · simp
    · simpa using fun ho => by
        have := (tableHas_iff_exists s e.owner).mpr ⟨x, hx, ho⟩
        simp [h] at this
  have hsum : y.bookingSum = s.bookingSum + e.booking := by
    unfold State.bookingSum
    rw [hy]
    exact grantedTable_bookings e s
  have hlength : y.da.table.length = s.da.table.length + 1 := by
    rw [hy, grantedTable_eq h, List.length_append]
    rfl
  have hpost : grant e s = startSpacing (post (.grant e.owner e.booking e.cls e.origin s.cu.e (s.bookingSum + e.booking) s.da.capacity
      (s.da.table.length + 1)) y) := by
    rw [hgrant, postGrant, hfind, hsum, hcapacity, hlength]
  rw [hpost]
  exact reportsSince_of_post (hentry.power.trans hp) hentry (.of_sl rfl rfl)

/-- R61, R65, R67: after a grant that starts the spacing timer nothing but the space notices follows, and these grant nothing. -/
theorem arbitrate_grants {e : QueueEntry} {s : State} (hw : walk s = some e) (hspacing : s.da.params.spacing ≠ 0)
    (hrake : ¬(s.rk.state = .due ∧ s.rk.graceSpent = true ∧ e.owner ≠ .rake)) :
    (grant e s).da.spacingTimer.isSome = true ∧ Aftermath False (grant e s) (arbitrate s) ∧ ReportsOnly (grant e s) (arbitrate s) := by
  have hg := grant_granted e s
  have hrun : (grant e s).da.spacingTimer.isSome = true := by
    rw [hg.spacing, if_neg hspacing]
    rfl
  have hspent : ¬(grant e s).spent := by
    unfold State.spent
    rw [hg.rake]
    split
    · exact fun h => RakeState.noConfusion h.1
    · next ho => exact fun h => hrake ⟨h.1, h.2, ho⟩
  have hnotice : Aftermath False (grant e s) (spaceNotice (arbitrateRounds 17) (grant e s)) :=
    (aftermath_spaceNotice (settling_arbitrateRounds 17) _).mono hspent
  have hrounds : arbitrate s = arbitrateRounds 17 (spaceNotice (arbitrateRounds 17) (grant e s)) := by
    unfold arbitrate
    rw [arbitrateRounds, hw]
  have hwalk : walk (spaceNotice (arbitrateRounds 17) (grant e s)) = none := by
    unfold walk
    rw [if_pos ((hnotice.held hrun).timer ▸ hrun)]
  have hend : arbitrateRounds 17 (spaceNotice (arbitrateRounds 17) (grant e s)) = spaceNotice (arbitrateRounds 17) (grant e s) := by
    rw [arbitrateRounds, hwalk]
  rw [hrounds, hend]
  exact ⟨hrun, hnotice, (calm_spaceNotice (arbitrateRounds_arbitrates 17) feedersOnly_nil _).reportsOnly⟩

theorem exec_spacingTimer {s : State} (hp : s.powered = true) (h : s.da.spacingTimer.isSome = true) :
    exec .spacingTimerExpiry s = .next (arbitrate (s.onDa fun d => { d with spacingTimer := none })) :=
  congrArg Host.Outcome.next ((whenPowered_on hp _).trans (whenRunning_of_isSome h s _))

/-- R66: what a grant and the space notices after it leave. -/
theorem grant_kept {e : QueueEntry} {s t : State} (hrun : (grant e s).da.spacingTimer.isSome = true) (h : Aftermath False (grant e s) t) :
    t.da.table = grantedTable e s ∧ t.gc = grantedGate e s.gc ∧ t.queueHas e.owner = false
    ∧ (∀ i, e.owner = .drive i → t.slot i = (s.slot i).granted) ∧ (∀ i, e.owner = .feeder i → t.feeder i = (s.feeder i).enter .on)
    ∧ (e.owner = .rake → t.rk = { s.rk with state := .running, entryHeld := false, runTimer := some (s.rk.params.runTime * 1000) }) := by
  have hg := grant_granted e s
  have hheld := h.held hrun
  have hq : (grant e s).queueHas e.owner = false := by
    rw [queueHas_false_iff, State.queueOwners, hg.queue]
    simp
  have hon : ∀ i, e.owner = .feeder i → (grant e s).feeder i = (s.feeder i).enter .on := fun i ho => (hg.feeders i).trans (if_pos ho)
  have hrunning : e.owner = .rake → (grant e s).rk = { s.rk with
      state := .running, entryHeld := false, runTimer := some (s.rk.params.runTime * 1000) } := fun ho => hg.rake.trans (if_pos ho)
  have hoff : ∀ i, e.owner = .feeder i → ¬(grant e s).offered i := fun i ho hk => by
    have := hk.1
    rw [hon i ho] at this
    cases this
  have hask : ¬(grant e s).mayAsk e.owner := by
    cases ho : e.owner with
    | drive i => exact id
    | feeder i => exact hoff i ho
    | rake =>
      show ¬(grant e s).rk.state.asks = true
      rw [hrunning ho]
      exact Bool.false_ne_true
  refine ⟨(hheld.table id).trans hg.table, (hheld.gate id).trans hg.gate, h.not_queued hq hask, fun i ho => ?_, fun i ho => ?_, fun ho => ?_⟩
  · exact (hheld.slots i (.inr id)).trans ((hg.slots i).trans (if_pos ho))
  · exact (hheld.feeders i (hoff i ho)).trans (hon i ho)
  · refine (h.rake (ho ▸ hq) ?_).trans (hrunning ho)
    rw [hrunning ho]
    rfl

theorem enter_on (d : Feeder) : d.enter .on = { d.enter .on with state := .on, capCounter := 0 } := by
  unfold Feeder.enter
  simp only [or_true, if_true]

/-- Settles O30: a spacing expiry is one grant, and what the space notices after it leave of it. -/
theorem spacingExpiryGrants : Obligations.SpacingExpiryGrants := by
  intro s front back e hp htimer hq hfront he hfits htable hspacing hrake lead0
  have hw : walk (s.onDa fun d => { d with spacingTimer := none }) = some e :=
    walk_eq_some.mpr ⟨rfl, firstEligible_of_front (s := s.onDa fun d => { d with spacingTimer := none }) hq hfront he, hfits⟩
  obtain ⟨hrun, h, hafter⟩ := arbitrate_grants hw hspacing hrake
  refine ⟨_, exec_spacingTimer hp htimer, ?_⟩
  have hreport := grant_report (s := s.onDa fun d => { d with spacingTimer := none }) hp htable
  obtain ⟨htab, hgate, hqueue, hslots, hfeeders, hrk⟩ := grant_kept hrun h
  have htimer' := (h.held hrun).timer.trans ((grant_granted e _).spacing.trans (if_neg hspacing))
  generalize arbitrate (s.onDa fun d => { d with spacingTimer := none }) = t at *
  refine ⟨?_, htimer', hqueue, ?_, hafter.reportsSince hreport, fun i ho => ⟨hslots i ho, ?_⟩, fun i ho => ⟨(hfeeders i ho).trans (enter_on _), ?_⟩, fun ho => ⟨hrk ho, ?_⟩⟩
  · exact htab.trans (grantedTable_eq htable)
  · unfold State.bookingSum
    rw [htab]
    exact grantedTable_bookings e _
  all_goals
    rw [hgate, grantedGate, ho]
    rfl

end Sys2Proof.Machine

/-! PROOFS. The shortfall expiry (R75, R76, R130), and offers that the spacing timer keeps from being granted. -/

namespace Sys2Proof.Machine

/-! ### Offers while the spacing timer runs (R67, R132) -/

/-- What an offer to the queue reaches where it is not granted. -/
structure OnlyOffers (s t : State) : Prop where
  arbiter : t.da = { s.da with queue := t.da.queue, sequence := t.da.sequence }
  gate : t.gc = s.gc
  drives : t.ds = s.ds
  rake : t.rk = s.rk
  accounts : t.mu = s.mu
  feeders : t.fu = { s.fu with feeders := t.fu.feeders, permit := t.fu.permit, restoreTimer := t.fu.restoreTimer }

theorem OnlyOffers.refl (s : State) : OnlyOffers s s := ⟨rfl, rfl, rfl, rfl, rfl, rfl⟩

theorem OnlyOffers.trans {s t u : State} (h : OnlyOffers s t) (k : OnlyOffers t u) : OnlyOffers s u :=
  ⟨by rw [k.arbiter, h.arbiter], k.gate.trans h.gate, k.drives.trans h.drives, k.rake.trans h.rake, k.accounts.trans h.accounts,
    by rw [k.feeders, h.feeders]⟩

theorem OnlyOffers.spacing {s t : State} (h : OnlyOffers s t) : t.da.spacingTimer = s.da.spacingTimer := by rw [h.arbiter]

theorem onlyOffers_setFeederState (i : Fin 12) (new : FeederState) (s : State) : OnlyOffers s (setFeederState i new s) := by
  obtain ⟨_, _, _, _, _, _, h⟩ := setFeederState_frame i new s
  rw [h]
  exact ⟨rfl, rfl, rfl, rfl, rfl, rfl⟩

theorem onlyOffers_post (r : Report) (s : State) : OnlyOffers s (post r s) := by
  obtain ⟨l, h⟩ := post_eq r s
  rw [h]
  exact ⟨rfl, rfl, rfl, rfl, rfl, rfl⟩

theorem onlyOffers_request (e : QueueEntry) (s : State) : OnlyOffers s
    (s.onDa fun d => { d with queue := insertEntry e d.queue, sequence := d.sequence + 1 }) := ⟨rfl, rfl, rfl, rfl, rfl, rfl⟩

theorem onlyOffers_offerList (l : List (Fin 12)) {s : State} (hs : s.da.spacingTimer.isSome = true) : OnlyOffers s (offerList arbitrate l s) := by
  induction l generalizing s with
  | nil => exact .refl s
  | cons i rest ih =>
    unfold offerList
    split
    · obtain ⟨_, h⟩ | ⟨_, _, _, h⟩ | ⟨_, _, _, e, _, _, _, _, _, _, _, h⟩ := enqueue_cases arbitrate (restoreRequest s i)
        (fun x => setFeederState i .queued (post (.restore i (s.feeder i).profile.cls (s.feeder i).profile.booking) x)) s
      · simp only [h]
        exact ih hs
      · simp only [h]
        exact .refl s
      · have hmoved := ((onlyOffers_request e s).trans (onlyOffers_post (.restore i (s.feeder i).profile.cls (s.feeder i).profile.booking) _)).trans
          (onlyOffers_setFeederState i .queued _)
        have hspacing := hmoved.spacing ▸ hs
        simp only [h, arbitrate_of_spacing hspacing]
        exact hmoved.trans (ih hspacing)
    · exact ih hs

theorem onlyOffers_feederOffer {s : State} (hs : s.da.spacingTimer.isSome = true) : OnlyOffers s (feederOffer arbitrate s) := by
  unfold feederOffer
  split
  · exact onlyOffers_offerList _ hs
  · exact .refl s

/-! ### A capacity shed (R75, R76) -/

theorem released_of_once {o : Owner} {s : State} {front back : List TableEntry} {e : TableEntry} (ht : s.da.table = front ++ e :: back) (ho : e.owner = o)
    (honce : (s.da.table.map TableEntry.owner).Nodup) : (s.da.table.filter fun x => decide (x.owner ≠ o)) = front ++ back := by
  rw [ht, List.map_append, List.map_cons] at honce
  obtain ⟨hfront, hrest, hdisj⟩ := List.nodup_append'.mp honce
  have hback := (List.nodup_cons.mp hrest).1
  rw [ht, List.filter_append, List.filter_cons_of_neg (by simp [ho])]
  congr 1
  · exact List.filter_eq_self.mpr fun x hx => decide_eq_true fun hk =>
      hdisj (List.mem_map_of_mem hx) (by rw [hk, ← ho]; exact List.mem_cons_self)
  · exact List.filter_eq_self.mpr fun x hx => decide_eq_true fun hk => hback (by rw [ho, ← hk]; exact List.mem_map_of_mem hx)

theorem tellShortfall_drive (i : Fin 4) (s : State) : tellShortfall (.drive i) s = forcedOut arbitrate .shortfall i s := rfl

/-- R99: a capacity shed of an engaged slot, whose entry the arbiter has removed. -/
theorem tellShortfall_out {i : Fin 4} {s : State} (hp : s.powered = true) (heng : (s.slot i).state.engaged = true)
    (ht : s.tableHas (.drive i) = false) : Out s (tellShortfall (.drive i) s) i .shortfall ∧ (tellShortfall (.drive i) s).da = s.da := by
  have hout : tellShortfall (.drive i) s = takeOut id .shortfall i s := if_pos heng
  rw [hout]
  refine ⟨takeOut_out hp heng ((State.onSlot_slot s i i _).trans (if_pos rfl)) ht (.refl _ _) (.refl _), ?_⟩
  unfold takeOut
  simp only [post_da, postAborted_da, id]
  rfl

/-- R130, R156: a feeder that a capacity shed opens, before the offers that may follow. -/
def shortfallShed (i : Fin 12) (s : State) : State := postShedFeeder i .on .shortfall (setFeederState i .shed (raiseShedCount i s))

theorem tellShortfall_feeder (i : Fin 12) (s : State) : tellShortfall (.feeder i) s = feederOffer arbitrate (shortfallShed i s) := rfl

theorem raiseShedCount_account (i : Fin 12) (s : State) : ((raiseShedCount i s).account i).shedCount = min 65535 ((s.account i).shedCount + 1) := by
  unfold raiseShedCount
  rw [State.onAccount_account, if_pos rfl]
  rfl

/-- R130, R156: what a capacity shed of a feeder leaves. -/
structure ShedByShortfall (i : Fin 12) (s t : State) : Prop where
  collections : t.da = s.da
  feeder : t.feeder i = (s.feeder i).enter .shed
  permit : t.fu.permit = true → s.fu.permit = true
  count : (t.account i).shedCount = min 65535 ((s.account i).shedCount + 1)
  link : ReportsOnly s t
  report : s.powered = true → s.reportsSince t (.shedFeeder i .on .shortfall (min 65535 ((s.account i).shedCount + 1)))

theorem shortfallShed_shed (i : Fin 12) (s : State) : ShedByShortfall i s (shortfallShed i s) := by
  have hmu : (setFeederState i .shed (raiseShedCount i s)).account i = (raiseShedCount i s).account i :=
    congrArg (fun m : MeteringUnit => m.accounts[i]) (setFeederState_mu i .shed (raiseShedCount i s))
  have hcount := (congrArg Account.shedCount hmu).trans (raiseShedCount_account i s)
  have hset : ReportsOnly s (setFeederState i .shed (raiseShedCount i s)) :=
    ReportsOnly.trans (t := raiseShedCount i s) (.of_sl rfl rfl) (setFeederState_reportsOnly _ _ _)
  unfold shortfallShed postShedFeeder
  rw [hcount]
  refine ⟨by rw [post_da, setFeederState_da]; rfl, ?_, fun hk => ?_, ?_, hset.trans (post_reportsOnly _ _), fun hp =>
    reportsSince_of_post (hset.power.trans hp) hset (.refl _)⟩
  · rw [post_feeder, setFeederState_feeder, if_pos rfl]
    rfl
  · rw [post_fu] at hk
    exact setFeederState_permit (s := raiseShedCount i s) hk
  · unfold State.account
    rw [post_mu]
    exact hcount

/-- R115, R121: a feeder that leaves ON. -/
theorem enter_from_on {d : Feeder} {new : FeederState} (h : d.state = .on) (hnew : new ≠ .on) : d.enter new = { d with
    state := new, capCounter := 0
    minOffTimer := if d.profile.minOff = 0 then d.minOffTimer else some (d.profile.minOff * 1000) } := by
  unfold Feeder.enter
  by_cases hm : d.profile.minOff = 0 <;> simp [h, hnew, hm]

theorem exec_shortfallTimer {s : State} (hp : s.powered = true) (h : s.da.shortfallTimer.isSome = true) :
    exec .shortfallTimerExpiry s = .next (shortfallExpired s) :=
  congrArg Host.Outcome.next ((whenPowered_on hp _).trans (whenRunning_of_isSome h s _))

theorem shedCandidate_iff (s : State) (e : TableEntry) : shedCandidate s e = true ↔
    1 ≤ (match e.owner with
      | .drive i => (s.slot i).profile.shedStage
      | .feeder i => (s.feeder i).profile.shedStage
      | .rake => 0) ∧ (match e.owner with
      | .drive i => (s.slot i).profile.shedStage
      | .feeder i => (s.feeder i).profile.shedStage
      | .rake => 0) ≤ 3 := by
  unfold shedCandidate
  cases e.owner <;> simp

/-- R75: the state in which the owner of a shed entry is told. -/
def shortfallRemoved (o : Owner) (s : State) : State := removeFromTable o (s.onDa fun d => { d with shortfallTimer := none })

theorem shortfallRemoved_frame (o : Owner) (s : State) : ∃ g : GateController, shortfallRemoved o s =
    { s with da := { s.da with table := s.da.table.filter fun e => decide (e.owner ≠ o), shortfallTimer := none }, gc := g } :=
  removeFromTable_frame o (s.onDa fun d => { d with shortfallTimer := none })

theorem shortfallExpired_none {s : State} (h : ∀ e ∈ s.da.table, ¬shedCandidate s e = true) : shortfallExpired s =
    { s with da := { s.da with shortfallTimer := some (s.da.params.grace * 1000) } } := by
  have hfind : (s.onDa fun d => { d with shortfallTimer := none }).da.table.reverse.find? (shedCandidate (s.onDa fun d => { d with shortfallTimer := none })) = none :=
    List.find?_eq_none.mpr fun x hx => h x (List.mem_reverse.mp hx)
  unfold shortfallExpired
  simp only [hfind]
  rfl

theorem shortfallExpired_shed {s : State} {front back : List TableEntry} {e : TableEntry} (ht : s.da.table = front ++ e :: back)
    (he : shedCandidate s e = true) (hback : ∀ x ∈ back, ¬shedCandidate s x = true) :
    shortfallExpired s = arbitrate (shortfallTest (tellShortfall e.owner (shortfallRemoved e.owner s))) := by
  have hfind : (s.onDa fun d => { d with shortfallTimer := none }).da.table.reverse.find? (shedCandidate (s.onDa fun d => { d with shortfallTimer := none })) = some e := by
    show s.da.table.reverse.find? (shedCandidate s) = some e
    rw [ht, List.reverse_append, List.reverse_cons, List.append_assoc, List.find?_append,
      List.find?_eq_none.mpr fun x hx => hback x (List.mem_reverse.mp hx)]
    exact List.find?_cons_of_pos (p := shedCandidate s) he
  unfold shortfallExpired
  simp only [hfind]
  rfl

/-- R74, R76: what follows a capacity shed leaves an owner that neither waits nor may ask. -/
theorem afterShed {u : State} : Aftermath True u (arbitrate (shortfallTest u)) ∧ ReportsOnly u (arbitrate (shortfallTest u)) := by
  refine ⟨(aftermath_shortfallTest u).thenArb settling_arbitrate fun _ => trivial, ?_⟩
  obtain ⟨timer, h⟩ := shortfallTest_frame u
  exact ReportsOnly.trans (.of_sl (by rw [h]) (by rw [h])) (calm_arbitrate _).reportsOnly

theorem Aftermath.not_tabled {force : Prop} {s t : State} (h : Aftermath force s t) {o : Owner} (ht : s.tableHas o = false) (hq : s.queueHas o = false)
    (ho : ¬s.mayAsk o) : t.tableHas o = false :=
  Bool.eq_false_iff.mpr fun hk => (h.table o hk).elim (fun hk => by simp [ht] at hk) fun hk => hk.elim (fun hk => by simp [hq] at hk) ho

/-- R67, R74: while the spacing timer runs, the rest of the table stands, and the shortfall timer is started afresh. -/
theorem shed_while_spacing {o : Owner} {s : State} (hs : s.da.spacingTimer.isSome = true) (hd : ∀ i, o = .drive i →
      (tellShortfall o (shortfallRemoved o s)).da = (shortfallRemoved o s).da) :
    let t := arbitrate (shortfallTest (tellShortfall o (shortfallRemoved o s)))
    t.da.table = (s.da.table.filter fun e => decide (e.owner ≠ o))
    ∧ t.da.shortfallTimer = if s.da.capacity < t.bookingSum then some (s.da.params.grace * 1000) else none := by
  intro t
  obtain ⟨g, hframe⟩ := shortfallRemoved_frame o s
  obtain ⟨q, n, hda⟩ : ∃ q n, (tellShortfall o (shortfallRemoved o s)).da = { (shortfallRemoved o s).da with queue := q, sequence := n } := by
    cases ho : o with
    | drive i => exact ⟨_, _, ho ▸ hd i ho⟩
    | feeder i =>
      have hshed := (shortfallShed_shed i (shortfallRemoved (.feeder i) s)).collections
      have hoffer := (onlyOffers_feederOffer (s := shortfallShed i (shortfallRemoved (.feeder i) s))
        (by rw [hshed]; obtain ⟨_, h⟩ := shortfallRemoved_frame (.feeder i) s; rw [h]; exact hs)).arbiter
      rw [hshed] at hoffer
      exact ⟨_, _, hoffer⟩
    | rake => exact ⟨_, _, rfl⟩
  have ht : t = (tellShortfall o (shortfallRemoved o s)).onDa fun d => { d with
      shortfallTimer := if d.capacity < (tellShortfall o (shortfallRemoved o s)).bookingSum then some (d.shortfallTimer.getD (d.params.grace * 1000)) else none } := by
    rw [← shortfallTest_eq]
    refine arbitrate_of_spacing ?_
    obtain ⟨timer, h⟩ := shortfallTest_frame (tellShortfall o (shortfallRemoved o s))
    rw [h, hda, hframe]
    exact hs
  generalize tellShortfall o (shortfallRemoved o s) = u at hda ht
  have hsum : t.bookingSum = u.bookingSum := by rw [ht]; rfl
  rw [hsum, ht]
  simp only [State.onDa, hda, hframe]
  exact ⟨trivial, rfl⟩

/-- Settles O31: the most recently granted candidate is told, and only it. -/
theorem shortfallExpiry : Obligations.ShortfallExpiry := by
  intro s hp htimer hs stage candidate
  have hagree := (consistent_iff s).mp hs
  refine ⟨fun hnone => ?_, fun front back e ht he hback => ⟨shortfallExpired s, exec_shortfallTimer hp htimer, ?_⟩⟩
  · rw [exec_shortfallTimer hp htimer, shortfallExpired_none fun e he hk => hnone e he ((shedCandidate_iff s e).mp hk)]
  rw [shortfallExpired_shed ht ((shedCandidate_iff s e).mpr he) fun x hx hk => hback x hx ((shedCandidate_iff s x).mp hk)]
  obtain ⟨g, hframe⟩ := shortfallRemoved_frame e.owner s
  have hin : s.tableHas e.owner = true := (tableHas_iff_exists s e.owner).mpr ⟨e, by simp [ht], rfl⟩
  have hfiltered := released_of_once ht rfl hs.tableOnce
  have hgone : (shortfallRemoved e.owner s).tableHas e.owner = false := by
    rw [hframe]
    simp [State.tableHas]
  have hlink : ReportsOnly s (shortfallRemoved e.owner s) := .of_sl (by rw [hframe]) (by rw [hframe])
  have hpr : (shortfallRemoved e.owner s).powered = true := hlink.power.trans hp
  have hdrive : ∀ i, e.owner = .drive i → Out (shortfallRemoved e.owner s) (tellShortfall e.owner (shortfallRemoved e.owner s)) i .shortfall
      ∧ (tellShortfall e.owner (shortfallRemoved e.owner s)).da = (shortfallRemoved e.owner s).da := by
    intro i ho
    rw [ho] at hin hpr hgone ⊢
    refine tellShortfall_out hpr ?_ hgone
    obtain ⟨_, h⟩ := shortfallRemoved_frame (.drive i) s
    rw [h]
    exact (hs.driveGranted i).symm.trans hin
  refine ⟨fun i ho => ?_, fun i ho hpermit => ?_, fun hspacing => ?_⟩
  · obtain ⟨hout, hda⟩ := hdrive i ho
    obtain ⟨hslot, htable, hreport⟩ := hout.takenOut
    have hlink' := hlink.trans hout.reports
    generalize tellShortfall e.owner (shortfallRemoved e.owner s) = u at *
    have hreport' := hlink.since hout.reports hreport
    rw [hframe] at hslot hda hreport'
    have hq : u.queueHas (.drive i) = false := by
      unfold State.queueHas
      rw [hda]
      refine Bool.eq_false_iff.mpr fun hk => hagree.owners.apart (.drive i) ⟨?_, ?_⟩
      · exact (hagree.owners.table _ List.not_mem_nil).mp (tableHas_iff.mp (ho ▸ hin))
      · exact (hagree.owners.queue _ List.not_mem_nil).mp (queueHas_iff.mp hk)
    obtain ⟨hafter, hreports⟩ := afterShed (u := u)
    refine ⟨?_, hafter.not_tabled htable hq id, hreports.reportsSince hreport'⟩
    rw [hafter.slots i hq (.inl (by rw [hslot]; rfl)), hslot]
    rfl
  · have hon : (s.feeder i).state = .on := of_decide_eq_true ((hs.feederGranted i).symm.trans (ho ▸ hin))
    have hshed := shortfallShed_shed i (shortfallRemoved e.owner s)
    have htell : tellShortfall e.owner (shortfallRemoved e.owner s) = shortfallShed i (shortfallRemoved e.owner s) := by
      rw [ho, tellShortfall_feeder, ← ho]
      refine if_neg fun hk => ?_
      have := hshed.permit hk.1
      rw [hframe] at this
      exact absurd this (by simp [hpermit])
    rw [htell]
    obtain ⟨hda, hfeeder, hpermit', hcount, hlink', hreport⟩ := hshed
    have hreport := hlink.since hlink' (hreport hpr)
    generalize shortfallShed i (shortfallRemoved e.owner s) = u at *
    rw [hframe] at hda hfeeder hcount hreport hpermit'
    obtain ⟨hafter, hreports⟩ := afterShed (u := u)
    have hoff : ¬u.offered i := fun hk => by
      have := hpermit' hk.2
      exact absurd this (by simp [hpermit])
    have hq : u.queueHas (.feeder i) = false := by
      unfold State.queueHas
      rw [hda]
      exact (hs.feederQueued i).trans (by simp [hon])
    have hnot : u.tableHas (.feeder i) = false := by
      unfold State.tableHas
      rw [hda, ← ho]
      simp
    refine ⟨⟨?_, hafter.not_tabled hnot hq hoff⟩, ?_, hreports.reportsSince hreport⟩
    · rw [hafter.feeders i hq hoff, hfeeder]
      exact enter_from_on hon (by decide)
    · unfold State.account at hcount ⊢
      rw [hafter.accounts]
      exact hcount
  · obtain ⟨htable, hshort⟩ := shed_while_spacing (o := e.owner) hspacing fun i ho => (hdrive i ho).2
    exact ⟨htable.trans hfiltered, hshort⟩

end Sys2Proof.Machine

/-! PROOFS. The withdrawal of one owner's entry: wait timer expiry and CANCEL (R68, R71). -/

namespace Sys2Proof.Machine

/-! ### One entry leaves the queue -/

theorem filter_owner_of_once {q : List QueueEntry} (honce : (q.map QueueEntry.owner).Nodup) {e : QueueEntry} (he : e ∈ q) :
    q.filter (fun x => decide (x.owner = e.owner)) = [e] := by
  induction q with
  | nil => cases he
  | cons x rest ih =>
    obtain ⟨hx, hrest⟩ := List.nodup_cons.mp honce
    obtain rfl | he := List.mem_cons.mp he
    · rw [List.filter_cons_of_pos (by simp)]
      congr 1
      exact List.filter_eq_nil_iff.mpr fun y hy => by
        simpa using fun hk : y.owner = e.owner => hx (hk ▸ List.mem_map_of_mem hy)
    · have hne : x.owner ≠ e.owner := fun hk => hx (hk ▸ List.mem_map_of_mem he)
      rw [List.filter_cons_of_neg (by simpa using hne), ih hrest he]

/-- R68: what the withdrawal of one entry leaves, before and after the space notices. -/
structure OneWithdrawn (s u t : State) (e : QueueEntry) (cause : ExpiredCause) : Prop where
  told : Told [e.owner] (setQueue (s.da.queue.filter fun x => !decide (x.owner = e.owner)) s) u
  after : Aftermath u.spent u t
  reports : ReportsOnly s t
  expired : s.reportsSince t (.expired e.owner e.cls e.origin cause)

theorem withdrawOwner_one {s : State} (hp : s.powered = true) (honce : (s.da.queue.map QueueEntry.owner).Nodup) {e : QueueEntry}
    (he : e ∈ s.da.queue) (cause : ExpiredCause) : ∃ u, OneWithdrawn s u (withdrawOwner e.owner cause s) e cause := by
  have hone := filter_owner_of_once honce he
  have hnamed : s.da.queue.filter (fun x => decide (x.owner = e.owner)) ≠ [] := by
    rw [hone]
    exact List.cons_ne_nil _ _
  have htold := toldOf_told (fun x => decide (x.owner = e.owner)) cause s
  have hafter := withdraw_aftermath cause tellGone hnamed
  have hreports := (calm_withdrawOwner e.owner cause s).reportsOnly
  have hu : toldOf (fun x => decide (x.owner = e.owner)) cause tellGone s =
      tellGone e.owner (postExpired cause e (setQueue (s.da.queue.filter fun x => !decide (x.owner = e.owner)) s)) := by
    unfold toldOf
    rw [hone]
    rfl
  have hset : ReportsOnly s (setQueue (s.da.queue.filter fun x => !decide (x.owner = e.owner)) s) := .of_sl rfl rfl
  have htell : ReportsOnly (postExpired cause e (setQueue (s.da.queue.filter fun x => !decide (x.owner = e.owner)) s))
      (toldOf (fun x => decide (x.owner = e.owner)) cause tellGone s) := by
    rw [hu]
    exact (disps_tellGone e.owner [] _).reportsOnly
  have hend : ReportsOnly (toldOf (fun x => decide (x.owner = e.owner)) cause tellGone s) (withdrawOwner e.owner cause s) := by
    have : withdrawOwner e.owner cause s = arbitrate (giveSpace (toldOf (fun x => decide (x.owner = e.owner)) cause tellGone s)) :=
      withdraw_of_named _ _ _ _ hnamed
    rw [this]
    exact ((calm_spaceNotice arbitrate_arbitrates feedersOnly_nil _).trans (calm_arbitrate _)).reportsOnly
  rw [hone] at htold
  exact ⟨_, htold, hafter, hreports, reportsSince_of_post (hset.power.trans hp) hset (htell.trans hend)⟩

theorem setQueue_queueHas (q : List QueueEntry) (s : State) (o : Owner) : (setQueue q s).queueHas o = q.any fun e => decide (e.owner = o) := rfl

/-- R68, R71, R86, R123: what the withdrawal of a drive's or a feeder's entry leaves. -/
theorem OneWithdrawn.withdrawn {s u t : State} {e : QueueEntry} {cause : ExpiredCause} (h : OneWithdrawn s u t e cause) (hrake : e.owner ≠ .rake)
    (hstill : t.still = s.still) : s.Withdrawn t e cause := by
  have hq : u.queueHas e.owner = false := by
    unfold State.queueHas
    rw [h.told.da]
    simp [setQueue]
  have hask : ¬u.mayAsk e.owner := by
    cases ho : e.owner with
    | drive i => exact id
    | feeder i =>
      refine fun hk => ?_
      have hk := hk.1
      rw [h.told.feeders, ho, if_pos List.mem_cons_self] at hk
      cases hk
    | rake => exact absurd ho hrake
  refine ⟨h.after.not_queued hq hask, ?_, h.expired, hstill.trans (still_of_link h.reports.link).symm⟩
  cases ho : e.owner with
  | drive i =>
    have hidle : (u.slot i).state = .idle := by rw [h.told.slots, ho, if_pos List.mem_cons_self]
    show (t.slot i).state = .idle
    rw [h.after.slots i (ho ▸ hq) (.inl (by rw [hidle]; rfl)), hidle]
  | feeder i =>
    have hoff : (u.feeder i).state = .off := by rw [h.told.feeders, ho, if_pos List.mem_cons_self]
    show (t.feeder i).state = .off
    rw [h.after.feeders i (ho ▸ hq) (by rw [ho] at hask; exact hask), hoff]
  | rake => trivial

theorem withdrawOwner_withdrawn {s : State} (hp : s.powered = true) (honce : (s.da.queue.map QueueEntry.owner).Nodup) {e : QueueEntry}
    (he : e ∈ s.da.queue) (hrake : e.owner ≠ .rake) (cause : ExpiredCause) : s.Withdrawn (withdrawOwner e.owner cause s) e cause := by
  obtain ⟨u, h⟩ := withdrawOwner_one hp honce he cause
  exact h.withdrawn hrake (still_withdrawOwner _ _ _)

/-- R187: the reply to the command that has withdrawn an entry. -/
theorem State.Withdrawn.of_answered {s u t : State} {e : QueueEntry} {cause : ExpiredCause} {k : CommandKind} {tag : Byte} {body : List Byte}
    {r : Result} {content : List Byte} (h : (s.serving k tag body).Withdrawn u e cause) (ha : s.AnsweredFrom u t k tag r content) :
    s.Withdrawn t e cause := by
  refine ⟨(ha.proj fun x => x.queueHas e.owner).trans h.gone, ?_, ha.reports _ h.report, ?_⟩
  · have howner := h.owner
    cases ho : e.owner with
    | drive i =>
      rw [ho] at howner
      exact (ha.proj fun x => (x.slot i).state).trans howner
    | feeder i =>
      rw [ho] at howner
      exact (ha.proj fun x => (x.feeder i).state).trans howner
    | rake => trivial
  · exact (ha.still h.rest).trans rfl

/-! ### The owner bytes (R197) -/

theorem ownerOfByte_ownerByte (o : Owner) : ownerOfByte (BitVec.ofNat 8 (ownerByte o)).toNat = some o := by
  cases o with
  | drive i => revert i; decide
  | feeder i => revert i; decide
  | rake => rfl

theorem ownerOfByte_none {n : Nat} (h : ∀ o : Owner, n ≠ ownerByte o) : ownerOfByte n = none := by
  have hdrive : slotOfByte n = none := dif_neg fun hk => h (.drive ⟨n, hk⟩) rfl
  have hfeeder : feederOfByte n = none := dif_neg fun hk => h (.feeder ⟨n - 0x10, by omega⟩) (by
    show n = 0x10 + (n - 0x10)
    omega)
  unfold ownerOfByte
  rw [hdrive, hfeeder]
  exact if_neg (h .rake)

theorem serveCancel_eq (b : Byte) (s : State) : serveCancel [b] s =
    match ownerOfByte b.toNat with
    | some .rake => reply .state [] s
    | some o => if s.queueHas o then reply .ok [] (withdrawOwner o .cancel s) else reply .notFound [] s
    | none => reply .badArg [] s := withLength_one _ _ _

theorem serveCancel_named {o : Owner} (ho : o ≠ .rake) (s : State) : serveCancel [BitVec.ofNat 8 (ownerByte o)] s =
    if s.queueHas o then reply .ok [] (withdrawOwner o .cancel s) else reply .notFound [] s := by
  rw [serveCancel_eq, ownerOfByte_ownerByte]
  cases o with
  | rake => exact absurd rfl ho
  | drive i => rfl
  | feeder i => rfl

theorem serveCancel_nobody {b : Byte} (h : ∀ o : Owner, b.toNat ≠ ownerByte o) (s : State) : serveCancel [b] s = reply .badArg [] s := by
  rw [serveCancel_eq, ownerOfByte_none h]

/-! ### The wait timer -/

theorem exec_waitTimer {o : Owner} {s : State} (hp : s.powered = true) (h : s.waiting o = true) :
    exec (.waitTimerExpiry o) s = .next (withdrawOwner o .wait s) :=
  congrArg Host.Outcome.next ((whenPowered_on hp _).trans (if_pos h))

theorem exec_waitTimer_stopped {o : Owner} {s : State} (h : s.waiting o = false) : exec (.waitTimerExpiry o) s = .next s :=
  congrArg Host.Outcome.next (whenPowered_same (if_neg (by simp [h])))

theorem queueHas_of_mem {s : State} {e : QueueEntry} (he : e ∈ s.da.queue) : s.queueHas e.owner = true :=
  queueHas_iff.mpr (List.mem_map_of_mem he)

/-- Settles O32: an entry goes with its wait timer and with CANCEL, and CANCEL's refusals find none that may go. -/
theorem waitExpiryAndCancel : Obligations.WaitExpiryAndCancel := by
  intro tag s honce
  refine ⟨fun e he hrake hp ht => ⟨_, exec_waitTimer hp ?_, withdrawOwner_withdrawn hp honce he hrake .wait⟩,
    fun o h => exec_waitTimer_stopped ?_, fun hr => ⟨fun e he hrake => ?_, fun o ho hq => ?_, ?_, fun b h => ?_⟩⟩
  · exact List.any_eq_true.mpr ⟨e, he, by simp [ht]⟩
  · exact List.any_eq_false.mpr fun e he => by
      simpa using fun hk => h e he hk
  · obtain ⟨t, ht, ha⟩ := exec_answers (c := .cancel tag [BitVec.ofNat 8 (ownerByte e.owner)]) rfl hr (changes_withdrawOwner e.owner .cancel _)
      ((serveCancel_named hrake _).trans (if_pos (queueHas_of_mem (s := s.serving .cancel tag [BitVec.ofNat 8 (ownerByte e.owner)]) he)))
    have hw := withdrawOwner_withdrawn (s := s.serving .cancel tag [BitVec.ofNat 8 (ownerByte e.owner)]) hr.powered honce he hrake .cancel
    exact ⟨t, ht, hw.of_answered ha, ha.replied⟩
  · exact exec_replies rfl hr ((serveCancel_named ho _).trans (if_neg (by exact Bool.eq_false_iff.mp hq)))
  · exact exec_replies (c := .cancel tag [0x20]) rfl hr (serveCancel_eq 0x20 _)
  · exact exec_replies rfl hr (serveCancel_nobody h _)

end Sys2Proof.Machine

/-! PROOFS. The slot commands that act on the slot alone: SET_DRIVE, CUT, HALT, CLEAR_DRIVE (R83, R84, R91, R94, R103). -/

namespace Sys2Proof.Machine

/-! ### Commands that carry a slot (R83) -/

theorem slotOfByte_ofNat (i : Fin 4) : slotOfByte (BitVec.ofNat 8 i.val).toNat = some i := by
  revert i
  decide

theorem slotOfByte_outside {b : Byte} (h : 3 < b.toNat) : slotOfByte b.toNat = none := dif_neg (by omega)

theorem withSlot_named {n : Nat} (i : Fin 4) {rest : List Byte} (h : rest.length + 1 = n) (f : Fin 4 → State → State) (s : State) :
    withSlot n (BitVec.ofNat 8 i.val :: rest) f s = f i s := by
  have hi : slotOfByte (u8At (BitVec.ofNat 8 i.val :: rest) 0) = some i := slotOfByte_ofNat i
  unfold withSlot
  rw [withLength_eq (n := n) (body := BitVec.ofNat 8 i.val :: rest) h, hi]

theorem withSlot_nobody {n : Nat} {b : Byte} (hb : 3 < b.toNat) {rest : List Byte} (h : rest.length + 1 = n) (f : Fin 4 → State → State) (s : State) :
    withSlot n (b :: rest) f s = reply .badArg [] s := by
  have hi : slotOfByte (u8At (b :: rest) 0) = none := slotOfByte_outside hb
  unfold withSlot
  rw [withLength_eq (n := n) (body := b :: rest) h, hi]

/-- R83: the values of a slot's reply. -/
theorem slotValues_eq (s : State) (i : Fin 4) : slotValues s i =
    u8 i.val ++ u8 (s.slot i).state.code ++ u8 (s.slot i).remaining ++ u16 (s.slot i).strokes := rfl

theorem onSlot_self (s : State) (i : Fin 4) (g : Slot → Slot) : (s.onSlot i g).slot i = g (s.slot i) := (State.onSlot_slot s i i g).trans (if_pos rfl)

/-! ### SET_DRIVE (R84) -/

theorem serveSetDrive_taken {i : Fin 4} {fields : List Byte} (hlen : fields.length = 16) {s : State}
    (h : (s.slot i).state = .idle ∨ (s.slot i).state = .fault) :
    let v := clampFields DriveProfile.fields (decodeFields DriveProfile.fields fields)
    serveSetDrive (BitVec.ofNat 8 i.val :: fields) s = reply (if decodeFields DriveProfile.fields fields = v then .ok else .clamped)
      (BitVec.ofNat 8 i.val :: encodeFields DriveProfile.fields v) (s.onSlot i fun d => { d with profile := .ofList v, present := true }) := by
  intro v
  have hv : (DriveProfile.ofList v).toList = v := DriveProfile.toList_ofList rfl
  have hslot := onSlot_self s i fun d => { d with profile := .ofList v, present := true }
  unfold serveSetDrive
  rw [withSlot_named i (by rw [hlen]; rfl), if_pos h]
  show reply _ (u8 i.val ++ encodeFields DriveProfile.fields ((s.onSlot i fun d => { d with profile := .ofList v, present := true }).slot i).profile.toList) _ = _
  rw [hslot, hv]
  rfl

theorem serveSetDrive_busy {i : Fin 4} {fields : List Byte} (hlen : fields.length = 16) {s : State}
    (h : ¬((s.slot i).state = .idle ∨ (s.slot i).state = .fault)) : ∃ content, serveSetDrive (BitVec.ofNat 8 i.val :: fields) s = reply .busy content s := by
  unfold serveSetDrive
  rw [withSlot_named i (by rw [hlen]; rfl), if_neg h]
  exact ⟨_, rfl⟩

theorem serveSetDrive_nobody {b : Byte} (h : 3 < b.toNat) {fields : List Byte} (hlen : fields.length = 16) (s : State) :
    serveSetDrive (b :: fields) s = reply .badArg [] s := by
  unfold serveSetDrive
  exact withSlot_nobody h (by rw [hlen]; rfl) _ s

/-! ### CUT (R91) -/

/-- R91: CUT's tests. -/
theorem serveCut_eq (i : Fin 4) (n flag : Byte) (s : State) : serveCut [BitVec.ofNat 8 i.val, n, flag] s =
    match flagAt [BitVec.ofNat 8 i.val, n, flag] 2 with
    | none => slotReplyPrev .badArg i (s.slot i).remaining s
    | some release =>
      match (s.slot i).state with
      | .ready => slotReplyPrev .ok i 0 (startCut i n.toNat release s)
      | .cutting | .held =>
        if (s.slot i).rakeHalt then slotReplyPrev .mode i (s.slot i).remaining s
        else slotReplyPrev .ok i (s.slot i).remaining (s.onSlot i fun d => { d with remaining := n.toNat, releaseFlag := release })
      | .lead | .clutching => slotReplyPrev .notReady i (s.slot i).remaining s
      | .idle | .queued | .coasting | .fault => slotReplyPrev .state i (s.slot i).remaining s := by
  unfold serveCut
  exact withSlot_named (n := 3) (rest := [n, flag]) i rfl _ s

theorem flagAt_two {b n flag : Byte} (h : flag = 0 ∨ flag = 1) : flagAt [b, n, flag] 2 = some (decide (flag = 1)) := flagAt_flag h

/-- R91: a cut that starts. -/
theorem startCut_eq (i : Fin 4) (n : Nat) (release : Bool) (s : State) :
    let t := s.onSlot i fun d => { d with
      state := if s.ds.feedHold then .held else .cutting
      remaining := n, releaseFlag := release, strokes := 0, strokeTimer := some (d.profile.strokeTimeout * 1000) }
    startCut i n release s = post (.drive i (t.slot i).state .ready .cut n 0) t
    ∧ slotValues (startCut i n release s) i = u8 i.val ++ u8 (t.slot i).state.code ++ u8 n ++ u16 0 := by
  intro t
  have hslot : t.slot i = _ := onSlot_self s i _
  have hcut : startCut i n release s = post (.drive i (t.slot i).state .ready .cut (t.slot i).remaining (t.slot i).strokes) t := rfl
  have hremaining : (t.slot i).remaining = n := by rw [hslot]
  have hstrokes : (t.slot i).strokes = 0 := by rw [hslot]
  rw [hcut, slotValues_eq, post_slot, hremaining, hstrokes]
  exact ⟨rfl, rfl⟩

/-! ### HALT (R94) -/

theorem serveHalt_eq (i : Fin 4) (s : State) : serveHalt [BitVec.ofNat 8 i.val] s =
    match (s.slot i).state with
    | .cutting | .held => slotReplyPrev .ok i (s.slot i).remaining (s.onSlot i fun d => { d with remaining := 1 })
    | .ready => slotReplyPrev .ok i (s.slot i).remaining s
    | .idle | .queued | .lead | .clutching | .coasting | .fault => slotReplyPrev .state i (s.slot i).remaining s := by
  unfold serveHalt
  exact withSlot_named (n := 1) (rest := []) i rfl _ s

theorem serveHalt_nobody {b : Byte} (h : 3 < b.toNat) (s : State) : serveHalt [b] s = reply .badArg [] s := by
  unfold serveHalt
  exact withSlot_nobody (n := 1) (rest := []) h rfl _ s

/-- Settles O33: each command by the state of its slot. -/
theorem setDriveCutAndHalt : Obligations.SetDriveCutAndHalt := by
  intro tag i s hr
  refine ⟨fun fields hlen => ⟨fun h => ?_, fun h1 h2 => ?_, fun b hb => ?_⟩, fun n => ⟨fun flag hflag => ⟨fun h => ?_, fun h hrake => ?_,
    fun h hrake => ?_, fun h => ?_, fun h => ?_⟩, fun flag hflag => ?_, fun h => ?_, fun h => ?_, fun h1 h2 h3 => ?_, fun b hb => ?_⟩⟩
  · exact exec_replies rfl hr (serveSetDrive_taken (s := s.serving .setDrive tag (BitVec.ofNat 8 i.val :: fields)) hlen h)
  · obtain ⟨content, hbusy⟩ := serveSetDrive_busy (s := s.serving .setDrive tag (BitVec.ofNat 8 i.val :: fields)) hlen (not_or.mpr ⟨h1, h2⟩)
    exact ⟨content, exec_replies rfl hr hbusy⟩
  · exact exec_replies (c := .setDrive tag (b :: fields)) rfl hr (serveSetDrive_nobody hb hlen _)
  · obtain ⟨hcut, hvalues⟩ := startCut_eq i n.toNat (decide (flag = 1)) (s.serving .cut tag [BitVec.ofNat 8 i.val, n, flag])
    refine exec_posts (c := .cut tag [BitVec.ofNat 8 i.val, n, flag]) rfl hr ((serveCut_eq i n flag _).trans ?_)
    have hready : ((s.serving .cut tag [BitVec.ofNat 8 i.val, n, flag]).slot i).state = .ready := h
    rw [flagAt_two hflag]
    simp only [hready]
    unfold slotReplyPrev
    rw [hvalues, hcut]
    rfl
  · refine exec_replies (c := .cut tag [BitVec.ofNat 8 i.val, n, flag]) rfl hr ((serveCut_eq i n flag _).trans ?_)
    have hrake : ((s.serving .cut tag [BitVec.ofNat 8 i.val, n, flag]).slot i).rakeHalt = false := hrake
    rw [flagAt_two hflag]
    obtain h | h := h
    all_goals
      have h : ((s.serving .cut tag [BitVec.ofNat 8 i.val, n, flag]).slot i).state = _ := h
      simp only [h, hrake]
      rfl
  · refine exec_replies (c := .cut tag [BitVec.ofNat 8 i.val, n, flag]) rfl hr ((serveCut_eq i n flag _).trans ?_)
    have hrake : ((s.serving .cut tag [BitVec.ofNat 8 i.val, n, flag]).slot i).rakeHalt = true := hrake
    rw [flagAt_two hflag]
    obtain h | h := h
    all_goals
      have h : ((s.serving .cut tag [BitVec.ofNat 8 i.val, n, flag]).slot i).state = _ := h
      simp only [h, hrake]
      rfl
  · refine exec_replies (c := .cut tag [BitVec.ofNat 8 i.val, n, flag]) rfl hr ((serveCut_eq i n flag _).trans ?_)
    rw [flagAt_two hflag]
    obtain h | h := h
    all_goals
      have h : ((s.serving .cut tag [BitVec.ofNat 8 i.val, n, flag]).slot i).state = _ := h
      simp only [h]
      rfl
  · refine exec_replies (c := .cut tag [BitVec.ofNat 8 i.val, n, flag]) rfl hr ((serveCut_eq i n flag _).trans ?_)
    rw [flagAt_two hflag]
    obtain h | h | h | h := h
    all_goals
      have h : ((s.serving .cut tag [BitVec.ofNat 8 i.val, n, flag]).slot i).state = _ := h
      simp only [h]
      rfl
  · refine exec_replies (c := .cut tag [BitVec.ofNat 8 i.val, n, flag]) rfl hr ((serveCut_eq i n flag _).trans ?_)
    rw [flagAt_outside (by exact hflag)]
    rfl
  · refine exec_replies (c := .halt tag [BitVec.ofNat 8 i.val]) rfl hr ((serveHalt_eq i _).trans ?_)
    obtain h | h := h
    all_goals
      have h : ((s.serving .halt tag [BitVec.ofNat 8 i.val]).slot i).state = _ := h
      simp only [h]
      rfl
  · refine exec_replies (c := .halt tag [BitVec.ofNat 8 i.val]) rfl hr ((serveHalt_eq i _).trans ?_)
    have h : ((s.serving .halt tag [BitVec.ofNat 8 i.val]).slot i).state = _ := h
    simp only [h]
    rfl
  · refine exec_replies (c := .halt tag [BitVec.ofNat 8 i.val]) rfl hr ((serveHalt_eq i _).trans ?_)
    have h1 : ((s.serving .halt tag [BitVec.ofNat 8 i.val]).slot i).state ≠ _ := h1
    have h2 : ((s.serving .halt tag [BitVec.ofNat 8 i.val]).slot i).state ≠ _ := h2
    have h3 : ((s.serving .halt tag [BitVec.ofNat 8 i.val]).slot i).state ≠ _ := h3
    split
    case h_1 hs => exact absurd hs h1
    case h_2 hs => exact absurd hs h2
    case h_3 hs => exact absurd hs h3
    all_goals rfl
  · exact exec_replies (c := .halt tag [b]) rfl hr (serveHalt_nobody hb _)

end Sys2Proof.Machine

/-! PROOFS. ENGAGE, RELEASE and CLEAR_DRIVE (R17, R60, R85, R86, R98, R103). -/

namespace Sys2Proof.Machine

/-! ### A request that is taken (R59, R60) -/

/-- R59, R60: the entry of a request. -/
def requestEntry (r : Request) (s : State) : QueueEntry :=
  { owner := r.owner, cls := r.cls, booking := r.booking, sequence := s.da.sequence, waitLimit := r.waitLimit,
    waitTimer := if r.waitLimit = 0 then none else some (r.waitLimit * 1000), origin := r.origin }

theorem enqueue_full {r : Request} (moved : State → State) {s : State} (hq : s.queueHas r.owner = false) (ht : s.tableHas r.owner = false)
    (h : 8 ≤ s.da.queue.length) : enqueue arbitrate r moved s = (.full, s) := by
  unfold enqueue
  rw [if_neg (by simp [hq, ht]), if_pos h]

theorem enqueue_taken {r : Request} (moved : State → State) {s : State} (hq : s.queueHas r.owner = false) (ht : s.tableHas r.owner = false)
    (h : s.da.queue.length < 8) :
    enqueue arbitrate r moved s = (.taken, arbitrate (moved (insertRequest (requestEntry r s) s))) := by
  unfold enqueue
  rw [if_neg (by simp [hq, ht]), if_neg (Nat.not_le.mpr h)]
  rfl

theorem enqueued_of_insert {s t : State} {r : Request} (hordered : queueOrdered s.da.queue) (hq : t.da.queue = insertEntry (requestEntry r s) s.da.queue)
    (hsequence : t.da.sequence = s.da.sequence + 1) (htable : t.da.table = s.da.table) :
    s.Enqueued t r.owner r.cls r.booking r.waitLimit r.origin := by
  obtain ⟨front, back, hsplit, hinsert, hfront, hback⟩ := insertEntry_spec (requestEntry r s) s.da.queue hordered
  exact ⟨front, back, hsplit, hq.trans hinsert, hfront, hback, hsequence, htable⟩

/-! ### ENGAGE (R85) -/

theorem serveEngage_eq (i : Fin 4) (s : State) : serveEngage [BitVec.ofNat 8 i.val] s =
    if s.ss.station ≠ .live then slotReply .state i s
    else if s.ss.standing then slotReply .mode i s
    else if (s.slot i).state ≠ .idle then slotReply .state i s
    else if (s.slot i).present = false then slotReply .badArg i s
    else slotReply (enqueue arbitrate (driveRequest s i) (fun s => s.onSlot i fun d => { d with state := .queued }) s).1.result i
      (enqueue arbitrate (driveRequest s i) (fun s => s.onSlot i fun d => { d with state := .queued }) s).2 := by
  unfold serveEngage
  exact withSlot_named (n := 1) (rest := []) i rfl _ s

/-- R85: the request of ENGAGE, made. -/
def engaged (i : Fin 4) (s : State) : State :=
  (insertRequest (requestEntry (driveRequest s i) s) s).onSlot i fun d => { d with state := .queued }

theorem still_engaged (i : Fin 4) (s : State) : (engaged i s).still = s.still :=
  (still_onSlot (insertRequest (requestEntry (driveRequest s i) s) s) i (fun d => { d with state := .queued }) (fun _ => rfl) fun _ => rfl).trans
    (still_onDa s (fun d => { d with queue := insertEntry (requestEntry (driveRequest s i) s) d.queue, sequence := d.sequence + 1 })
      (fun _ => rfl) fun _ => rfl)

theorem consistent_idle {s : State} (hs : s.Consistent) {i : Fin 4} (h : (s.slot i).state = .idle) :
    s.queueHas (.drive i) = false ∧ s.tableHas (.drive i) = false :=
  ⟨(hs.driveQueued i).trans (by simp [h]), (hs.driveGranted i).trans (by rw [h]; rfl)⟩

theorem serveEngage_tested {i : Fin 4} {s : State} (hlive : s.ss.station = .live) (hstanding : s.ss.standing = false)
    (hidle : (s.slot i).state = .idle) (hpresent : (s.slot i).present = true) : serveEngage [BitVec.ofNat 8 i.val] s =
      slotReply (enqueue arbitrate (driveRequest s i) (fun s => s.onSlot i fun d => { d with state := .queued }) s).1.result i
        (enqueue arbitrate (driveRequest s i) (fun s => s.onSlot i fun d => { d with state := .queued }) s).2 := by
  rw [serveEngage_eq, if_neg (by simp [hlive]), if_neg (by simp [hstanding]), if_neg (by simp [hidle]), if_neg (by simp [hpresent])]

theorem serving_consistent {s : State} (hs : s.Consistent) (k : CommandKind) (tag : Byte) (body : List Byte) : (s.serving k tag body).Consistent :=
  (consistent_iff _).mpr (((consistent_iff s).mp hs).of_eq rfl rfl (fun _ => rfl) rfl (fun _ => rfl) rfl)

theorem slotValues_of_slot {s t : State} {i : Fin 4} (h : t.slot i = s.slot i) : slotValues t i = slotValues s i := by
  rw [slotValues_eq, slotValues_eq, h]

/-- R85: ENGAGE that passes its tests and finds room. -/
theorem exec_engage {i : Fin 4} {tag : Byte} {s : State} (hr : s.LinkReady) (hs : s.Consistent) (hlive : s.ss.station = .live)
    (hstanding : s.ss.standing = false) (hidle : (s.slot i).state = .idle) (hpresent : (s.slot i).present = true) (hroom : s.da.queue.length < 8) :
    ∃ t, exec (.engage tag [BitVec.ofNat 8 i.val]) s = .next t
      ∧ s.AnsweredFrom (arbitrate (engaged i (s.serving .engage tag [BitVec.ofNat 8 i.val]))) t .engage tag .queued
        (slotValues (arbitrate (engaged i (s.serving .engage tag [BitVec.ofNat 8 i.val]))) i) := by
  obtain ⟨hq, ht⟩ := consistent_idle hs hidle
  have htaken := enqueue_taken (r := driveRequest (s.serving .engage tag [BitVec.ofNat 8 i.val]) i) (fun s => s.onSlot i fun d => { d with state := .queued })
    (s := s.serving .engage tag [BitVec.ofNat 8 i.val]) hq ht hroom
  have hchanges := changes_driveEnqueue (m := false) i (s := s.serving .engage tag [BitVec.ofNat 8 i.val]) hlive hidle hpresent
  have hserve := serveEngage_tested (i := i) (s := s.serving .engage tag [BitVec.ofNat 8 i.val]) hlive hstanding hidle hpresent
  rw [htaken] at hchanges hserve
  exact exec_answers rfl hr hchanges hserve

/-- Settles O34: the tests of ENGAGE one after another, and the request. -/
theorem engageCommand : Obligations.EngageCommand := by
  intro tag i s hr hs hordered c values p
  have hrefused : ∀ r, serveEngage [BitVec.ofNat 8 i.val] (s.serving .engage tag [BitVec.ofNat 8 i.val])
      = slotReply r i (s.serving .engage tag [BitVec.ofNat 8 i.val]) → exec c s = .next (s.replyTo .engage tag r (values s)) := fun r h =>
    exec_replies rfl hr h
  refine ⟨fun h => hrefused _ ?_, fun hlive h => hrefused _ ?_, fun hlive hstanding => ⟨fun h => hrefused _ ?_, fun hidle => ⟨fun h => hrefused _ ?_,
    fun hpresent => ⟨fun hfull => hrefused _ ?_, fun hroom => ?_⟩⟩⟩⟩
  · rw [serveEngage_eq, if_pos (by exact h)]
  · rw [serveEngage_eq, if_neg (by exact not_not.mpr hlive), if_pos (by exact h)]
  · rw [serveEngage_eq, if_neg (by exact not_not.mpr hlive), if_neg (by exact Bool.eq_false_iff.mp hstanding), if_pos (by exact h)]
  · rw [serveEngage_eq, if_neg (by exact not_not.mpr hlive), if_neg (by exact Bool.eq_false_iff.mp hstanding), if_neg (by exact not_not.mpr hidle),
      if_pos (by exact h)]
  · obtain ⟨hq, ht⟩ := consistent_idle hs hidle
    rw [serveEngage_tested (s := s.serving .engage tag [BitVec.ofNat 8 i.val]) hlive hstanding hidle hpresent, enqueue_full
      (r := driveRequest (s.serving .engage tag [BitVec.ofNat 8 i.val]) i) _ (s := s.serving .engage tag [BitVec.ofNat 8 i.val]) hq ht hfull]
    rfl
  · obtain ⟨t, ht, ha⟩ := exec_engage (tag := tag) hr hs hlive hstanding hidle hpresent hroom
    refine ⟨t, ht, ?_, ?_, fun hspacing => ?_⟩
    · have hvalues := slotValues_of_slot (i := i) (ha.proj (State.slot · i))
      have hreplied := ha.replied
      rw [← hvalues] at hreplied
      exact hreplied
    · exact ha.still (v := s.serving .engage tag [BitVec.ofNat 8 i.val]) ((settling_arbitrate _).still.trans (still_engaged i _))
    · rw [arbitrate_of_spacing (s := engaged i (s.serving .engage tag [BitVec.ofNat 8 i.val])) hspacing] at ha
      have hsame := ha.same
      refine ⟨enqueued_of_insert (r := driveRequest s i) hordered ?_ ?_ ?_, ?_⟩
      all_goals
        rw [hsame]
        rfl

/-! ### The feed-forward that a release removes (R17) -/

theorem feedForwardRemove_recorded {i : Fin 4} {amount : Nat} {s : State} (honce : (s.gc.feedForward.map Prod.fst).Nodup) (h : (i, amount) ∈ s.gc.feedForward) :
    (feedForwardRemove i s).gc = { s.gc with
      feedForward := s.gc.feedForward.filter fun r => decide (r.1 ≠ i)
      integrator := s.gc.clampIntegrator (s.gc.integrator - amount) } := by
  have hlist : ∀ l : List (Fin 4 × Nat), (l.map Prod.fst).Nodup → (i, amount) ∈ l →
      (l.find? fun r => decide (r.1 = i)) = some (i, amount) ∧ (l.eraseP fun r => decide (r.1 = i)) = l.filter fun r => decide (r.1 ≠ i) := by
    intro l hl hin
    induction l with
    | nil => cases hin
    | cons r l ih =>
      obtain ⟨hr, hl⟩ := List.nodup_cons.mp hl
      obtain rfl | hin := List.mem_cons.mp hin
      · have hrest : l.filter (fun r => decide (r.1 ≠ i)) = l := List.filter_eq_self.mpr fun x hx =>
          decide_eq_true fun hk : x.1 = i => hr (List.mem_map.mpr ⟨x, hx, hk⟩)
        simpa using hrest.symm
      · have hne : r.1 ≠ i := fun hk => hr (hk ▸ List.mem_map_of_mem (f := Prod.fst) hin)
        obtain ⟨hfind, herase⟩ := ih hl hin
        simp [hne, hfind, herase]
  obtain ⟨hfind, herase⟩ := hlist _ honce h
  unfold feedForwardRemove
  simp only [State.onGc_gc, hfind, herase]

/-- R17, R56, R74: a slot's entry and its feed-forward go, and the rest of the Gate Controller stays. -/
theorem released_gate {i : Fin 4} {s : State} (hs : s.Consistent) :
    (released (.drive i) s).da.table = s.da.table.filter (fun e => decide (e.owner ≠ .drive i))
    ∧ ∀ amount, (i, amount) ∈ s.gc.feedForward → (released (.drive i) s).gc = { s.gc with
        feedForward := s.gc.feedForward.filter fun r => decide (r.1 ≠ i)
        integrator := s.gc.clampIntegrator (s.gc.integrator - amount) } := by
  have honce : (s.gc.feedForward.map Prod.fst).Nodup := by
    rw [hs.fedForward, drivesInTable_eq]
    refine List.Nodup.filterMap ?_ hs.tableOnce
    intro a b c ha hb
    cases a <;> cases b <;> simp_all [Owner.slot?]
  obtain ⟨timer, ht⟩ := shortfallTest_frame (removeFromTable (.drive i) s)
  unfold released
  rw [ht]
  refine ⟨rfl, fun amount h => ?_⟩
  exact feedForwardRemove_recorded (s := s.onDa fun d => { d with table := d.table.filter fun e => decide (e.owner ≠ .drive i) }) honce h

/-! ### RELEASE (R86, R98) -/

theorem serveRelease_eq (i : Fin 4) (s : State) : serveRelease [BitVec.ofNat 8 i.val] s =
    match (s.slot i).state with
    | .queued => slotReply .ok i (withdrawOwner (.drive i) .cancel s)
    | .lead | .clutching | .ready | .cutting | .held => slotReply .ok i (releaseSlot arbitrate i s)
    | .idle | .coasting | .fault => slotReply .state i s := by
  unfold serveRelease
  exact withSlot_named (n := 1) (rest := []) i rfl _ s

theorem serveRelease_engaged {i : Fin 4} {s : State} (h : (s.slot i).state.engaged = true) :
    serveRelease [BitVec.ofNat 8 i.val] s = slotReply .ok i (releaseSlot arbitrate i s) := by
  rw [serveRelease_eq]
  cases hs : (s.slot i).state <;> rw [hs] at h <;> first | rfl | cases h

theorem serveRelease_queued {i : Fin 4} {s : State} (h : (s.slot i).state = .queued) :
    serveRelease [BitVec.ofNat 8 i.val] s = slotReply .ok i (withdrawOwner (.drive i) .cancel s) := by
  rw [serveRelease_eq, h]

/-- R98: the table and the Gate Controller after a release while the spacing timer keeps grants back. -/
theorem releaseSlot_of_spacing {i : Fin 4} {s : State} (hs : s.Consistent) (heng : (s.slot i).state.engaged = true)
    (hspacing : s.da.spacingTimer.isSome = true) :
    (releaseSlot arbitrate i s).da = (released (.drive i) s).da ∧ (releaseSlot arbitrate i s).gc = (released (.drive i) s).gc := by
  have htable : (s.onSlot i Slot.toCoasting).tableHas (.drive i) = true := (hs.driveGranted i).trans heng
  have hda : (released (.drive i) (s.onSlot i Slot.toCoasting)).da = (released (.drive i) s).da
      ∧ (released (.drive i) (s.onSlot i Slot.toCoasting)).gc = (released (.drive i) s).gc := by
    unfold released
    rw [shortfallTest_eq, shortfallTest_eq]
    exact ⟨rfl, rfl⟩
  unfold releaseSlot takeOut
  simp only [post_da, post_gc, postAborted_da]
  rw [releaseNotice_of_spacing (s := s.onSlot i Slot.toCoasting) hspacing htable]
  refine ⟨hda.1, ?_⟩
  unfold postAborted
  split
  · rw [post_gc]
    exact hda.2
  · exact hda.2

theorem State.TakenOut.of_answered {s u t : State} {i : Fin 4} {cause : DriveCause} {k : CommandKind} {tag : Byte} {body : List Byte}
    {r : Result} {content : List Byte} (h : (s.serving k tag body).TakenOut u i cause) (ha : s.AnsweredFrom u t k tag r content) :
    s.TakenOut t i cause :=
  ⟨(ha.proj (State.slot · i)).trans h.slot, (ha.proj fun x => x.tableHas (.drive i)).trans h.table, ha.reports _ h.report⟩

theorem consistent_engaged {s : State} (hs : s.Consistent) {i : Fin 4} (h : (s.slot i).state.engaged = true) : s.queueHas (.drive i) = false := by
  rw [hs.driveQueued i, decide_eq_false_iff_not]
  intro hk
  rw [hk] at h
  cases h

/-- R83: the reply's values are those of the state that it leaves. -/
theorem State.AnsweredFrom.slotReplied {s u t : State} {k : CommandKind} {tag : Byte} {r : Result} {i : Fin 4}
    (ha : s.AnsweredFrom u t k tag r (slotValues u i)) : t.Replied k tag r (slotValues t i) := by
  rw [slotValues_of_slot (ha.proj (State.slot · i))]
  exact ha.replied

/-- R103: CLEAR_DRIVE. -/
theorem serveClearDrive_eq (i : Fin 4) (s : State) : serveClearDrive [BitVec.ofNat 8 i.val] s =
    if (s.slot i).state = .fault then slotReply .ok i (clearDrive i s) else slotReply .state i s := by
  unfold serveClearDrive
  exact withSlot_named (n := 1) (rest := []) i rfl _ s

/-- R103, with the counts as cleared (log 14). -/
theorem clearDrive_eq (i : Fin 4) (s : State) :
    let t := s.onSlot i fun d => { d with
      state := .coasting, remaining := 0, releaseFlag := false, strokes := 0, coastTimer := some d.profile.coast }
    clearDrive i s = post (.drive i .coasting .fault .clear 0 0) t ∧ slotValues (clearDrive i s) i = slotValues t i := by
  intro t
  have hslot : t.slot i = _ := onSlot_self s i _
  have hclear : clearDrive i s = post (.drive i (t.slot i).state .fault .clear (t.slot i).remaining (t.slot i).strokes) t := rfl
  rw [hclear]
  exact ⟨by rw [hslot], slotValues_of_slot (post_slot _ t i)⟩

/-- Settles O35: RELEASE takes an engaged slot out and a queued one from the queue; CLEAR_DRIVE ends a fault. -/
theorem releaseAndClearDrive : Obligations.ReleaseAndClearDrive := by
  intro tag i s hr hs d b values
  refine ⟨fun heng => ?_, fun e he ho hqueued => ?_, fun h => ?_, fun h => ?_, fun h => ?_⟩
  · have hsx := serving_consistent hs .release tag [b]
    obtain ⟨t, ht, ha⟩ := exec_answers (c := .release tag [b]) rfl hr (changes_releaseSlot i (by exact heng))
      (serveRelease_engaged (s := s.serving .release tag [b]) heng)
    have hout := takeOut_release (cause := .host) (i := i) (s := s.serving .release tag [b]) hr.powered heng (consistent_engaged hsx heng)
    refine ⟨t, ht, hout.takenOut.of_answered ha, ha.slotReplied, ha.still (v := s.serving .release tag [b]) hout.after.still,
      fun h => ha.reports _ (hout.aborted h), fun hspacing => ?_⟩
    obtain ⟨hda, hgc⟩ := releaseSlot_of_spacing (i := i) hsx heng hspacing
    obtain ⟨htable, hgate⟩ := released_gate (i := i) hsx
    refine ⟨(ha.proj fun x => x.da.table).trans ((congrArg Arbiter.table hda).trans htable), fun amount hin => ?_⟩
    exact (ha.proj State.gc).trans (hgc.trans (hgate amount hin))
  · obtain ⟨t, ht, ha⟩ := exec_answers (c := .release tag [b]) rfl hr (changes_withdrawOwner (.drive i) .cancel _)
      (serveRelease_queued (s := s.serving .release tag [b]) hqueued)
    have hw := withdrawOwner_withdrawn (s := s.serving .release tag [b]) hr.powered hs.queueOnce he (by simp [ho]) .cancel
    rw [ho] at hw
    exact ⟨t, ht, hw.of_answered ha, ha.slotReplied⟩
  · refine exec_replies (c := .release tag [b]) rfl hr ((serveRelease_eq i _).trans ?_)
    obtain h | h | h := h
    all_goals
      have h : ((s.serving .release tag [b]).slot i).state = _ := h
      simp only [h]
      rfl
  · have hclear := (serveClearDrive_eq i (s.serving .clearDrive tag [b])).trans (if_pos (by exact h))
    refine exec_posts (c := .clearDrive tag [b]) rfl hr (hclear.trans ?_)
    obtain ⟨hreport, hvalues⟩ := clearDrive_eq i (s.serving .clearDrive tag [b])
    unfold slotReply
    rw [hvalues, hreport]
    rfl
  · exact exec_replies (c := .clearDrive tag [b]) rfl hr ((serveClearDrive_eq i _).trans (if_neg (by exact h)))

end Sys2Proof.Machine

/-! PROOFS. The timers of the slots, the feeders and the arbiter, and the strokes of a cut (R64, R67, R88 to R95, R102, R121). -/

namespace Sys2Proof.Machine

/-! ### Timers -/

theorem exec_guarded {s : State} {p : State → Prop} [DecidablePred p] {f : State → State} (hp : s.powered = true) (h : p s) :
    whenPowered s (fun s => if p s then f s else s) = f s := (whenPowered_on hp _).trans (if_pos h)

theorem not_running {p : Prop} {t : Timer} (h : ¬p ∨ t = none) : ¬(p ∧ t.isSome = true) := fun hk =>
  h.elim (· hk.1) (Option.isSome_iff_ne_none.mp hk.2)

/-- R82: a DRIVE report after a change of the slot. -/
theorem postDrive_onSlot (i : Fin 4) (prev : SlotState) (cause : DriveCause) (g : Slot → Slot) (s : State) : postDrive i prev cause (s.onSlot i g) =
    post (.drive i (g (s.slot i)).state prev cause (g (s.slot i)).remaining (g (s.slot i)).strokes) (s.onSlot i g) := by
  unfold postDrive
  rw [onSlot_self]

/-- R65, R67: no grant is made while the spacing timer runs, nor from an empty queue. -/
theorem arbitrate_of_no_grant {s : State} (h : s.da.spacingTimer.isSome = true ∨ s.da.queue = []) : arbitrate s = s :=
  h.elim arbitrate_of_spacing arbitrate_of_queue_nil

/-- Settles O36: every timer acts in its own state, and what arbitrates grants only where a grant can be made. -/
theorem ownerTimers : Obligations.OwnerTimers := by
  intro s hp
  refine ⟨fun i => ⟨fun h ht => ?_, fun h ht => ?_, fun h ht => ?_, fun h => ?_, fun h => ?_, fun h => ?_⟩, fun i ht => ?_, fun i ht => ?_,
    fun ht hnone => ?_, fun ht => ?_⟩
  · exact congrArg Host.Outcome.next (exec_guarded (s := s) (f := clutchIn i) hp ⟨h, ht⟩)
  · exact congrArg Host.Outcome.next ((exec_guarded (s := s) hp ⟨h, ht⟩).trans (postDrive_onSlot i _ _ _ s))
  · exact congrArg Host.Outcome.next ((exec_guarded (s := s) hp ⟨h, ht⟩).trans (postDrive_onSlot i _ _ _ s))
  · exact congrArg Host.Outcome.next (whenPowered_same (if_neg (not_running h)))
  · exact congrArg Host.Outcome.next (whenPowered_same (if_neg (not_running h)))
  · exact congrArg Host.Outcome.next (whenPowered_same (if_neg (not_running h)))
  · refine ⟨arbitrate (s.onSlot i fun d => { d with cycleTimer := none }),
      congrArg Host.Outcome.next ((whenPowered_on hp _).trans (whenRunning_of_isSome ht s _)), ?_, fun h => arbitrate_of_no_grant h⟩
    exact (settling_arbitrate _).still.trans (still_onSlot s i (fun d => { d with cycleTimer := none }) (fun _ => rfl) fun _ => rfl)
  · refine ⟨arbitrate (s.onFeeder i fun d => { d with minOffTimer := none }),
      congrArg Host.Outcome.next ((whenPowered_on hp _).trans (whenRunning_of_isSome ht s _)), ?_, fun h => arbitrate_of_no_grant h⟩
    exact (settling_arbitrate _).still.trans (still_onFeeder s i (fun d => { d with minOffTimer := none }) fun _ => rfl)
  · rw [exec_spacingTimer hp ht]
    exact congrArg Host.Outcome.next (arbitrate_of_none_eligible (s := s.onDa fun d => { d with spacingTimer := none }) hnone)
  · exact congrArg Host.Outcome.next (whenPowered_same (whenRunning_of_none ht s _))

/-! ### Strokes (R92, R93) -/

/-- R190: the drives do not matter to a report. -/
theorem post_onDs (r : Report) (s : State) (d : DriveScheduler) : post r { s with ds := d } = { post r s with ds := d } := by
  have harb : ∀ x : State, transmitArbitrate { x with ds := d } = { transmitArbitrate x with ds := d } := by
    intro x
    cases x with
    | mk _ _ _ _ _ _ _ _ _ _ _ _ sl _ _ _ =>
      cases sl with
      | mk _ _ _ _ _ slot reports tx _ _ _ _ =>
        cases tx <;> cases slot <;> cases reports <;> rfl
  unfold post
  by_cases hp : s.powered
  · rw [if_pos (show ({ s with ds := d } : State).powered = true from hp), if_pos hp]
    by_cases hroom : s.sl.reports.length < 16
    · rw [if_pos (show ({ s with ds := d } : State).sl.reports.length < 16 from hroom), if_pos hroom]
      exact harb (s.onSl fun l => { l with reports := l.reports ++ [r] })
    · rw [if_neg (show ¬({ s with ds := d } : State).sl.reports.length < 16 from hroom), if_neg hroom]
      rfl
  · rw [if_neg (show ¬({ s with ds := d } : State).powered = true from hp), if_neg hp]

theorem post_onSlot (r : Report) (s : State) (i : Fin 4) (g : Slot → Slot) : (post r s).onSlot i g = post r (s.onSlot i g) := by
  have h : (post r s).onSlot i g = { post r s with ds := { s.ds with slots := s.ds.slots.set i (g s.ds.slots[i]) } } := by
    show ({ post r s with ds := { (post r s).ds with slots := (post r s).ds.slots.set i (g (post r s).ds.slots[i]) } } : State) = _
    rw [post_ds]
  rw [h, ← post_onDs]
  rfl

theorem onSlot_onSlot (s : State) (i : Fin 4) (g h : Slot → Slot) : (s.onSlot i g).onSlot i h = s.onSlot i fun d => h (g d) := by
  simp [State.onSlot, State.onDs]

theorem onSlot_congr {s : State} {i : Fin 4} {g h : Slot → Slot} (e : g (s.slot i) = h (s.slot i)) : s.onSlot i g = s.onSlot i h := by
  show ({ s with ds := { s.ds with slots := s.ds.slots.set i (g (s.slot i)) } } : State) = { s with ds := { s.ds with slots := s.ds.slots.set i (h (s.slot i)) } }
  rw [e]

/-- R92: a slot that has taken a stroke. -/
def Slot.stroked (d : Slot) : Slot := { d with strokes := min 65535 (d.strokes + 1), remaining := d.remaining - 1 }

theorem strokeEnd_elsewhere {i : Fin 4} {s : State} (h1 : (s.slot i).state ≠ .cutting) (h2 : (s.slot i).state ≠ .held) :
    strokeEnd arbitrate i s = s := if_neg (not_or.mpr ⟨h1, h2⟩)

theorem strokeEnd_cutting {i : Fin 4} {s : State} (h : (s.slot i).state = .cutting ∨ (s.slot i).state = .held) : strokeEnd arbitrate i s =
    if (s.slot i).remaining = 1 then endCut arbitrate i (s.onSlot i Slot.stroked)
    else post (.stroke i .completed (min 65535 ((s.slot i).strokes + 1)) ((s.slot i).remaining - 1)) (s.onSlot i fun d => { d.stroked with
      strokeTimer := some (d.profile.strokeTimeout * 1000) }) := by
  unfold strokeEnd
  rw [if_pos h]
  simp only [onSlot_onSlot, onSlot_self]
  rfl

/-- R93: a cut that ends without the release flag. -/
theorem endCut_stays {i : Fin 4} {s : State} (h : (s.slot i).releaseFlag = false) : endCut arbitrate i s =
    post (.drive i .ready (s.slot i).state .cutDone (s.slot i).remaining (s.slot i).strokes) (post (.stroke i .completed (s.slot i).strokes 0)
      (s.onSlot i fun d => { d with state := .ready, strokeTimer := none, rakeHalt := false, releaseFlag := false })) := by
  unfold endCut
  simp only [h]
  rw [if_neg Bool.false_ne_true, postDrive_onSlot, post_slot, post_onSlot]

/-- What the end of a cut with the release flag, or a jam, leaves: the slot out of engagement by `g`, its table entry gone. -/
structure LeftBy (g : Slot → Slot) (s t : State) (i : Fin 4) : Prop where
  slot : t.slot i = g (s.slot i)
  table : t.tableHas (.drive i) = false
  still : t.still = s.still
  reports : ReportsOnly s t

theorem releaseNotice_leftBy {g : Slot → Slot} {i : Fin 4} {s : State} (hq : s.queueHas (.drive i) = false)
    (hg : (g (s.slot i)).state.engaged = false) (hprofile : ∀ d, (g d).profile = d.profile) (hpresent : ∀ d, (g d).present = d.present) :
    LeftBy g s (releaseNotice arbitrate (.drive i) (s.onSlot i g)) i := by
  have hself := onSlot_self s i g
  have hlink : ReportsOnly s (s.onSlot i g) := .of_sl rfl rfl
  refine ⟨?_, releaseNotice_tableHas (o := .drive i) (s := s.onSlot i g) hq id, ?_, hlink.trans (releaseNotice_reportsOnly _ _)⟩
  · rw [releaseNotice_slot (s := s.onSlot i g) hq (by rw [hself]; exact hg), hself]
  · exact (aftermath_releaseNotice settling_arbitrate _ _).still.trans (still_onSlot s i g hprofile hpresent)

theorem LeftBy.thenPost {g : Slot → Slot} {s t : State} {i : Fin 4} (h : LeftBy g s t i) (r : Report) : LeftBy g s (post r t) i :=
  ⟨(post_slot r t i).trans h.slot, by unfold State.tableHas; rw [post_da]; exact h.table, (still_post r t).trans h.still,
    h.reports.trans (post_reportsOnly r t)⟩

/-- R93: a cut that ends with the release flag. -/
theorem endCut_leaves {i : Fin 4} {s : State} (hp : s.powered = true) (hq : s.queueHas (.drive i) = false) (h : (s.slot i).releaseFlag = true) :
    LeftBy Slot.toCoasting s (endCut arbitrate i s) i
    ∧ s.reportsSince (endCut arbitrate i s) (.stroke i .completed (s.slot i).strokes 0)
    ∧ s.reportsSince (endCut arbitrate i s) (.drive i .coasting (s.slot i).state (if (s.slot i).rakeHalt then .rake else .done) 0 (s.slot i).strokes) := by
  unfold endCut
  simp only [h]
  rw [if_pos trivial]
  have hpost := post_reportsOnly (.stroke i .completed (s.slot i).strokes 0) s
  have hleft := releaseNotice_leftBy (g := Slot.toCoasting) (i := i) (s := post (.stroke i .completed (s.slot i).strokes 0) s)
    (by unfold State.queueHas; rw [post_da]; exact hq) rfl (fun _ => rfl) fun _ => rfl
  have hall := hleft.thenPost (.drive i .coasting (s.slot i).state (if (s.slot i).rakeHalt then .rake else .done) 0 (s.slot i).strokes)
  refine ⟨⟨?_, hall.table, hall.still.trans (still_post _ _), hpost.trans hall.reports⟩, reportsSince_of_post hp (.refl s) hall.reports, ?_⟩
  · rw [hall.slot, post_slot]
  · exact reportsSince_of_post ((hpost.trans hleft.reports).power.trans hp) (hpost.trans hleft.reports) (.refl _)

/-- R95: a jam. -/
theorem strokeTimeout_leaves {i : Fin 4} {s : State} (hp : s.powered = true) (hq : s.queueHas (.drive i) = false) :
    LeftBy (fun d => { d with state := .fault, strokeTimer := none }) s (strokeTimeout arbitrate i s) i
    ∧ s.reportsSince (strokeTimeout arbitrate i s) (.drive i .fault (s.slot i).state .jam (s.slot i).remaining (s.slot i).strokes) := by
  have hleft := releaseNotice_leftBy (g := fun d => { d with state := .fault, strokeTimer := none }) (i := i) hq rfl (fun _ => rfl) fun _ => rfl
  exact ⟨hleft.thenPost _, reportsSince_of_post (hleft.reports.power.trans hp) hleft.reports (.refl _)⟩

theorem exec_strokeEnd {i : Fin 4} {s : State} (hp : s.powered = true) : exec (.strokeEnd i) s = .next (strokeEnd arbitrate i s) :=
  congrArg Host.Outcome.next (whenPowered_on hp _)

/-- Settles O37: a stroke is counted, the last one ends the cut, and a jam ends it in FAULT. -/
theorem strokes : Obligations.Strokes := by
  intro i s hp d strokes
  refine ⟨fun h1 h2 => ?_, fun h => ⟨fun hmore => ?_, fun hlast hflag => ?_, fun hlast hflag hs => ?_⟩, fun h ht hs => ?_, fun h => ?_⟩
  · rw [exec_strokeEnd hp, strokeEnd_elsewhere h1 h2]
  · rw [exec_strokeEnd hp, strokeEnd_cutting h, if_neg hmore]
    rfl
  · have hslot := onSlot_self s i Slot.stroked
    rw [exec_strokeEnd hp, strokeEnd_cutting h, if_pos hlast, endCut_stays (by rw [hslot]; exact hflag), hslot, onSlot_onSlot]
    have hzero : (s.slot i).remaining - 1 = 0 := by
      have hlast : (s.slot i).remaining = 1 := hlast
      omega
    have hsame : (s.onSlot i fun d => { d.stroked with state := .ready, strokeTimer := none, rakeHalt := false, releaseFlag := false })
        = s.onSlot i fun d => { d with
            state := .ready, strokes := strokes, remaining := 0, strokeTimer := none, rakeHalt := false, releaseFlag := false } := by
      refine onSlot_congr ?_
      simp only [Slot.stroked, hzero]
      rfl
    rw [hsame]
    show Host.Outcome.next (post (.drive i .ready (s.slot i).state .cutDone ((s.slot i).remaining - 1) strokes) _) = _
    rw [hzero]
    rfl
  · have hslot := onSlot_self s i Slot.stroked
    have hq : (s.onSlot i Slot.stroked).queueHas (.drive i) = false := consistent_engaged hs (by obtain h | h := h <;> rw [h] <;> rfl)
    obtain ⟨hleft, hstroke, hdrive⟩ := endCut_leaves (i := i) (s := s.onSlot i Slot.stroked) hp hq (by rw [hslot]; exact hflag)
    have hstill := hleft.still.trans (still_onSlot s i Slot.stroked (fun _ => rfl) fun _ => rfl)
    rw [hslot] at hstroke hdrive
    refine ⟨_, (exec_strokeEnd hp).trans (congrArg _ ((strokeEnd_cutting h).trans (if_pos hlast))), ?_, hleft.table, hstill, hstroke, hdrive⟩
    rw [hleft.slot, hslot]
    rfl
  · have hq := consistent_engaged hs (i := i) (by rw [h]; rfl)
    obtain ⟨hleft, hjam⟩ := strokeTimeout_leaves hp hq
    rw [h] at hjam
    exact ⟨_, congrArg Host.Outcome.next (exec_guarded (s := s) hp ⟨h, ht⟩), hleft.slot, hleft.table, hleft.still, hjam⟩
  · exact congrArg Host.Outcome.next (whenPowered_same (if_neg (not_running h)))

end Sys2Proof.Machine

/-! PROOFS. Due triggers of the rake (R106, R107, R112). -/

namespace Sys2Proof.Machine

/-- R106: the rake at a due trigger. -/
def RakeUnit.dueNow (k : RakeUnit) : RakeUnit :=
  { k with state := .due, dueTimer := none, graceTimer := some (k.params.grace * 60000), graceSpent := false }

/-- R106: a due trigger before the rake's request. -/
def dueReported (cause : RakeCause) (s : State) : State := post (.rake .due .idle cause s.rk.count false) { s with rk := s.rk.dueNow }

theorem dueTrigger_idle {cause : RakeCause} {s : State} (h : s.rk.state = .idle) :
    dueTrigger arbitrate cause s = rakeRequest arbitrate (dueReported cause s) := if_pos h

theorem dueTrigger_outside {cause : RakeCause} {s : State} (h : s.rk.state = .idle) (hlive : s.ss.station ≠ .live) :
    dueTrigger arbitrate cause s = dueReported cause s := by
  rw [dueTrigger_idle h]
  exact rakeRequest_of_ne_live _ (by unfold dueReported; rw [post_ss]; exact hlive)

theorem dueTrigger_elsewhere {cause : RakeCause} {s : State} (h : s.rk.state ≠ .idle) : dueTrigger arbitrate cause s = s := if_neg h

/-- R107: the request of a DUE rake. -/
def rakeAsk (s : State) : Request := { owner := .rake, cls := 3, booking := s.rk.params.booking, waitLimit := 0, origin := .host }

/-- R106, R107: what a due trigger in IDLE comes to. -/
structure AskedDue (cause : RakeCause) (s t : State) : Prop where
  still : t.still = s.still
  busy : t.rk.state ≠ .idle
  report : s.reportsSince t (.rake .due .idle cause s.rk.count false)
  asks : s.ss.station = .live → s.Consistent → queueOrdered s.da.queue → s.da.spacingTimer.isSome = true → s.da.queue.length < 8 →
    s.Enqueued t .rake 3 s.rk.params.booking 0 .host ∧ t.rk = { s.rk.dueNow with entryHeld := true }

/-- R107: a rake that has just become DUE asks with class 3. -/
theorem rakeRequest_due {s : State} (hdue : s.rk.state = .due) (hgrace : s.rk.graceSpent = false) (hheld : s.rk.entryHeld = false)
    (hlive : s.ss.station = .live) : rakeRequest arbitrate s = (enqueue arbitrate (rakeAsk s) (fun s => s.onRk fun k => { k with entryHeld := true }) s).2 := by
  have hasks : s.rk.state.asks = true ∧ s.rk.entryHeld = false ∧ s.ss.station = .live := ⟨by rw [hdue]; rfl, hheld, hlive⟩
  have hspent : ¬(s.rk.state = .due ∧ s.rk.graceSpent = true) := by simp [hgrace]
  have hforced : ¬s.rk.state = .forced := by simp [hdue]
  unfold rakeRequest
  rw [if_pos hasks]
  simp only [if_neg hspent, if_neg hforced]
  rfl

theorem dueTrigger_asked {cause : RakeCause} {s : State} (hp : s.powered = true) (h : s.rk.state = .idle) :
    AskedDue cause s (dueTrigger arbitrate cause s) := by
  refine ⟨still_dueTrigger arbitrate_keeps cause s, dueTrigger_not_idle cause s, ?_, fun hlive hs hordered hspacing hroom => ?_⟩
  · rw [dueTrigger_idle h]
    have hset : ReportsOnly s { s with rk := s.rk.dueNow } := .of_sl rfl rfl
    exact reportsSince_of_post (t := { s with rk := s.rk.dueNow }) hp hset (calm_rakeRequest arbitrate_arbitrates feedersOnly_nil _).reportsOnly
  · have hda : (dueReported cause s).da = s.da := post_da _ _
    have hrk : (dueReported cause s).rk = s.rk.dueNow := post_rk _ _
    have hss : (dueReported cause s).ss = s.ss := post_ss _ _
    have hheld : s.rk.entryHeld = false := Bool.eq_false_iff.mpr fun hk => by
      have := hs.rakeHeld hk
      rw [h] at this
      cases this
    rw [dueTrigger_idle h]
    generalize dueReported cause s = x at hda hrk hss
    have hq : x.queueHas .rake = false := by
      unfold State.queueHas
      rw [hda]
      exact hs.rakeQueued.trans hheld
    have ht : x.tableHas .rake = false := by
      unfold State.tableHas
      rw [hda]
      exact hs.rakeGranted.trans (by simp [h])
    have hx : rakeRequest arbitrate x = (insertRequest (requestEntry (rakeAsk x) x) x).onRk fun k => { k with entryHeld := true } := by
      rw [rakeRequest_due (by rw [hrk]; rfl) (by rw [hrk]; rfl) (by rw [hrk]; exact hheld) (by rw [hss]; exact hlive),
        enqueue_taken (r := rakeAsk x) _ hq ht (by rw [hda]; exact hroom)]
      refine arbitrate_of_spacing ?_
      show x.da.spacingTimer.isSome = true
      rw [hda]
      exact hspacing
    have hbooking : x.rk.params.booking = s.rk.params.booking := by rw [hrk]; rfl
    have henqueued := enqueued_of_insert (s := x) (t := rakeRequest arbitrate x) (r := rakeAsk x) (by rw [hda]; exact hordered) (by rw [hx]; rfl) (by rw [hx]; rfl) (by rw [hx]; rfl)
    refine ⟨?_, ?_⟩
    · unfold State.Enqueued at henqueued ⊢
      rw [hda] at henqueued
      rw [← hbooking]
      exact henqueued
    · rw [hx]
      exact congrArg (fun k : RakeUnit => { k with entryHeld := true }) hrk

theorem rakeValues_eq (k : RakeUnit) : rakeValues k =
    u8 k.state.code ++ u16 k.count ++ [if k.entryHeld then 1 else 0] ++ [if k.graceSpent then 1 else 0] ++ u16 ((k.dueTimer.getD 0 + 999) / 1000)
      ++ u16 ((k.graceTimer.getD 0 + 999) / 1000) ++ u16 ((k.runTimer.getD 0 + 999) / 1000) := by
  unfold rakeValues
  rw [flagByte_eq, flagByte_eq]
  rfl

theorem serveRakeNow_eq (s : State) : serveRakeNow [] s = reply .ok (rakeValues (dueTrigger arbitrate .host s).rk) (dueTrigger arbitrate .host s) := rfl

theorem exec_dueTimer {s : State} (hp : s.powered = true) (h : s.rk.dueTimer.isSome = true) :
    exec .dueTimerExpiry s = .next (dueTrigger arbitrate .interval (s.onRk fun k => { k with dueTimer := none })) :=
  congrArg Host.Outcome.next ((whenPowered_on hp _).trans (whenRunning_of_isSome h s _))

/-- A due trigger counts from the state before its timer was stopped. -/
theorem AskedDue.of_timer {cause : RakeCause} {s t : State} (h : AskedDue cause (s.onRk fun k => { k with dueTimer := none }) t) : AskedDue cause s t := by
  obtain ⟨h1, h2, h3, h4⟩ := h
  refine ⟨h1.trans (still_onRk s (fun k => { k with dueTimer := none }) fun _ => rfl), h2, h3, fun hlive hs => h4 hlive ?_⟩
  exact ⟨hs.driveGranted, hs.feederGranted, hs.rakeGranted, hs.driveQueued, hs.feederQueued, hs.rakeQueued, hs.rakeHeld, hs.tableOnce,
    hs.queueOnce, hs.fedForward⟩

theorem AskedDue.of_answered {cause : RakeCause} {s u t : State} {k : CommandKind} {tag : Byte} {body : List Byte} {r : Result} {content : List Byte}
    (h : AskedDue cause (s.serving k tag body) u) (ha : s.AnsweredFrom u t k tag r content) :
    t.still = ({ s with sl := t.sl } : State).still ∧ t.rk.state ≠ .idle ∧ s.reportsSince t (.rake .due .idle cause s.rk.count false)
    ∧ (s.ss.station = .live → s.Consistent → queueOrdered s.da.queue → s.da.spacingTimer.isSome = true → s.da.queue.length < 8 →
      s.Enqueued t .rake 3 s.rk.params.booking 0 .host ∧ t.rk = { s.rk.dueNow with entryHeld := true }) := by
  have hrk := ha.proj State.rk
  refine ⟨ha.still (v := s.serving k tag body) h.still, by rw [hrk]; exact h.busy, ha.reports _ h.report, fun hlive hs hordered hspacing hroom => ?_⟩
  obtain ⟨henqueued, hheld⟩ := h.asks hlive (serving_consistent hs k tag body) hordered hspacing hroom
  refine ⟨?_, hrk.trans hheld⟩
  unfold State.Enqueued at henqueued ⊢
  rw [ha.proj State.da]
  exact henqueued

/-- Settles O38: a due trigger in IDLE makes the rake DUE, and in LIVE it asks. -/
theorem rakeDue : Obligations.RakeDue := by
  intro tag s hp k due secs flag values asked
  have hlinked : ∀ {cause : RakeCause} {t : State}, ReportsOnly s t → AskedDue cause s t → asked cause t := by
    intro cause t hlink h
    exact ⟨h.still.trans (still_of_link hlink.link).symm, h.busy, h.report, h.asks⟩
  refine ⟨fun h => congrArg Host.Outcome.next (whenPowered_same (whenRunning_of_none h s _)), fun ht h => ?_, fun ht h => ?_, fun hr => ⟨fun h => ?_, fun h => ?_⟩⟩
  · rw [exec_dueTimer hp ht, dueTrigger_elsewhere (s := s.onRk fun k => { k with dueTimer := none }) h]
    rfl
  · have hasked := dueTrigger_asked (cause := .interval) (s := s.onRk fun k => { k with dueTimer := none }) hp h
    refine ⟨_, exec_dueTimer hp ht, hlinked ?_ hasked.of_timer, fun hlive => ?_⟩
    · exact ReportsOnly.trans (t := s.onRk fun k => { k with dueTimer := none }) (.of_sl rfl rfl)
        (calm_dueTrigger arbitrate_arbitrates feedersOnly_nil .interval _).reportsOnly
    · rw [dueTrigger_outside (s := s.onRk fun k => { k with dueTimer := none }) h hlive]
      rfl
  · refine exec_replies (c := .rakeNow tag []) rfl hr ((serveRakeNow_eq _).trans ?_)
    rw [dueTrigger_elsewhere (s := s.serving .rakeNow tag []) h, rakeValues_eq]
    rfl
  · obtain ⟨t, ht, ha⟩ := exec_answers (c := .rakeNow tag []) rfl hr (changes_dueTrigger .host _) (serveRakeNow_eq (s.serving .rakeNow tag []))
    have hasked := dueTrigger_asked (cause := .host) (s := s.serving .rakeNow tag []) hp h
    have hreplied := ha.replied
    rw [← ha.proj State.rk, rakeValues_eq] at hreplied
    refine ⟨t, ht, hasked.of_answered ha, hreplied, fun hlive => ?_⟩
    have hposts : exec (.rakeNow tag []) s = .next ((post (.rake .due .idle .host s.rk.count false) { s with rk := s.rk.dueNow }).replyTo
        .rakeNow tag .ok (rakeValues s.rk.dueNow)) := by
      refine exec_posts (c := .rakeNow tag []) rfl hr ((serveRakeNow_eq _).trans ?_)
      rw [dueTrigger_outside (s := s.serving .rakeNow tag []) h hlive]
      have hrk : (dueReported .host (s.serving .rakeNow tag [])).rk = s.rk.dueNow := post_rk _ _
      rw [hrk]
      rfl
    rw [rakeValues_eq] at hposts
    exact Host.Outcome.next.inj (ht.symm.trans hposts)

end Sys2Proof.Machine

/-! PROOFS. Slots that are taken out one by one (R99, R100), the rake's forcing and its run (R70, R101, R108, R110). -/

namespace Sys2Proof.Machine

/-! ### One element of a pass -/

/-- A pass over a list without repetitions comes to one of its elements once, and what the other elements keep is kept around it. -/
theorem foldl_at {ι : Type} {R : State → State → Prop} {f : State → ι → State} (hrefl : ∀ s, R s s) (htrans : ∀ {s t u}, R s t → R t u → R s u)
    {j : ι} (hf : ∀ s i, i ≠ j → R s (f s i)) {l : List ι} (hl : l.Nodup) (hj : j ∈ l) (s : State) :
    ∃ x, R s x ∧ R (f x j) (l.foldl f s) := by
  have hpass : ∀ (m : List ι), j ∉ m → ∀ x, R x (m.foldl f x) := by
    intro m hm x
    refine List.foldlRecOn (motive := fun t => R x t) m f (hrefl x) fun t ht i hi => htrans ht (hf t i fun hij => hm (hij ▸ hi))
  obtain ⟨front, back, rfl⟩ := List.append_of_mem hj
  obtain ⟨_, hrest, hdisj⟩ := List.nodup_append'.mp hl
  have hback := (List.nodup_cons.mp hrest).1
  rw [List.foldl_append, List.foldl_cons]
  exact ⟨front.foldl f s, hpass front (fun h => hdisj h List.mem_cons_self) s, hpass back hback _⟩

theorem allSlots_nodup : allSlots.Nodup := by decide

/-! ### A forced out while the spacing timer runs -/

/-- What a forced out of another slot leaves of slot `j`, and of the collections but for their own entries. -/
structure Beside (j : Fin 4) (s t : State) : Prop where
  slot : t.slot j = s.slot j
  queue : t.da.queue = s.da.queue
  spacing : t.da.spacingTimer = s.da.spacingTimer
  table : s.tableHas (.drive j) = false → t.tableHas (.drive j) = false
  rake : t.rk = s.rk
  link : ReportsOnly s t

theorem Beside.refl (j : Fin 4) (s : State) : Beside j s s := ⟨rfl, rfl, rfl, id, rfl, .refl s⟩

theorem Beside.trans {j : Fin 4} {s t u : State} (h : Beside j s t) (k : Beside j t u) : Beside j s u :=
  ⟨k.slot.trans h.slot, k.queue.trans h.queue, k.spacing.trans h.spacing, fun ht => k.table (h.table ht), k.rake.trans h.rake, h.link.trans k.link⟩

theorem Beside.queueHas {j : Fin 4} {s t : State} (h : Beside j s t) (o : Owner) : t.queueHas o = s.queueHas o := by
  unfold State.queueHas
  rw [h.queue]

/-- What a slot's own part of a pass may change beside the slot. -/
structure OnlySlot (i : Fin 4) (s t : State) : Prop where
  slots : ∀ j, i ≠ j → t.slot j = s.slot j
  arbiter : ∃ (table : List TableEntry) (timer : Timer), t.da = { s.da with table := table, shortfallTimer := timer } ∧ table.Sublist s.da.table
  rake : t.rk = s.rk
  feeders : t.fu = s.fu
  accounts : t.mu = s.mu
  link : ReportsOnly s t

theorem OnlySlot.refl (i : Fin 4) (s : State) : OnlySlot i s s :=
  ⟨fun _ _ => rfl, ⟨s.da.table, s.da.shortfallTimer, rfl, List.Sublist.refl _⟩, rfl, rfl, rfl, .refl s⟩

theorem OnlySlot.beside {i j : Fin 4} {s t : State} (h : OnlySlot i s t) (hij : i ≠ j) : Beside j s t := by
  obtain ⟨table, timer, hda, hsub⟩ := h.arbiter
  refine ⟨h.slots j hij, by rw [hda], by rw [hda], fun ht => ?_, h.rake, h.link⟩
  rw [tableHas_false_iff, State.tableOwners] at ht ⊢
  rw [hda]
  exact fun hk => ht ((hsub.map _).subset hk)

theorem onlySlot_onSlot (i : Fin 4) (g : Slot → Slot) (s : State) : OnlySlot i s (s.onSlot i g) :=
  ⟨fun j hij => (State.onSlot_slot s i j g).trans (if_neg hij), ⟨s.da.table, s.da.shortfallTimer, rfl, List.Sublist.refl _⟩, rfl, rfl, rfl, .of_sl rfl rfl⟩

theorem OnlySlot.thenPost {i : Fin 4} {s t : State} (h : OnlySlot i s t) (r : Report) : OnlySlot i s (post r t) := by
  refine ⟨fun j hij => (post_slot r t j).trans (h.slots j hij), ?_, (post_rk r t).trans h.rake, (post_fu r t).trans h.feeders,
    (post_mu r t).trans h.accounts, h.link.trans (post_reportsOnly r t)⟩
  rw [post_da]
  exact h.arbiter

theorem OnlySlot.thenRelease {i : Fin 4} {s t : State} (h : OnlySlot i s t) (hs : s.da.spacingTimer.isSome = true) (o : Owner) :
    OnlySlot i s (releaseNotice arbitrate o t) := by
  obtain ⟨table, timer, hda, hsub⟩ := h.arbiter
  obtain ⟨_, hsame⟩ | ⟨ht, _⟩ := releaseNotice_cases arbitrate o t
  · rw [hsame]
    exact h
  · obtain ⟨g, timer', hframe⟩ := released_frame o t
    rw [releaseNotice_of_spacing (by rw [hda]; exact hs) ht]
    refine ⟨fun j hij => (by rw [hframe]; rfl : (released o t).slot j = t.slot j).trans (h.slots j hij), ⟨table.filter fun e => decide (e.owner ≠ o), timer', ?_,
      List.filter_sublist.trans hsub⟩, by rw [hframe]; exact h.rake, by rw [hframe]; exact h.feeders, by rw [hframe]; exact h.accounts,
      h.link.trans (.of_sl (by rw [hframe]) (by rw [hframe]))⟩
    rw [hframe]
    simp only [hda]

/-- R99: a forced out while no grant can follow it. -/
theorem onlySlot_forcedOut {cause : DriveCause} (hc : cause ≠ .shortfall) (i : Fin 4) {s : State} (hs : s.da.spacingTimer.isSome = true) :
    OnlySlot i s (forcedOut arbitrate cause i s) := by
  by_cases h : (s.slot i).state.engaged = true
  · rw [forcedOut_of_engaged hc h]
    have hrelease := (onlySlot_onSlot i Slot.toCoasting s).thenRelease hs (.drive i)
    unfold takeOut postAborted
    simp only []
    split
    · exact (hrelease.thenPost _).thenPost _
    · exact hrelease.thenPost _
  · rw [forcedOut_of_free _ _ (Bool.eq_false_iff.mpr h)]
    exact .refl i s

/-- A slot taken out on the way from one state to another. -/
theorem State.TakenOut.beside {s x y t : State} {i : Fin 4} {cause : DriveCause} (h : x.TakenOut y i cause) (hs : Beside i s x) (ht : Beside i y t)
    (hxy : ReportsOnly x y) : s.TakenOut t i cause := by
  obtain ⟨hslot, htable, hreport⟩ := h
  rw [hs.slot] at hslot hreport
  exact ⟨ht.slot.trans hslot, ht.table htable, hs.link.since (hxy.trans ht.link) (ht.link.reportsSince hreport)⟩

/-! ### The rake's forcing (R101, R108) -/

theorem onlySlot_rakeForcesSlot (i : Fin 4) {s : State} (hs : s.da.spacingTimer.isSome = true) : OnlySlot i s (rakeForcesSlot arbitrate i s) := by
  unfold rakeForcesSlot
  split
  · exact onlySlot_onSlot i _ s
  · exact onlySlot_forcedOut (by decide) i hs
  · exact onlySlot_forcedOut (by decide) i hs
  · exact onlySlot_forcedOut (by decide) i hs
  · exact onlySlot_forcedOut (by decide) i hs
  all_goals exact .refl i s

theorem rakeForcesSlot_cutting {i : Fin 4} {s : State} (h : (s.slot i).state = .cutting) :
    rakeForcesSlot arbitrate i s = s.onSlot i fun d => { d with remaining := 1, releaseFlag := true, rakeHalt := true } := by
  unfold rakeForcesSlot
  rw [h]

theorem rakeForcesSlot_engaged {i : Fin 4} {s : State} (h : (s.slot i).state.engaged = true) (hc : (s.slot i).state ≠ .cutting) :
    rakeForcesSlot arbitrate i s = forcedOut arbitrate .rake i s := by
  unfold rakeForcesSlot
  split
  case h_1 hk => exact absurd hk hc
  all_goals first | rfl | (next hk => rw [hk] at h; cases h)

theorem rakeForcesSlot_free {i : Fin 4} {s : State} (h : (s.slot i).state.engaged = false) : rakeForcesSlot arbitrate i s = s := by
  unfold rakeForcesSlot
  split
  all_goals first | rfl | (next hk => rw [hk] at h; cases h)

end Sys2Proof.Machine

/-! PROOFS. The grace timer and the run timer of the rake (R70, R101, R108, R110). -/

namespace Sys2Proof.Machine

/-! ### The forcing -/

/-- R108: a DUE rake whose grace timer has expired, before its entry moves. -/
def graceForced (s : State) : State :=
  post (.rake .forced .due .grace s.rk.count true) (s.onRk fun k => { k with state := .forced, graceTimer := none, graceSpent := true })

/-- R70: the queue with the rake's entry at its head in class 0. -/
def rakeFirst (q : List QueueEntry) : List QueueEntry :=
  (q.filter fun e => decide (e.owner = .rake)).map (fun e => { e with cls := 0 }) ++ q.filter fun e => decide (e.owner ≠ .rake)

theorem graceExpired_due {s : State} (h : s.rk.state = .due) :
    graceExpired arbitrate s = rakeForcesDrives arbitrate (forceRakeEntry arbitrate (graceForced s)) := by
  unfold graceExpired
  exact if_pos h

theorem graceExpired_elsewhere {s : State} (h : s.rk.state ≠ .due) :
    graceExpired arbitrate s = s.onRk fun k => { k with graceTimer := none, graceSpent := true } := if_neg h

/-- R70: while the spacing timer runs, the forcing moves the rake's entry alone. -/
theorem forceRakeEntry_of_spacing {s : State} (hs : s.da.spacingTimer.isSome = true) (honce : (s.da.queue.map QueueEntry.owner).Nodup) :
    forceRakeEntry arbitrate s = s.onDa fun d => { d with queue := rakeFirst d.queue } := by
  unfold forceRakeEntry
  cases hfind : s.da.queue.find? fun e => decide (e.owner = .rake) with
  | some e =>
    have he : e.owner = .rake := of_decide_eq_true (List.find?_some (p := fun e : QueueEntry => decide (e.owner = .rake)) hfind)
    have hone := filter_owner_of_once honce (List.mem_of_find?_eq_some hfind)
    rw [he] at hone
    have hfirst : rakeFirst s.da.queue = { e with cls := 0 } :: s.da.queue.filter fun x => decide (x.owner ≠ .rake) := by
      unfold rakeFirst
      rw [hone]
      rfl
    refine (arbitrate_of_spacing (s := s.onDa fun d => { d with queue := { e with cls := 0 } :: d.queue.filter fun x => decide (x.owner ≠ .rake) }) hs).trans ?_
    exact congrArg (fun q => ({ s with da := { s.da with queue := q } } : State)) hfirst.symm
  | none =>
    have hnone := List.find?_eq_none.mp hfind
    have hsame : rakeFirst s.da.queue = s.da.queue := by
      unfold rakeFirst
      rw [List.filter_eq_nil_iff.mpr hnone, List.filter_eq_self.mpr fun x hx => by simpa using hnone x hx]
      rfl
    exact (congrArg (fun q => s.onDa fun d => { d with queue := q }) hsame).symm

theorem rakeFirst_has (i : Fin 4) (q : List QueueEntry) :
    (rakeFirst q).any (fun e => decide (e.owner = .drive i)) = q.any fun e => decide (e.owner = .drive i) := by
  unfold rakeFirst
  rw [Bool.eq_iff_iff]
  simp only [List.any_append, List.any_map, Bool.or_eq_true, List.any_eq_true, List.mem_filter, Function.comp_apply, decide_eq_true_eq]
  refine ⟨?_, fun ⟨e, he, ho⟩ => .inr ⟨e, ⟨he, by simp [ho]⟩, ho⟩⟩
  rintro (⟨e, ⟨_, hrake⟩, ho⟩ | ⟨e, ⟨he, _⟩, ho⟩)
  · rw [hrake] at ho
    cases ho
  · exact ⟨e, he, ho⟩

/-- R101: the pass over the slots leaves the queue and the rake alone while the spacing timer runs. -/
theorem rakeForcesDrives_queue {s : State} (hs : s.da.spacingTimer.isSome = true) :
    (rakeForcesDrives arbitrate s).da.queue = s.da.queue ∧ (rakeForcesDrives arbitrate s).rk = s.rk := by
  have hpass := List.foldlRecOn (motive := fun t : State => t.da.spacingTimer = s.da.spacingTimer ∧ t.da.queue = s.da.queue ∧ t.rk = s.rk)
    allSlots (fun s i => rakeForcesSlot arbitrate i s) ⟨rfl, rfl, rfl⟩ fun t ht i _ => by
      obtain ⟨hspacing, hqueue, hrk⟩ := ht
      have h := onlySlot_rakeForcesSlot i (s := t) (by rw [hspacing]; exact hs)
      obtain ⟨table, timer, hda, _⟩ := h.arbiter
      exact ⟨by rw [hda]; exact hspacing, by rw [hda]; exact hqueue, h.rake.trans hrk⟩
  exact ⟨hpass.2.1, hpass.2.2⟩

/-- R101: the pass comes to each slot once, and leaves it alone around that. -/
theorem rakeForcesDrives_at (i : Fin 4) {s : State} (hs : s.da.spacingTimer.isSome = true) :
    ∃ x, Beside i s x ∧ Beside i (rakeForcesSlot arbitrate i x) (rakeForcesDrives arbitrate s) := by
  obtain ⟨x, hbefore, hafter⟩ := foldl_at (R := fun s t : State => s.da.spacingTimer.isSome = true → Beside i s t)
    (f := fun s j => rakeForcesSlot arbitrate j s) (fun s _ => .refl i s) (fun h k hs => (h hs).trans (k ((h hs).spacing ▸ hs))) (j := i)
    (fun s j hij hs => (onlySlot_rakeForcesSlot j hs).beside hij) allSlots_nodup (mem_allSlots i) s
  have hx := hbefore hs
  have hspacing : x.da.spacingTimer.isSome = true := hx.spacing ▸ hs
  obtain ⟨table, timer, hda, _⟩ := (onlySlot_rakeForcesSlot i hspacing).arbiter
  exact ⟨x, hx, hafter (by rw [hda]; exact hspacing)⟩

/-- R101: what the rake's forcing leaves of each slot. -/
theorem rakeForcesDrives_slot (i : Fin 4) {s : State} (hp : s.powered = true) (hs : s.da.spacingTimer.isSome = true) :
    let t := rakeForcesDrives arbitrate s
    ((s.slot i).state = .cutting → t.slot i = { s.slot i with remaining := 1, releaseFlag := true, rakeHalt := true })
    ∧ ((s.slot i).state.engaged = true → (s.slot i).state ≠ .cutting → s.queueHas (.drive i) = false → s.TakenOut t i .rake)
    ∧ ((s.slot i).state.engaged = false → t.slot i = s.slot i) := by
  obtain ⟨x, hx, ht⟩ := rakeForcesDrives_at i hs
  refine ⟨fun h => ?_, fun h hc hq => ?_, fun h => ?_⟩
  · rw [rakeForcesSlot_cutting (by rw [hx.slot]; exact h)] at ht
    rw [ht.slot, State.onSlot_slot, if_pos rfl, hx.slot]
  · have heng : (x.slot i).state.engaged = true := by rw [hx.slot]; exact h
    rw [rakeForcesSlot_engaged heng (by rw [hx.slot]; exact hc), forcedOut_of_engaged (by decide) heng] at ht
    have hout := takeOut_release (cause := .rake) (hx.link.power.trans hp) heng ((hx.queueHas _).trans hq)
    exact hout.takenOut.beside hx ht hout.reports
  · rw [rakeForcesSlot_free (by rw [hx.slot]; exact h)] at ht
    exact ht.slot.trans hx.slot

theorem exec_graceTimer {s : State} (hp : s.powered = true) (h : s.rk.graceTimer.isSome = true) :
    exec .graceTimerExpiry s = .next (graceExpired arbitrate s) :=
  congrArg Host.Outcome.next ((whenPowered_on hp _).trans ((whenRunning_of_isSome h s _).trans (by unfold graceExpired; rfl)))

theorem graceForced_reportsOnly (s : State) : ReportsOnly s (graceForced s) :=
  ReportsOnly.trans (t := s.onRk fun k => { k with state := .forced, graceTimer := none, graceSpent := true }) (.of_sl rfl rfl) (post_reportsOnly _ _)

theorem graceForced_report {s : State} (hp : s.powered = true) (h : s.rk.state = .due) :
    s.reportsSince (graceExpired arbitrate s) (.rake .forced .due .grace s.rk.count true) := by
  rw [graceExpired_due h]
  exact reportsSince_of_post (t := s.onRk fun k => { k with state := .forced, graceTimer := none, graceSpent := true }) hp (.of_sl rfl rfl)
    ((calm_forceRakeEntry arbitrate_arbitrates feedersOnly_nil _).reportsOnly.trans (calm_rakeForcesDrives arbitrate_arbitrates feedersOnly_nil _).reportsOnly)

/-! ### The run -/

/-- R110: the rake at the end of a run. -/
def RakeUnit.runDone (k : RakeUnit) : RakeUnit :=
  { k with
    state := .idle, runTimer := none, count := min 65535 (k.count + 1), graceTimer := none, graceSpent := false
    dueTimer := some (k.params.interval * 60000) }

theorem runComplete_eq (s : State) : runComplete arbitrate s = postRake .running .done (releaseNotice arbitrate .rake (s.onRk RakeUnit.runDone)) := rfl

theorem exec_runTimer {s : State} (hp : s.powered = true) (h : s.rk.state = .running) (ht : s.rk.runTimer.isSome = true) :
    exec .runTimerExpiry s = .next (runComplete arbitrate s) :=
  congrArg Host.Outcome.next ((whenPowered_on hp _).trans (if_pos ⟨h, ht⟩))

theorem exec_runTimer_stopped {s : State} (h : s.rk.state ≠ .running ∨ s.rk.runTimer = none) : exec .runTimerExpiry s = .next s :=
  congrArg Host.Outcome.next (whenPowered_same (if_neg fun hk => h.elim (absurd hk.1) fun ht => by rw [ht] at hk; cases hk.2))

/-- R110: a rake whose run is done asks for nothing, so that the release notice leaves it as it is. -/
theorem releaseNotice_runDone {s : State} (h : s.rk.state = .running) (hs : s.Consistent) :
    (releaseNotice arbitrate .rake (s.onRk RakeUnit.runDone)).rk = s.rk.runDone
    ∧ (releaseNotice arbitrate .rake (s.onRk RakeUnit.runDone)).tableHas .rake = false := by
  have hheld : s.rk.entryHeld = false := Bool.eq_false_iff.mpr fun hk => by
    have := hs.rakeHeld hk
    rw [h] at this
    cases this
  have hq : (s.onRk RakeUnit.runDone).queueHas .rake = false := hs.rakeQueued.trans hheld
  have hask : ¬(s.onRk RakeUnit.runDone).mayAsk .rake := fun hk => by cases hk
  exact ⟨(aftermath_releaseNotice settling_arbitrate .rake (s.onRk RakeUnit.runDone)).rake hq rfl, releaseNotice_tableHas hq hask⟩

/-- Settles O39: forcing and the end of a run. -/
theorem rakeGraceAndRun : Obligations.RakeGraceAndRun := by
  intro s hp k
  refine ⟨fun h => congrArg Host.Outcome.next (whenPowered_same (whenRunning_of_none h s _)), fun ht h => ?_, fun ht h => ?_, exec_runTimer_stopped,
    fun h ht hs => ?_⟩
  · rw [exec_graceTimer hp ht, graceExpired_elsewhere h]
    rfl
  · refine ⟨_, exec_graceTimer hp ht, still_graceExpired arbitrate_keeps s, graceForced_report hp h, fun hs hspacing => ?_⟩
    have hda : (graceForced s).da = s.da := post_da _ _
    have hentry : forceRakeEntry arbitrate (graceForced s) = (graceForced s).onDa fun d => { d with queue := rakeFirst d.queue } :=
      forceRakeEntry_of_spacing (by rw [hda]; exact hspacing) (by rw [hda]; exact hs.queueOnce)
    have hslot : ∀ i, (forceRakeEntry arbitrate (graceForced s)).slot i = s.slot i := fun i => by
      rw [hentry]
      exact post_slot _ _ i
    have hlink : ReportsOnly s (forceRakeEntry arbitrate (graceForced s)) := by
      rw [hentry]
      exact (graceForced_reportsOnly s).trans (.of_sl rfl rfl)
    have hrk : (forceRakeEntry arbitrate (graceForced s)).rk = { s.rk with state := .forced, graceTimer := none, graceSpent := true } := by
      rw [hentry]
      exact post_rk _ _
    have hda' : (forceRakeEntry arbitrate (graceForced s)).da = { s.da with queue := rakeFirst s.da.queue } := by
      rw [hentry]
      exact congrArg (fun d : Arbiter => { d with queue := rakeFirst d.queue }) hda
    rw [graceExpired_due h]
    generalize forceRakeEntry arbitrate (graceForced s) = x at *
    have hx : x.da.spacingTimer.isSome = true := by rw [hda']; exact hspacing
    obtain ⟨hqueue, hrake⟩ := rakeForcesDrives_queue hx
    refine ⟨hrake.trans hrk, by rw [hqueue, hda']; rfl, fun i => ?_⟩
    obtain ⟨hcutting, hengaged, hfree⟩ := rakeForcesDrives_slot i (hlink.power.trans hp) hx
    rw [hslot] at hcutting hengaged hfree
    refine ⟨hcutting, fun he hc => ?_, hfree⟩
    have hq : x.queueHas (.drive i) = false := by
      have hiff : x.queueHas (.drive i) = s.queueHas (.drive i) := by
        unfold State.queueHas
        rw [hda']
        exact rakeFirst_has i s.da.queue
      exact hiff.trans (consistent_engaged hs he)
    obtain ⟨ho, htable, hreport⟩ := hengaged he hc hq
    rw [hslot] at ho hreport
    exact ⟨ho, htable, hlink.since (by exact (calm_rakeForcesDrives arbitrate_arbitrates feedersOnly_nil x).reportsOnly) hreport⟩
  · obtain ⟨hrk, htable⟩ := releaseNotice_runDone h hs
    have hlink : ReportsOnly s (releaseNotice arbitrate .rake (s.onRk RakeUnit.runDone)) :=
      ReportsOnly.trans (t := s.onRk RakeUnit.runDone) (.of_sl rfl rfl) (releaseNotice_reportsOnly _ _)
    refine ⟨_, exec_runTimer hp h ht, still_runComplete arbitrate_keeps s, (post_rk _ _).trans hrk, ?_, ?_, fun hspacing => ?_⟩
    · rw [runComplete_eq, postRake]
      unfold State.tableHas at *
      rw [post_da]
      exact htable
    · rw [runComplete_eq, postRake, hrk]
      exact reportsSince_of_post (hlink.power.trans hp) hlink (.refl _)
    · have hin : (s.onRk RakeUnit.runDone).tableHas .rake = true := hs.rakeGranted.trans (decide_eq_true h)
      obtain ⟨g, timer, hframe⟩ := released_frame .rake (s.onRk RakeUnit.runDone)
      rw [runComplete_eq, postRake, post_da, releaseNotice_of_spacing (s := s.onRk RakeUnit.runDone) hspacing hin, hframe]
      rfl

end Sys2Proof.Machine

/-! PROOFS. The feeder commands: SET_FEEDER, CONNECT, DISCONNECT, LOCK_FEEDER and UNLOCK_FEEDER (R117 to R126). -/

namespace Sys2Proof.Machine

/-! ### Commands that carry a feeder (R117) -/

theorem withFeeder_named {n : Nat} (i : Fin 12) {rest : List Byte} (h : rest.length + 1 = n) (f : Fin 12 → State → State) (s : State) :
    withFeeder n (BitVec.ofNat 8 (0x10 + i.val) :: rest) f s = f i s := by
  have hi : feederOfByte (u8At (BitVec.ofNat 8 (0x10 + i.val) :: rest) 0) = some i := feederOfByte_ofNat i
  unfold withFeeder
  rw [withLength_eq (n := n) (body := BitVec.ofNat 8 (0x10 + i.val) :: rest) h, hi]

theorem withFeeder_nobody {b : Byte} (hb : b.toNat < 0x10 ∨ 0x1B < b.toNat) (f : Fin 12 → State → State) (s : State) :
    withFeeder 1 [b] f s = reply .badArg [] s := by
  have hi : feederOfByte (u8At [b] 0) = none := feederOfByte_outside hb
  unfold withFeeder
  rw [withLength_eq (n := 1) (body := [b]) rfl, hi]

/-- R117: the values of a feeder's reply. -/
theorem feederValues_eq (s : State) (i : Fin 12) : feederValues s i = [BitVec.ofNat 8 (0x10 + i.val), BitVec.ofNat 8 (s.feeder i).state.code] := rfl

theorem feederValues_of_feeder {s t : State} {i : Fin 12} (h : t.feeder i = s.feeder i) : feederValues t i = feederValues s i := by
  rw [feederValues_eq, feederValues_eq, h]

/-- R117: the reply's values are those of the state that it leaves. -/
theorem State.AnsweredFrom.feederReplied {s u t : State} {k : CommandKind} {tag : Byte} {r : Result} {i : Fin 12}
    (ha : s.AnsweredFrom u t k tag r (feederValues u i)) : t.Replied k tag r (feederValues t i) := by
  rw [feederValues_of_feeder (ha.proj (State.feeder · i))]
  exact ha.replied

theorem onFeeder_self (s : State) (i : Fin 12) (g : Feeder → Feeder) : (s.onFeeder i g).feeder i = g (s.feeder i) :=
  (State.onFeeder_feeder s i i g).trans (if_pos rfl)

/-! ### A feeder's state (R115, R116) -/

theorem enter_between {d : Feeder} {new : FeederState} (h : d.state ≠ .on) (hnew : new ≠ .on) : d.enter new = { d with state := new } := by
  unfold Feeder.enter
  simp [h, hnew]

/-- R116: a change between states other than ON and SHED is the feeder's alone. -/
theorem setFeederState_quiet {i : Fin 12} {new : FeederState} {s : State} (h : (s.feeder i).state ≠ .on ∧ (s.feeder i).state ≠ .shed)
    (hnew : new ≠ .on ∧ new ≠ .shed) : setFeederState i new s = s.onFeeder i fun d => { d with state := new } := by
  have hfeeder : (s.onFeeder i fun d => d.enter new) = s.onFeeder i fun d => { d with state := new } :=
    congrArg (fun d => ({ s with fu := { s.fu with feeders := s.fu.feeders.set i d } } : State)) (enter_between h.1 hnew.1)
  have hshed : (s.onFeeder i fun d => { d with state := new }).anyShed = s.anyShed := by
    unfold State.anyShed
    rw [Bool.eq_iff_iff, List.any_eq_true, List.any_eq_true]
    refine exists_congr fun j => and_congr_right fun _ => ?_
    rw [State.onFeeder_feeder]
    by_cases hij : i = j
    · subst hij
      simp [h.2, hnew.2]
    · rw [if_neg hij]
  unfold setFeederState
  rw [hfeeder]
  exact if_pos hshed

theorem onFeeder_state_same {i : Fin 12} {s : State} {f : FeederState} (h : (s.feeder i).state = f) : s.onFeeder i (fun d => { d with state := f }) = s := by
  subst h
  show ({ s with fu := { s.fu with feeders := s.fu.feeders.set i s.fu.feeders[i] } } : State) = s
  rw [show s.fu.feeders.set i s.fu.feeders[i] = s.fu.feeders from Vector.set_getElem_self _]

/-! ### SET_FEEDER (R118) -/

theorem feederFields_append {fields : List Byte} (h : fields.length = 11) (b : Byte) :
    decodeFields FeederProfile.fields (fields ++ [b]) = decodeFields FeederProfile.fields fields := by
  match fields, h with
  | [_, _, _, _, _, _, _, _, _, _, _], _ => rfl

/-- R118: SET_FEEDER goes by its last byte. -/
theorem serveSetFeeder_eq {fields : List Byte} (hlen : fields.length = 11) (i : Fin 12) (b : Byte) (s : State) :
    let sent := decodeFields FeederProfile.fields fields
    let v := clampFields FeederProfile.fields sent
    serveSetFeeder (BitVec.ofNat 8 (0x10 + i.val) :: fields ++ [b]) s =
      match flagAt (BitVec.ofNat 8 (0x10 + i.val) :: fields ++ [b]) 12 with
      | some auto =>
        reply (clampResult sent v)
          (feederValues (s.onFeeder i fun d => { d with profile := .ofList auto v }) i
            ++ ((s.onFeeder i fun d => { d with profile := .ofList auto v }).feeder i).profile.bytes)
          (s.onFeeder i fun d => { d with profile := .ofList auto v })
      | none => feederReply .badArg i s := by
  intro sent v
  have hsent : sent = decodeFields FeederProfile.fields (fields ++ [b]) := (feederFields_append hlen b).symm
  unfold v
  rw [hsent]
  unfold serveSetFeeder
  exact withFeeder_named (n := 2 + fieldsSize FeederProfile.fields) i (rest := fields ++ [b]) (by rw [List.length_append, hlen]; rfl) _ s

theorem setFeeder_flag {n : Byte} {fields : List Byte} (h : fields.length = 11) (b : Byte) : (n :: fields ++ [b]).getD 12 0 = b := by
  match fields, h with
  | [_, _, _, _, _, _, _, _, _, _, _], _ => rfl

theorem serveSetFeeder_taken {fields : List Byte} (hlen : fields.length = 11) (i : Fin 12) (auto : Bool) (s : State) :
    let sent := decodeFields FeederProfile.fields fields
    let v := clampFields FeederProfile.fields sent
    let b : Byte := if auto then 1 else 0
    serveSetFeeder (BitVec.ofNat 8 (0x10 + i.val) :: fields ++ [b]) s =
      reply (if sent = v then .ok else .clamped) (feederValues s i ++ encodeFields FeederProfile.fields v ++ [b])
        (s.onFeeder i fun d => { d with profile := .ofList auto v }) := by
  intro sent v b
  have hv : (FeederProfile.ofList auto v).toList = v := FeederProfile.toList_ofList auto rfl
  have hprofile : (FeederProfile.ofList auto v).auto = auto := rfl
  have hflag : flagAt (BitVec.ofNat 8 (0x10 + i.val) :: fields ++ [b]) 12 = some auto := by
    rw [flagAt_flag (by rw [setFeeder_flag hlen]; cases auto; exact .inl rfl; exact .inr rfl), setFeeder_flag hlen]
    cases auto <;> rfl
  have hvalues : feederValues (s.onFeeder i fun d => { d with profile := .ofList auto v }) i = feederValues s i := by
    rw [feederValues_eq, onFeeder_self]
    rfl
  rw [serveSetFeeder_eq hlen, hflag]
  show reply _ (feederValues (s.onFeeder i fun d => { d with profile := .ofList auto v }) i ++ _) _ = _
  rw [hvalues, onFeeder_self]
  unfold FeederProfile.bytes
  rw [hv, hprofile, flagByte_eq, List.append_assoc]
  rfl

theorem serveSetFeeder_refused {fields : List Byte} (hlen : fields.length = 11) (i : Fin 12) {b : Byte} (hb : 1 < b.toNat) (s : State) :
    serveSetFeeder (BitVec.ofNat 8 (0x10 + i.val) :: fields ++ [b]) s = feederReply .badArg i s := by
  rw [serveSetFeeder_eq hlen, flagAt_outside (by rw [setFeeder_flag hlen]; exact hb)]

/-! ### The other commands, by the feeder's state (R119, R124, R125, R126) -/

theorem serveConnect_eq (i : Fin 12) (s : State) : serveConnect [BitVec.ofNat 8 (0x10 + i.val)] s =
    match (s.feeder i).state with
    | .capped | .locked => feederReply .locked i s
    | .on => feederReply .ok i s
    | .off | .queued | .shed =>
      if s.ss.station ≠ .live then feederReply .state i s
      else feederReply (enqueue arbitrate (hostRequest s i) (setFeederState i .queued) s).1.result i
        (enqueue arbitrate (hostRequest s i) (setFeederState i .queued) s).2 := by
  unfold serveConnect
  exact withFeeder_named (n := 1) (rest := []) i rfl _ s

theorem serveDisconnect_eq (i : Fin 12) (s : State) : serveDisconnect [BitVec.ofNat 8 (0x10 + i.val)] s =
    match (s.feeder i).state with
    | .on => feederReply .ok i (openFeeder arbitrate i .off s)
    | .queued => feederReply .ok i (withdrawOwner (.feeder i) .cancel s)
    | .shed => feederReply .ok i (setFeederState i .off s)
    | .off => feederReply .ok i s
    | .capped | .locked => feederReply .locked i s := by
  unfold serveDisconnect
  exact withFeeder_named (n := 1) (rest := []) i rfl _ s

/-- R125: the withdrawal of LOCK_FEEDER. -/
def withdrawLocked (i : Fin 12) (s : State) : State :=
  withdraw arbitrate giveSpace (fun e => decide (e.owner = .feeder i)) .cancel tellLocked s

theorem serveLockFeeder_eq (i : Fin 12) (s : State) : serveLockFeeder [BitVec.ofNat 8 (0x10 + i.val)] s =
    match (s.feeder i).state with
    | .on => feederReply .ok i (openFeeder arbitrate i .locked s)
    | .queued => feederReply .ok i (withdrawLocked i s)
    | .off | .shed | .capped => feederReply .ok i (setFeederState i .locked s)
    | .locked => feederReply .ok i s := by
  unfold serveLockFeeder
  exact withFeeder_named (n := 1) (rest := []) i rfl _ s

theorem serveUnlockFeeder_eq (i : Fin 12) (s : State) : serveUnlockFeeder [BitVec.ofNat 8 (0x10 + i.val)] s =
    match (s.feeder i).state with
    | .locked | .capped => feederReply .ok i (setFeederState i .off s)
    | .off | .queued | .on | .shed => feederReply .state i s := by
  unfold serveUnlockFeeder
  exact withFeeder_named (n := 1) (rest := []) i rfl _ s

theorem serveConnect_nobody {b : Byte} (hb : b.toNat < 0x10 ∨ 0x1B < b.toNat) (s : State) : serveConnect [b] s = reply .badArg [] s :=
  withFeeder_nobody hb _ s

theorem serveDisconnect_nobody {b : Byte} (hb : b.toNat < 0x10 ∨ 0x1B < b.toNat) (s : State) : serveDisconnect [b] s = reply .badArg [] s :=
  withFeeder_nobody hb _ s

theorem serveLockFeeder_nobody {b : Byte} (hb : b.toNat < 0x10 ∨ 0x1B < b.toNat) (s : State) : serveLockFeeder [b] s = reply .badArg [] s :=
  withFeeder_nobody hb _ s

theorem serveUnlockFeeder_nobody {b : Byte} (hb : b.toNat < 0x10 ∨ 0x1B < b.toNat) (s : State) : serveUnlockFeeder [b] s = reply .badArg [] s :=
  withFeeder_nobody hb _ s

/-! ### An ON feeder is opened (R124, R125) -/

theorem consistent_on {s : State} (hs : s.Consistent) {i : Fin 12} (h : (s.feeder i).state = .on) :
    s.tableHas (.feeder i) = true ∧ s.queueHas (.feeder i) = false :=
  ⟨(hs.feederGranted i).trans (decide_eq_true h), (hs.feederQueued i).trans (by simp [h])⟩

theorem openFeeder_opened {i : Fin 12} {new : FeederState} (hnew : new ≠ .on) {s : State} (hs : s.Consistent) (h : (s.feeder i).state = .on) :
    s.Opened (openFeeder arbitrate i new s) i new ∧ (openFeeder arbitrate i new s).still = s.still := by
  obtain ⟨_, hq⟩ := consistent_on hs h
  have hoff : ¬s.offered i := fun hk => by
    have := h.symm.trans hk.1
    cases this
  have hafter := aftermath_releaseNotice settling_arbitrate (.feeder i) s
  have hself := hafter.feeders i hq hoff
  refine ⟨⟨?_, ?_⟩, ?_⟩
  · unfold openFeeder
    rw [setFeederState_feeder, if_pos rfl, hself]
    exact enter_from_on h hnew
  · have htable := releaseNotice_tableHas (o := .feeder i) hq hoff
    unfold openFeeder State.tableHas at *
    rw [setFeederState_da]
    exact htable
  · exact (still_setFeederState i new _).trans hafter.still

theorem State.Opened.of_answered {s u t : State} {i : Fin 12} {new : FeederState} {k : CommandKind} {tag : Byte} {body : List Byte}
    {r : Result} {content : List Byte} (h : (s.serving k tag body).Opened u i new) (ha : s.AnsweredFrom u t k tag r content) : s.Opened t i new :=
  ⟨(ha.proj (State.feeder · i)).trans h.feeder, (ha.proj fun x => x.tableHas (.feeder i)).trans h.table⟩

/-! ### LOCK_FEEDER of a queued feeder (R125) -/

/-- R68, R125: what the withdrawal of a feeder that is being locked leaves. -/
theorem withdrawLocked_locked {i : Fin 12} {s : State} (hp : s.powered = true) (hs : s.Consistent) {e : QueueEntry} (he : e ∈ s.da.queue)
    (ho : e.owner = .feeder i) :
    (withdrawLocked i s).queueHas (.feeder i) = false ∧ (withdrawLocked i s).feeder i = { s.feeder i with state := .locked }
    ∧ s.reportsSince (withdrawLocked i s) (.expired e.owner e.cls e.origin .cancel) ∧ (withdrawLocked i s).still = s.still := by
  have hone := filter_owner_of_once hs.queueOnce he
  rw [ho] at hone
  have hnamed : s.da.queue.filter (fun x => decide (x.owner = .feeder i)) ≠ [] := by
    rw [hone]
    exact List.cons_ne_nil _ _
  have hqueued : (s.feeder i).state = .queued :=
    of_decide_eq_true ((hs.feederQueued i).symm.trans (queueHas_iff.mpr (by rw [← ho]; exact List.mem_map_of_mem he)))
  have hset : ReportsOnly s (setQueue (s.da.queue.filter fun x => !decide (x.owner = .feeder i)) s) := .of_sl rfl rfl
  have hu : toldOf (fun x => decide (x.owner = .feeder i)) .cancel tellLocked s =
      setFeederState i .locked (postExpired .cancel e (setQueue (s.da.queue.filter fun x => !decide (x.owner = .feeder i)) s)) := by
    unfold toldOf
    rw [hone]
    show tellLocked e.owner _ = _
    rw [ho]
    rfl
  have hw : withdrawLocked i s = arbitrate (giveSpace (toldOf (fun x => decide (x.owner = .feeder i)) .cancel tellLocked s)) :=
    withdraw_of_named _ _ _ _ hnamed
  have hafter := withdraw_aftermath .cancel tellLocked hnamed
  have hend : ReportsOnly (toldOf (fun x => decide (x.owner = .feeder i)) .cancel tellLocked s) (withdrawLocked i s) := by
    rw [hw]
    exact ((calm_spaceNotice arbitrate_arbitrates feedersOnly_nil _).trans (calm_arbitrate _)).reportsOnly
  have hfeeder : (toldOf (fun x => decide (x.owner = .feeder i)) .cancel tellLocked s).feeder i = { s.feeder i with state := .locked } := by
    rw [hu, setFeederState_feeder, if_pos rfl]
    unfold postExpired
    rw [post_feeder]
    exact enter_between (by show (s.feeder i).state ≠ .on; simp [hqueued]) (by decide)
  have hda : (toldOf (fun x => decide (x.owner = .feeder i)) .cancel tellLocked s).da
      = (setQueue (s.da.queue.filter fun x => !decide (x.owner = .feeder i)) s).da := by
    rw [hu, setFeederState_da]
    exact post_da _ _
  have hq : (toldOf (fun x => decide (x.owner = .feeder i)) .cancel tellLocked s).queueHas (.feeder i) = false := by
    unfold State.queueHas
    rw [hda]
    simp [setQueue]
  have hoff : ¬(toldOf (fun x => decide (x.owner = .feeder i)) .cancel tellLocked s).offered i := fun hk => by
    have := hk.1
    rw [hfeeder] at this
    cases this
  refine ⟨hafter.not_queued hq hoff, (hafter.feeders i hq hoff).trans hfeeder, ?_, hafter.still.trans ?_⟩
  · refine reportsSince_of_post (hset.power.trans hp) hset ?_
    have hlock := setFeederState_reportsOnly i .locked (postExpired .cancel e (setQueue (s.da.queue.filter fun x => !decide (x.owner = .feeder i)) s))
    rw [← hu] at hlock
    exact hlock.trans hend
  · rw [hu, still_setFeederState]
    exact (still_post _ _).trans (still_onDa s _ (fun _ => rfl) fun _ => rfl)

/-! ### CONNECT's request (R119) -/

/-- R119: the request of CONNECT, made. -/
def connected (i : Fin 12) (s : State) : State := setFeederState i .queued (insertRequest (requestEntry (hostRequest s i) s) s)

theorem consistent_off {s : State} (hs : s.Consistent) {i : Fin 12} (h : (s.feeder i).state = .off ∨ (s.feeder i).state = .shed) :
    s.queueHas (.feeder i) = false ∧ s.tableHas (.feeder i) = false := by
  rw [hs.feederQueued, hs.feederGranted]
  obtain h | h := h <;> simp [h]

theorem still_connected (i : Fin 12) (s : State) : (connected i s).still = s.still :=
  (still_setFeederState i .queued _).trans (still_onDa s
    (fun d => { d with queue := insertEntry (requestEntry (hostRequest s i) s) d.queue, sequence := d.sequence + 1 }) (fun _ => rfl) fun _ => rfl)

theorem serveConnect_asks {i : Fin 12} {s : State} (hlive : s.ss.station = .live)
    (h : (s.feeder i).state = .off ∨ (s.feeder i).state = .queued ∨ (s.feeder i).state = .shed) : serveConnect [BitVec.ofNat 8 (0x10 + i.val)] s =
      feederReply (enqueue arbitrate (hostRequest s i) (setFeederState i .queued) s).1.result i
        (enqueue arbitrate (hostRequest s i) (setFeederState i .queued) s).2 := by
  rw [serveConnect_eq]
  obtain h | h | h := h
  all_goals
    simp only [h]
    exact if_neg (by simp [hlive])

/-- R119: CONNECT that finds room. -/
theorem exec_connect {i : Fin 12} {tag : Byte} {s : State} (hr : s.LinkReady) (hs : s.Consistent) (hlive : s.ss.station = .live)
    (h : (s.feeder i).state = .off ∨ (s.feeder i).state = .shed) (hroom : s.da.queue.length < 8) :
    ∃ t, exec (.connect tag [BitVec.ofNat 8 (0x10 + i.val)]) s = .next t
      ∧ s.AnsweredFrom (arbitrate (connected i (s.serving .connect tag [BitVec.ofNat 8 (0x10 + i.val)]))) t .connect tag .queued
        (feederValues (arbitrate (connected i (s.serving .connect tag [BitVec.ofNat 8 (0x10 + i.val)]))) i) := by
  obtain ⟨hq, ht⟩ := consistent_off hs h
  have htaken := enqueue_taken (r := hostRequest (s.serving .connect tag [BitVec.ofNat 8 (0x10 + i.val)]) i) (setFeederState i .queued)
    (s := s.serving .connect tag [BitVec.ofNat 8 (0x10 + i.val)]) hq ht hroom
  have hchanges := changes_hostEnqueue (m := false) i (s := s.serving .connect tag [BitVec.ofNat 8 (0x10 + i.val)]) hlive
    (by obtain h | h := h <;> exact fun hk => by have := h.symm.trans hk; cases this)
  have hserve := serveConnect_asks (i := i) (s := s.serving .connect tag [BitVec.ofNat 8 (0x10 + i.val)]) hlive (h.imp_right .inr)
  rw [htaken] at hchanges hserve
  exact exec_answers rfl hr hchanges hserve

/-- R119: the request of CONNECT while the spacing timer keeps grants back. -/
theorem connected_spec {i : Fin 12} {s : State} (hordered : queueOrdered s.da.queue) (h : (s.feeder i).state = .off ∨ (s.feeder i).state = .shed) :
    s.Enqueued (connected i s) (.feeder i) (s.feeder i).profile.cls (s.feeder i).profile.booking (s.feeder i).profile.waitLimit .host
    ∧ (connected i s).feeder i = { s.feeder i with state := .queued }
    ∧ ((s.feeder i).state = .off → connected i s = (insertRequest (requestEntry (hostRequest s i) s) s).onFeeder i fun d => { d with state := .queued }) := by
  have hda : (connected i s).da = (insertRequest (requestEntry (hostRequest s i) s) s).da := setFeederState_da _ _ _
  refine ⟨enqueued_of_insert (r := hostRequest s i) hordered ?_ ?_ ?_, ?_, fun hoff => ?_⟩
  · rw [hda]
    rfl
  · rw [hda]
    rfl
  · rw [hda]
    rfl
  · unfold connected
    rw [setFeederState_feeder, if_pos rfl]
    exact enter_between (d := s.feeder i) (by obtain h | h := h <;> simp [h]) (by decide)
  · refine setFeederState_quiet (s := insertRequest (requestEntry (hostRequest s i) s) s) ⟨?_, ?_⟩ ⟨by decide, by decide⟩
    · exact fun hk => by have := hoff.symm.trans hk; cases this
    · exact fun hk => by have := hoff.symm.trans hk; cases this

/-! ### The obligation -/

/-- R117, R124, R125: a feeder command that opens the feeder. -/
theorem exec_opens {c : Instr} {k : CommandKind} {tag : Byte} {body : List Byte} (hc : c.frame? = some (k, tag, body)) {s : State} (hr : s.LinkReady)
    (hs : s.Consistent) {i : Fin 12} (h : (s.feeder i).state = .on) {new : FeederState} (hnew : new.free)
    (hserve : serveCommand k body (s.serving k tag body) = feederReply .ok i (openFeeder arbitrate i new (s.serving k tag body))) :
    ∃ t, exec c s = .next t ∧ s.Opened t i new ∧ t.Replied k tag .ok (feederValues t i) ∧ t.still = ({ s with sl := t.sl } : State).still := by
  obtain ⟨t, ht, ha⟩ := exec_answers hc hr (changes_openFeeder (m := false) i hnew (s := s.serving k tag body) h) hserve
  obtain ⟨hopened, hstill⟩ := openFeeder_opened (i := i) (new := new) hnew.1 (serving_consistent hs k tag body) h
  exact ⟨t, ht, hopened.of_answered ha, ha.feederReplied, ha.still (v := s.serving k tag body) hstill⟩

/-- R117, R124, R125: a feeder command that takes the feeder out of SHED. -/
theorem exec_unsheds {c : Instr} {k : CommandKind} {tag : Byte} {body : List Byte} (hc : c.frame? = some (k, tag, body)) {s : State} (hr : s.LinkReady)
    {i : Fin 12} (h : (s.feeder i).state = .shed) {new : FeederState} (hnew : new.free)
    (hserve : serveCommand k body (s.serving k tag body) = feederReply .ok i (setFeederState i new (s.serving k tag body))) :
    ∃ t, exec c s = .next t ∧ t.feeder i = { s.feeder i with state := new } ∧ t.Replied k tag .ok (feederValues t i)
      ∧ t.still = ({ s with sl := t.sl } : State).still ∧ t.da = s.da := by
  have hfree : ((s.serving k tag body).feeder i).state.free := by
    show (s.feeder i).state.free
    rw [h]
    exact ⟨by decide, by decide⟩
  obtain ⟨t, ht, ha⟩ := exec_answers hc hr (changes_setFeederState (m := false) i hnew hfree) hserve
  refine ⟨t, ht, ?_, ha.feederReplied, ha.still (v := s.serving k tag body) (still_setFeederState i new _), ?_⟩
  · rw [ha.proj (State.feeder · i), setFeederState_feeder, if_pos rfl]
    exact enter_between (d := s.feeder i) (by simp [h]) hnew.1
  · rw [ha.proj State.da, setFeederState_da]
    rfl

/-- R117: a feeder command that moves a feeder between states without an entry, none of them SHED. -/
theorem exec_moves {c : Instr} {k : CommandKind} {tag : Byte} {body : List Byte} (hc : c.frame? = some (k, tag, body)) {s : State} (hr : s.LinkReady)
    {i : Fin 12} (h : (s.feeder i).state ≠ .on ∧ (s.feeder i).state ≠ .shed) {new : FeederState} (hnew : new ≠ .on ∧ new ≠ .shed)
    (hserve : serveCommand k body (s.serving k tag body) = feederReply .ok i (setFeederState i new (s.serving k tag body))) :
    exec c s = .next ((s.onFeeder i fun d => { d with state := new }).replyTo k tag .ok (feederValues (s.onFeeder i fun d => { d with state := new }) i)) := by
  rw [setFeederState_quiet (s := s.serving k tag body) h hnew] at hserve
  exact exec_replies hc hr hserve

/-- Settles O40: each command by the state of its feeder. -/
theorem feederCommands : Obligations.FeederCommands := by
  intro tag i s hr hs d n values named
  have hquiet : (d.state = .capped ∨ d.state = .locked) → d.state ≠ .on ∧ d.state ≠ .shed := by
    rintro (h | h) <;> rw [h] <;> exact ⟨by decide, by decide⟩
  refine ⟨fun fields auto hlen => ?_, fun fields b hlen hb => ?_, fun b hb => ⟨?_, ?_, ?_, ?_⟩, fun h => ⟨?_, ?_, ?_, ?_⟩, fun hcapped hlocked => ⟨?_,
    fun h => ?_, fun h hlive => ?_, fun hlive => ⟨fun h => ?_, fun h hfull => ?_, fun h hroom => ?_⟩⟩, fun h => ⟨?_, ?_⟩, fun e he ho => ?_,
    fun h => ⟨?_, ?_⟩, fun h => ⟨?_, ?_⟩⟩
  · exact exec_replies rfl hr (serveSetFeeder_taken hlen i auto (s.serving .setFeeder tag (n :: fields ++ [if auto then 1 else 0])))
  · exact exec_replies rfl hr (serveSetFeeder_refused hlen i hb (s.serving .setFeeder tag (n :: fields ++ [b])))
  · exact exec_replies (c := .connect tag [b]) rfl hr (serveConnect_nobody hb _)
  · exact exec_replies (c := .disconnect tag [b]) rfl hr (serveDisconnect_nobody hb _)
  · exact exec_replies (c := .lockFeeder tag [b]) rfl hr (serveLockFeeder_nobody hb _)
  · exact exec_replies (c := .unlockFeeder tag [b]) rfl hr (serveUnlockFeeder_nobody hb _)
  · refine exec_replies (c := .connect tag [n]) rfl hr ((serveConnect_eq i _).trans ?_)
    obtain h | h := h
    all_goals
      have h : ((s.serving .connect tag [n]).feeder i).state = _ := h
      simp only [h]
      rfl
  · refine exec_replies (c := .disconnect tag [n]) rfl hr ((serveDisconnect_eq i _).trans ?_)
    obtain h | h := h
    all_goals
      have h : ((s.serving .disconnect tag [n]).feeder i).state = _ := h
      simp only [h]
      rfl
  · refine exec_moves (c := .unlockFeeder tag [n]) rfl hr (hquiet h) ⟨by decide, by decide⟩ ((serveUnlockFeeder_eq i _).trans ?_)
    obtain h | h := h
    all_goals
      have h : ((s.serving .unlockFeeder tag [n]).feeder i).state = _ := h
      simp only [h]
  · obtain h | h := h
    · refine exec_moves (c := .lockFeeder tag [n]) rfl hr (hquiet (.inl h)) ⟨by decide, by decide⟩ ((serveLockFeeder_eq i _).trans ?_)
      have h : ((s.serving .lockFeeder tag [n]).feeder i).state = _ := h
      simp only [h]
    · have hsame : named .locked = s := onFeeder_state_same h
      rw [hsame]
      refine exec_replies (c := .lockFeeder tag [n]) rfl hr ((serveLockFeeder_eq i _).trans ?_)
      have h : ((s.serving .lockFeeder tag [n]).feeder i).state = _ := h
      simp only [h]
      rfl
  · refine exec_replies (c := .unlockFeeder tag [n]) rfl hr ((serveUnlockFeeder_eq i _).trans ?_)
    have hcapped : ((s.serving .unlockFeeder tag [n]).feeder i).state ≠ .capped := hcapped
    have hlocked : ((s.serving .unlockFeeder tag [n]).feeder i).state ≠ .locked := hlocked
    split
    case h_1 hk => exact absurd hk hlocked
    case h_2 hk => exact absurd hk hcapped
    all_goals rfl
  · refine exec_replies (c := .connect tag [n]) rfl hr ((serveConnect_eq i _).trans ?_)
    have h : ((s.serving .connect tag [n]).feeder i).state = _ := h
    simp only [h]
    rfl
  · refine exec_replies (c := .connect tag [n]) rfl hr ((serveConnect_eq i _).trans ?_)
    have hlive : (s.serving .connect tag [n]).ss.station ≠ .live := hlive
    split
    case h_1 hk => exact absurd hk hcapped
    case h_2 hk => exact absurd hk hlocked
    case h_3 hk => exact absurd hk h
    all_goals exact if_pos hlive
  · refine exec_replies (c := .connect tag [n]) rfl hr ((serveConnect_asks (s := s.serving .connect tag [n]) hlive (.inr (.inl h))).trans ?_)
    have hq : (s.serving .connect tag [n]).queueHas (.feeder i) = true := (hs.feederQueued i).trans (decide_eq_true h)
    unfold enqueue
    rw [if_pos (by rw [show (hostRequest (s.serving .connect tag [n]) i).owner = .feeder i from rfl, hq]; rfl)]
    rfl
  · obtain ⟨hq, ht⟩ := consistent_off hs h
    refine exec_replies (c := .connect tag [n]) rfl hr ((serveConnect_asks (s := s.serving .connect tag [n]) hlive (h.imp_right .inr)).trans ?_)
    rw [enqueue_full (r := hostRequest (s.serving .connect tag [n]) i) _ (s := s.serving .connect tag [n]) hq ht hfull]
    rfl
  · obtain ⟨t, ht, ha⟩ := exec_connect (tag := tag) hr hs hlive h hroom
    refine ⟨t, ht, ha.feederReplied, ha.still (v := s.serving .connect tag [n]) ((settling_arbitrate _).still.trans (still_connected i _)),
      fun hspacing hordered => ?_⟩
    have hda : (connected i (s.serving .connect tag [n])).da = (insertRequest _ (s.serving .connect tag [n])).da := setFeederState_da _ _ _
    rw [arbitrate_of_spacing (s := connected i (s.serving .connect tag [n])) (by rw [hda]; exact hspacing)] at ha
    obtain ⟨henqueued, hfeeder, hquiet⟩ := connected_spec (i := i) (s := s.serving .connect tag [n]) hordered h
    refine ⟨?_, (ha.proj (State.feeder · i)).trans hfeeder, fun hoff => ?_⟩
    · unfold State.Enqueued at henqueued ⊢
      rw [ha.proj State.da]
      exact henqueued
    · have hsame := ha.same
      rw [hquiet hoff] at hsame
      rw [hsame]
      rfl
  · exact exec_opens (c := .disconnect tag [n]) rfl hr hs h ⟨by decide, by decide⟩ ((serveDisconnect_eq i _).trans (by
      have h : ((s.serving .disconnect tag [n]).feeder i).state = _ := h
      simp only [h]))
  · exact exec_opens (c := .lockFeeder tag [n]) rfl hr hs h ⟨by decide, by decide⟩ ((serveLockFeeder_eq i _).trans (by
      have h : ((s.serving .lockFeeder tag [n]).feeder i).state = _ := h
      simp only [h]))
  · have hqueued : d.state = .queued :=
      of_decide_eq_true ((hs.feederQueued i).symm.trans (queueHas_iff.mpr (by rw [← ho]; exact List.mem_map_of_mem he)))
    refine ⟨?_, ?_⟩
    · obtain ⟨t, ht, ha⟩ := exec_answers (c := .disconnect tag [n]) rfl hr (changes_withdrawOwner (.feeder i) .cancel _) ((serveDisconnect_eq i _).trans (by
        have h : ((s.serving .disconnect tag [n]).feeder i).state = _ := hqueued
        simp only [h]
        rfl))
      have hw := withdrawOwner_withdrawn (s := s.serving .disconnect tag [n]) hr.powered hs.queueOnce he (by simp [ho]) .cancel
      rw [ho] at hw
      exact ⟨t, ht, hw.of_answered ha, ha.feederReplied⟩
    · obtain ⟨t, ht, ha⟩ := exec_answers (c := .lockFeeder tag [n]) rfl hr (changes_withdrawLocked i _) ((serveLockFeeder_eq i _).trans (by
        have h : ((s.serving .lockFeeder tag [n]).feeder i).state = _ := hqueued
        simp only [h]
        rfl))
      obtain ⟨hgone, hfeeder, hreport, hstill⟩ :=
        withdrawLocked_locked (i := i) (s := s.serving .lockFeeder tag [n]) hr.powered (serving_consistent hs .lockFeeder tag [n]) he ho
      exact ⟨t, ht, (ha.proj fun x => x.queueHas (.feeder i)).trans hgone, (ha.proj (State.feeder · i)).trans hfeeder, ha.reports _ hreport,
        ha.feederReplied, ha.still (v := s.serving .lockFeeder tag [n]) hstill⟩
  · refine exec_replies (c := .disconnect tag [n]) rfl hr ((serveDisconnect_eq i _).trans ?_)
    have h : ((s.serving .disconnect tag [n]).feeder i).state = _ := h
    simp only [h]
    rfl
  · refine exec_moves (c := .lockFeeder tag [n]) rfl hr (by rw [h]; exact ⟨by decide, by decide⟩) ⟨by decide, by decide⟩ ((serveLockFeeder_eq i _).trans ?_)
    have h : ((s.serving .lockFeeder tag [n]).feeder i).state = _ := h
    simp only [h]
  · exact exec_unsheds (c := .disconnect tag [n]) rfl hr h ⟨by decide, by decide⟩ ((serveDisconnect_eq i _).trans (by
      have h : ((s.serving .disconnect tag [n]).feeder i).state = _ := h
      simp only [h]))
  · exact exec_unsheds (c := .lockFeeder tag [n]) rfl hr h ⟨by decide, by decide⟩ ((serveLockFeeder_eq i _).trans (by
      have h : ((s.serving .lockFeeder tag [n]).feeder i).state = _ := h
      simp only [h]))

end Sys2Proof.Machine

/-! PROOFS. The restore timer's expiry and the offers that follow (R131, R132). -/

namespace Sys2Proof.Machine

/-! ### Nothing but a control step starts the restore timer (R131) -/

/-- The restore timer stands still. -/
def State.Untimed (s : State) : Prop := s.fu.restoreTimer = none

theorem State.Untimed.of_fu {s t : State} (h : s.Untimed) (hfu : t.fu = s.fu) : t.Untimed := (congrArg FeederUnit.restoreTimer hfu).trans h

theorem setFeederState_untimed (i : Fin 12) (new : FeederState) {s : State} (h : s.Untimed) : (setFeederState i new s).Untimed := by
  have hhand : ∀ (b : Bool) (x : State), (handShed b (alarmChanged .shed x)).fu = x.fu := by
    intro b x
    unfold handShed
    rw [evaluateCorrection_fu]
    simp
  unfold setFeederState shedChanged
  split
  · exact h
  · refine State.Untimed.of_fu (s := if _ then _ else _) ?_ (hhand _ _)
    split
    · exact h
    · rfl

/-- The restore timer stays stopped through an operation. -/
def KeepsUntimed (f : State → State) : Prop := ∀ s : State, s.Untimed → (f s).Untimed

section
variable {arb : State → State} (harb : KeepsUntimed arb)
include harb

theorem enqueue_untimed (r : Request) {moved : State → State} (hm : KeepsUntimed moved) {s : State} (h : s.Untimed) :
    (enqueue arb r moved s).2.Untimed := by
  obtain ⟨_, hsame⟩ | ⟨_, _, _, hsame⟩ | ⟨_, _, _, e, _, _, _, _, _, _, _, htaken⟩ := enqueue_cases arb r moved s
  · rw [hsame]; exact h
  · rw [hsame]; exact h
  · rw [htaken]
    exact harb _ (hm _ (h.of_fu rfl))

theorem releaseNotice_untimed (o : Owner) {s : State} (h : s.Untimed) : (releaseNotice arb o s).Untimed := by
  obtain ⟨_, hsame⟩ | ⟨_, hrel⟩ := releaseNotice_cases arb o s
  · rw [hsame]; exact h
  · rw [hrel]
    obtain ⟨g, timer, hframe⟩ := released_frame o s
    exact harb _ (h.of_fu (by rw [hframe]))

theorem forcedOut_untimed {cause : DriveCause} (hc : cause ≠ .shortfall) (i : Fin 4) {s : State} (h : s.Untimed) :
    (forcedOut arb cause i s).Untimed := by
  unfold forcedOut takeOut
  rw [if_neg hc]
  split
  · exact (releaseNotice_untimed harb (.drive i) (s := s.onSlot i Slot.toCoasting) h).of_fu ((post_fu _ _).trans (postAborted_fu _ _ _))
  · exact h

theorem rakeForcesSlot_untimed (i : Fin 4) {s : State} (h : s.Untimed) : (rakeForcesSlot arb i s).Untimed := by
  unfold rakeForcesSlot
  split
  · exact h
  · exact forcedOut_untimed harb (by decide) i h
  · exact forcedOut_untimed harb (by decide) i h
  · exact forcedOut_untimed harb (by decide) i h
  · exact forcedOut_untimed harb (by decide) i h
  all_goals exact h

theorem forceRakeEntry_untimed {s : State} (h : s.Untimed) : (forceRakeEntry arb s).Untimed := by
  unfold forceRakeEntry
  split
  · exact harb _ (h.of_fu rfl)
  · exact h

theorem rakeRequest_untimed {s : State} (h : s.Untimed) : (rakeRequest arb s).Untimed := by
  unfold rakeRequest
  split
  · refine enqueue_untimed harb _ (moved := fun s => s.onRk fun k => { k with entryHeld := true }) (fun x hx => hx.of_fu rfl) ?_
    split
    · refine List.foldlRecOn (motive := State.Untimed) _ _ (forceRakeEntry_untimed harb (h.of_fu (post_fu _ _))) fun x hx i _ => ?_
      exact rakeForcesSlot_untimed harb i hx
    · exact h
  · exact h

theorem offerList_untimed (l : List (Fin 12)) {s : State} (h : s.Untimed) : (offerList arb l s).Untimed := by
  induction l generalizing s with
  | nil => exact h
  | cons i rest ih =>
    unfold offerList
    split
    · have hone : ∀ p : FeederProfile, (enqueue arb (restoreRequest s i)
          (fun s => setFeederState i .queued (post (.restore i p.cls p.booking) s)) s).2.Untimed := fun p =>
        enqueue_untimed harb _ (fun x hx => setFeederState_untimed i .queued (hx.of_fu (post_fu _ _))) h
      simp only []
      have hone := hone (s.feeder i).profile
      split
      · next heq => rw [heq] at hone; exact hone
      · next heq => rw [heq] at hone; exact ih hone
      · next heq => rw [heq] at hone; exact ih hone
    · exact ih h

theorem feederOffer_untimed {s : State} (h : s.Untimed) : (feederOffer arb s).Untimed := by
  unfold feederOffer
  split
  · exact offerList_untimed harb _ h
  · exact h

end

theorem grant_untimed (e : QueueEntry) {s : State} (h : s.Untimed) : (grant e s).Untimed := by
  have hmoved : (grantFeedForward e (shortfallTest (moveToTable e s))).Untimed := by
    obtain ⟨timer, hframe⟩ := shortfallTest_frame (moveToTable e s)
    have hfu : (grantFeedForward e (shortfallTest (moveToTable e s))).fu = (shortfallTest (moveToTable e s)).fu := by
      unfold grantFeedForward
      split <;> rfl
    exact h.of_fu (hfu.trans (by rw [hframe]; rfl))
  have howner : (ownerGranted e.owner (grantFeedForward e (shortfallTest (moveToTable e s)))).Untimed := by
    unfold ownerGranted
    split
    · unfold slotGranted
      simp only []
      split <;> exact hmoved
    · exact setFeederState_untimed _ _ hmoved
    · exact hmoved
  exact howner.of_fu (post_fu _ _)

theorem arbitrateRounds_untimed (n : Nat) : KeepsUntimed (arbitrateRounds n) := by
  induction n with
  | zero => exact fun s h => h
  | succ n ih =>
    intro s h
    unfold arbitrateRounds
    split
    · exact ih _ (feederOffer_untimed ih (rakeRequest_untimed ih (grant_untimed _ h)))
    · exact h

theorem arbitrate_untimed : KeepsUntimed arbitrate := arbitrateRounds_untimed 18

/-! ### The offers while the spacing timer keeps grants back (R132) -/

/-- What the offer of the feeders of `l` leaves: each of them that is SHED waits, and the others stay. -/
structure Offers (l : List (Fin 12)) (s t : State) : Prop where
  others : ∀ i, (i ∉ l ∨ (s.feeder i).state ≠ .shed) → t.feeder i = s.feeder i
  shed : ∀ i ∈ l, (s.feeder i).state = .shed → t.feeder i = { s.feeder i with state := .queued }
    ∧ (∃ e ∈ t.da.queue, e.owner = .feeder i ∧ e.cls = (s.feeder i).profile.cls ∧ e.booking = (s.feeder i).profile.booking
        ∧ e.waitTimer = none ∧ e.origin = .restore)
    ∧ (s.powered = true → s.reportsSince t (.restore i (s.feeder i).profile.cls (s.feeder i).profile.booking))
  queue : ∀ e ∈ s.da.queue, e ∈ t.da.queue
  link : ReportsOnly s t

/-- The feeders of `l` that are SHED find room, and none of them has an entry. -/
structure Room (l : List (Fin 12)) (s : State) : Prop where
  spacing : s.da.spacingTimer.isSome = true
  free : ∀ i ∈ l, (s.feeder i).state = .shed → s.queueHas (.feeder i) = false ∧ s.tableHas (.feeder i) = false
  room : s.da.queue.length + (l.filter fun i => decide ((s.feeder i).state = .shed)).length ≤ 8

/-- R132: one offer. -/
def offerOne (i : Fin 12) (s : State) : State :=
  setFeederState i .queued (post (.restore i (s.feeder i).profile.cls (s.feeder i).profile.booking)
    (insertRequest (requestEntry (restoreRequest s i) s) s))

theorem offerOne_da (i : Fin 12) (s : State) : (offerOne i s).da = (insertRequest (requestEntry (restoreRequest s i) s) s).da :=
  (setFeederState_da _ _ _).trans (post_da _ _)

theorem offerOne_queueHas {i j : Fin 12} (hij : i ≠ j) (s : State) : (offerOne i s).queueHas (.feeder j) = s.queueHas (.feeder j) := by
  rw [Bool.eq_iff_iff, queueHas_iff, queueHas_iff]
  unfold State.queueOwners
  rw [offerOne_da]
  have hperm := insertRequest_queueOwners (requestEntry (restoreRequest s i) s) s
  unfold State.queueOwners at hperm
  rw [hperm.mem_iff, List.mem_cons]
  exact or_iff_right fun hk => hij (by injection hk with hk; exact hk.symm)

theorem offerOne_feeder (i j : Fin 12) (s : State) : (offerOne i s).feeder j = if i = j then (s.feeder i).enter .queued else s.feeder j := by
  unfold offerOne
  rw [setFeederState_feeder, post_feeder, post_feeder]
  rfl

theorem offerList_shed {i : Fin 12} {rest : List (Fin 12)} {s : State} (h : (s.feeder i).state = .shed) (hr : Room (i :: rest) s) :
    offerList arbitrate (i :: rest) s = offerList arbitrate rest (offerOne i s) := by
  obtain ⟨hq, ht⟩ := hr.free i List.mem_cons_self h
  have hroom := hr.room
  rw [List.filter_cons_of_pos (by simp [h])] at hroom
  have hlen : s.da.queue.length < 8 := by
    rw [List.length_cons] at hroom
    omega
  have htaken := enqueue_taken (r := restoreRequest s i)
    (fun x => setFeederState i .queued (post (.restore i (s.feeder i).profile.cls (s.feeder i).profile.booking) x)) hq ht hlen
  have hspacing : arbitrate (offerOne i s) = offerOne i s := arbitrate_of_spacing (by rw [offerOne_da]; exact hr.spacing)
  rw [offerList, if_pos h]
  simp only [htaken]
  exact congrArg (offerList arbitrate rest) hspacing

theorem offerList_other {i : Fin 12} {rest : List (Fin 12)} {s : State} (h : (s.feeder i).state ≠ .shed) :
    offerList arbitrate (i :: rest) s = offerList arbitrate rest s := by
  rw [offerList, if_neg h]

theorem Room.offered {i : Fin 12} {rest : List (Fin 12)} {s : State} (hi : i ∉ rest) (h : (s.feeder i).state = .shed) (hr : Room (i :: rest) s) :
    Room rest (offerOne i s) := by
  have hne : ∀ j ∈ rest, i ≠ j := by
    rintro j hj rfl
    exact hi hj
  have hfeeder : ∀ j ∈ rest, (offerOne i s).feeder j = s.feeder j := fun j hj => (offerOne_feeder i j s).trans (if_neg (hne j hj))
  refine ⟨by rw [offerOne_da]; exact hr.spacing, fun j hj hshed => ?_, ?_⟩
  · rw [hfeeder j hj] at hshed
    obtain ⟨hq, ht⟩ := hr.free j (List.mem_cons_of_mem _ hj) hshed
    refine ⟨(offerOne_queueHas (hne j hj) s).trans hq, ?_⟩
    unfold State.tableHas
    rw [offerOne_da]
    exact ht
  · have hroom := hr.room
    have hlen : (offerOne i s).da.queue.length = s.da.queue.length + 1 := by
      rw [offerOne_da]
      exact (insertEntry_perm _ s.da.queue).length_eq
    have hfilter : (rest.filter fun j => decide (((offerOne i s).feeder j).state = .shed)) = rest.filter fun j => decide ((s.feeder j).state = .shed) :=
      List.filter_congr fun j hj => by rw [hfeeder j hj]
    rw [List.filter_cons_of_pos (by simp [h]), List.length_cons] at hroom
    rw [hfilter, hlen]
    omega

theorem offerOne_reportsOnly (i : Fin 12) (s : State) : ReportsOnly s (offerOne i s) :=
  ReportsOnly.trans (t := insertRequest (requestEntry (restoreRequest s i) s) s) (.of_sl rfl rfl)
    ((post_reportsOnly _ _).trans (setFeederState_reportsOnly i .queued _))

/-- R132: where there is room for them all, every SHED feeder of the list is offered. -/
theorem offerList_offers {l : List (Fin 12)} (hl : l.Nodup) {s : State} (hr : Room l s) : Offers l s (offerList arbitrate l s) := by
  induction l generalizing s with
  | nil => exact ⟨fun _ _ => rfl, fun _ h => absurd h List.not_mem_nil, fun _ => id, .refl s⟩
  | cons i rest ih =>
    obtain ⟨hi, hrest⟩ := List.nodup_cons.mp hl
    by_cases h : (s.feeder i).state = .shed
    · rw [offerList_shed h hr]
      obtain ⟨hothers, hshed, hqueue, hlink⟩ := ih hrest (hr.offered hi h)
      have hone := offerOne_reportsOnly i s
      have hinsert : ∀ e, e ∈ (offerOne i s).da.queue ↔ e = requestEntry (restoreRequest s i) s ∨ e ∈ s.da.queue := fun e => by
        rw [offerOne_da]
        exact (insertEntry_perm _ s.da.queue).mem_iff.trans List.mem_cons
      have hother : ∀ j, i ≠ j → (offerOne i s).feeder j = s.feeder j := fun j hij => (offerOne_feeder i j s).trans (if_neg hij)
      refine ⟨fun j hj => ?_, fun j hj hjs => ?_, fun e he => hqueue e ((hinsert e).mpr (.inr he)), hone.trans hlink⟩
      · have hij : i ≠ j := by
          rintro rfl
          exact hj.elim (fun hk => hk List.mem_cons_self) (absurd h)
        rw [hothers j (hj.imp (fun hk hin => hk (List.mem_cons_of_mem _ hin)) fun hk => by rw [hother j hij]; exact hk), hother j hij]
      · obtain rfl | hj := List.mem_cons.mp hj
        · refine ⟨?_, ⟨requestEntry (restoreRequest s j) s, hqueue _ ((hinsert _).mpr (.inl rfl)), rfl, rfl, rfl, rfl, rfl⟩, fun hp => ?_⟩
          · rw [hothers j (.inl hi), offerOne_feeder, if_pos rfl]
            exact enter_between (by simp [h]) (by decide)
          · exact reportsSince_of_post (t := insertRequest (requestEntry (restoreRequest s j) s) s) hp (.of_sl rfl rfl)
              ((setFeederState_reportsOnly j .queued _).trans hlink)
        · have hij : i ≠ j := fun hk => hi (hk ▸ hj)
          have hsame := hother j hij
          obtain ⟨hstate, hentry, hreport⟩ := hshed j hj (by rw [hsame]; exact hjs)
          rw [hsame] at hstate hentry hreport
          exact ⟨hstate, hentry, fun hp => hone.since hlink (hreport (hone.power.trans hp))⟩
    · rw [offerList_other h]
      obtain ⟨hothers, hshed, hqueue, hlink⟩ := ih hrest ⟨hr.spacing, fun j hj => hr.free j (List.mem_cons_of_mem _ hj), by
        have hroom := hr.room
        rwa [List.filter_cons_of_neg (by simp [h])] at hroom⟩
      refine ⟨fun j hj => hothers j (hj.imp_left fun hk hin => hk (List.mem_cons_of_mem _ hin)), fun j hj hjs => ?_, hqueue, hlink⟩
      obtain rfl | hj := List.mem_cons.mp hj
      · exact absurd hjs h
      · exact hshed j hj hjs

theorem offerList_of_none {l : List (Fin 12)} {s : State} (h : ∀ i ∈ l, (s.feeder i).state ≠ .shed) : offerList arbitrate l s = s := by
  induction l with
  | nil => rfl
  | cons i rest ih => rw [offerList_other (h i List.mem_cons_self), ih fun j hj => h j (List.mem_cons_of_mem _ hj)]

/-! ### The feeders in class order -/

theorem mem_feedersByClass {s : State} {i : Fin 12} : i ∈ feedersByClass s ↔ 1 ≤ (s.feeder i).profile.cls ∧ (s.feeder i).profile.cls ≤ 3 := by
  unfold feedersByClass
  simp only [List.mem_flatMap, List.mem_filter, mem_allFeeders, true_and, decide_eq_true_eq]
  refine ⟨fun ⟨c, hc, h⟩ => ?_, fun h => ⟨_, ?_, rfl⟩⟩
  · simp only [List.mem_cons, List.not_mem_nil, or_false] at hc
    omega
  · simp only [List.mem_cons, List.not_mem_nil, or_false]
    omega

theorem feedersByClass_nodup (s : State) : (feedersByClass s).Nodup := by
  unfold feedersByClass
  refine List.nodup_flatMap.mpr ⟨fun c _ => List.Nodup.filter _ (by decide), ?_⟩
  refine List.Pairwise.imp (R := (· ≠ ·)) (fun {a b} hab => ?_) (by decide)
  intro i ha hb
  simp only [List.mem_filter, decide_eq_true_eq] at ha hb
  exact hab (ha.2.symm.trans hb.2)

theorem profile_cls {s : State} (hs : s.ProfilesInRange) (i : Fin 12) : 1 ≤ (s.feeder i).profile.cls ∧ (s.feeder i).profile.cls ≤ 3 := by
  have h := hs.feeders i
  simp only [FeederProfile.fields, FeederProfile.toList, fieldsInRange, Bool.and_eq_true, decide_eq_true_eq] at h
  omega

/-! ### The obligation -/

/-- R131: the restore permit becomes set. -/
def State.permitted (s : State) : State := s.onFu fun u => { u with permit := true, restoreTimer := none }

theorem setPermit_live {s : State} (h : s.ss.station = .live) : setPermit arbitrate s = offerList arbitrate (feedersByClass s) s.permitted :=
  if_pos ⟨rfl, h⟩

theorem exec_restoreTimer {s : State} (hp : s.powered = true) (h : s.fu.restoreTimer.isSome = true) :
    exec .restoreTimerExpiry s = .next (setPermit arbitrate s) :=
  congrArg Host.Outcome.next ((whenPowered_on hp _).trans (whenRunning_of_isSome h s _))

theorem room_permitted {s : State} (hs : s.Consistent) (hspacing : s.da.spacingTimer.isSome = true)
    (hroom : s.da.queue.length + (allFeeders.filter fun i => decide ((s.feeder i).state = .shed)).length ≤ 8) :
    Room (feedersByClass s) s.permitted := by
  refine ⟨hspacing, fun i _ h => consistent_off hs (.inr h), Nat.le_trans (Nat.add_le_add_left ?_ _) hroom⟩
  refine (List.subperm_of_subset ((feedersByClass_nodup s).filter _) fun i hi => ?_).length_le
  exact List.mem_filter.mpr ⟨mem_allFeeders i, (List.mem_filter.mp hi).2⟩

/-- Settles O42: the permit, and the offer of the feeders one after another. -/
theorem restoreTimerOffers : Obligations.RestoreTimerOffers := by
  intro s hp
  refine ⟨fun h => congrArg Host.Outcome.next (whenPowered_same (whenRunning_of_none h s _)), fun h => ⟨fun hnone => ?_, fun hlive => ?_⟩⟩
  · rw [exec_restoreTimer hp h]
    refine congrArg Host.Outcome.next ?_
    by_cases hlive : s.ss.station = .live
    · rw [setPermit_live hlive]
      exact offerList_of_none (s := s.permitted) fun i _ => hnone.resolve_left (not_not.mpr hlive) i
    · exact if_neg fun hk => hlive hk.2
  · have hset := setPermit_live hlive
    have huntimed : (setPermit arbitrate s).Untimed := feederOffer_untimed (s := s.permitted) arbitrate_untimed rfl
    refine ⟨_, exec_restoreTimer hp h, ?_, huntimed, fun hs hprofiles hspacing hroom i => ?_⟩
    · exact still_setPermit arbitrate_keeps s
    · obtain ⟨hothers, hshed, _, _⟩ := offerList_offers (feedersByClass_nodup s) (room_permitted hs hspacing hroom)
      rw [hset]
      refine ⟨fun hi => ?_, fun hi => hothers i (.inr hi)⟩
      obtain ⟨hstate, hentry, hreport⟩ := hshed i (mem_feedersByClass.mpr (profile_cls hprofiles i)) hi
      exact ⟨hstate, hentry, hreport hp⟩

end Sys2Proof.Machine

/-! PROOFS. A stage fires: the withdrawal, the feeders and the drives that it reaches (R129). -/

namespace Sys2Proof.Machine

/-! ### What an operation spares -/

/-- No feeder is offered, and the rake's next request does not force it. -/
def State.Settled (s : State) : Prop := s.fu.permit = false ∧ ¬s.spent

/-- What an operation that acts on the feeders of `fs` and the slots of `ds` leaves of the others: one that does not wait, or that cannot be
granted, stays as it is. -/
structure Spared (fs : Fin 12 → Prop) (ds : Fin 4 → Prop) (s t : State) : Prop where
  settled : t.Settled
  spacing : s.da.spacingTimer.isSome = true → t.da.spacingTimer = s.da.spacingTimer
  queue : ∀ o, o ≠ .rake → s.queueHas o = false → t.queueHas o = false
  table : ∀ o, o ≠ .rake → s.queueHas o = false → s.tableHas o = false → t.tableHas o = false
  feeders : ∀ i, ¬fs i → (s.queueHas (.feeder i) = false ∨ s.da.spacingTimer.isSome = true) → t.feeder i = s.feeder i
  accounts : ∀ i, ¬fs i → t.account i = s.account i
  slots : ∀ i, ¬ds i → (s.queueHas (.drive i) = false ∨ s.da.spacingTimer.isSome = true) → t.slot i = s.slot i
  stages : t.fu.stages = s.fu.stages
  still : t.still = s.still
  link : ReportsOnly s t

theorem Spared.refl (fs : Fin 12 → Prop) (ds : Fin 4 → Prop) {s : State} (h : s.Settled) : Spared fs ds s s :=
  ⟨h, fun _ => rfl, fun _ _ => id, fun _ _ _ => id, fun _ _ _ => rfl, fun _ _ => rfl, fun _ _ _ => rfl, rfl, rfl, .refl s⟩

theorem Spared.mono {fs fs' : Fin 12 → Prop} {ds ds' : Fin 4 → Prop} {s t : State} (h : Spared fs ds s t) (hf : ∀ i, fs i → fs' i)
    (hd : ∀ i, ds i → ds' i) : Spared fs' ds' s t :=
  { h with
    feeders := fun i hi => h.feeders i (mt (hf i) hi)
    accounts := fun i hi => h.accounts i (mt (hf i) hi)
    slots := fun i hi => h.slots i (mt (hd i) hi) }

theorem Spared.trans {fs : Fin 12 → Prop} {ds : Fin 4 → Prop} {s t u : State} (h : Spared fs ds s t) (k : Spared fs ds t u) : Spared fs ds s u where
  settled := k.settled
  spacing hs := (k.spacing (h.spacing hs ▸ hs)).trans (h.spacing hs)
  queue o ho hq := k.queue o ho (h.queue o ho hq)
  table o ho hq ht := k.table o ho (h.queue o ho hq) (h.table o ho hq ht)
  feeders i hi hq := (k.feeders i hi (hq.imp (h.queue _ Owner.noConfusion) fun hs => h.spacing hs ▸ hs)).trans (h.feeders i hi hq)
  accounts i hi := (k.accounts i hi).trans (h.accounts i hi)
  slots i hi hq := (k.slots i hi (hq.imp (h.queue _ Owner.noConfusion) fun hs => h.spacing hs ▸ hs)).trans (h.slots i hi hq)
  stages := k.stages.trans h.stages
  still := k.still.trans h.still
  link := h.link.trans k.link

/-- What follows an arbitration acts on no one that does not wait. -/
theorem Aftermath.spared {force : Prop} {s t : State} (h : Aftermath force s t) (hforce : ¬force) (hset : s.Settled) (hlink : ReportsOnly s t) :
    Spared (fun _ => False) (fun _ => False) s t := by
  have hoff : ∀ i, ¬s.offered i := fun i hk => by
    have := hset.1.symm.trans hk.2
    cases this
  have hask : ∀ o, o ≠ .rake → ¬s.mayAsk o := by
    intro o ho
    cases o with
    | drive i => exact id
    | feeder i => exact hoff i
    | rake => exact absurd rfl ho
  refine ⟨⟨?_, mt h.spent hset.2⟩, fun hs => (h.held hs).timer, fun o ho hq => h.not_queued hq (hask o ho), fun o ho hq ht => h.not_tabled ht hq (hask o ho),
    fun i _ hq => ?_, fun i _ => congrArg (fun m : MeteringUnit => m.accounts[i]) h.accounts, fun i _ hq => ?_, h.stages, h.still, hlink⟩
  · exact Bool.eq_false_iff.mpr fun hk => by
      have := hset.1.symm.trans (h.permit hk)
      cases this
  · exact hq.elim (fun hq => h.feeders i hq (hoff i)) fun hs => (h.held hs).feeders i (hoff i)
  · exact hq.elim (fun hq => h.slots i hq (.inr hforce)) fun hs => (h.held hs).slots i (.inr hforce)

theorem spared_arbitrate {s : State} (hset : s.Settled) : Spared (fun _ => False) (fun _ => False) s (arbitrate s) :=
  (settling_arbitrate s).spared hset.2 hset (calm_arbitrate s).reportsOnly

/-! ### Elementary operations -/

theorem spared_onSlot (i : Fin 4) (g : Slot → Slot) {s : State} (hset : s.Settled) (hp : ∀ d, (g d).profile = d.profile)
    (hpresent : ∀ d, (g d).present = d.present) : Spared (fun _ => False) (· = i) s (s.onSlot i g) :=
  ⟨hset, fun _ => rfl, fun _ _ => id, fun _ _ _ => id, fun _ _ _ => rfl, fun _ _ => rfl,
    fun j hj _ => (State.onSlot_slot s i j g).trans (if_neg fun hk => hj hk.symm), rfl, still_onSlot s i g hp hpresent, .of_sl rfl rfl⟩

theorem spared_post (r : Report) {s : State} (hset : s.Settled) : Spared (fun _ => False) (fun _ => False) s (post r s) :=
  (aftermath_post (force := False) r s).spared id hset (post_reportsOnly r s)

theorem spared_setFeederState (i : Fin 12) (new : FeederState) {s : State} (hset : s.Settled) :
    Spared (· = i) (fun _ => False) s (setFeederState i new s) := by
  have hda := setFeederState_da i new s
  have hq : ∀ o, (setFeederState i new s).queueHas o = s.queueHas o := fun o => by unfold State.queueHas; rw [hda]
  have ht : ∀ o, (setFeederState i new s).tableHas o = s.tableHas o := fun o => by unfold State.tableHas; rw [hda]
  refine ⟨⟨?_, ?_⟩, fun _ => by rw [hda], fun o _ h => (hq o).trans h, fun o _ _ h => (ht o).trans h, fun j hj _ => ?_, fun j _ => ?_, fun j _ _ => ?_,
    setFeederState_stages i new s, still_setFeederState i new s, setFeederState_reportsOnly i new s⟩
  · exact Bool.eq_false_iff.mpr fun hk => by
      have := hset.1.symm.trans (setFeederState_permit hk)
      cases this
  · unfold State.spent
    rw [setFeederState_rk]
    exact hset.2
  · exact (setFeederState_feeder i j new s).trans (if_neg fun hk => hj hk.symm)
  · exact congrArg (fun m : MeteringUnit => m.accounts[j]) (setFeederState_mu i new s)
  · exact congrArg (fun d : DriveScheduler => d.slots[j]) (setFeederState_ds i new s)

theorem spared_raiseShedCount (i : Fin 12) {s : State} (hset : s.Settled) : Spared (· = i) (fun _ => False) s (raiseShedCount i s) :=
  ⟨hset, fun _ => rfl, fun _ _ => id, fun _ _ _ => id, fun _ _ _ => rfl,
    fun j hj => (State.onAccount_account s i j _).trans (if_neg fun hk => hj hk.symm), fun _ _ _ => rfl, rfl,
    still_onAccount s i _ fun _ => rfl, .of_sl rfl rfl⟩

theorem spared_releaseNotice (o : Owner) {s : State} (hset : s.Settled) : Spared (fun _ => False) (fun _ => False) s (releaseNotice arbitrate o s) := by
  obtain ⟨_, hsame⟩ | ⟨_, hrel⟩ := releaseNotice_cases arbitrate o s
  · rw [hsame]
    exact .refl _ _ hset
  · obtain ⟨g, timer, hframe⟩ := released_frame o s
    rw [hrel]
    have hset' : (released o s).Settled := by rw [hframe]; exact hset
    refine Spared.trans ?_ (spared_arbitrate hset')
    refine ⟨hset', fun _ => by rw [hframe], fun _ _ h => by rw [hframe]; exact h, fun x _ _ h => ?_, fun _ _ _ => by rw [hframe]; rfl,
      fun _ _ => by rw [hframe]; rfl, fun _ _ _ => by rw [hframe]; rfl, by rw [hframe], (still_shortfallTest _).trans (still_removeFromTable o s), .of_sl (by rw [hframe]) (by rw [hframe])⟩
    rw [tableHas_false_iff] at h ⊢
    rw [hframe]
    exact fun hk => h ((List.filter_sublist.map _).subset hk)

theorem Spared.thenPost {fs : Fin 12 → Prop} {ds : Fin 4 → Prop} {s t : State} (h : Spared fs ds s t) (r : Report) : Spared fs ds s (post r t) :=
  h.trans ((spared_post r h.settled).mono (fun _ => False.elim) fun _ => False.elim)

theorem Spared.thenRelease {fs : Fin 12 → Prop} {ds : Fin 4 → Prop} {s t : State} (h : Spared fs ds s t) (o : Owner) :
    Spared fs ds s (releaseNotice arbitrate o t) :=
  h.trans ((spared_releaseNotice o h.settled).mono (fun _ => False.elim) fun _ => False.elim)

/-! ### The feeders and the drives that a stage reaches -/

theorem spared_forcedOut {cause : DriveCause} (hc : cause ≠ .shortfall) (i : Fin 4) {s : State} (hset : s.Settled) :
    Spared (fun _ => False) (· = i) s (forcedOut arbitrate cause i s) := by
  by_cases h : (s.slot i).state.engaged = true
  · rw [forcedOut_of_engaged hc h]
    have hrelease := (spared_onSlot i Slot.toCoasting hset (fun _ => rfl) fun _ => rfl).thenRelease (.drive i)
    unfold takeOut postAborted
    simp only []
    split
    · exact (hrelease.thenPost _).thenPost _
    · exact hrelease.thenPost _
  · rw [forcedOut_of_free _ _ (Bool.eq_false_iff.mpr h)]
    exact .refl _ _ hset

theorem shedOnFeeder_eq (k : Fin 3) (i : Fin 12) (s : State) : shedOnFeeder arbitrate k i s =
    postShedFeeder i .on (.stage k) (setFeederState i .shed (raiseShedCount i (releaseNotice arbitrate (.feeder i) s))) := rfl

theorem spared_shedOnFeeder (k : Fin 3) (i : Fin 12) {s : State} (hset : s.Settled) :
    Spared (· = i) (fun _ => False) s (shedOnFeeder arbitrate k i s) := by
  have hrelease : Spared (· = i) (fun _ => False) s (releaseNotice arbitrate (.feeder i) s) := (Spared.refl _ _ hset).thenRelease _
  have hraise := hrelease.trans (spared_raiseShedCount i hrelease.settled)
  rw [shedOnFeeder_eq]
  exact (hraise.trans (spared_setFeederState i .shed hraise.settled)).thenPost _

/-- R121, R129: what a stage leaves of an ON feeder that it opens. -/
structure ShedOn (k : Fin 3) (i : Fin 12) (s t : State) : Prop where
  opened : s.Opened t i .shed
  waits : t.queueHas (.feeder i) = false
  count : (t.account i).shedCount = min 65535 ((s.account i).shedCount + 1)
  report : s.reportsSince t (.shedFeeder i .on (.stage k) (min 65535 ((s.account i).shedCount + 1)))

theorem shedOnFeeder_shed (k : Fin 3) {i : Fin 12} {s : State} (hp : s.powered = true) (hset : s.Settled) (hon : (s.feeder i).state = .on)
    (hq : s.queueHas (.feeder i) = false) : ShedOn k i s (shedOnFeeder arbitrate k i s) := by
  have hoff : ¬s.offered i := fun hk => by
    have := hon.symm.trans hk.1
    cases this
  have hspared := spared_releaseNotice (.feeder i) hset
  have htable := releaseNotice_tableHas (o := .feeder i) hq hoff
  have hfeeder := hspared.feeders i id (.inl hq)
  have haccount := hspared.accounts i id
  have hlink := hspared.link
  have hwaits := hspared.queue (.feeder i) Owner.noConfusion hq
  rw [shedOnFeeder_eq]
  generalize releaseNotice arbitrate (.feeder i) s = x at *
  have hmu : (setFeederState i .shed (raiseShedCount i x)).account i = (raiseShedCount i x).account i :=
    congrArg (fun m : MeteringUnit => m.accounts[i]) (setFeederState_mu i .shed (raiseShedCount i x))
  have hcount := (congrArg Account.shedCount hmu).trans (raiseShedCount_account i x)
  have hset' : ReportsOnly s (setFeederState i .shed (raiseShedCount i x)) :=
    (hlink.trans (show ReportsOnly x (raiseShedCount i x) from .of_sl rfl rfl)).trans (setFeederState_reportsOnly _ _ _)
  have hda : (setFeederState i .shed (raiseShedCount i x)).da = x.da := setFeederState_da _ _ _
  rw [haccount] at hcount
  unfold postShedFeeder
  rw [hcount]
  refine ⟨⟨?_, ?_⟩, ?_, ?_, reportsSince_of_post (hset'.power.trans hp) hset' (.refl _)⟩
  · rw [post_feeder, setFeederState_feeder, if_pos rfl]
    exact (congrArg (Feeder.enter · .shed) hfeeder).trans (enter_from_on hon (by decide))
  · unfold State.tableHas at *
    rw [post_da, hda]
    exact htable
  · unfold State.queueHas at *
    rw [post_da, hda]
    exact hwaits
  · unfold State.account
    rw [post_mu]
    exact hcount

/-! ### The withdrawal (R129) -/

/-- What telling the owners of withdrawn entries leaves, before the space notices. -/
structure StageTold (k : Fin 3) (gone : List Owner) (s t : State) : Prop where
  da : t.da = s.da
  rake : t.rk = s.rk
  settled : t.Settled
  stages : t.fu.stages = s.fu.stages
  accounts : t.mu = s.mu
  feeders : ∀ i, .feeder i ∉ gone → t.feeder i = s.feeder i
  slots : ∀ i, .drive i ∉ gone → t.slot i = s.slot i
  shed : ∀ i, .feeder i ∈ gone → (s.feeder i).state = .queued → t.feeder i = { s.feeder i with state := .shed }
    ∧ (s.powered = true → s.reportsSince t (.shedFeeder i .queued (.stage k) (s.account i).shedCount))
  idle : ∀ i, .drive i ∈ gone → (t.slot i).state = .idle
  still : t.still = s.still
  link : ReportsOnly s t

theorem stageTells_told (k : Fin 3) (o : Owner) {s : State} (hset : s.Settled) : StageTold k [o] s (stageTells k o s) := by
  cases o with
  | drive j =>
    have hspared := spared_onSlot j (fun d => { d with state := .idle }) hset (fun _ => rfl) fun _ => rfl
    refine ⟨rfl, rfl, hset, rfl, rfl, fun _ _ => rfl, fun i hi => ?_, fun i hi => ?_, fun i hi => ?_, hspared.still, .of_sl rfl rfl⟩
    · refine (State.onSlot_slot s j i _).trans (if_neg ?_)
      rintro rfl
      exact hi List.mem_cons_self
    · cases List.mem_singleton.mp hi
    · obtain rfl : i = j := by injection List.mem_singleton.mp hi
      exact congrArg Slot.state (onSlot_self s i _)
  | feeder j =>
    have hspared := (spared_setFeederState j .shed hset).thenPost (.shedFeeder j .queued (.stage k) ((setFeederState j .shed s).account j).shedCount)
    have haccount : (setFeederState j .shed s).account j = s.account j := congrArg (fun m : MeteringUnit => m.accounts[j]) (setFeederState_mu j .shed s)
    have htell : stageTells k (.feeder j) s = post (.shedFeeder j .queued (.stage k) ((setFeederState j .shed s).account j).shedCount) (setFeederState j .shed s) := rfl
    rw [htell]
    refine ⟨(post_da _ _).trans (setFeederState_da _ _ _), (post_rk _ _).trans (setFeederState_rk _ _ _), hspared.settled, hspared.stages,
      (post_mu _ _).trans (setFeederState_mu _ _ _), fun i hi => ?_, fun i _ => ?_, fun i hi hqueued => ⟨?_, fun hp => ?_⟩, fun i hi => ?_, hspared.still,
      hspared.link⟩
    · rw [post_feeder, setFeederState_feeder]
      refine if_neg ?_
      rintro rfl
      exact hi List.mem_cons_self
    · exact (post_slot _ _ i).trans (congrArg (fun d : DriveScheduler => d.slots[i]) (setFeederState_ds j .shed s))
    · obtain rfl : i = j := by injection List.mem_singleton.mp hi
      rw [post_feeder, setFeederState_feeder, if_pos rfl]
      exact enter_between (by simp [hqueued]) (by decide)
    · obtain rfl : i = j := by injection List.mem_singleton.mp hi
      rw [haccount]
      have hlink := setFeederState_reportsOnly i .shed s
      exact reportsSince_of_post (hlink.power.trans hp) hlink (.refl _)
    · cases List.mem_singleton.mp hi
  | rake => exact ⟨rfl, rfl, hset, rfl, rfl, fun _ _ => rfl, fun _ _ => rfl, fun _ hi => (by cases List.mem_singleton.mp hi),
      fun _ hi => (by cases List.mem_singleton.mp hi), rfl, .refl s⟩

theorem StageTold.trans {k : Fin 3} {o : Owner} {gone : List Owner} {s t u : State} (ho : o ∉ gone) (h : StageTold k [o] s t)
    (h' : StageTold k gone t u) : StageTold k (o :: gone) s u where
  da := h'.da.trans h.da
  rake := h'.rake.trans h.rake
  settled := h'.settled
  stages := h'.stages.trans h.stages
  accounts := h'.accounts.trans h.accounts
  feeders i hi := by
    obtain ⟨h1, h2⟩ := not_or.mp (mt List.mem_cons.mpr hi)
    exact (h'.feeders i h2).trans (h.feeders i (mt List.mem_singleton.mp h1))
  slots i hi := by
    obtain ⟨h1, h2⟩ := not_or.mp (mt List.mem_cons.mpr hi)
    exact (h'.slots i h2).trans (h.slots i (mt List.mem_singleton.mp h1))
  shed i hi hqueued := by
    by_cases hrest : Owner.feeder i ∈ gone
    · have hsame := h.feeders i fun hk => ho (List.mem_singleton.mp hk ▸ hrest)
      obtain ⟨hstate, hreport⟩ := h'.shed i hrest (by rw [hsame]; exact hqueued)
      have haccount : t.account i = s.account i := congrArg (fun m : MeteringUnit => m.accounts[i]) h.accounts
      rw [hsame] at hstate
      rw [haccount] at hreport
      exact ⟨hstate, fun hp => h.link.since h'.link (hreport (h.link.power.trans hp))⟩
    · have hone : Owner.feeder i ∈ [o] := List.mem_singleton.mpr ((List.mem_cons.mp hi).resolve_right hrest)
      obtain ⟨hstate, hreport⟩ := h.shed i hone hqueued
      exact ⟨(h'.feeders i hrest).trans hstate, fun hp => h'.link.reportsSince (hreport hp)⟩
  idle i hi := by
    by_cases hrest : Owner.drive i ∈ gone
    · exact h'.idle i hrest
    · rw [h'.slots i hrest]
      exact h.idle i (List.mem_singleton.mpr ((List.mem_cons.mp hi).resolve_right hrest))
  still := h'.still.trans h.still
  link := h.link.trans h'.link

theorem StageTold.of_posted {k : Fin 3} {o : Owner} {r : Report} {s t : State} (h : StageTold k [o] (post r s) t) : StageTold k [o] s t := by
  have hlink := post_reportsOnly r s
  have haccount : ∀ i, (post r s).account i = s.account i := fun i => congrArg (fun m : MeteringUnit => m.accounts[i]) (post_mu r s)
  obtain ⟨da, rake, settled, stages, accounts, feeders, slots, shed, idle, still, link⟩ := h
  rw [post_da] at da
  rw [post_rk] at rake
  rw [post_fu] at stages
  rw [post_mu] at accounts
  simp only [post_feeder, haccount] at feeders shed
  simp only [post_slot] at slots
  exact ⟨da, rake, settled, stages, accounts, feeders, slots, fun i hi hq => ⟨(shed i hi hq).1, fun hp => hlink.since link ((shed i hi hq).2 (hlink.power.trans hp))⟩,
    idle, still.trans (still_post r s), hlink.trans link⟩

theorem stageTellsAll_told (k : Fin 3) (cause : ExpiredCause) {gone : List QueueEntry} (hgone : (gone.map QueueEntry.owner).Nodup) {s : State}
    (hset : s.Settled) : StageTold k (gone.map QueueEntry.owner) s (gone.foldl (fun s e => stageTells k e.owner (postExpired cause e s)) s) := by
  induction gone generalizing s with
  | nil => exact ⟨rfl, rfl, hset, rfl, rfl, fun _ _ => rfl, fun _ _ => rfl, fun _ hi => absurd hi List.not_mem_nil, fun _ hi => absurd hi List.not_mem_nil,
      rfl, .refl s⟩
  | cons e rest ih =>
    obtain ⟨he, hrest⟩ := List.nodup_cons.mp hgone
    have hone : StageTold k [e.owner] s (stageTells k e.owner (postExpired cause e s)) :=
      (stageTells_told k e.owner (spared_post (.expired e.owner e.cls e.origin cause) hset).settled).of_posted
    exact hone.trans he (ih hrest hone.settled)

/-- What the withdrawal of a stage leaves, with the space notices and the arbitration that follow. -/
structure StageWithdrawn (k : Fin 3) (s t : State) : Prop where
  spared : Spared (fun i => s.queueHas (.feeder i) = true ∧ reachedBy k (s.feeder i).profile.shedStage = true)
    (fun i => s.queueHas (.drive i) = true ∧ reachedBy k (s.slot i).profile.shedStage = true) s t
  feeders : ∀ i, s.queueHas (.feeder i) = true → reachedBy k (s.feeder i).profile.shedStage = true → (s.feeder i).state = .queued →
    t.feeder i = { s.feeder i with state := .shed } ∧ t.queueHas (.feeder i) = false
      ∧ (s.powered = true → s.reportsSince t (.shedFeeder i .queued (.stage k) (s.account i).shedCount))
  accounts : t.mu = s.mu
  slots : ∀ i, s.queueHas (.drive i) = true → reachedBy k (s.slot i).profile.shedStage = true →
    (t.slot i).state = .idle ∧ t.queueHas (.drive i) = false

theorem mem_stageGone {k : Fin 3} {s : State} {o : Owner} : o ∈ (s.da.queue.filter (stageNames s k)).map QueueEntry.owner ↔
    s.queueHas o = true ∧ (match o with
      | .drive i => reachedBy k (s.slot i).profile.shedStage
      | .feeder i => reachedBy k (s.feeder i).profile.shedStage
      | .rake => false) = true := by
  rw [queueHas_iff, State.queueOwners]
  simp only [List.mem_map, List.mem_filter]
  constructor
  · rintro ⟨e, ⟨he, hname⟩, rfl⟩
    exact ⟨⟨e, he, rfl⟩, hname⟩
  · rintro ⟨⟨e, he, rfl⟩, hname⟩
    exact ⟨e, ⟨he, hname⟩, rfl⟩

theorem stageWithdraw_withdrawn (k : Fin 3) {s : State} (hset : s.Settled) (honce : (s.da.queue.map QueueEntry.owner).Nodup) :
    StageWithdrawn k s (withdraw arbitrate giveSpace (stageNames s k) .shed (stageTells k) s) := by
  by_cases hgone : s.da.queue.filter (stageNames s k) = []
  · have hnone : ∀ o, o ∉ (s.da.queue.filter (stageNames s k)).map QueueEntry.owner := fun o hk => by rw [hgone] at hk; cases hk
    rw [withdraw_of_unnamed _ _ _ _ hgone]
    exact ⟨.refl _ _ hset, fun i hq hr => absurd (mem_stageGone.mpr ⟨hq, hr⟩) (hnone (.feeder i)), rfl,
      fun i hq hr => absurd (mem_stageGone.mpr ⟨hq, hr⟩) (hnone (.drive i))⟩
  · have hset' : (setQueue (s.da.queue.filter fun e => !stageNames s k e) s).Settled := hset
    have htold := stageTellsAll_told k .shed ((List.filter_sublist (p := stageNames s k)).map QueueEntry.owner |>.nodup honce) hset'
    have hafter := withdraw_aftermath (named := stageNames s k) .shed (stageTells k) hgone
    have hlink : ReportsOnly (toldOf (stageNames s k) .shed (stageTells k) s) (withdraw arbitrate giveSpace (stageNames s k) .shed (stageTells k) s) := by
      rw [withdraw_of_named _ _ _ _ hgone]
      exact ((calm_spaceNotice arbitrate_arbitrates feedersOnly_nil _).trans (calm_arbitrate _)).reportsOnly
    have hlink0 : ReportsOnly s (setQueue (s.da.queue.filter fun e => !stageNames s k e) s) := .of_sl rfl rfl
    change StageTold k _ _ (toldOf (stageNames s k) .shed (stageTells k) s) at htold
    generalize toldOf (stageNames s k) .shed (stageTells k) s = u at *
    have hspared := hafter.spared htold.settled.2 htold.settled hlink
    have hmem : ∀ e : QueueEntry, e ∈ u.da.queue ↔ e ∈ s.da.queue ∧ stageNames s k e = false := fun e => by
      rw [htold.da]
      simp [setQueue]
    have hqueue : ∀ o, s.queueHas o = false → u.queueHas o = false := fun o h => by
      rw [queueHas_false_iff, State.queueOwners] at *
      rintro hk
      obtain ⟨e, he, rfl⟩ := List.mem_map.mp hk
      exact h (List.mem_map_of_mem ((hmem e).mp he).1)
    have hout : ∀ o, o ∈ (s.da.queue.filter (stageNames s k)).map QueueEntry.owner → u.queueHas o = false := fun o ho => by
      rw [queueHas_false_iff, State.queueOwners]
      intro hk
      obtain ⟨e, he, rfl⟩ := List.mem_map.mp hk
      obtain ⟨_, hname⟩ := mem_stageGone.mp ho
      have hnot : stageNames s k e = false := ((hmem e).mp he).2
      cases (show stageNames s k e = true from hname).symm.trans hnot
    have htable : ∀ o, u.tableHas o = s.tableHas o := fun o => by unfold State.tableHas; rw [htold.da]; rfl
    refine ⟨?_, fun i hq hr hqueued => ?_, hafter.accounts.trans htold.accounts, fun i hq hr => ?_⟩
    · have htoldSpared : Spared (fun i => s.queueHas (.feeder i) = true ∧ reachedBy k (s.feeder i).profile.shedStage = true)
          (fun i => s.queueHas (.drive i) = true ∧ reachedBy k (s.slot i).profile.shedStage = true) s u :=
        ⟨htold.settled, fun _ => by rw [htold.da]; rfl, fun o _ => hqueue o, fun o _ _ h => (htable o).trans h, fun i hi _ => htold.feeders i (mt mem_stageGone.mp hi),
          fun i _ => congrArg (fun m : MeteringUnit => m.accounts[i]) htold.accounts, fun i hi _ => htold.slots i (mt mem_stageGone.mp hi), htold.stages,
          htold.still.trans (still_onDa s _ (fun _ => rfl) fun _ => rfl), hlink0.trans htold.link⟩
      exact htoldSpared.trans (hspared.mono (fun _ => False.elim) fun _ => False.elim)
    · have hin := mem_stageGone.mpr ⟨hq, hr⟩
      obtain ⟨hstate, hreport⟩ := htold.shed i hin hqueued
      exact ⟨(hspared.feeders i id (.inl (hout _ hin))).trans hstate, hspared.queue _ Owner.noConfusion (hout _ hin),
        fun hp => hlink0.since (htold.link.trans hlink) (hlink.reportsSince (hreport hp))⟩
    · have hin := mem_stageGone.mpr ⟨hq, hr⟩
      exact ⟨(congrArg Slot.state (hspared.slots i id (.inl (hout _ hin)))).trans (htold.idle i hin), hspared.queue _ Owner.noConfusion (hout _ hin)⟩

/-! ### The firing of a stage -/

/-- R129: the stage and the restore permit as a firing sets them. -/
def stageSet (k : Fin 3) (s : State) : State := (s.onStage k fun _ => { state := .fired, timer := none }).onFu fun u => { u with permit := false }

/-- R129: a stage that has fired, before the withdrawal. -/
def stageFired (k : Fin 3) (f : Nat) (s : State) : State := post (.stageFired k f) (stageSet k s)

/-- R129: what a stage does to one feeder. -/
def stageFeeder (k : Fin 3) (s : State) (i : Fin 12) : State :=
  if (s.feeder i).state = .on ∧ reachedBy k (s.feeder i).profile.shedStage then shedOnFeeder arbitrate k i s else s

/-- R129: what a stage does to one slot. -/
def stageSlot (k : Fin 3) (s : State) (i : Fin 4) : State :=
  if reachedBy k (s.slot i).profile.shedStage then forcedOut arbitrate .shed i s else s

/-- R129: the state after the withdrawal. -/
def stageWithdrawal (k : Fin 3) (f : Nat) (s : State) : State :=
  withdraw arbitrate giveSpace (stageNames (stageFired k f s) k) .shed (stageTells k) (stageFired k f s)

theorem fireStage_eq (k : Fin 3) (f : Nat) (s : State) : fireStage arbitrate giveSpace k f s =
    allSlots.foldl (stageSlot k) (allFeeders.foldl (stageFeeder k) (stageWithdrawal k f s)) := rfl

theorem spared_stageFeeder (k : Fin 3) (i : Fin 12) {s : State} (hset : s.Settled) : Spared (· = i) (fun _ => False) s (stageFeeder k s i) := by
  unfold stageFeeder
  split
  · exact spared_shedOnFeeder k i hset
  · exact .refl _ _ hset

theorem spared_stageSlot (k : Fin 3) (i : Fin 4) {s : State} (hset : s.Settled) : Spared (fun _ => False) (· = i) s (stageSlot k s i) := by
  unfold stageSlot
  split
  · exact spared_forcedOut (by decide) i hset
  · exact .refl _ _ hset

theorem spared_foldl {ι : Type} {fs : Fin 12 → Prop} {ds : Fin 4 → Prop} {g : State → ι → State} {l : List ι}
    (hg : ∀ s i, i ∈ l → s.Settled → Spared fs ds s (g s i)) {s : State} (hset : s.Settled) : Spared fs ds s (l.foldl g s) :=
  List.foldlRecOn (motive := Spared fs ds s) l g (.refl _ _ hset) fun t ht i hi => ht.trans (hg t i hi ht.settled)

theorem allFeeders_nodup : allFeeders.Nodup := by decide

/-- A pass comes to one element once, and spares what it does not act on around it. -/
theorem spared_at {ι : Type} {fs : Fin 12 → Prop} {ds : Fin 4 → Prop} {g : State → ι → State} {l : List ι} {j : ι} (hj : j ∈ l) (hl : l.Nodup)
    (hself : ∀ s, s.Settled → (g s j).Settled) (hg : ∀ s i, i ≠ j → s.Settled → Spared fs ds s (g s i)) {s : State} (hset : s.Settled) :
    ∃ x, Spared fs ds s x ∧ Spared fs ds (g x j) (l.foldl g s) := by
  obtain ⟨x, hx, ht⟩ := foldl_at (R := fun s t : State => s.Settled → Spared fs ds s t) (f := g) (fun s h => .refl _ _ h)
    (fun h k hs => (h hs).trans (k (h hs).settled)) (fun s i hij hs => hg s i hij hs) hl hj s
  exact ⟨x, hx hset, ht (hself x (hx hset).settled)⟩

/-- The pass over the feeders, seen from one of them. -/
theorem fireStage_feeder (k : Fin 3) (f : Nat) (i : Fin 12) {s : State} (hset : (stageWithdrawal k f s).Settled) :
    ∃ x, Spared (· ≠ i) (fun _ => True) (stageWithdrawal k f s) x ∧ Spared (· ≠ i) (fun _ => True) (stageFeeder k x i) (fireStage arbitrate giveSpace k f s) := by
  obtain ⟨x, hx, ht⟩ := spared_at (fs := (· ≠ i)) (ds := fun _ => True) (g := stageFeeder k) (mem_allFeeders i) allFeeders_nodup
    (fun s h => (spared_stageFeeder k i h).settled)
    (fun s j hj h => (spared_stageFeeder k j h).mono (fun _ hk => hk ▸ hj) fun _ => False.elim) hset
  have hslots : Spared (· ≠ i) (fun _ => True) (allFeeders.foldl (stageFeeder k) (stageWithdrawal k f s)) (fireStage arbitrate giveSpace k f s) :=
    spared_foldl (fun s j _ h => (spared_stageSlot k j h).mono (fun _ => False.elim) fun _ _ => trivial) ht.settled
  exact ⟨x, hx, ht.trans hslots⟩

/-- The pass over the slots, seen from one of them. -/
theorem fireStage_slot (k : Fin 3) (f : Nat) (i : Fin 4) {s : State} (hset : (stageWithdrawal k f s).Settled) :
    ∃ x, Spared (fun _ => True) (· ≠ i) (stageWithdrawal k f s) x ∧ Spared (fun _ => True) (· ≠ i) (stageSlot k x i) (fireStage arbitrate giveSpace k f s) := by
  have hfeeders : Spared (fun _ => True) (· ≠ i) (stageWithdrawal k f s) (allFeeders.foldl (stageFeeder k) (stageWithdrawal k f s)) :=
    spared_foldl (fun s j _ h => (spared_stageFeeder k j h).mono (fun _ _ => trivial) fun _ => False.elim) hset
  obtain ⟨x, hx, ht⟩ := spared_at (fs := fun _ => True) (ds := (· ≠ i)) (g := stageSlot k) (mem_allSlots i) allSlots_nodup
    (fun s h => (spared_stageSlot k i h).settled)
    (fun s j hj h => (spared_stageSlot k j h).mono (fun _ => False.elim) fun _ hk => hk ▸ hj) hfeeders.settled
  exact ⟨x, hfeeders.trans hx, ht⟩

/-! ### What a stage leaves of those that it reaches -/

theorem stageFired_frame (k : Fin 3) (f : Nat) (s : State) : (stageFired k f s).da = s.da ∧ (stageFired k f s).rk = s.rk ∧ (stageFired k f s).mu = s.mu
    ∧ (∀ i, (stageFired k f s).feeder i = s.feeder i) ∧ (∀ i, (stageFired k f s).slot i = s.slot i) ∧ (stageFired k f s).fu.permit = false
    ∧ (stageFired k f s).stage k = { state := .fired, timer := none } ∧ (stageFired k f s).still = s.still ∧ ReportsOnly s (stageFired k f s) := by
  have hset : ReportsOnly s (stageSet k s) := .of_sl rfl rfl
  unfold stageFired
  refine ⟨post_da _ _, post_rk _ _, post_mu _ _, fun i => post_feeder _ _ i, fun i => post_slot _ _ i, congrArg FeederUnit.permit (post_fu _ _), ?_,
    (still_post _ _).trans (still_onFu s _ (fun _ => rfl) fun _ => rfl), hset.trans (post_reportsOnly _ _)⟩
  unfold State.stage
  rw [post_fu]
  exact Vector.getElem_set_self _

/-- R129: what stands after the withdrawal of a stage that fires. -/
structure StageBegun (k : Fin 3) (s w : State) : Prop where
  settled : w.Settled
  link : ReportsOnly s w
  still : w.still = s.still
  stage : w.stage k = { state := .fired, timer := none }
  accounts : ∀ i, w.account i = s.account i
  waits : ∀ o, o ≠ .rake → s.queueHas o = false → w.queueHas o = false
  spacing : s.da.spacingTimer.isSome = true → w.da.spacingTimer.isSome = true
  feeders : ∀ i, (s.queueHas (.feeder i) = false ∨ s.da.spacingTimer.isSome = true ∧ reachedBy k (s.feeder i).profile.shedStage = false) →
    w.feeder i = s.feeder i
  slots : ∀ i, (s.queueHas (.drive i) = false ∨ s.da.spacingTimer.isSome = true ∧ reachedBy k (s.slot i).profile.shedStage = false) →
    w.slot i = s.slot i
  queued : ∀ i, s.queueHas (.feeder i) = true → reachedBy k (s.feeder i).profile.shedStage = true → (s.feeder i).state = .queued →
    w.feeder i = { s.feeder i with state := .shed } ∧ w.queueHas (.feeder i) = false
      ∧ (s.powered = true → s.reportsSince w (.shedFeeder i .queued (.stage k) (s.account i).shedCount))
  idle : ∀ i, s.queueHas (.drive i) = true → reachedBy k (s.slot i).profile.shedStage = true →
    (w.slot i).state = .idle ∧ w.queueHas (.drive i) = false

theorem stageWithdrawal_begun (k : Fin 3) (f : Nat) {s : State} (honce : (s.da.queue.map QueueEntry.owner).Nodup) (hspent : ¬s.spent) :
    StageBegun k s (stageWithdrawal k f s) := by
  obtain ⟨hda, hrk, hmu, hfeeder, hslot, hpermit, hstage, hstill, hlink⟩ := stageFired_frame k f s
  have hset : (stageFired k f s).Settled := ⟨hpermit, by unfold State.spent; rw [hrk]; exact hspent⟩
  have hqueueHas : ∀ o, (stageFired k f s).queueHas o = s.queueHas o := fun o => by unfold State.queueHas; rw [hda]
  have haccount : ∀ i, (stageFired k f s).account i = s.account i := fun i => congrArg (fun m : MeteringUnit => m.accounts[i]) hmu
  obtain ⟨hspared, hqueued, haccounts, hidle⟩ := stageWithdraw_withdrawn k hset (by rw [hda]; exact honce)
  change Spared _ _ _ (stageWithdrawal k f s) at hspared
  simp only [hqueueHas, hfeeder, hslot, haccount] at hqueued hidle
  refine ⟨hspared.settled, hlink.trans hspared.link, hspared.still.trans hstill, ?_, fun i => (congrArg (fun m : MeteringUnit => m.accounts[i]) haccounts).trans (haccount i),
    fun o ho h => hspared.queue o ho ((hqueueHas o).trans h), fun h => ?_, fun i hi => ?_, fun i hi => ?_, fun i hq hr hs => ?_, hidle⟩
  · unfold State.stage at *
    rw [hspared.stages]
    exact hstage
  · rw [hspared.spacing (by rw [hda]; exact h), hda]
    exact h
  · refine (hspared.feeders i (fun hk => ?_) ?_).trans (hfeeder i)
    · rw [hqueueHas, hfeeder] at hk
      rcases hi with hi | hi
      · exact absurd hk.1 (by simp [hi])
      · exact absurd hk.2 (by simp [hi.2])
    · rw [hqueueHas, hda]
      exact hi.imp_right And.left
  · refine (hspared.slots i (fun hk => ?_) ?_).trans (hslot i)
    · rw [hqueueHas, hslot] at hk
      rcases hi with hi | hi
      · exact absurd hk.1 (by simp [hi])
      · exact absurd hk.2 (by simp [hi.2])
    · rw [hqueueHas, hda]
      exact hi.imp_right And.left
  · obtain ⟨hstate, hout, hreport⟩ := hqueued i hq hr hs
    exact ⟨hstate, hout, fun hp => hlink.since hspared.link (hreport (hlink.power.trans hp))⟩

theorem stageFeeder_on {k : Fin 3} {i : Fin 12} {s : State} (hon : (s.feeder i).state = .on) (hr : reachedBy k (s.feeder i).profile.shedStage = true) :
    stageFeeder k s i = shedOnFeeder arbitrate k i s := if_pos ⟨hon, hr⟩

theorem stageSlot_reached {k : Fin 3} {i : Fin 4} {s : State} (hr : reachedBy k (s.slot i).profile.shedStage = true) :
    stageSlot k s i = forcedOut arbitrate .shed i s := if_pos hr

/-! ### Each of those that a stage reaches -/

section
variable {k : Fin 3} {f : Nat} {s : State} (hp : s.powered = true) (hs : s.Consistent) (hb : StageBegun k s (stageWithdrawal k f s))
include hb

theorem fireStage_spared : Spared (fun _ => True) (fun _ => True) (stageWithdrawal k f s) (fireStage arbitrate giveSpace k f s) := by
  obtain ⟨x, hx, ht⟩ := fireStage_feeder k f 0 hb.settled
  exact ((hx.mono (fun _ _ => trivial) fun _ => id).trans ((spared_stageFeeder k 0 hx.settled).mono (fun _ _ => trivial) fun _ => False.elim)).trans
    (ht.mono (fun _ _ => trivial) fun _ => id)

include hs

include hp in
theorem fireStage_on {i : Fin 12} (hr : reachedBy k (s.feeder i).profile.shedStage = true) (hon : (s.feeder i).state = .on) :
    ShedOn k i s (fireStage arbitrate giveSpace k f s) := by
  obtain ⟨_, hq⟩ := consistent_on hs hon
  obtain ⟨x, hx, ht⟩ := fireStage_feeder k f i hb.settled
  have hqW := hb.waits (.feeder i) Owner.noConfusion hq
  have hqx := hx.queue (.feeder i) Owner.noConfusion hqW
  have hself : x.feeder i = s.feeder i := (hx.feeders i (not_not.mpr rfl) (.inl hqW)).trans (hb.feeders i (.inl hq))
  have hcount : x.account i = s.account i := (hx.accounts i (not_not.mpr rfl)).trans (hb.accounts i)
  have hlinkx := hb.link.trans hx.link
  have honx : (x.feeder i).state = .on := by rw [hself]; exact hon
  rw [stageFeeder_on honx (by rw [hself]; exact hr)] at ht
  have hspared := spared_shedOnFeeder k i hx.settled
  obtain ⟨hopened, hwaits, hcounted, hreport⟩ := shedOnFeeder_shed k (hlinkx.power.trans hp) hx.settled honx hqx
  rw [hcount] at hcounted hreport
  refine ⟨⟨?_, ht.table _ Owner.noConfusion hwaits hopened.table⟩, ht.queue _ Owner.noConfusion hwaits, ?_, hlinkx.since (hspared.link.trans ht.link)
    (ht.link.reportsSince hreport)⟩
  · rw [ht.feeders i (not_not.mpr rfl) (.inl hwaits), hopened.feeder, hself]
  · rw [ht.accounts i (not_not.mpr rfl)]
    exact hcounted

include hp in
theorem fireStage_queued {i : Fin 12} (hr : reachedBy k (s.feeder i).profile.shedStage = true) (hqueued : (s.feeder i).state = .queued) :
    let t := fireStage arbitrate giveSpace k f s
    t.feeder i = { s.feeder i with state := .shed } ∧ t.queueHas (.feeder i) = false ∧ t.account i = s.account i
      ∧ s.reportsSince t (.shedFeeder i .queued (.stage k) (s.account i).shedCount) := by
  obtain ⟨hstate, hout, hreport⟩ := hb.queued i ((hs.feederQueued i).trans (decide_eq_true hqueued)) hr hqueued
  obtain ⟨x, hx, ht⟩ := fireStage_feeder k f i hb.settled
  have hself := hx.feeders i (not_not.mpr rfl) (.inl hout)
  have hsame : stageFeeder k x i = x := if_neg fun hk => by
    have := hk.1
    rw [hself, hstate] at this
    cases this
  rw [hsame] at ht
  have hall := hx.trans ht
  exact ⟨(hall.feeders i (not_not.mpr rfl) (.inl hout)).trans hstate, hall.queue _ Owner.noConfusion hout,
    (hall.accounts i (not_not.mpr rfl)).trans (hb.accounts i), hall.link.reportsSince (hreport hp)⟩

include hp in
theorem fireStage_engaged {i : Fin 4} (hr : reachedBy k (s.slot i).profile.shedStage = true) (heng : (s.slot i).state.engaged = true) :
    s.TakenOut (fireStage arbitrate giveSpace k f s) i .shed := by
  have hq := consistent_engaged hs heng
  obtain ⟨x, hx, ht⟩ := fireStage_slot k f i hb.settled
  have hqW := hb.waits (.drive i) Owner.noConfusion hq
  have hqx := hx.queue (.drive i) Owner.noConfusion hqW
  have hself : x.slot i = s.slot i := (hx.slots i (not_not.mpr rfl) (.inl hqW)).trans (hb.slots i (.inl hq))
  have hlinkx := hb.link.trans hx.link
  have hengx : (x.slot i).state.engaged = true := by rw [hself]; exact heng
  have hspared := spared_forcedOut (cause := .shed) (by decide) i hx.settled
  rw [stageSlot_reached (by rw [hself]; exact hr)] at ht
  have hqy := hspared.queue (.drive i) Owner.noConfusion hqx
  rw [forcedOut_of_engaged (by decide) hengx] at ht hspared hqy
  obtain ⟨hout, htable, hreport⟩ := (takeOut_release (cause := .shed) (hlinkx.power.trans hp) hengx hqx).takenOut
  rw [hself] at hout hreport
  exact ⟨(ht.slots i (not_not.mpr rfl) (.inl hqy)).trans hout, ht.table _ Owner.noConfusion hqy htable, hlinkx.since (hspared.link.trans ht.link)
    (ht.link.reportsSince hreport)⟩

theorem fireStage_waits {i : Fin 4} (hr : reachedBy k (s.slot i).profile.shedStage = true) (hqueued : (s.slot i).state = .queued) :
    let t := fireStage arbitrate giveSpace k f s
    (t.slot i).state = .idle ∧ t.queueHas (.drive i) = false := by
  obtain ⟨hidle, hout⟩ := hb.idle i ((hs.driveQueued i).trans (decide_eq_true hqueued)) hr
  obtain ⟨x, hx, ht⟩ := fireStage_slot k f i hb.settled
  have hself := hx.slots i (not_not.mpr rfl) (.inl hout)
  have hsame : stageSlot k x i = x := by
    unfold stageSlot
    rw [forcedOut_of_free _ _ (by rw [hself, hidle]; rfl), ite_self]
  rw [hsame] at ht
  have hall := hx.trans ht
  exact ⟨(congrArg Slot.state (hall.slots i (not_not.mpr rfl) (.inl hout))).trans hidle, hall.queue _ Owner.noConfusion hout⟩

omit hs in
/-- A feeder that the stage does not reach stays while no grant can be made. -/
theorem fireStage_feeder_unreached (hspacing : s.da.spacingTimer.isSome = true) {i : Fin 12} (hr : reachedBy k (s.feeder i).profile.shedStage = false) :
    (fireStage arbitrate giveSpace k f s).feeder i = s.feeder i := by
  obtain ⟨x, hx, ht⟩ := fireStage_feeder k f i hb.settled
  have hW := hb.feeders i (.inr ⟨hspacing, hr⟩)
  have hself := (hx.feeders i (not_not.mpr rfl) (.inr (hb.spacing hspacing))).trans hW
  have hsame : stageFeeder k x i = x := if_neg fun hk => by
    have := hk.2
    rw [hself, hr] at this
    cases this
  rw [hsame] at ht
  exact ((hx.trans ht).feeders i (not_not.mpr rfl) (.inr (hb.spacing hspacing))).trans hW

omit hs in
theorem fireStage_slot_unreached (hspacing : s.da.spacingTimer.isSome = true) {i : Fin 4} (hr : reachedBy k (s.slot i).profile.shedStage = false) :
    (fireStage arbitrate giveSpace k f s).slot i = s.slot i := by
  obtain ⟨x, hx, ht⟩ := fireStage_slot k f i hb.settled
  have hW := hb.slots i (.inr ⟨hspacing, hr⟩)
  have hself := (hx.slots i (not_not.mpr rfl) (.inr (hb.spacing hspacing))).trans hW
  have hsame : stageSlot k x i = x := if_neg (by rw [hself, hr]; exact Bool.false_ne_true)
  rw [hsame] at ht
  exact ((hx.trans ht).slots i (not_not.mpr rfl) (.inr (hb.spacing hspacing))).trans hW

end

/-! ### The obligation -/

theorem exec_stageTimer {k : Fin 3} {s : State} (hp : s.powered = true) (h : (s.stage k).state = .timing) (ht : (s.stage k).timer.isSome = true) :
    exec (.stageTimerExpiry k) s = .next (fireStage arbitrate giveSpace k s.smu.lastFreq s) :=
  congrArg Host.Outcome.next ((whenPowered_on hp _).trans (if_pos ⟨h, ht⟩))

theorem exec_stageTimer_stopped {k : Fin 3} {s : State} (h : (s.stage k).state ≠ .timing ∨ (s.stage k).timer = none) :
    exec (.stageTimerExpiry k) s = .next s :=
  congrArg Host.Outcome.next (whenPowered_same (if_neg fun hk => h.elim (absurd hk.1) fun ht => by rw [ht] at hk; cases hk.2))

theorem reachedBy_iff {k : Fin 3} {stage : Nat} : reachedBy k stage = true ↔ 1 ≤ stage ∧ stage ≤ k.val + 1 := decide_eq_true_iff

/-- R129: the STAGE_FIRED report of the stage. -/
theorem fireStage_report {k : Fin 3} (f : Nat) {s : State} (hp : s.powered = true) (hs : s.Consistent) (hspent : ¬s.spent) :
    s.reportsSince (fireStage arbitrate giveSpace k f s) (.stageFired k f) := by
  obtain ⟨hda, hrk, _, _, _, hpermit, _, _, _⟩ := stageFired_frame k f s
  have hset : (stageFired k f s).Settled := ⟨hpermit, by unfold State.spent; rw [hrk]; exact hspent⟩
  have hw := stageWithdraw_withdrawn k hset (by rw [hda]; exact hs.queueOnce)
  exact reportsSince_of_post (t := stageSet k s) hp (.of_sl rfl rfl)
    (hw.spared.link.trans (fireStage_spared (stageWithdrawal_begun k f hs.queueOnce hspent)).link)

/-- Settles O41: the stage, and each feeder and slot that it reaches or does not. -/
theorem stageTimerFires : Obligations.StageTimerFires := by
  intro k s hp reached
  refine ⟨exec_stageTimer_stopped, fun h ht hs hspent => ⟨_, exec_stageTimer hp h ht, ?_⟩⟩
  have hb := stageWithdrawal_begun k s.smu.lastFreq hs.queueOnce hspent
  have hend := fireStage_spared hb
  refine ⟨hend.still.trans hb.still, ?_, hend.settled.1, fireStage_report _ hp hs hspent, fun i hr => ⟨fun hon => ?_, fun hqueued => ?_⟩,
    fun i hr => ⟨fun heng => ?_, fun hqueued => ?_⟩, fun hspacing => ⟨fun i hr => ?_, fun i hr => ?_⟩⟩
  · unfold State.stage
    rw [hend.stages]
    exact hb.stage
  · obtain ⟨hopened, _, hcount, hreport⟩ := fireStage_on hp hs hb (reachedBy_iff.mpr hr) hon
    exact ⟨hopened, hcount, hreport⟩
  · exact fireStage_queued hp hs hb (reachedBy_iff.mpr hr) hqueued
  · exact fireStage_engaged hp hs hb (reachedBy_iff.mpr hr) heng
  · exact fireStage_waits hs hb (reachedBy_iff.mpr hr) hqueued
  · exact fireStage_feeder_unreached hb hspacing (Bool.eq_false_iff.mpr fun hk => hr (reachedBy_iff.mp hk))
  · exact fireStage_slot_unreached hb hspacing (Bool.eq_false_iff.mpr fun hk => hr (reachedBy_iff.mp hk))

end Sys2Proof.Machine

/-! PROOFS. The calendar: one second later is one second later (R140, R142). -/

namespace Sys2Proof.Machine

/-! ### The days of a year -/

theorem daysBeforeMonth_one (year : Nat) : daysBeforeMonth year 1 = 0 := rfl

theorem daysBeforeMonth_next (year : Nat) {month : Nat} (h : 1 ≤ month) :
    daysBeforeMonth year (month + 1) = daysBeforeMonth year month + daysInMonth year month := by
  obtain ⟨m, rfl⟩ := Nat.exists_eq_add_of_le' h
  unfold daysBeforeMonth
  rw [Nat.add_sub_cancel, Nat.add_sub_cancel, List.range_succ, List.map_append, List.sum_append]
  rfl

theorem daysBeforeMonth_year (year : Nat) : daysBeforeMonth year 13 = if year % 4 = 0 then 366 else 365 := by
  have h : daysBeforeMonth year 13 = 31 + (if year % 4 = 0 then 29 else 28) + 306 := by
    simp [daysBeforeMonth, daysInMonth, List.range_succ]
    omega
  rw [h]
  split <;> rfl

theorem daysBeforeMonth_mono (year : Nat) {m n : Nat} (h1 : 1 ≤ m) (h : m ≤ n) : daysBeforeMonth year m ≤ daysBeforeMonth year n := by
  induction n, h using Nat.le_induction with
  | base => exact le_rfl
  | succ n hn ih =>
    rw [daysBeforeMonth_next year (h1.trans hn)]
    omega

theorem daysInMonth_pos (year month : Nat) : 28 ≤ daysInMonth year month := by
  unfold daysInMonth
  split
  · split <;> omega
  all_goals omega

theorem firstDay (year month : Nat) : 1 ≤ 1 ∧ 1 ≤ daysInMonth year month := ⟨le_rfl, (by decide : 1 ≤ 28).trans (daysInMonth_pos year month)⟩

/-! ### Days and weekdays -/

theorem daysSince2000_nextDay {year month day : Nat} (h : 1 ≤ day) : daysSince2000 year month (day + 1) = daysSince2000 year month day + 1 := by
  unfold daysSince2000
  omega

theorem daysSince2000_nextMonth {year month : Nat} (h : 1 ≤ month) :
    daysSince2000 year (month + 1) 1 = daysSince2000 year month (daysInMonth year month) + 1 := by
  have := daysInMonth_pos year month
  unfold daysSince2000
  rw [daysBeforeMonth_next year h]
  omega

theorem daysSince2000_nextYear {year : Nat} (h : 2000 ≤ year) : daysSince2000 (year + 1) 1 1 = daysSince2000 year 12 31 + 1 := by
  have hnext := daysBeforeMonth_next year (month := 12) (by decide)
  have hyear := daysBeforeMonth_year year
  have hdec : daysInMonth year 12 = 31 := rfl
  rw [hyear, hdec] at hnext
  unfold daysSince2000
  rw [daysBeforeMonth_one]
  split at hnext <;> omega

theorem daysSince2000_le {year month day : Nat} (hy : 2000 ≤ year ∧ year ≤ 2099) (hm : 1 ≤ month ∧ month ≤ 12) (hd : day ≤ daysInMonth year month) :
    daysSince2000 year month day ≤ 36524 := by
  have hnext := daysBeforeMonth_next year hm.1
  have hmono := daysBeforeMonth_mono year (m := month + 1) (n := 13) (by omega) (by omega)
  have hpos := daysInMonth_pos year month
  rw [daysBeforeMonth_year] at hmono
  unfold daysSince2000
  split at hmono <;> omega

/-- R140: the weekdays follow one another. -/
theorem weekdayOf_next {y m d y' m' d' : Nat} (h : daysSince2000 y' m' d' = daysSince2000 y m d + 1) :
    weekdayOf y' m' d' = nextWeekday (weekdayOf y m d) := by
  unfold weekdayOf
  rw [h, Nat.add_mod]
  have hlt := Nat.mod_lt (daysSince2000 y m d) (by decide : 0 < 7)
  generalize daysSince2000 y m d % 7 = n at hlt ⊢
  interval_cases n <;> rfl

/-! ### One second later (R140) -/

/-- The calendar shows a date, a time of day and the weekday of the date. -/
structure Calendar.Shown (c : Calendar) : Prop where
  year : 2000 ≤ c.year ∧ c.year ≤ 2099
  month : 1 ≤ c.month ∧ c.month ≤ 12
  day : 1 ≤ c.day ∧ c.day ≤ daysInMonth c.year c.month
  hour : c.hour ≤ 23
  minute : c.minute ≤ 59
  second : c.second ≤ 59
  weekday : c.weekday = weekdayOf c.year c.month c.day

theorem Calendar.shown_iff (c : Calendar) : c.Shown ↔
    validClock c.year c.month c.day c.hour c.minute c.second = true ∧ c.weekday = weekdayOf c.year c.month c.day := by
  unfold validClock
  simp only [Bool.and_eq_true, decide_eq_true_eq]
  exact ⟨fun h => ⟨⟨⟨⟨⟨⟨h.year, h.month⟩, h.day⟩, h.hour⟩, h.minute⟩, h.second⟩, h.weekday⟩,
    fun ⟨⟨⟨⟨⟨⟨hy, hm⟩, hd⟩, hh⟩, hmin⟩, hs⟩, hw⟩ => ⟨hy, hm, hd, hh, hmin, hs, hw⟩⟩

/-- The time of day, in seconds. -/
def Calendar.time (c : Calendar) : Nat := c.hour * 3600 + c.minute * 60 + c.second

theorem Calendar.seconds_eq (c : Calendar) : c.seconds = daysSince2000 c.year c.month c.day * 86400 + c.time := by
  unfold Calendar.seconds Calendar.time
  omega

/-- What the advance by one second gives. -/
structure Calendar.Later (c d : Calendar) : Prop where
  shown : d.Shown
  seconds : d.seconds = if c.seconds = 3155759999 then 0 else c.seconds + 1

theorem Calendar.Shown.days_le {c : Calendar} (h : c.Shown) : daysSince2000 c.year c.month c.day ≤ 36524 := daysSince2000_le h.year h.month h.day.2

/-- A second later within the same day. -/
theorem Calendar.later_of_time {c d : Calendar} (hc : c.Shown) (hd : d.Shown) (hdate : d.year = c.year ∧ d.month = c.month ∧ d.day = c.day)
    (htime : d.time = c.time + 1) (hday : d.time < 86400) : c.Later d := by
  obtain ⟨hy, hm, hday'⟩ := hdate
  have hle := hc.days_le
  refine ⟨hd, ?_⟩
  rw [Calendar.seconds_eq c, Calendar.seconds_eq d, hy, hm, hday', htime, if_neg (by omega)]
  omega

/-- Midnight: the next day begins. -/
theorem Calendar.later_of_day {c d : Calendar} (hd : d.Shown) (hdate : daysSince2000 d.year d.month d.day = daysSince2000 c.year c.month c.day + 1)
    (hlast : c.time = 86399) (hfirst : d.time = 0) : c.Later d := by
  have hle := hd.days_le
  refine ⟨hd, ?_⟩
  rw [Calendar.seconds_eq c, Calendar.seconds_eq d, hdate, hlast, hfirst, if_neg (by omega)]
  omega

theorem Calendar.advance_later {c : Calendar} (h : c.Shown) : c.Later c.advance := by
  obtain ⟨hy, hm, hd, hh, hmin, hs, hw⟩ := h
  have hc : c.Shown := ⟨hy, hm, hd, hh, hmin, hs, hw⟩
  unfold Calendar.advance
  split
  · next h =>
    exact later_of_time hc ⟨hy, hm, hd, hh, hmin, h, hw⟩ ⟨rfl, rfl, rfl⟩ (by unfold Calendar.time; simp only []; omega)
      (by unfold Calendar.time; simp only []; omega)
  · split
    · next h1 h =>
      exact later_of_time hc ⟨hy, hm, hd, hh, h, Nat.zero_le _, hw⟩ ⟨rfl, rfl, rfl⟩ (by unfold Calendar.time; simp only []; omega)
        (by unfold Calendar.time; simp only []; omega)
    · split
      · next h1 h2 h =>
        exact later_of_time hc ⟨hy, hm, hd, h, Nat.zero_le _, Nat.zero_le _, hw⟩ ⟨rfl, rfl, rfl⟩ (by unfold Calendar.time; simp only []; omega)
          (by unfold Calendar.time; simp only []; omega)
      · next h1 h2 h3 =>
        have hlast : c.time = 86399 := by unfold Calendar.time; omega
        simp only []
        split
        · next hday =>
          have hnext := daysSince2000_nextDay (year := c.year) (month := c.month) hd.1
          exact later_of_day ⟨hy, hm, ⟨Nat.succ_pos _, hday⟩, Nat.zero_le _, Nat.zero_le _, Nat.zero_le _,
            (congrArg nextWeekday hw).trans (weekdayOf_next hnext).symm⟩ hnext hlast (by simp [Calendar.time])
        · next hday =>
          have hend : c.day = daysInMonth c.year c.month := by omega
          split
          · next hmonth =>
            have hnext := daysSince2000_nextMonth (year := c.year) hm.1
            rw [← hend] at hnext
            exact later_of_day ⟨hy, ⟨Nat.succ_pos _, hmonth⟩, firstDay _ _, Nat.zero_le _, Nat.zero_le _,
              Nat.zero_le _, (congrArg nextWeekday hw).trans (weekdayOf_next hnext).symm⟩ hnext hlast (by simp [Calendar.time])
          · next hmonth =>
            have hdec : c.month = 12 := by omega
            have hday31 : c.day = 31 := by rw [hend, hdec]; rfl
            split
            · next hyear =>
              have hnext := daysSince2000_nextYear hy.1
              rw [← hdec, ← hday31] at hnext
              exact later_of_day ⟨⟨by show 2000 ≤ c.year + 1; omega, hyear⟩, ⟨le_rfl, by show 1 ≤ 12; decide⟩, firstDay _ _,
                Nat.zero_le _, Nat.zero_le _, Nat.zero_le _, (congrArg nextWeekday hw).trans (weekdayOf_next hnext).symm⟩ hnext hlast (by simp [Calendar.time])
            · next hyear =>
              have hy99 : c.year = 2099 := by omega
              refine ⟨⟨by decide, by decide, by decide, Nat.zero_le _, Nat.zero_le _, Nat.zero_le _, by decide⟩, ?_⟩
              have hseconds : c.seconds = 3155759999 := by
                rw [Calendar.seconds_eq, hy99, hdec, hday31, hlast]
                decide
              rw [if_pos hseconds]
              decide

end Sys2Proof.Machine

/-! PROOFS. The calendar second outside the accounts (R140, R141, R143, R146, R147). -/

namespace Sys2Proof.Machine

/-! ### A correction that stands still at a time error of zero (R147, R148) -/

/-- The time error is zero, and no correction runs. -/
def State.TimeIdle (s : State) : Prop := s.cu.teCycles = 0 ∧ s.cu.correction = .inactive

theorem State.TimeIdle.of_cu {s t : State} (h : s.TimeIdle) (hcu : t.cu = s.cu) : t.TimeIdle := by
  unfold State.TimeIdle
  rw [hcu]
  exact h

theorem corrected_of_idle {u : CalendarUnit} (h : u.teCycles = 0) (hi : u.correction = .inactive) : u.corrected = .inactive := by
  have hgoes : u.goesOn = false := by
    unfold CalendarUnit.goesOn
    rw [hi]
  have hstarts : u.starts = false := by
    unfold CalendarUnit.starts CalendarUnit.teMs
    rw [h]
    simp
  unfold CalendarUnit.corrected
  rw [hgoes, hstarts]
  rfl

theorem evaluateCorrection_idle {s : State} (h : s.TimeIdle) : (evaluateCorrection s).TimeIdle := by
  unfold State.TimeIdle
  rw [evaluateCorrection_cu]
  exact ⟨h.1, corrected_of_idle h.1 h.2⟩

theorem setFeederState_idle (i : Fin 12) (new : FeederState) {s : State} (h : s.TimeIdle) : (setFeederState i new s).TimeIdle := by
  have hhand : ∀ (b : Bool) (x : State), x.cu = s.cu → (handShed b (alarmChanged .shed x)).TimeIdle := by
    intro b x hx
    refine evaluateCorrection_idle (s := (alarmChanged .shed x).onCu fun u => { u with shedCopy := b }) ?_
    have hcu : (alarmChanged .shed x).cu = s.cu := (alarmChanged_cu .shed x).trans hx
    exact ⟨by rw [← h.1, ← hcu]; rfl, by rw [← h.2, ← hcu]; rfl⟩
  unfold setFeederState shedChanged
  split
  · exact h
  · simp only []
    split
    · exact hhand _ _ rfl
    · exact hhand _ _ rfl

theorem grant_idle (e : QueueEntry) {s : State} (h : s.TimeIdle) : (grant e s).TimeIdle := by
  obtain ⟨timer, g, hframe, _⟩ := grantEntry_frame e s
  have hentry : (grantEntry e s).TimeIdle := h.of_cu (by rw [hframe])
  have howner : (ownerGranted e.owner (grantEntry e s)).TimeIdle := by
    cases e.owner with
    | drive i =>
      obtain ⟨d, table, hslot, _⟩ := slotGranted_frame i (grantEntry e s)
      exact hentry.of_cu (by rw [ownerGranted, hslot])
    | feeder i => exact setFeederState_idle _ _ hentry
    | rake => exact hentry.of_cu rfl
  rw [grant_eq]
  exact howner.of_cu (post_cu _ _)

theorem Disp.idle {a b : List Owner × State} (h : Disp a b) (ha : a.2.TimeIdle) : b.2.TimeIdle := by
  have hdrop : ∀ o (s : State), s.TimeIdle → (dropEntry o s).TimeIdle := by
    intro o s hs
    obtain ⟨g, h⟩ := dropEntry_frame o s
    exact hs.of_cu (by rw [h])
  cases h with
  | post _ _ r => exact ha.of_cu (post_cu r _)
  | slotLeaves _ s i g => exact hdrop _ (s.onSlot i g) ha
  | rakeLeaves _ s g => exact hdrop _ (s.onRk g) ha
  | remove _ s o | unbook _ s o =>
    obtain ⟨g, h⟩ := removeFromTable_frame o s
    exact ha.of_cu (by rw [h])
  | feederTold | feeder => exact setFeederState_idle _ _ ha
  | feederAsks _ s i e rs =>
    exact setFeederState_idle _ _ (List.foldlRecOn (motive := State.TimeIdle) rs _ (by exact ha) fun _ ht r _ => ht.of_cu (post_cu r _))
  | grant _ _ e => exact grant_idle e ha
  | arbiter | slot | slotTold | rakeTold | rake | account | stages | feederTimers | leaveQueue | slotAsks | rakeAsks | rakeFirst => exact ha

theorem Disps.idle {a b : List Owner × State} (h : Disps a b) (ha : a.2.TimeIdle) : b.2.TimeIdle :=
  Disps.keeps (P := fun x => x.2.TimeIdle) (fun _ _ hstep => hstep.idle) h ha

theorem Calm.idle {L : List Owner} {s t : State} (h : Calm L s t) (hs : s.TimeIdle) : t.TimeIdle :=
  Disps.idle (a := (L, s)) (b := (L, t)) h hs

/-! ### The second of the Calendar Unit -/

/-- R140, R147: the Calendar Unit at a second, before the time error is evaluated. -/
def CalendarUnit.passed (u : CalendarUnit) : CalendarUnit :=
  if u.zeroRequest then { u.second with e := 0, n := 0, zeroRequest := false, teRange := false, correction := .inactive } else u.second

/-- R140, R147: the state of a second before it is handed on. -/
def secondPassed (s : State) : State :=
  if s.cu.zeroRequest then zeroTimeErrorNow (s.onCu CalendarUnit.second) else s.onCu CalendarUnit.second

theorem calendarSecond_eq (products : Vector (BitVec 24) 12) (s : State) :
    calendarSecond products s = evaluateTime (handSecond products (secondPassed s)) := rfl

theorem endCorrection_frame (cause : EndCause) (s : State) :
    endCorrection cause s = { s with cu := { s.cu with correction := .inactive }, sl := (endCorrection cause s).sl } := by
  unfold endCorrection
  simp only []
  obtain ⟨l, h⟩ : ∃ l, post (.correctionEnd s.cu.correction cause s.cu.teMsShown 0) (s.onCu fun u => { u with correction := .inactive })
      = { s.onCu fun u => { u with correction := .inactive } with sl := l } := post_eq _ _
  rw [h]
  rfl

theorem secondPassed_frame (s : State) : secondPassed s = { s with cu := s.cu.passed, sl := (secondPassed s).sl } := by
  unfold secondPassed CalendarUnit.passed
  split
  · unfold zeroTimeErrorNow
    simp only []
    split
    · next h =>
      have h : s.cu.correction = .inactive := h
      refine congrArg (fun u => ({ s with cu := u } : State)) ?_
      show ({ s.cu.second with e := 0, n := 0, zeroRequest := false, teRange := false } : CalendarUnit) = _
      rw [show s.cu.second = { s.cu.second with correction := .inactive } by rw [← h]; rfl]
    · rw [endCorrection_frame]
      rfl
  · rfl

theorem post_unpowered {r : Report} {s : State} (h : s.powered = false) : post r s = s := if_neg (by simp [h])

theorem evaluateCorrection_unpowered {s : State} (h : s.powered = false) : (evaluateCorrection s).sl = s.sl := by
  obtain ⟨_, he⟩ | ⟨_, he⟩ | ⟨_, _, _, he⟩ | ⟨_, _, cause, he, _⟩ := evaluateCorrection_cases s
  · rw [he, startCorrection, post_unpowered (by exact h)]
    rfl
  · rw [he]
  · rw [he]
  · rw [he, endCorrection, post_unpowered (by exact h)]
    rfl

theorem secondPassed_unpowered {s : State} (h : s.powered = false) : (secondPassed s).sl = s.sl := by
  unfold secondPassed zeroTimeErrorNow endCorrection
  simp only []
  repeat' split
  · rfl
  · rw [post_unpowered (by exact h)]
    rfl
  · rfl

/-! ### What the second hands on (R140, R141, R154) -/

/-- A step that changes the accounts and the link, and the owners as an arbitration may. -/
def State.MeteredTo (s t : State) : Prop := t.still = ({ s with mu := t.mu, sl := t.sl } : State).still

theorem MeteredTo.refl (s : State) : s.MeteredTo s := rfl

theorem MeteredTo.trans {s t u : State} (h : s.MeteredTo t) (k : t.MeteredTo u) : s.MeteredTo u := by
  have hu : ({ t with mu := u.mu, sl := u.sl } : State).still = { t.still with
      mu := { u.mu with accounts := map12 (fun a => { a with shedCount := 0, capTrips := 0 }) u.mu.accounts }
      sl := { u.sl with reports := [], tx := .idle, lostReports := 0 } } := rfl
  unfold State.MeteredTo at *
  rw [k, hu, h]
  rfl

theorem MeteredTo.of_still {s t : State} (h : t.still = s.still) : s.MeteredTo t := by
  unfold State.MeteredTo
  have hs : ({ s with mu := t.mu, sl := t.sl } : State).still = { s.still with mu := t.still.mu, sl := t.still.sl } := rfl
  rw [hs, h]

theorem meterFeeder_metered (products : Vector (BitVec 24) 12) (s : State) (i : Fin 12) : s.MeteredTo (meterFeeder products s i) := by
  unfold meterFeeder
  simp only []
  split <;> rfl

theorem metered_foldl {ι : Type} {g : State → ι → State} (hg : ∀ (s : State) i, s.MeteredTo (g s i)) (l : List ι) (s : State) : s.MeteredTo (l.foldl g s) :=
  List.foldlRecOn (motive := s.MeteredTo) l g (MeteredTo.refl s) fun t ht i _ => MeteredTo.trans ht (hg t i)

theorem meterSecond_metered (products : Vector (BitVec 24) 12) (s : State) : s.MeteredTo (meterSecond products s) := by
  have hlook : s.MeteredTo (lookUpTariff s) := rfl
  exact MeteredTo.trans hlook (MeteredTo.trans (metered_foldl (meterFeeder_metered products) allFeeders _)
    (metered_foldl (fun (x : State) i => MeteredTo.of_still (still_capCheck arbitrate_keeps i x)) allFeeders _))

/-- R140, R141: the hour event reaches the store, the day event the accounts. -/
theorem hourEvents_frame (s : State) : hourEvents s = { s with mu := (hourEvents s).mu, store := (hourEvents s).store, sl := (hourEvents s).sl }
    ∧ (s.cu.calendar.minute ≠ 0 ∨ s.cu.calendar.second ≠ 0 → hourEvents s = s) := by
  have hcheck : checkpointTrigger .hour s = { s with store := (checkpointTrigger .hour s).store, sl := (checkpointTrigger .hour s).sl } :=
    onlyLinkAndStore_checkpointTrigger .hour s
  unfold hourEvents
  split
  · next h =>
    refine ⟨?_, fun hk => hk.elim (absurd h.1) (absurd h.2)⟩
    simp only []
    split
    · unfold dayEvent
      rw [hcheck]
      rfl
    · rw [hcheck]
  · exact ⟨rfl, fun _ => rfl⟩

theorem handSecond_on (products : Vector (BitVec 24) 12) {s : State} (hp : s.powered = true) :
    handSecond products s = hourEvents (meterSecond products s) := whenPowered_on hp _

theorem handSecond_off (products : Vector (BitVec 24) 12) {s : State} (hp : s.powered = false) : handSecond products s = s := if_neg (by simp [hp])

/-- R140: what a second hands on with the main domain powered. -/
theorem handSecond_powered (products : Vector (BitVec 24) 12) {s : State} (hp : s.powered = true) :
    let t := handSecond products s
    t.still = ({ s with mu := t.mu, store := t.store, sl := t.sl } : State).still
    ∧ (s.cu.calendar.minute ≠ 0 ∨ s.cu.calendar.second ≠ 0 → t.store = s.store) := by
  intro t
  have ht : t = hourEvents (meterSecond products s) := handSecond_on products hp
  have hm := meterSecond_metered products s
  rw [ht]
  generalize meterSecond products s = y at hm
  obtain ⟨hframe, hquiet⟩ := hourEvents_frame y
  have hy : y.still = { s.still with
      mu := { y.mu with accounts := map12 (fun a => { a with shedCount := 0, capTrips := 0 }) y.mu.accounts }
      sl := { y.sl with reports := [], tx := .idle, lostReports := 0 } } := hm
  have hcalendar : y.still.cu.calendar = s.still.cu.calendar := by rw [hy]
  have hstore : y.still.store = s.still.store := by rw [hy]
  refine ⟨?_, fun h => by rw [hquiet (by change y.cu.calendar = s.cu.calendar at hcalendar; rw [hcalendar]; exact h)]; exact hstore⟩
  generalize hourEvents y = u at hframe hquiet
  have hu : u.still = { y.still with
      mu := { u.mu with accounts := map12 (fun a => { a with shedCount := 0, capTrips := 0 }) u.mu.accounts }
      store := u.store
      sl := { u.sl with reports := [], tx := .idle, lostReports := 0 } } := by
    rw [hframe]
    rfl
  rw [hu, hy]
  rfl

theorem hourEvents_cu (s : State) : (hourEvents s).cu = s.cu := by
  rw [(hourEvents_frame s).1]

theorem meterFeeder_cu (products : Vector (BitVec 24) 12) (s : State) (i : Fin 12) : (meterFeeder products s i).cu = s.cu := by
  unfold meterFeeder
  simp only []
  split <;> rfl

theorem meterSecond_eq (products : Vector (BitVec 24) 12) (s : State) : meterSecond products s =
    allFeeders.foldl (fun s i => capCheck arbitrate i s) (allFeeders.foldl (meterFeeder products) (lookUpTariff s)) := rfl

theorem meterSecond_idle (products : Vector (BitVec 24) 12) {s : State} (h : s.TimeIdle) : (meterSecond products s).TimeIdle := by
  have hmetered : (allFeeders.foldl (meterFeeder products) (lookUpTariff s)).TimeIdle :=
    List.foldlRecOn (motive := State.TimeIdle) _ _ (h.of_cu rfl) fun t ht i _ => ht.of_cu (meterFeeder_cu products t i)
  rw [meterSecond_eq]
  exact List.foldlRecOn (motive := State.TimeIdle) _ _ hmetered fun t ht i _ => (calm_capCheck arbitrate_arbitrates i t).idle ht

theorem handSecond_idle (products : Vector (BitVec 24) 12) {s : State} (h : s.TimeIdle) : (handSecond products s).TimeIdle := by
  cases hp : s.powered with
  | true =>
    rw [handSecond_on products hp]
    exact (meterSecond_idle products h).of_cu (hourEvents_cu _)
  | false =>
    rw [handSecond_off products hp]
    exact h

/-- The Calendar Unit is `still` but for the correction and the copy of the shed condition. -/
theorem cu_of_still {s t : State} (h : t.still.cu = s.still.cu) :
    t.cu = { s.cu with correction := t.cu.correction, shedCopy := t.cu.shedCopy } :=
  congrArg (fun u : CalendarUnit => { u with correction := t.cu.correction, shedCopy := t.cu.shedCopy }) h

theorem handSecond_cu (products : Vector (BitVec 24) 12) (s : State) : (handSecond products s).cu =
    { s.cu with correction := (handSecond products s).cu.correction, shedCopy := (handSecond products s).cu.shedCopy } := by
  cases hp : s.powered with
  | true =>
    have hstill : (handSecond products s).still.cu = s.still.cu := by rw [(handSecond_powered products hp).1]; rfl
    exact cu_of_still hstill
  | false => rw [handSecond_off products hp]

/-! ### The obligation -/

theorem passed_eq (u : CalendarUnit) : u.passed = { u with
    calendar := u.second.calendar, subSecond := u.subSecond - 32768, pendingShift := none
    e := if u.zeroRequest then 0 else u.e + 1, n := if u.zeroRequest then 0 else u.n, zeroRequest := false
    teRange := !u.zeroRequest && u.teRange, correction := if u.zeroRequest then .inactive else u.correction } := by
  cases u with
  | mk =>
    rename_i zero _ _ _ _ _
    unfold CalendarUnit.passed CalendarUnit.second
    simp only []
    split <;> simp_all

/-- R140, R143: the second that the Calendar Unit shows. -/
theorem second_later (u : CalendarUnit) :
    let c : Calendar := { u.calendar with
      hour := match u.pendingShift with
        | none => u.calendar.hour
        | some true => u.calendar.hour + 1
        | some false => u.calendar.hour - 1 }
    c.Shown → c.Later u.second.calendar := by
  intro c h
  have hc : u.second.calendar = c.advance := by
    unfold CalendarUnit.second c
    simp only []
    cases u.pendingShift with
    | none => rfl
    | some forward => cases forward <;> rfl
  rw [hc]
  exact Calendar.advance_later h

theorem secondPassed_idle {s : State} (h : s.cu.zeroRequest = true) : (secondPassed s).TimeIdle := by
  rw [State.TimeIdle, secondPassed_frame]
  unfold CalendarUnit.passed
  rw [if_pos h]
  exact ⟨by show ((0#32) - 50#32 * 0#32).toInt = 0; decide, rfl⟩

/-- R140: the Calendar Unit after a calendar second. -/
theorem calendarSecond_cu (products : Vector (BitVec 24) 12) (s : State) :
    let t := calendarSecond products s
    t.cu = { s.cu.passed with teRange := t.cu.teRange, correction := t.cu.correction, shedCopy := t.cu.shedCopy }
    ∧ t.cu.teRange = (s.cu.passed.teRange || decide (s.cu.params.limit < t.cu.teMs.natAbs)) := by
  intro t
  have hcu : t.cu = _ := evaluateTime_cu (handSecond products (secondPassed s))
  rw [handSecond_cu, show (secondPassed s).cu = s.cu.passed by rw [secondPassed_frame]] at hcu
  have hparams : s.cu.passed.params = s.cu.params := by rw [passed_eq]
  rw [hcu, ← hparams]
  exact ⟨rfl, rfl⟩

theorem calendarSecond_idle (products : Vector (BitVec 24) 12) {s : State} (h : s.cu.zeroRequest = true) :
    (calendarSecond products s).cu.correction = .inactive := by
  have hidle := handSecond_idle products (secondPassed_idle h)
  rw [calendarSecond_eq, evaluateTime_cu]
  exact corrected_of_idle (u := (handSecond products (secondPassed s)).cu.ranged) hidle.1 hidle.2

theorem evaluateTime_unpowered {s : State} (h : s.powered = false) : (evaluateTime s).sl = s.sl := by
  unfold evaluateTime
  rw [rangeTest_eq]
  exact evaluateCorrection_unpowered (s := s.onCu CalendarUnit.ranged) h

theorem calendarSecond_unpowered (products : Vector (BitVec 24) 12) {s : State} (h : s.powered = false) :
    calendarSecond products s = { s with cu := (calendarSecond products s).cu } := by
  have hpassed : (secondPassed s).powered = false := by rw [secondPassed_frame]; exact h
  have hframe := evaluateTime_frame (secondPassed s)
  rw [evaluateTime_unpowered hpassed, secondPassed_unpowered h] at hframe
  rw [calendarSecond_eq, handSecond_off products hpassed, hframe, secondPassed_frame]

theorem calendarSecond_powered (products : Vector (BitVec 24) 12) {s : State} (h : s.powered = true) :
    let t := calendarSecond products s
    t.still = ({ s with cu := t.cu, mu := t.mu, store := t.store, sl := t.sl } : State).still
    ∧ (t.cu.calendar.minute ≠ 0 ∨ t.cu.calendar.second ≠ 0 → t.store = s.store) := by
  intro t
  have hx := secondPassed_frame s
  have hcalendar : t.cu.calendar = (secondPassed s).cu.calendar := by
    have hcu := (calendarSecond_cu products s).1
    rw [show t.cu = _ from hcu, hx]
  have hpassed : (secondPassed s).powered = true := by rw [hx]; exact h
  obtain ⟨hstill, hstore⟩ := handSecond_powered products hpassed
  have ht : t = evaluateTime (handSecond products (secondPassed s)) := rfl
  rw [hcalendar]
  generalize secondPassed s = x at *
  generalize handSecond products x = y at *
  have hframe := evaluateTime_frame y
  rw [← ht] at hframe
  have htstill : t.still = { y.still with
      cu := { t.cu with correction := .inactive, shedCopy := false }, sl := { t.sl with reports := [], tx := .idle, lostReports := 0 } } := by
    rw [hframe]
    rfl
  have hmu : t.mu = y.mu := by rw [hframe]
  have hstore' : t.store = y.store := by rw [hframe]
  refine ⟨?_, fun hk => (hstore'.trans (hstore hk)).trans (by rw [hx])⟩
  rw [htstill, hstill, hmu, hstore', hx]
  rfl

/-- Settles O44: the Calendar Unit, what the second hands on, and the calendar. -/
theorem calendarSecond_holds : Obligations.CalendarSecond := by
  intro products s
  obtain ⟨hcu, hrange⟩ := calendarSecond_cu products s
  refine ⟨calendarSecond products s, rfl, ?_, ?_, ?_, ?_, calendarSecond_idle products, calendarSecond_unpowered products,
    calendarSecond_powered products, fun hc hw => ?_⟩
  · rw [hcu, passed_eq]
  · rw [hcu, passed_eq]
  · have hcalendar : (calendarSecond products s).cu.calendar = s.cu.second.calendar := by rw [hcu, passed_eq]
    have he : (calendarSecond products s).cu.e = if s.cu.zeroRequest then 0 else s.cu.e + 1 := by rw [hcu, passed_eq]
    have hn : (calendarSecond products s).cu.n = if s.cu.zeroRequest then 0 else s.cu.n := by rw [hcu, passed_eq]
    rw [hcalendar, he, hn]
    rw [passed_eq] at hcu
    exact hcu
  · rw [hrange, passed_eq]
    cases hz : s.cu.zeroRequest with
    | true =>
      have hzero : (calendarSecond products s).cu.teMs = 0 := by
        rw [hcu, passed_eq, hz]
        show (20 : Int) * ((0#32) - 50#32 * 0#32).toInt = 0
        decide
      simp [hzero]
    | false => rfl
  · have hcalendar : (calendarSecond products s).cu.calendar = s.cu.second.calendar := by rw [hcu, passed_eq]
    rw [hcalendar]
    obtain ⟨hshown, hseconds⟩ := second_later s.cu ((Calendar.shown_iff _).mpr ⟨hc, hw⟩)
    obtain ⟨hvalid, hweekday⟩ := (Calendar.shown_iff _).mp hshown
    exact ⟨hvalid, hweekday, hseconds⟩

end Sys2Proof.Machine

/-! PROOFS. The accounts at a calendar second (R134, R153 to R158). -/

namespace Sys2Proof.Machine

/-! ### The tariff index (R158) -/

theorem tariffIndex_nil (m : Nat) : tariffIndex [] m = 0 := rfl

theorem tariffIndex_started {front back : List Band} {b : Band} {m : Nat} (hb : b.start ≤ m) (hback : ∀ x ∈ back, m < x.start) :
    tariffIndex (front ++ b :: back) m = b.index := by
  have hfilter : (front ++ b :: back).filter (fun x => decide (x.start ≤ m)) = front.filter (fun x => decide (x.start ≤ m)) ++ [b] := by
    rw [List.filter_append, List.filter_cons_of_pos (by simpa using hb),
      (List.filter_eq_nil_iff (l := back)).mpr fun x hx => by simpa using hback x hx]
  unfold tariffIndex
  rw [hfilter, List.getLast?_append_cons]
  rfl

theorem tariffIndex_wrapped {front : List Band} {b : Band} {m : Nat} (h : ∀ x ∈ front ++ [b], m < x.start) :
    tariffIndex (front ++ [b]) m = b.index := by
  have hfilter : (front ++ [b]).filter (fun x => decide (x.start ≤ m)) = [] :=
    List.filter_eq_nil_iff.mpr fun x hx => by simpa using h x hx
  unfold tariffIndex
  rw [hfilter, List.getLast?_append_cons]
  rfl

/-! ### The power and the registers (R153, R154, R155) -/

theorem powerOf_low {q : BitVec 24} {k : Nat} (h : q.toInt * k < 65536) : powerOf q k = 0 := by
  unfold powerOf
  omega

theorem powerOf_bounds {q : BitVec 24} {k : Nat} (h : 0 ≤ q.toInt * k) :
    (powerOf q k : Int) * 65536 ≤ q.toInt * k ∧ q.toInt * k < (powerOf q k + 1) * 65536 := by
  unfold powerOf
  generalize q.toInt * (k : Int) = p at h ⊢
  omega

/-- R153, R154: an account at a second. -/
def Account.metered (a : Account) (on : Bool) (index : Fin 4) (p : Nat) : Account := if on then a.count index p else { a with power := 0 }

/-- The power of a feeder's second. -/
def feederPower (products : Vector (BitVec 24) 12) (s : State) (i : Fin 12) : Nat := powerOf products[i] s.store.commissioning.factors[i]

/-- What the accounts are measured by. -/
structure MeterKept (s t : State) : Prop where
  feeders : ∀ i, t.feeder i = s.feeder i
  store : t.store = s.store
  index : t.mu.index = s.mu.index
  bands : t.mu.bands = s.mu.bands
  rest : t = { s with mu := t.mu }

theorem meterFeeder_kept (products : Vector (BitVec 24) 12) (s : State) (i : Fin 12) : MeterKept s (meterFeeder products s i) := by
  unfold meterFeeder
  simp only []
  split <;> exact ⟨fun _ => rfl, rfl, rfl, rfl, rfl⟩

theorem MeterKept.trans {s t u : State} (h : MeterKept s t) (k : MeterKept t u) : MeterKept s u :=
  ⟨fun i => (k.feeders i).trans (h.feeders i), k.store.trans h.store, k.index.trans h.index, k.bands.trans h.bands, by rw [k.rest, h.rest]⟩

theorem meterFeeder_account (products : Vector (BitVec 24) 12) (s : State) (i j : Fin 12) : (meterFeeder products s i).account j =
    if i = j then (s.account j).metered (decide ((s.feeder j).state = .on)) s.mu.index (feederPower products s j) else s.account j := by
  unfold meterFeeder Account.metered feederPower
  simp only []
  by_cases hij : i = j
  · subst hij
    by_cases h : (s.feeder i).state = .on
    · rw [if_pos h, State.onAccount_account]
      simp [h]
    · rw [if_neg h, State.onAccount_account]
      simp [h]
  · rw [if_neg hij]
    split
    · rw [State.onAccount_account, if_neg hij]
    · rw [State.onAccount_account, if_neg hij]

/-- R154: the accounts, one after another, before the caps are checked. -/
def metered (products : Vector (BitVec 24) 12) (s : State) : State := allFeeders.foldl (meterFeeder products) (lookUpTariff s)

theorem metered_kept (products : Vector (BitVec 24) 12) (s : State) : MeterKept (lookUpTariff s) (metered products s) :=
  List.foldlRecOn (motive := MeterKept (lookUpTariff s)) _ _ ⟨fun _ => rfl, rfl, rfl, rfl, rfl⟩ fun t ht i _ => ht.trans (meterFeeder_kept products t i)

/-- R153, R154: every account after the pass. -/
theorem metered_account (products : Vector (BitVec 24) 12) (s : State) (j : Fin 12) : (metered products s).account j =
    (s.account j).metered (decide ((s.feeder j).state = .on)) (tariffIndex s.mu.bands s.cu.calendar.minuteOfDay) (feederPower products s j) := by
  have hother : ∀ (t : State) (i : Fin 12), i ≠ j → (meterFeeder products t i).account j = t.account j ∧ MeterKept t (meterFeeder products t i) :=
    fun t i hij => ⟨(meterFeeder_account products t i j).trans (if_neg hij), meterFeeder_kept products t i⟩
  obtain ⟨x, ⟨hxa, hx⟩, hta, _⟩ := foldl_at (R := fun s t : State => t.account j = s.account j ∧ MeterKept s t) (f := meterFeeder products)
    (fun _ => ⟨rfl, fun _ => rfl, rfl, rfl, rfl, rfl⟩) (fun h k => ⟨k.1.trans h.1, h.2.trans k.2⟩) hother allFeeders_nodup (mem_allFeeders j) (lookUpTariff s)
  have hself := (meterFeeder_account products x j j).trans (if_pos rfl)
  have hpower : feederPower products x j = feederPower products s j := by
    unfold feederPower
    rw [hx.store]
    rfl
  unfold metered
  rw [hta, hself, hxa, hx.feeders, hx.index, hpower]
  rfl

/-! ### The check against the cap (R134) -/

/-- R134: the cap counter of a feeder above its cap. -/
def State.capCount (s : State) (i : Fin 12) : Nat := min 60 ((s.feeder i).capCounter + 1)

/-- R134: a feeder above its cap, before its table entry goes. -/
def overCap (i : Fin 12) (s : State) : State := s.onFeeder i fun d => { d with capCounter := s.capCount i }

/-- R134: a cap trip before its report. -/
def capOpened (i : Fin 12) (s : State) : State :=
  setFeederState i .capped (raiseCapTrips i (releaseNotice arbitrate (.feeder i) (overCap i s)))

/-- R134: a cap trip. -/
def capTripped (i : Fin 12) (s : State) : State :=
  post (.cap i (s.account i).power (s.feeder i).profile.cap (s.feeder i).profile.capTime ((capOpened i s).account i).capTrips) (capOpened i s)

theorem capCheck_cases (i : Fin 12) (s : State) :
    ((s.feeder i).state ≠ .on ∧ capCheck arbitrate i s = s)
    ∨ ((s.feeder i).state = .on ∧ (s.account i).power ≤ (s.feeder i).profile.cap ∧ capCheck arbitrate i s = s.onFeeder i fun d => { d with capCounter := 0 })
    ∨ ((s.feeder i).state = .on ∧ (s.feeder i).profile.cap < (s.account i).power ∧ s.capCount i < (s.feeder i).profile.capTime
      ∧ capCheck arbitrate i s = overCap i s)
    ∨ ((s.feeder i).state = .on ∧ (s.feeder i).profile.cap < (s.account i).power ∧ (s.feeder i).profile.capTime ≤ s.capCount i
      ∧ capCheck arbitrate i s = capTripped i s) := by
  unfold capCheck
  simp only []
  split
  · next hon =>
    split
    · next hp =>
      split
      · next hn => exact .inr (.inr (.inr ⟨hon, hp, hn, rfl⟩))
      · next hn => exact .inr (.inr (.inl ⟨hon, hp, Nat.not_le.mp hn, rfl⟩))
    · next hp => exact .inr (.inl ⟨hon, Nat.not_lt.mp hp, rfl⟩)
  · next hoff => exact .inl ⟨hoff, rfl⟩

/-- What the check of one feeder leaves of another one. -/
structure Unchecked (i : Fin 12) (s t : State) : Prop where
  account : t.account i = s.account i
  feeder : s.queueHas (.feeder i) = false → (s.feeder i).state ≠ .shed → t.feeder i = s.feeder i ∧ t.queueHas (.feeder i) = false
    ∧ (s.tableHas (.feeder i) = false → t.tableHas (.feeder i) = false)
  link : ReportsOnly s t

theorem Unchecked.refl (i : Fin 12) (s : State) : Unchecked i s s := ⟨rfl, fun hq _ => ⟨rfl, hq, id⟩, .refl s⟩

theorem Unchecked.trans {i : Fin 12} {s t u : State} (h : Unchecked i s t) (k : Unchecked i t u) : Unchecked i s u := by
  refine ⟨k.account.trans h.account, fun hq hs => ?_, h.link.trans k.link⟩
  obtain ⟨hf, hq', ht⟩ := h.feeder hq hs
  obtain ⟨kf, kq, kt⟩ := k.feeder hq' (by rw [hf]; exact hs)
  exact ⟨kf.trans hf, kq, fun hno => kt (ht hno)⟩

theorem Unchecked.of_aftermath {i : Fin 12} {s t : State} (h : Aftermath True s t) (hlink : ReportsOnly s t) : Unchecked i s t := by
  refine ⟨congrArg (fun m : MeteringUnit => m.accounts[i]) h.accounts, fun hq hs => ?_, hlink⟩
  have hoff : ¬s.offered i := fun hk => hs hk.1
  exact ⟨h.feeders i hq hoff, h.not_queued (o := .feeder i) hq hoff, fun ht => h.not_tabled (o := .feeder i) ht hq hoff⟩

theorem Unchecked.of_frame {i : Fin 12} {s t : State} (hda : t.da = s.da) (hfeeder : t.feeder i = s.feeder i) (haccount : t.account i = s.account i)
    (hlink : ReportsOnly s t) : Unchecked i s t := by
  refine ⟨haccount, fun hq _ => ⟨hfeeder, ?_, ?_⟩, hlink⟩
  · unfold State.queueHas at *
    rw [hda]
    exact hq
  · unfold State.tableHas
    rw [hda]
    exact id

theorem unchecked_onFeeder {i j : Fin 12} (hij : i ≠ j) (g : Feeder → Feeder) (s : State) : Unchecked j s (s.onFeeder i g) :=
  .of_frame rfl ((State.onFeeder_feeder s i j g).trans (if_neg hij)) rfl (.of_sl rfl rfl)

theorem raiseCapTrips_account (i j : Fin 12) (s : State) : (raiseCapTrips i s).account j =
    if i = j then { s.account j with capTrips := min 65535 ((s.account j).capTrips + 1) } else s.account j := by
  unfold raiseCapTrips
  rw [State.onAccount_account]
  by_cases hij : i = j
  · subst hij
    rfl
  · rw [if_neg hij, if_neg hij]

theorem capOpened_unchecked {i j : Fin 12} (hij : i ≠ j) (s : State) : Unchecked j s (capOpened i s) := by
  have hcount : Unchecked j s (overCap i s) := unchecked_onFeeder hij _ s
  have hrelease : Unchecked j (overCap i s) (releaseNotice arbitrate (.feeder i) (overCap i s)) :=
    .of_aftermath (aftermath_releaseNotice settling_arbitrate _ _) (releaseNotice_reportsOnly _ _)
  have hraise : ∀ x : State, Unchecked j x (raiseCapTrips i x) := fun x => .of_frame rfl rfl ((raiseCapTrips_account i j x).trans (if_neg hij)) (.of_sl rfl rfl)
  have hset : ∀ x : State, Unchecked j x (setFeederState i .capped x) := fun x =>
    .of_frame (setFeederState_da _ _ _) ((setFeederState_feeder i j _ x).trans (if_neg hij))
      (congrArg (fun m : MeteringUnit => m.accounts[j]) (setFeederState_mu i _ x)) (setFeederState_reportsOnly _ _ _)
  exact ((hcount.trans hrelease).trans (hraise _)).trans (hset _)

theorem capCheck_unchecked {i j : Fin 12} (hij : i ≠ j) (s : State) : Unchecked j s (capCheck arbitrate i s) := by
  obtain ⟨_, h⟩ | ⟨_, _, h⟩ | ⟨_, _, _, h⟩ | ⟨_, _, _, h⟩ := capCheck_cases i s
  · rw [h]
    exact .refl j s
  · rw [h]
    exact unchecked_onFeeder hij _ s
  · rw [h]
    exact unchecked_onFeeder hij _ s
  · rw [h]
    exact (capOpened_unchecked hij s).trans (.of_frame (post_da _ _) (post_feeder _ _ j) (congrArg (fun m : MeteringUnit => m.accounts[j]) (post_mu _ _))
      (post_reportsOnly _ _))

theorem capOpened_account (i : Fin 12) (s : State) :
    (capOpened i s).account i = { s.account i with capTrips := min 65535 ((s.account i).capTrips + 1) } := by
  have haccount : (releaseNotice arbitrate (.feeder i) (overCap i s)).account i = s.account i :=
    congrArg (fun m : MeteringUnit => m.accounts[i]) (aftermath_releaseNotice settling_arbitrate (.feeder i) (overCap i s)).accounts
  unfold capOpened
  rw [← haccount, ← (raiseCapTrips_account i i _).trans (if_pos rfl)]
  exact congrArg (fun m : MeteringUnit => m.accounts[i]) (setFeederState_mu i _ _)

/-- R134: a check changes the cap trips of its own account alone, and those only above the cap. -/
theorem capCheck_account (i : Fin 12) (s : State) : ∃ n, (capCheck arbitrate i s).account i = { s.account i with capTrips := n }
    ∧ ((s.account i).power ≤ (s.feeder i).profile.cap → n = (s.account i).capTrips) := by
  obtain ⟨_, h⟩ | ⟨_, _, h⟩ | ⟨_, _, _, h⟩ | ⟨_, hp, _, h⟩ := capCheck_cases i s
  · rw [h]
    exact ⟨_, rfl, fun _ => rfl⟩
  · rw [h]
    exact ⟨_, rfl, fun _ => rfl⟩
  · rw [h]
    exact ⟨_, rfl, fun _ => rfl⟩
  · rw [h]
    refine ⟨_, (congrArg (fun m : MeteringUnit => m.accounts[i]) (post_mu _ _)).trans (capOpened_account i s), fun hk => absurd hp (Nat.not_lt.mpr hk)⟩

/-- R134: what a cap trip leaves of its feeder. -/
structure CapTrip (i : Fin 12) (s t : State) : Prop where
  opened : s.Opened t i .capped
  waits : t.queueHas (.feeder i) = false
  account : t.account i = { s.account i with capTrips := min 65535 ((s.account i).capTrips + 1) }
  link : ReportsOnly s t
  report : s.powered = true → s.reportsSince t
    (.cap i (s.account i).power (s.feeder i).profile.cap (s.feeder i).profile.capTime (min 65535 ((s.account i).capTrips + 1)))

theorem capTripped_trip {i : Fin 12} {s : State} (hon : (s.feeder i).state = .on) (hq : s.queueHas (.feeder i) = false) : CapTrip i s (capTripped i s) := by
  have hself : (overCap i s).feeder i = { s.feeder i with capCounter := s.capCount i } := onFeeder_self s i _
  have hoff : ¬(overCap i s).offered i := fun hk => by
    have := hk.1
    rw [hself] at this
    exact absurd (hon.symm.trans this) (by decide)
  have hafter := aftermath_releaseNotice settling_arbitrate (.feeder i) (overCap i s)
  have htable := releaseNotice_tableHas (o := .feeder i) (s := overCap i s) hq hoff
  have hfeeder := (hafter.feeders i hq hoff).trans hself
  have hwaits := hafter.not_queued (o := .feeder i) hq hoff
  have hlink : ReportsOnly s (releaseNotice arbitrate (.feeder i) (overCap i s)) :=
    ReportsOnly.trans (t := overCap i s) (.of_sl rfl rfl) (releaseNotice_reportsOnly _ _)
  have hopened := capOpened_account i s
  have hlink' : ReportsOnly s (capOpened i s) :=
    hlink.trans (ReportsOnly.trans (t := raiseCapTrips i (releaseNotice arbitrate (.feeder i) (overCap i s))) (.of_sl rfl rfl) (setFeederState_reportsOnly _ _ _))
  have hda : (capOpened i s).da = (releaseNotice arbitrate (.feeder i) (overCap i s)).da := setFeederState_da _ _ _
  have hf : (capOpened i s).feeder i = Feeder.enter { s.feeder i with capCounter := s.capCount i } .capped := by
    rw [← hfeeder]
    exact (setFeederState_feeder i i _ _).trans (if_pos rfl)
  unfold capTripped
  rw [hopened]
  refine ⟨⟨?_, ?_⟩, ?_, ?_, hlink'.trans (post_reportsOnly _ _), fun hp => reportsSince_of_post (hlink'.power.trans hp) hlink' (.refl _)⟩
  · rw [post_feeder, hf]
    exact enter_from_on (d := { s.feeder i with capCounter := s.capCount i }) hon (by decide)
  · unfold State.tableHas at *
    rw [post_da, hda]
    exact htable
  · unfold State.queueHas at *
    rw [post_da, hda]
    exact hwaits
  · unfold State.account at *
    rw [post_mu]
    exact hopened

/-! ### A feeder's second -/

/-- What the metering of a second leaves of feeder `i`; `a` is its account before the cap is checked. -/
structure MeteredAs (i : Fin 12) (a : Account) (s t : State) : Prop where
  account : ∃ n, t.account i = { a with capTrips := n } ∧ (a.power = 0 → n = a.capTrips)
  link : ReportsOnly s t
  low : (s.feeder i).state = .on → s.queueHas (.feeder i) = false → a.power ≤ (s.feeder i).profile.cap →
    t.account i = a ∧ t.feeder i = { s.feeder i with capCounter := 0 }
  counted : (s.feeder i).state = .on → s.queueHas (.feeder i) = false → (s.feeder i).profile.cap < a.power → s.capCount i < (s.feeder i).profile.capTime →
    t.account i = a ∧ t.feeder i = { s.feeder i with capCounter := s.capCount i }
  tripped : (s.feeder i).state = .on → s.queueHas (.feeder i) = false → (s.feeder i).profile.cap < a.power → (s.feeder i).profile.capTime ≤ s.capCount i →
    t.account i = { a with capTrips := min 65535 (a.capTrips + 1) } ∧ s.Opened t i .capped
      ∧ (s.powered = true → s.reportsSince t (.cap i a.power (s.feeder i).profile.cap (s.feeder i).profile.capTime (min 65535 (a.capTrips + 1))))

/-- The check of feeder `i` among the others. -/
theorem MeteredAs.of_check {i : Fin 12} {s x t : State} (hx : Unchecked i s x) (ht : Unchecked i (capCheck arbitrate i x) t) :
    MeteredAs i (s.account i) s t := by
  have hcheck : ReportsOnly x (capCheck arbitrate i x) := (calm_capCheck arbitrate_arbitrates i x).reportsOnly
  have hsame : (s.feeder i).state = .on → s.queueHas (.feeder i) = false → x.feeder i = s.feeder i ∧ x.queueHas (.feeder i) = false := fun hon hq => by
    obtain ⟨hf, hq', _⟩ := hx.feeder hq (by rw [hon]; decide)
    exact ⟨hf, hq'⟩
  have hcounter : ∀ n, (s.feeder i).state = .on → x.feeder i = s.feeder i → x.queueHas (.feeder i) = false →
      capCheck arbitrate i x = x.onFeeder i (fun d => { d with capCounter := n }) →
      t.account i = s.account i ∧ t.feeder i = { s.feeder i with capCounter := n } := fun n hon hf hq hn => by
    rw [hn] at ht
    have hself : (x.onFeeder i fun d => { d with capCounter := n }).feeder i = { s.feeder i with capCounter := n } := by rw [onFeeder_self, hf]
    obtain ⟨hfeeder, _, _⟩ := ht.feeder hq (by rw [hself]; show (s.feeder i).state ≠ .shed; rw [hon]; decide)
    exact ⟨ht.account.trans hx.account, hfeeder.trans hself⟩
  refine ⟨?_, (hx.link.trans hcheck).trans ht.link, fun hon hq hp => ?_, fun hon hq hp hn => ?_, fun hon hq hp hn => ?_⟩
  · obtain ⟨n, hn, hzero⟩ := capCheck_account i x
    rw [hx.account] at hn hzero
    exact ⟨n, ht.account.trans hn, fun h => hzero (by rw [h]; exact Nat.zero_le _)⟩
  · obtain ⟨hf, hq'⟩ := hsame hon hq
    obtain ⟨h, _⟩ | ⟨_, _, h⟩ | ⟨_, h, _⟩ | ⟨_, h, _⟩ := capCheck_cases i x
    · exact absurd hon (by rw [← hf]; exact h)
    · exact hcounter 0 hon hf hq' h
    · rw [hf, hx.account] at h
      exact absurd hp (Nat.not_le.mpr h)
    · rw [hf, hx.account] at h
      exact absurd hp (Nat.not_le.mpr h)
  · obtain ⟨hf, hq'⟩ := hsame hon hq
    have hcount : x.capCount i = s.capCount i := by unfold State.capCount; rw [hf]
    obtain ⟨h, _⟩ | ⟨_, h, _⟩ | ⟨_, _, _, h⟩ | ⟨_, _, h, _⟩ := capCheck_cases i x
    · exact absurd hon (by rw [← hf]; exact h)
    · rw [hf, hx.account] at h
      exact absurd hp (Nat.not_lt.mpr h)
    · exact hcounter _ hon hf hq' (by rw [h, overCap, hcount])
    · rw [hf, hcount] at h
      exact absurd hn (Nat.not_lt.mpr h)
  · obtain ⟨hf, hq'⟩ := hsame hon hq
    have hcount : x.capCount i = s.capCount i := by unfold State.capCount; rw [hf]
    obtain ⟨h, _⟩ | ⟨_, h, _⟩ | ⟨_, _, h, _⟩ | ⟨_, _, _, h⟩ := capCheck_cases i x
    · exact absurd hon (by rw [← hf]; exact h)
    · rw [hf, hx.account] at h
      exact absurd hp (Nat.not_lt.mpr h)
    · rw [hf, hcount] at h
      exact absurd hn (Nat.not_le.mpr h)
    · obtain ⟨⟨hfeeder, htable⟩, hwaits, haccount, _, hreport⟩ := capTripped_trip (i := i) (s := x) (by rw [hf]; exact hon) hq'
      rw [h] at ht hcheck
      rw [hx.account] at haccount hreport
      rw [hf] at hfeeder hreport
      obtain ⟨kf, _, kt⟩ := ht.feeder hwaits (by rw [hfeeder]; show FeederState.capped ≠ .shed; decide)
      exact ⟨ht.account.trans haccount, ⟨kf.trans hfeeder, kt htable⟩,
        fun hp => hx.link.since (hcheck.trans ht.link) (ht.link.reportsSince (hreport (hx.link.power.trans hp)))⟩

theorem meterSecond_feeder (products : Vector (BitVec 24) 12) (s : State) (i : Fin 12) :
    MeteredAs i ((metered products s).account i) (metered products s) (meterSecond products s) := by
  obtain ⟨x, hx, ht⟩ := foldl_at (R := Unchecked i) (f := fun s j => capCheck arbitrate j s) (.refl i) (fun h k => h.trans k)
    (fun s j hij => capCheck_unchecked hij s) allFeeders_nodup (mem_allFeeders i) (metered products s)
  exact .of_check hx ht

/-! ### The day event and the rest of the second (R140, R157) -/

/-- R140, R157: the calendar shows midnight. -/
def Calendar.atMidnight (c : Calendar) : Bool := decide (c.minute = 0 ∧ c.second = 0) && decide (c.hour = 0)

theorem hourEvents_accounts (s : State) : (∀ i, (hourEvents s).account i =
      { s.account i with dayMax := if s.cu.calendar.atMidnight then 0 else (s.account i).dayMax })
    ∧ (hourEvents s).mu.bands = s.mu.bands ∧ (hourEvents s).mu.index = s.mu.index := by
  have hcheck : (checkpointTrigger .hour s).mu = s.mu ∧ (checkpointTrigger .hour s).cu = s.cu := by
    rw [show checkpointTrigger .hour s = _ from onlyLinkAndStore_checkpointTrigger .hour s]
    exact ⟨rfl, rfl⟩
  unfold hourEvents Calendar.atMidnight
  by_cases h : s.cu.calendar.minute = 0 ∧ s.cu.calendar.second = 0
  · rw [if_pos h, decide_eq_true h]
    simp only [hcheck.2]
    by_cases hh : s.cu.calendar.hour = 0
    · have hday : (dayEvent (checkpointTrigger .hour s)).mu = { s.mu with accounts := map12 (fun a => { a with dayMax := 0 }) s.mu.accounts } := by
        rw [← hcheck.1]
        rfl
      rw [if_pos hh, decide_eq_true hh]
      refine ⟨fun i => ?_, by rw [hday], by rw [hday]⟩
      unfold State.account
      rw [hday]
      exact map12_getElem _ _ _ i.isLt
    · rw [if_neg hh, decide_eq_false hh]
      exact ⟨fun i => congrArg (fun m : MeteringUnit => m.accounts[i]) hcheck.1, by rw [hcheck.1], by rw [hcheck.1]⟩
  · rw [if_neg h, decide_eq_false h]
    exact ⟨fun _ => rfl, rfl, rfl⟩

theorem hourEvents_reportsKept (s : State) : ReportsKept s (hourEvents s) := by
  have hday : ∀ x : State, ReportsOnly x (dayEvent x) := fun x => .of_sl rfl rfl
  unfold hourEvents
  split
  · simp only []
    split
    · exact (checkpointTrigger_reportsKept .hour s).trans (hday _).kept_sight
    · exact checkpointTrigger_reportsKept .hour s
  · exact .refl s

theorem secondPassed_reportsOnly (s : State) : ReportsOnly s (secondPassed s) := by
  have hzero : ∀ x : State, ReportsOnly x (zeroTimeErrorNow x) := fun x => by
    have hset : ReportsOnly x (x.onCu fun u => { u with e := 0, n := 0, zeroRequest := false, teRange := false }) := .of_sl rfl rfl
    unfold zeroTimeErrorNow endCorrection
    simp only []
    split
    · exact hset
    · exact hset.trans (ReportsOnly.trans (t := (x.onCu fun u => { u with e := 0, n := 0, zeroRequest := false, teRange := false }).onCu fun u =>
        { u with correction := .inactive }) (.of_sl rfl rfl) (post_reportsOnly _ _))
  have hsecond : ReportsOnly s (s.onCu CalendarUnit.second) := .of_sl rfl rfl
  unfold secondPassed
  split
  · exact hsecond.trans (hzero _)
  · exact hsecond

/-- What a calendar second leaves of feeder `i`; `a` is its account before the cap is checked. -/
structure SecondMetered (i : Fin 12) (a : Account) (s t : State) : Prop where
  account : ∃ n, t.account i = { a with capTrips := n, dayMax := if t.cu.calendar.atMidnight then 0 else a.dayMax } ∧ (a.power = 0 → n = a.capTrips)
  low : (s.feeder i).state = .on → s.queueHas (.feeder i) = false → a.power ≤ (s.feeder i).profile.cap →
    (t.account i).capTrips = a.capTrips ∧ t.feeder i = { s.feeder i with capCounter := 0 }
  counted : (s.feeder i).state = .on → s.queueHas (.feeder i) = false → (s.feeder i).profile.cap < a.power → s.capCount i < (s.feeder i).profile.capTime →
    (t.account i).capTrips = a.capTrips ∧ t.feeder i = { s.feeder i with capCounter := s.capCount i }
  tripped : (s.feeder i).state = .on → s.queueHas (.feeder i) = false → (s.feeder i).profile.cap < a.power → (s.feeder i).profile.capTime ≤ s.capCount i →
    (t.account i).capTrips = min 65535 (a.capTrips + 1) ∧ s.Opened t i .capped
      ∧ s.reportsSince t (.cap i a.power (s.feeder i).profile.cap (s.feeder i).profile.capTime (min 65535 (a.capTrips + 1)))

/-- What a second hands on and evaluates after the metering leaves of the feeders. -/
structure AfterMetering (u t : State) : Prop where
  account : ∀ i, t.account i = { u.account i with dayMax := if t.cu.calendar.atMidnight then 0 else (u.account i).dayMax }
  feeder : ∀ i, t.feeder i = u.feeder i
  table : ∀ o, t.tableHas o = u.tableHas o
  bands : t.mu.bands = u.mu.bands
  index : t.mu.index = u.mu.index
  link : ReportsKept u t

theorem evaluateTime_after (u : State) : AfterMetering u (evaluateTime (hourEvents u)) := by
  obtain ⟨haccount, hbands, hindex⟩ := hourEvents_accounts u
  have hhour := (hourEvents_frame u).1
  have hlink := (hourEvents_reportsKept u).trans (evaluateTime_reportsOnly (hourEvents u)).kept_sight
  have hframe := evaluateTime_frame (hourEvents u)
  have hcalendar : (evaluateTime (hourEvents u)).cu.calendar = u.cu.calendar := by
    rw [evaluateTime_cu, show (hourEvents u).cu = u.cu from hourEvents_cu u]
    rfl
  have hmu : (evaluateTime (hourEvents u)).mu = (hourEvents u).mu := by rw [hframe]
  have hfu : (evaluateTime (hourEvents u)).fu = u.fu := by
    rw [hframe]
    show (hourEvents u).fu = u.fu
    rw [hhour]
  have hda : (evaluateTime (hourEvents u)).da = u.da := by
    rw [hframe]
    show (hourEvents u).da = u.da
    rw [hhour]
  refine ⟨fun i => ?_, fun i => congrArg (fun f : FeederUnit => f.feeders[i]) hfu, fun o => ?_, by rw [hmu, hbands], by rw [hmu, hindex], hlink⟩
  · rw [hcalendar, ← haccount]
    exact congrArg (fun m : MeteringUnit => m.accounts[i]) hmu
  · unfold State.tableHas
    rw [hda]

/-- R154: the account of a feeder at a second, before the cap is checked. -/
def secondAccount (products : Vector (BitVec 24) 12) (s : State) (i : Fin 12) : Account :=
  (s.account i).metered (decide ((s.feeder i).state = .on)) (tariffIndex s.mu.bands s.cu.second.calendar.minuteOfDay) (feederPower products s i)

/-- R154: the tariff index and the bands are `still`. -/
theorem bands_of_still {s t : State} (h : t.still = s.still) : t.mu.index = s.mu.index ∧ t.mu.bands = s.mu.bands := by
  have hindex : t.still.mu.index = s.still.mu.index := by rw [h]
  have hbands : t.still.mu.bands = s.still.mu.bands := by rw [h]
  exact ⟨hindex, hbands⟩

theorem meterSecond_checks (products : Vector (BitVec 24) 12) (s : State) :
    meterSecond products s = allFeeders.foldl (fun s i => capCheck arbitrate i s) (metered products s) := rfl

theorem capChecks_still (s : State) : (allFeeders.foldl (fun s i => capCheck arbitrate i s) s).still = s.still :=
  List.foldlRecOn (motive := fun y : State => y.still = s.still) _ _ rfl fun y hy i _ => (still_capCheck arbitrate_keeps i y).trans hy

theorem calendarSecond_metered (products : Vector (BitVec 24) 12) {s : State} (hp : s.powered = true) :
    let t := calendarSecond products s
    t.mu.bands = s.mu.bands ∧ t.mu.index = tariffIndex s.mu.bands t.cu.calendar.minuteOfDay ∧ t.cu.calendar = s.cu.second.calendar
    ∧ ∀ i, SecondMetered i (secondAccount products s i) s t := by
  intro t
  have hx := secondPassed_frame s
  have hlinkx := secondPassed_reportsOnly s
  have hcalendar : t.cu.calendar = s.cu.second.calendar := by
    rw [show t.cu = _ from (calendarSecond_cu products s).1, passed_eq]
  have hcalendarx : (secondPassed s).cu.calendar = s.cu.second.calendar := by rw [hx, passed_eq]
  have ht : t = evaluateTime (hourEvents (meterSecond products (secondPassed s))) := by
    show calendarSecond products s = _
    rw [calendarSecond_eq, handSecond_on products (by rw [hx]; exact hp)]
  have hmetered := meterSecond_feeder products (secondPassed s)
  have hkept := metered_kept products (secondPassed s)
  have haccounts := metered_account products (secondPassed s)
  have hmu : (meterSecond products (secondPassed s)).mu.index = (metered products (secondPassed s)).mu.index
      ∧ (meterSecond products (secondPassed s)).mu.bands = (metered products (secondPassed s)).mu.bands := by
    rw [meterSecond_checks]
    exact bands_of_still (capChecks_still _)
  rw [hcalendar, ht]
  have hafter := evaluateTime_after (meterSecond products (secondPassed s))
  generalize evaluateTime (hourEvents (meterSecond products (secondPassed s))) = v at *
  generalize meterSecond products (secondPassed s) = u at *
  generalize metered products (secondPassed s) = w at *
  have hpower : ∀ i, feederPower products (secondPassed s) i = feederPower products s i := fun i => by
    unfold feederPower
    rw [hx]
  have hmux : (secondPassed s).mu = s.mu := by rw [hx]
  have hdaw : w.da = s.da := by
    rw [hkept.rest]
    show (secondPassed s).da = s.da
    rw [hx]
  have hfeeder : ∀ i, w.feeder i = s.feeder i := fun i => by
    rw [hkept.feeders]
    show (secondPassed s).feeder i = s.feeder i
    rw [hx]
    rfl
  have haccount : ∀ i, w.account i = secondAccount products s i := fun i => by
    rw [haccounts, hcalendarx, hpower, hmux]
    unfold secondAccount State.account State.feeder
    rw [hx]
  have hlinkw : ReportsOnly s w := by
    refine hlinkx.trans (.of_sl ?_ ?_)
    · rw [hkept.rest]
      rfl
    · rw [hkept.rest]
      rfl
  obtain ⟨hvaccount, hvfeeder, hvtable, hvbands, hvindex, hvlink⟩ := hafter
  refine ⟨?_, ?_, rfl, fun i => ?_⟩
  · rw [hvbands, hmu.2, hkept.bands]
    show (secondPassed s).mu.bands = s.mu.bands
    rw [hmux]
  · rw [hvindex, hmu.1, hkept.index, ← hcalendarx, ← hmux]
    rfl
  · obtain ⟨hacc, hlink, hlow, hcounted, htripped⟩ := hmetered i
    have hq : w.queueHas (.feeder i) = s.queueHas (.feeder i) := by
      unfold State.queueHas
      rw [hdaw]
    have hcap : w.capCount i = s.capCount i := by
      unfold State.capCount
      rw [hfeeder]
    have hvcap : (v.account i).capTrips = (u.account i).capTrips := by rw [hvaccount]
    simp only [haccount, hfeeder, hq, hcap] at hacc hlow hcounted htripped
    refine ⟨?_, fun hon hq hc => ?_, fun hon hq hc hn => ?_, fun hon hq hc hn => ?_⟩
    · obtain ⟨n, hn, hzero⟩ := hacc
      exact ⟨n, by rw [hvaccount, hn], hzero⟩
    · obtain ⟨ha, hf⟩ := hlow hon hq hc
      exact ⟨by rw [hvcap, ha], (hvfeeder i).trans hf⟩
    · obtain ⟨ha, hf⟩ := hcounted hon hq hc hn
      exact ⟨by rw [hvcap, ha], (hvfeeder i).trans hf⟩
    · obtain ⟨ha, ⟨hf, ht⟩, hreport⟩ := htripped hon hq hc hn
      rw [hfeeder] at hf
      exact ⟨by rw [hvcap, ha], ⟨(hvfeeder i).trans hf, (hvtable _).trans ht⟩, hvlink _ _ (hlinkw.since hlink (hreport (hlinkw.power.trans hp)))⟩

theorem atMidnight_iff (c : Calendar) : c.atMidnight = true ↔ c.hour = 0 ∧ c.minute = 0 ∧ c.second = 0 := by
  unfold Calendar.atMidnight
  rw [Bool.and_eq_true, decide_eq_true_eq, decide_eq_true_eq]
  exact ⟨fun ⟨⟨hm, hs⟩, hh⟩ => ⟨hh, hm, hs⟩, fun ⟨hh, hm, hs⟩ => ⟨⟨hm, hs⟩, hh⟩⟩

theorem secondAccount_off {products : Vector (BitVec 24) 12} {s : State} {i : Fin 12} (h : (s.feeder i).state ≠ .on) :
    secondAccount products s i = { s.account i with power := 0 } := by
  unfold secondAccount
  rw [decide_eq_false h]
  rfl

theorem secondAccount_on {products : Vector (BitVec 24) 12} {s : State} {i : Fin 12} (h : (s.feeder i).state = .on) :
    secondAccount products s i = (s.account i).count (tariffIndex s.mu.bands s.cu.second.calendar.minuteOfDay) (feederPower products s i) := by
  unfold secondAccount
  rw [decide_eq_true h]
  rfl

/-- R154: the Wh register of the index in force is raised. -/
theorem raisedWh (a : Account) (index : Fin 4) (p : Nat) (j : Fin 4) : (a.count index p).wh[j] =
    if j = index then min 4294967295 (a.wh[j] + (a.residue + p) / 3600) else a.wh[j] := by
  show (a.wh.set index (raiseWh a.wh[index] ((a.residue + p) / 3600)))[j.val] = _
  rw [Vector.getElem_set]
  by_cases h : j = index
  · subst h
    rw [if_pos rfl, if_pos rfl]
    rfl
  · rw [if_neg (fun hk => h (Fin.ext hk.symm)), if_neg h]
    rfl

/-- Settles O45: the tariff index, the registers of every feeder, and its cap. -/
theorem meteringSecond : Obligations.MeteringSecond := by
  intro products s hp
  obtain ⟨hbands, hindex, hcalendar, hall⟩ := calendarSecond_metered products hp
  refine ⟨calendarSecond products s, rfl, hbands, ⟨fun h => ?_, fun front back b h hb hback => ?_, fun front b h hall => ?_⟩, fun i => ?_⟩
  · rw [hindex, h, tariffIndex_nil]
  · rw [hindex, h]
    exact tariffIndex_started hb hback
  · rw [hindex, h]
    exact tariffIndex_wrapped (h ▸ hall)
  · intro d a product midnight p
    obtain ⟨⟨n, hn, hzero⟩, hlow, hcounted, htripped⟩ := hall i
    rw [hcalendar] at hindex
    have hdayMax : ∀ m : Nat, (if (calendarSecond products s).cu.calendar.atMidnight then 0 else m) = if midnight then 0 else m := fun m =>
      if_congr (atMidnight_iff _) rfl rfl
    rw [hdayMax] at hn
    have hp' : p = (secondAccount products s i).power := by
      show ((calendarSecond products s).account i).power = _
      rw [hn]
    refine ⟨fun hoff => ?_, fun hon => ?_, fun hm => ?_, ?_⟩
    · rw [secondAccount_off hoff] at hn hp' hzero
      rw [hp', hn]
      exact ⟨rfl, rfl, rfl, rfl, fun hm => if_neg hm, hzero rfl⟩
    · have hcount := secondAccount_on (products := products) hon
      rw [hcount] at hn hp' hlow hcounted htripped
      rw [← hindex] at hn
      have hpower : p = powerOf products[i] s.store.commissioning.factors[i] := hp'
      refine ⟨fun h => ?_, fun h => ?_, ?_, fun j => ?_, ?_, fun hm => ?_, fun hc hs => ?_, fun hc hcnt hs => ?_, fun hc hcnt hs => ?_⟩
      · rw [hpower]
        exact powerOf_low h
      · rw [hpower]
        exact powerOf_bounds h
      · rw [hn, hpower]
        rfl
      · rw [hn, hpower]
        exact raisedWh _ _ _ j
      · rw [hn]
        rfl
      · rw [hn, hpower]
        exact if_neg hm
      · obtain ⟨hcap, hf⟩ := hlow hon (consistent_on hs hon).2 (by rw [← hp']; exact hc)
        exact ⟨hf, hcap⟩
      · obtain ⟨hcap, hf⟩ := hcounted hon (consistent_on hs hon).2 (by rw [← hp']; exact hc) hcnt
        exact ⟨hf, hcap⟩
      · obtain ⟨hcap, hopened, hreport⟩ := htripped hon (consistent_on hs hon).2 (by rw [← hp']; exact hc) hcnt
        rw [← hp'] at hreport
        exact ⟨hopened, hcap, hreport⟩
    · rw [hn]
      exact if_pos hm
    · rw [hn]
      show (secondAccount products s i).shedCount = a.shedCount
      unfold secondAccount Account.metered
      split <;> rfl

end Sys2Proof.Machine

/-! PROOFS. What the arbiter over the array may do to the Account Store when it chooses its next work (R166, R167). -/

namespace Sys2Proof.Machine

/-- R166, R167: an arbiter's choice starts work: the jobs and the checkpoint keep what they hold, the journal its index and its next
sequence; a job or a checkpoint that may not run stays as it is. -/
structure Kicked (a b : AccountStore) : Prop where
  array : b.array = a.array
  protect : b.protect = a.protect
  fault : b.fault = a.fault
  configDefault : b.configDefault = a.configDefault
  startup : b.startup = a.startup
  config : ∃ n, b.configJob = a.configJob.map fun j => { j with started := n }
  tariff : ∃ n, b.tariffJob = a.tariffJob.map fun j => { j with started := n }
  checkpoint : ∃ n p, b.checkpoint = a.checkpoint.map fun c => { c with started := n, firstPage := p }
  journal : ∃ w, b.journal = a.journal.map fun j => { j with writePos := w }
  configStill : a.configMayRun = false → b.configJob = a.configJob
  tariffStill : a.tariffMayRun = false → b.tariffJob = a.tariffJob
  journalStill : a.checkpointMayRun = false → b.journal = a.journal
  pending : a.erase = none ∨ a.state ≠ .ready → ∀ k, a.erasePending k = true → b.erasePending k = true

theorem config_self (x : Option ConfigJob) : ∃ n, x = x.map fun j => { j with started := n } := by
  cases x with
  | none => exact ⟨0, rfl⟩
  | some j => exact ⟨j.started, rfl⟩

theorem tariff_self (x : Option TariffJob) : ∃ n, x = x.map fun j => { j with started := n } := by
  cases x with
  | none => exact ⟨0, rfl⟩
  | some j => exact ⟨j.started, rfl⟩

theorem checkpoint_self (x : Option Checkpoint) : ∃ n p, x = x.map fun c => { c with started := n, firstPage := p } := by
  cases x with
  | none => exact ⟨0, none, rfl⟩
  | some c => exact ⟨c.started, c.firstPage, rfl⟩

theorem journal_self (x : Option Journal) : ∃ w, x = x.map fun j => { j with writePos := w } := by
  cases x with
  | none => exact ⟨0, rfl⟩
  | some j => exact ⟨j.writePos, rfl⟩

theorem Kicked.refl (a : AccountStore) : Kicked a a :=
  ⟨rfl, rfl, rfl, rfl, rfl, config_self _, tariff_self _, checkpoint_self _, journal_self _, fun _ => rfl, fun _ => rfl, fun _ => rfl, fun _ _ h => h⟩

theorem startProgram_kicked {next : StoreState} {a b : AccountStore} (h : a.startProgram next = some b) : Kicked a b := by
  unfold AccountStore.startProgram at h
  split at h
  · next hrun =>
    split at h
    · next c j hc hj =>
      cases h
      refine ⟨rfl, rfl, rfl, rfl, rfl, config_self _, tariff_self _, ⟨_, _, by rw [hc]; rfl⟩, ⟨_, by rw [hj]; rfl⟩, fun _ => rfl, fun _ => rfl,
        fun hno => ?_, fun _ _ h => h⟩
      exact absurd (hno.symm.trans hrun) (by decide)
    · cases h
  · split at h
    · next hrun =>
      obtain ⟨j, hj, rfl⟩ := Option.map_eq_some_iff.mp h
      exact ⟨rfl, rfl, rfl, rfl, rfl, ⟨_, by rw [hj]; rfl⟩, tariff_self _, checkpoint_self _, journal_self _,
        fun hno => absurd (hno.symm.trans hrun) (by decide), fun _ => rfl, fun _ => rfl, fun _ _ h => h⟩
    · split at h
      · next hrun =>
        obtain ⟨j, hj, rfl⟩ := Option.map_eq_some_iff.mp h
        exact ⟨rfl, rfl, rfl, rfl, rfl, config_self _, ⟨_, by rw [hj]; rfl⟩, checkpoint_self _, journal_self _, fun _ => rfl,
          fun hno => absurd (hno.symm.trans hrun) (by decide), fun _ => rfl, fun _ _ h => h⟩
      · cases h

/-- R168: a waiting erase that starts is pending still. -/
theorem startErase_kicked {a : AccountStore} (hready : a.state = .ready) : Kicked a a.startErase := by
  unfold AccountStore.startErase
  split
  · next k rest hk =>
    refine ⟨rfl, rfl, rfl, rfl, rfl, config_self _, tariff_self _, checkpoint_self _, journal_self _, fun _ => rfl, fun _ => rfl, fun _ => rfl,
      fun he l hl => ?_⟩
    obtain he | he := he
    · unfold AccountStore.erasePending at hl ⊢
      rw [he, hk] at hl
      have hl : l = k ∨ rest.contains l = true := by
        simpa only [Option.any_none, Bool.false_or, List.contains_cons, Bool.or_eq_true, beq_iff_eq] using hl
      show (decide (k = l) || rest.contains l) = true
      obtain rfl | hl := hl
      · rw [decide_eq_true rfl, Bool.true_or]
      · rw [hl, Bool.or_true]
    · exact absurd hready he
  · exact .refl a

theorem chooseWork_kicked {a : AccountStore} (hready : a.state = .ready) : Kicked a a.chooseWork := by
  unfold AccountStore.chooseWork
  split
  · next h => exact startProgram_kicked h
  · exact startErase_kicked hready

/-- R179: what a page read may change of the store. -/
def ReadOnly (a b : AccountStore) : Prop := b = { a with readRequest := b.readRequest, readJob := b.readJob }

theorem ReadOnly.trans {a b c : AccountStore} (h : ReadOnly a b) (k : ReadOnly b c) : ReadOnly a c := by
  unfold ReadOnly at h k ⊢
  rw [k, h]

theorem reply_store (r : Result) (content : List Byte) (s : State) : (reply r content s).store = s.store := by
  unfold reply answer transmitArbitrate
  repeat' split
  all_goals rfl

theorem pageRead_readOnly (p : Fin 224) (s : State) : ReadOnly s.store (pageRead p s).store := by
  unfold pageRead
  simp only []
  repeat' split
  · rfl
  · rw [reply_store]; rfl
  · rfl

theorem serveReads_readOnly (n : Nat) (s : State) : ReadOnly s.store (serveReads n s).store := by
  induction n generalizing s with
  | zero => rfl
  | succ n ih =>
    unfold serveReads
    split
    · exact (pageRead_readOnly _ s).trans (ih _)
    · rfl

theorem Kicked.of_readOnly {a b c : AccountStore} (h : ReadOnly a b) (k : Kicked b c) : Kicked a c := by
  unfold ReadOnly at h
  generalize b.readRequest = r, b.readJob = q at h
  subst h
  exact ⟨k.array, k.protect, k.fault, k.configDefault, k.startup, k.config, k.tariff, k.checkpoint, k.journal, k.configStill, k.tariffStill,
    k.journalStill, k.pending⟩

theorem kick_kicked (s : State) : Kicked s.store (kick s).store := by
  unfold kick
  split
  · next hready =>
    have hread := serveReads_readOnly 2 s
    have hstate : (serveReads 2 s).store.state = .ready := by rw [hread]; exact hready
    exact .of_readOnly hread (chooseWork_kicked hstate)
  · split
    · exact ⟨rfl, rfl, rfl, rfl, rfl, config_self _, tariff_self _, checkpoint_self _, journal_self _, fun _ => rfl, fun _ => rfl, fun _ => rfl,
        fun _ _ h => h⟩
    · exact .refl _
  all_goals exact .refl _

/-- R166: without a read request, a READY store chooses its work. -/
theorem kick_ready {s : State} (hready : s.store.state = .ready) (hread : s.store.readRequest = none) :
    kick s = s.onStore AccountStore.chooseWork := by
  unfold kick serveReads
  rw [hready, hread]

/-- R166: a store without a program that may run starts its oldest waiting erase. -/
theorem chooseWork_of_none {a : AccountStore} (hc : a.checkpointMayRun = false) (hi : a.configMayRun = false) (ht : a.tariffMayRun = false) :
    a.chooseWork = a.startErase := by
  unfold AccountStore.chooseWork AccountStore.startProgram
  simp [hc, hi, ht]

theorem startErase_cons {a : AccountStore} {k : Fin 16} {rest : List (Fin 16)} (h : a.waitingErases = k :: rest) :
    a.startErase = { a with state := .erasing, erase := some { sector := k, remaining := 400, progress := 0 }, waitingErases := rest } := by
  unfold AccountStore.startErase
  rw [h]
  rfl

theorem requestErase_pending (k : Fin 16) (a : AccountStore) : (a.requestErase k).erasePending k = true := by
  unfold AccountStore.requestErase
  split
  · assumption
  · simp [AccountStore.erasePending]

theorem requestErase_free {k : Fin 16} {a : AccountStore} (he : a.erase = none) (hw : a.waitingErases = []) :
    a.requestErase k = { a with waitingErases := [k] } := by
  have hno : a.erasePending k = false := by simp [AccountStore.erasePending, he, hw]
  unfold AccountStore.requestErase
  simp [hno, hw]

theorem requestErase_eq (k : Fin 16) (a : AccountStore) : ∃ w, a.requestErase k = { a with waitingErases := w } := by
  unfold AccountStore.requestErase
  split
  · exact ⟨_, rfl⟩
  · exact ⟨_, rfl⟩

/-- R166, R178: a store with nothing to do starts the erase that is asked for at once. -/
theorem kick_erase {s : State} {k : Fin 16} (hready : s.store.state = .ready) (he : s.store.erase = none) (hw : s.store.waitingErases = [])
    (hr : s.store.readRequest = none) (hc : s.store.checkpoint = none) (hi : s.store.configMayRun = false) (ht : s.store.tariffMayRun = false) :
    (kick (s.onStore fun a => a.requestErase k)).store
      = { s.store with state := .erasing, erase := some { sector := k, remaining := 400, progress := 0 }, waitingErases := [] } := by
  have hreq : (s.onStore fun a => a.requestErase k) = s.onStore fun a => { a with waitingErases := [k] } := by
    unfold State.onStore
    beta_reduce
    rw [requestErase_free he hw]
  have hnone : ({ s.store with waitingErases := [k] } : AccountStore).checkpointMayRun = false := by
    unfold AccountStore.checkpointMayRun
    simp [hc]
  rw [hreq, kick_ready (s := s.onStore fun a => { a with waitingErases := [k] }) hready hr]
  exact (chooseWork_of_none (a := { s.store with waitingErases := [k] }) hnone hi ht).trans (startErase_cons rfl)

end Sys2Proof.Machine

/-! PROOFS. UNPROTECT, WRITE_COMMISSION, STORE_CONFIG and SET_TARIFF (R159, R170, R171, R173). -/

namespace Sys2Proof.Machine

/-! ### A band table's bytes (R158, R159, R198) -/

/-- The bytes of bands as a computer sends them. -/
def sentBands (bands : List (Nat × Byte)) : List Byte := bands.flatMap fun b => u16 b.1 ++ [b.2]

/-- What SET_TARIFF's body carries. -/
def sentTable (bands : List (Nat × Byte)) : List Byte := u8 bands.length ++ sentBands bands

/-- R159, test 2. -/
def GoodBands (bands : List (Nat × Byte)) : Prop :=
  bands.length ≤ 8 ∧ (∀ b ∈ bands, b.1 ≤ 1439 ∧ b.2.toNat < 4) ∧ bands.Pairwise fun a b => a.1 < b.1

/-- A band as a computer sends it. -/
def Band.sent (b : Band) : Nat × Byte := (b.start, BitVec.ofNat 8 b.index.val)

theorem sent_mk {start : Nat} {b : Byte} (h : b.toNat < 4) : Band.sent { start := start, index := ⟨b.toNat, h⟩ } = (start, b) := by
  simp [Band.sent]

theorem sentBands_length (bands : List (Nat × Byte)) : (sentBands bands).length = 3 * bands.length := by
  induction bands with
  | nil => rfl
  | cons b bands ih =>
    have hcons : sentBands (b :: bands) = (u16 b.1 ++ [b.2]) ++ sentBands bands := List.flatMap_cons
    rw [hcons, List.length_append, ih, List.length_cons]
    show 3 + 3 * bands.length = _
    omega

theorem decodeBands_cons {b : Nat × Byte} (hb : b.1 < 65536) (n : Nat) (rest : List Byte) :
    decodeBands (n + 1) ((u16 b.1 ++ [b.2]) ++ rest) = if h : b.2.toNat < 4 then
      (decodeBands n rest).map fun more => { start := b.1, index := ⟨b.2.toNat, h⟩ } :: more else none := by
  have h16 : u16At ((u16 b.1 ++ [b.2]) ++ rest) 0 = b.1 := by
    rw [List.append_assoc]
    exact u16At_u16 hb _
  conv_lhs => unfold decodeBands
  rw [h16]
  rfl

/-- R159: the indices alone decide whether bands can be read; what is read is what was sent. -/
theorem decodeBands_sent {bands : List (Nat × Byte)} (hlow : ∀ b ∈ bands, b.1 < 65536) :
    (¬(∀ b ∈ bands, b.2.toNat < 4) → decodeBands bands.length (sentBands bands) = none)
    ∧ ((∀ b ∈ bands, b.2.toNat < 4) → ∃ taken, decodeBands bands.length (sentBands bands) = some taken ∧ taken.map Band.sent = bands) := by
  induction bands with
  | nil => exact ⟨fun h => absurd (fun _ hb => absurd hb List.not_mem_nil) h, fun _ => ⟨[], rfl, rfl⟩⟩
  | cons b bands ih =>
    obtain ⟨hbad, hgood⟩ := ih fun x hx => hlow x (List.mem_cons_of_mem _ hx)
    have hcons : decodeBands (b :: bands).length (sentBands (b :: bands)) = _ :=
      decodeBands_cons (hlow b List.mem_cons_self) bands.length (sentBands bands)
    rw [hcons]
    refine ⟨fun h => ?_, fun h => ?_⟩
    · split
      · next hb =>
        rw [hbad fun hall => h fun x hx => (List.mem_cons.mp hx).elim (fun e => e ▸ hb) (hall x), Option.map_none]
      · rfl
    · obtain ⟨taken, htaken, hmap⟩ := hgood fun x hx => h x (List.mem_cons_of_mem _ hx)
      have hb := h b List.mem_cons_self
      rw [dif_pos hb, htaken, Option.map_some]
      refine ⟨_, rfl, ?_⟩
      rw [List.map_cons, sent_mk, hmap]

theorem ascending_iff (bands : List Band) : ascending bands = true ↔ bands.Pairwise fun a b => a.start < b.start := by
  have hchain : ascending bands = true ↔ bands.IsChain fun a b => a.start < b.start := by
    induction bands with
    | nil => exact ⟨fun _ => .nil, fun _ => rfl⟩
    | cons a bands ih =>
      cases bands with
      | nil => exact ⟨fun _ => .singleton a, fun _ => rfl⟩
      | cons b bands =>
        rw [List.isChain_cons_cons, ← ih]
        simp [ascending]
  have htrans : IsTrans Band fun a b => a.start < b.start := ⟨fun _ _ _ => Nat.lt_trans⟩
  rw [hchain, List.isChain_iff_pairwise]

theorem bandBytes_of_sent {taken : List Band} {bands : List (Nat × Byte)} (h : taken.map Band.sent = bands) :
    bandBytes taken = sentTable bands := by
  subst h
  unfold bandBytes sentTable sentBands
  rw [List.length_map, List.flatMap_map]
  rfl

/-- R159: a body's table is taken exactly where it is good, and as it was sent. -/
theorem bandTable_sent {bands : List (Nat × Byte)} (hlen : bands.length < 256) (hlow : ∀ b ∈ bands, b.1 < 65536) :
    (¬GoodBands bands → bandTable? (sentTable bands) = none)
    ∧ (GoodBands bands → ∃ taken, bandTable? (sentTable bands) = some taken ∧ taken.map Band.sent = bands) := by
  obtain ⟨hbad, hgood⟩ := decodeBands_sent hlow
  have hcount : u8At (sentTable bands) 0 = bands.length := u8At_u8 hlen _
  have hdrop : (sentTable bands).drop 1 = sentBands bands := rfl
  have hpair : ∀ taken : List Band, taken.map Band.sent = bands →
      ((taken.all (fun b => decide (b.start ≤ 1439)) && ascending taken) = true
        ↔ (∀ b ∈ bands, b.1 ≤ 1439) ∧ bands.Pairwise fun a b => a.1 < b.1) := by
    rintro taken rfl
    rw [Bool.and_eq_true, ascending_iff, List.pairwise_map, List.all_eq_true, List.forall_mem_map]
    simp [Band.sent]
  unfold bandTable?
  rw [hcount, hdrop]
  refine ⟨fun hno => ?_, fun ⟨h8, hbands, hup⟩ => ?_⟩
  · split
    · next h8 =>
      by_cases hidx : ∀ b ∈ bands, b.2.toNat < 4
      · obtain ⟨taken, htaken, hmap⟩ := hgood hidx
        simp only [htaken]
        refine if_neg fun h => hno ?_
        obtain ⟨h1, h2⟩ := (hpair taken hmap).mp h
        exact ⟨h8, fun b hb => ⟨h1 b hb, hidx b hb⟩, h2⟩
      · simp only [hbad hidx]
    · rfl
  · obtain ⟨taken, htaken, hmap⟩ := hgood fun b hb => (hbands b hb).2
    refine ⟨taken, ?_, hmap⟩
    rw [if_pos h8, htaken]
    exact if_pos ((hpair taken hmap).mpr ⟨fun b hb => (hbands b hb).1, hup⟩)

/-! ### The jobs of STORE_CONFIG and SET_TARIFF -/

/-- R166: the store has nothing to do. -/
structure AccountStore.Idle (a : AccountStore) : Prop where
  ready : a.state = .ready
  checkpoint : a.checkpoint = none
  config : a.configJob = none
  tariff : a.tariffJob = none
  waiting : a.waitingErases = []
  read : a.readRequest = none

/-- R173: the job that STORE_CONFIG makes. -/
def configJobOf (c : ConfigImage) : ConfigJob := { image := c.stored, erased := false, started := 0 }

theorem takeStoreConfig_eq (s : State) : takeStoreConfig s =
    kick ((s.onStore fun a => { a with configJob := some (configJobOf (currentImage s)) }).onStore fun a => a.requestErase 0) := rfl

theorem onStore_requestErase (k : Fin 16) (s : State) : ∃ w, (s.onStore fun a => a.requestErase k).store = { s.store with waitingErases := w } :=
  requestErase_eq k s.store

/-- R173, R178: a taken STORE_CONFIG makes its job and the erase of sector 0. -/
theorem takeStoreConfig_job {s : State} (he : s.store.state = .ready → s.store.erase = none) :
    (takeStoreConfig s).store.configJob = some (configJobOf (currentImage s)) ∧ (takeStoreConfig s).store.erasePending 0 = true
    ∧ (takeStoreConfig s).store.protect = s.store.protect ∧ (takeStoreConfig s).store.array = s.store.array := by
  have hk := kick_kicked ((s.onStore fun a => { a with configJob := some (configJobOf (currentImage s)) }).onStore fun a => a.requestErase 0)
  obtain ⟨w, hw⟩ := onStore_requestErase 0 (s.onStore fun a => { a with configJob := some (configJobOf (currentImage s)) })
  have hp := requestErase_pending 0 { s.store with configJob := some (configJobOf (currentImage s)) }
  rw [takeStoreConfig_eq]
  refine ⟨(hk.configStill (by rw [hw]; rfl)).trans (by rw [hw]; rfl), hk.pending ?_ 0 hp, hk.protect.trans (by rw [hw]; rfl),
    hk.array.trans (by rw [hw]; rfl)⟩
  rw [hw]
  by_cases h : s.store.state = .ready
  · exact .inl (he h)
  · exact .inr h

theorem takeStoreConfig_idle {s : State} (h : s.store.Idle) (he : s.store.erase = none) :
    (takeStoreConfig s).store.state = .erasing
    ∧ (takeStoreConfig s).store.erase = some { sector := 0, remaining := 400, progress := 0 } := by
  rw [takeStoreConfig_eq, kick_erase (s := s.onStore fun a => { a with configJob := some (configJobOf (currentImage s)) })
    h.ready he h.waiting h.read h.checkpoint rfl (by simp [AccountStore.tariffMayRun, h.tariff])]
  exact ⟨rfl, rfl⟩

theorem takeStoreConfig_frame (s : State) : OnlyLinkAndStore s (takeStoreConfig s) :=
  .trans (onlyLinkAndStore_onStore s _) (onlyLinkAndStore_kick _)

/-- R174: the job that SET_TARIFF makes. -/
def tariffJobOf (bands : List Band) : TariffJob :=
  { record := bandBytes bands ++ crcField (bandBytes bands), erased := false, started := 0 }

/-- R159: the pending table. -/
def State.pendingTariff (s : State) (bands : List Band) : State := s.onMu fun u => { u with pendingBands := some bands }

theorem takeTariff_eq (bands : List Band) (s : State) : takeTariff bands s =
    kick (((s.pendingTariff bands).onStore fun a => { a with tariffJob := some (tariffJobOf bands) }).onStore fun a => a.requestErase 1) := rfl

/-- R174, R178: a taken SET_TARIFF makes its job and the erase of sector 1. -/
theorem takeTariff_job {s : State} (bands : List Band) (he : s.store.state = .ready → s.store.erase = none) :
    (takeTariff bands s).store.tariffJob = some (tariffJobOf bands) ∧ (takeTariff bands s).store.erasePending 1 = true := by
  have hk := kick_kicked (((s.pendingTariff bands).onStore fun a => { a with tariffJob := some (tariffJobOf bands) }).onStore fun a =>
    a.requestErase 1)
  obtain ⟨w, hw⟩ := onStore_requestErase 1 ((s.pendingTariff bands).onStore fun a => { a with tariffJob := some (tariffJobOf bands) })
  have hp := requestErase_pending 1 { s.store with tariffJob := some (tariffJobOf bands) }
  rw [takeTariff_eq]
  refine ⟨(hk.tariffStill (by rw [hw]; rfl)).trans (by rw [hw]; rfl), hk.pending ?_ 1 hp⟩
  rw [hw]
  by_cases h : s.store.state = .ready
  · exact .inl (he h)
  · exact .inr h

theorem takeTariff_idle {s : State} (bands : List Band) (h : s.store.Idle) (he : s.store.erase = none) :
    (takeTariff bands s).store.state = .erasing
    ∧ (takeTariff bands s).store.erase = some { sector := 1, remaining := 400, progress := 0 } := by
  rw [takeTariff_eq, kick_erase (s := (s.pendingTariff bands).onStore fun a => { a with tariffJob := some (tariffJobOf bands) })
    h.ready he h.waiting h.read h.checkpoint (by
      show s.store.configMayRun = false
      simp [AccountStore.configMayRun, h.config]) rfl]
  exact ⟨rfl, rfl⟩

theorem takeTariff_frame (bands : List Band) (s : State) : OnlyLinkAndStore (s.pendingTariff bands) (takeTariff bands s) :=
  .trans (onlyLinkAndStore_onStore _ _) (onlyLinkAndStore_kick _)

/-! ### The commands -/

theorem serveStoreConfig_protected {s : State} (h : s.store.protect = true) : serveStoreConfig [] s = reply .protected_ [] s := by
  unfold serveStoreConfig
  rw [withLength_nil]
  exact if_pos h

theorem serveStoreConfig_busy {s : State} (h : s.store.protect = false) (hj : s.store.configJob.isSome = true) :
    serveStoreConfig [] s = reply .busy [] s := by
  unfold serveStoreConfig
  rw [withLength_nil]
  exact (if_neg (by simp [h])).trans (if_pos hj)

theorem serveStoreConfig_taken {s : State} (h : s.store.protect = false) (hj : s.store.configJob = none) :
    serveStoreConfig [] s = reply .ok [] (takeStoreConfig s) := by
  unfold serveStoreConfig
  rw [withLength_nil]
  exact (if_neg (by simp [h])).trans (if_neg (by simp [hj]))

theorem serveSetTariff_length {bands : List (Nat × Byte)} (h : bands.length < 256) :
    (sentTable bands).length = 1 + 3 * u8At (sentTable bands) 0 := by
  have hcount : u8At (sentTable bands) 0 = bands.length := u8At_u8 h _
  rw [hcount, ← sentBands_length]
  show (sentBands bands).length + 1 = _
  omega

theorem serveSetTariff_none {body : List Byte} (h : body.length = 1 + 3 * u8At body 0) (ht : bandTable? body = none) (s : State) :
    serveSetTariff body s = reply .badArg [] s := by
  unfold serveSetTariff
  rw [if_neg (not_not.mpr h), ht]

theorem serveSetTariff_some {body : List Byte} (h : body.length = 1 + 3 * u8At body 0) {bands : List Band} (ht : bandTable? body = some bands)
    (s : State) : serveSetTariff body s = if s.mu.pendingBands.isSome then reply .busy [] s
      else if s.store.protect then reply .protected_ [] s else reply .ok [] (takeTariff bands s) := by
  unfold serveSetTariff
  rw [if_neg (not_not.mpr h), ht]

theorem serveWriteCommission_locked {body : List Byte} (hlen : body.length = 40) {s : State} (h : s.store.commissioning.locked = true) :
    serveWriteCommission body s = reply .locked [] s := by
  unfold serveWriteCommission
  rw [withLength_eq hlen]
  exact if_pos h

theorem serveWriteCommission_taken {body : List Byte} (hlen : body.length = 40) {s : State} (h : s.store.commissioning.locked = false) :
    serveWriteCommission body s = reply .ok [] (s.onStore fun a =>
      { a with commissioning := { a.commissioning with identity := body.take 16, factors := factorsOf body } }) := by
  unfold serveWriteCommission
  rw [withLength_eq hlen]
  exact if_neg (by simp [h])

/-- R200: the factors stand at offset 16, two bytes each. -/
theorem factorsOf_getElem (body : List Byte) (i : Fin 12) :
    (factorsOf body)[i] = (body.getD (16 + 2 * i.val) 0).toNat + 256 * (body.getD (17 + 2 * i.val) 0).toNat := by
  fin_cases i <;> rfl

/-- R159, test 2: what the model took is what the statement calls good. -/
theorem starts_eq_of_sent {taken : List Band} {bands : List (Nat × Byte)} (h : taken.map Band.sent = bands) :
    taken.map (fun b => (b.start, b.index.val)) = bands.map fun b => (b.1, b.2.toNat) := by
  subst h
  rw [List.map_map]
  refine List.map_congr_left fun b _ => ?_
  show (b.start, b.index.val) = (b.start, (BitVec.ofNat 8 b.index.val).toNat)
  rw [BitVec.toNat_ofNat, Nat.mod_eq_of_lt (by omega)]

/-- Settles O47: the refusals by the tests in their order; a taken STORE_CONFIG or SET_TARIFF by the job that it makes. -/
theorem storeCommands : Obligations.StoreCommands := by
  intro tag s hr he idle
  have hidle : idle → s.store.Idle ∧ s.store.erase = none := fun ⟨h1, h2, h3, h4, h5, h6⟩ => ⟨⟨h1, h2, h3, h4, h5, h6⟩, he h1⟩
  refine ⟨exec_replies rfl hr rfl, fun body hlen => ⟨fun hl => ?_, fun hl => ?_⟩, fun hp => ?_, fun hp => ⟨fun hj => ?_, fun hj => ?_⟩,
    ?_⟩
  · exact exec_replies rfl hr (serveWriteCommission_locked hlen hl)
  · exact ⟨_, exec_replies rfl hr (serveWriteCommission_taken hlen hl), rfl, hl, rfl, factorsOf_getElem body⟩
  · exact exec_replies rfl hr (serveStoreConfig_protected hp)
  · exact exec_replies rfl hr (serveStoreConfig_busy hp hj)
  · obtain ⟨t, hx, ha⟩ := exec_answers (c := .storeConfig tag []) rfl hr (changes_takeStoreConfig (s.serving .storeConfig tag []))
      (serveStoreConfig_taken hp hj)
    have hstore : t.store = _ := ha.proj State.store
    obtain ⟨hjob, hpend, hprot, harray⟩ := takeStoreConfig_job (s := s.serving .storeConfig tag []) he
    have hframe : OnlyLinkAndStore (s.serving .storeConfig tag []) _ := takeStoreConfig_frame _
    refine ⟨t, hx, ?_, ha.replied, ?_, ?_, ?_, ?_, fun h => ?_⟩
    · rw [hstore]
      conv_lhs => rw [ha.same, hframe]
      rfl
    · rw [hstore, hjob]; rfl
    · rw [hstore]; exact hpend
    · rw [hstore]; exact hprot.trans hp
    · rw [hstore]; exact harray
    · obtain ⟨hi, hn⟩ := hidle h
      rw [hstore]
      exact takeStoreConfig_idle (s := s.serving .storeConfig tag []) hi hn
  · intro bands hlen hlow body good
    have h256 : bands.length < 256 := by omega
    obtain ⟨hbad, hgood⟩ := bandTable_sent h256 hlow
    have hlength := serveSetTariff_length h256
    refine ⟨fun hno => exec_replies rfl hr (serveSetTariff_none hlength (hbad hno) _), fun hyes => ?_⟩
    obtain ⟨taken, ht, hmap⟩ := hgood hyes
    have hserve := serveSetTariff_some hlength ht (s.serving .setTariff tag body)
    have hfree : s.mu.pendingBands = none → ¬(s.serving .setTariff tag body).mu.pendingBands.isSome = true := fun hb =>
      Bool.not_eq_true _ ▸ Option.isSome_eq_false_iff.mpr (Option.isNone_iff_eq_none.mpr hb)
    have hopen : s.store.protect = false → ¬(s.serving .setTariff tag body).store.protect = true := fun hp =>
      Bool.not_eq_true _ ▸ hp
    refine ⟨fun hb => exec_replies rfl hr (hserve.trans (if_pos hb)), fun hb hp => ?_, fun hb hp => ?_⟩
    · exact exec_replies rfl hr (hserve.trans ((if_neg (hfree hb)).trans (if_pos hp)))
    · obtain ⟨t, hx, ha⟩ := exec_answers (c := .setTariff tag body) rfl hr (changes_takeTariff taken (s.serving .setTariff tag body))
        (hserve.trans ((if_neg (hfree hb)).trans (if_neg (hopen hp))))
      have hstore : t.store = _ := ha.proj State.store
      have hframe : OnlyLinkAndStore _ (takeTariff taken (s.serving .setTariff tag body)) := takeTariff_frame taken _
      obtain ⟨hjob, hpend⟩ := takeTariff_job (s := s.serving .setTariff tag body) taken he
      refine ⟨t, taken, hx, ha.replied, ?_, starts_eq_of_sent hmap, fun _ => ⟨?_, ?_, fun h => ?_⟩⟩
      · rw [hstore]
        conv_lhs => rw [ha.same, hframe]
        rfl
      · rw [hstore, hjob]
        unfold tariffJobOf
        rw [bandBytes_of_sent hmap]
        rfl
      · rw [hstore]; exact hpend
      · obtain ⟨hi, hn⟩ := hidle h
        rw [hstore]
        exact takeTariff_idle (s := s.serving .setTariff tag body) taken hi hn

end Sys2Proof.Machine

/-! PROOFS. What a program or an erase leaves in the array when it fails or is cut off (R165, R173, R175, R181, log 4). -/

namespace Sys2Proof.Machine

/-! ### Where the array changes -/

/-- The two arrays read the same but for `n` bytes from an address. -/
def Flash.SameBut (base n : Nat) (a b : Flash) : Prop := ∀ x, x < base ∨ base + n ≤ x → b.read x = a.read x

theorem Flash.SameBut.refl (base n : Nat) (a : Flash) : Flash.SameBut base n a a := fun _ _ => rfl

theorem Flash.SameBut.trans {base n : Nat} {a b c : Flash} (h : Flash.SameBut base n a b) (k : Flash.SameBut base n b c) :
    Flash.SameBut base n a c := fun x hx => (k x hx).trans (h x hx)

theorem Flash.SameBut.mono {base n base' n' : Nat} {a b : Flash} (h : Flash.SameBut base n a b) (hlo : base' ≤ base)
    (hhi : base + n ≤ base' + n') : Flash.SameBut base' n' a b := fun x hx => h x (by omega)

theorem Flash.sameBut_replace (m : Flash) (base n : Nat) (bytes : List Byte) : Flash.SameBut base n m (m.replace base n bytes) := by
  intro x hx
  rw [Flash.read_replace, if_neg (by omega)]

theorem Flash.read_replace_within (m : Flash) {base n k : Nat} (h : k < n) (bytes : List Byte) :
    (m.replace base n bytes).read (base + k) = bytes.getD k 0xFF := by
  rw [Flash.read_replace, if_pos (by omega), Nat.add_sub_cancel_left, List.getD_eq_getElem?_getD, List.getD_eq_getElem?_getD,
    List.getElem?_take_of_lt h]

theorem Flash.SameBut.readBytes {base n : Nat} {a b : Flash} (h : Flash.SameBut base n a b) {x l : Nat} (hx : x + l ≤ base ∨ base + n ≤ x) :
    b.readBytes x l = a.readBytes x l := by
  unfold Flash.readBytes
  refine List.map_congr_left fun i hi => h _ ?_
  have := List.mem_range.mp hi
  omega

/-- R200: the image and its CRC-16 stand in the first 313 bytes. -/
theorem Flash.SameBut.imageValid {base n : Nat} {a b : Flash} (h : Flash.SameBut base n a b) (hbase : 313 ≤ base) :
    b.imageValid = a.imageValid := by
  unfold Flash.imageValid
  rw [h.readBytes (x := 311) (.inl (by omega)), h.readBytes (x := 0) (.inl (by omega))]

/-- An operation that changes the array and what is chosen of it. -/
def ArrayOnly (s t : State) : Prop := t = { s with store := { s.store with array := t.store.array }, choices := t.choices }

theorem ArrayOnly.refl (s : State) : ArrayOnly s s := rfl

theorem ArrayOnly.trans {s t u : State} (h : ArrayOnly s t) (k : ArrayOnly t u) : ArrayOnly s u := by
  unfold ArrayOnly at h k ⊢
  rw [k, h]

theorem ArrayOnly.of_write (a n : Nat) (bytes : List Byte) (s : State) : ArrayOnly s (writeArray a n bytes s) := rfl

theorem arrayOnly_nextChoice (s : State) : ArrayOnly s s.nextChoice := rfl

theorem ArrayOnly.reportsOnly {s t : State} (h : ArrayOnly s t) : ReportsOnly s t := by
  refine .of_sl ?_ ?_
  · rw [h]
  · rw [h]

theorem ArrayOnly.store {s t : State} (h : ArrayOnly s t) : t.store = { s.store with array := t.store.array } := by
  conv_lhs => rw [h]

/-! ### The bytes that a failed or cut-off operation leaves -/

theorem noise_length (choice a n : Nat) : (noise choice a n).length = n := by simp [noise]

/-- The byte `spoiledBy` names is not the erased one. -/
theorem spoiled_ne (choice : Nat) : BitVec.ofNat 8 (Config.spoiledBy choice).val ≠ (0xFF : Byte) := by
  have := (Config.spoiledBy choice).isLt
  intro h
  have := congrArg BitVec.toNat h
  simp at this
  omega

theorem lt_length_of_getD_ne {bytes : List Byte} {k : Nat} (h : bytes.getD k 0xFF ≠ 0xFF) : k < bytes.length := by
  by_contra hk
  exact h (by rw [List.getD_eq_getElem?_getD, List.getElem?_eq_none (by omega)]; rfl)

theorem voidRecord_length (place : Nat) (bytes : List Byte) : (voidRecord place bytes).length = bytes.length := List.length_set

/-- A voided record leaves no byte erased that was not. -/
theorem voidRecord_written {bytes : List Byte} {k : Nat} (h : bytes.getD k 0xFF ≠ 0xFF) (place : Nat) :
    (voidRecord place bytes).getD k 0xFF ≠ 0xFF := by
  have hk := lt_length_of_getD_ne h
  unfold voidRecord
  rw [List.getD_eq_getElem?_getD] at h ⊢
  rw [List.getElem?_set]
  split
  · rw [if_pos (by omega)]
    decide
  · exact h

theorem noStrays_length (held : List Byte) (n : Nat) (bytes : List Byte) : (noStrays held n bytes).length = bytes.length := by
  unfold noStrays
  refine List.foldlRecOn (motive := fun b : List Byte => b.length = bytes.length) (List.range n) _ rfl fun b hb k _ => ?_
  split
  · exact (voidRecord_length k b).trans hb
  · exact hb

theorem noStrays_written {bytes : List Byte} {k : Nat} (h : bytes.getD k 0xFF ≠ 0xFF) (held : List Byte) (n : Nat) :
    (noStrays held n bytes).getD k 0xFF ≠ 0xFF := by
  unfold noStrays
  refine List.foldlRecOn (motive := fun b : List Byte => b.getD k 0xFF ≠ 0xFF) (List.range n) _ h fun b hb place _ => ?_
  split
  · exact voidRecord_written hb place
  · exact hb

theorem failedPage_length (choice a : Nat) (written : List Byte) : (failedPage choice a written).length = 256 := by
  unfold failedPage
  rw [List.length_set, noise_length]

/-- R175: a journal page that failed verification does not read erased throughout. -/
theorem failedJournalPage_written (choice a : Nat) (written : List Byte) :
    ∃ k, k < 256 ∧ (failedJournalPage choice a written).getD k 0xFF ≠ 0xFF := by
  obtain ⟨k, hk, h⟩ := notErased_spec choice (failedPage_length choice a written)
  exact ⟨k, hk, noStrays_written h _ _⟩

/-- Log 4: where a sector that failed verification is not erased. -/
def sectorByte (choice : Nat) (first : Bool) : Nat :=
  if first then (Config.spoiledPlace choice).val % 256 else (Config.spoiledPlace choice).val

theorem sectorByte_lt (choice : Nat) (first : Bool) : sectorByte choice first < 4096 := by
  have := (Config.spoiledPlace choice).isLt
  unfold sectorByte
  split <;> omega

theorem sectorByte_first (choice : Nat) : sectorByte choice true < 256 := Nat.mod_lt _ (by decide)

theorem sectorByte_ne (choice : Nat) (first : Bool) : sectorZeroByte choice ≠ sectorByte choice first := by
  unfold sectorZeroByte sectorByte
  split <;> split <;> omega

theorem failedSector_written (choice : Nat) (k : Fin 16) (first : Bool) (held : List Byte) :
    (failedSector choice k first held).getD (sectorByte choice first) 0xFF ≠ 0xFF := by
  have hlt := sectorByte_lt choice first
  have hset : ((noise choice (sectorBase k) 4096).set (sectorByte choice first) (BitVec.ofNat 8 (Config.spoiledBy choice).val)).getD
      (sectorByte choice first) 0xFF ≠ 0xFF := by
    rw [List.getD_eq_getElem?_getD, List.getElem?_set_self (by rw [noise_length]; exact hlt)]
    exact spoiled_ne choice
  unfold failedSector
  simp only []
  split
  · exact noStrays_written hset _ _
  · exact hset

/-! ### The operations that leave them -/

theorem arrayOnly_noImage (x : Nat) (s : State) : ArrayOnly s (noImage x s) := by
  unfold noImage
  split
  · rfl
  · rfl

theorem noImage_sameBut (x : Nat) (s : State) : Flash.SameBut x 1 s.store.array (noImage x s).store.array := by
  unfold noImage
  split
  · exact Flash.sameBut_replace _ _ _ _
  · exact .refl _ _ _

theorem arrayOnly_leaveConfigPage (second : Bool) (bytes : List Byte) (s : State) : ArrayOnly s (leaveConfigPage second bytes s) := by
  unfold leaveConfigPage
  exact .trans (t := (writeArray (if second then 256 else 0) 256 bytes s).nextChoice) rfl (arrayOnly_noImage _ _)

/-- R173: a page of a configuration job that goes no further leaves no valid image. -/
theorem leaveConfigPage_noImage (second : Bool) (bytes : List Byte) (s : State) :
    Flash.imageValid (leaveConfigPage second bytes s).store.array = false := by
  obtain ⟨h0, h1, _⟩ := spoiled_bytes_lt s.choices
  refine noImage_spec ?_ _
  split
  · exact h1
  · exact h0

theorem leaveConfigPage_sameBut (second : Bool) (bytes : List Byte) (s : State) :
    Flash.SameBut (if second then 256 else 0) 256 s.store.array (leaveConfigPage second bytes s).store.array := by
  have hbyte : (if second then 256 else 0) ≤ (if second then pageOneByte s.choices else pageZeroByte s.choices)
      ∧ (if second then pageOneByte s.choices else pageZeroByte s.choices) + 1 ≤ (if second then 256 else 0) + 256 := by
    unfold pageOneByte pageZeroByte
    cases second <;> simp only [if_true, Bool.false_eq_true, if_false] <;> split <;> omega
  obtain ⟨hlo, hhi⟩ := hbyte
  exact (Flash.sameBut_replace s.store.array _ _ _).trans
    ((noImage_sameBut _ (writeArray (if second then 256 else 0) 256 bytes s).nextChoice).mono hlo hhi)

theorem arrayOnly_leaveSector (k : Fin 16) (first : Bool) (s : State) : ArrayOnly s (leaveSector k first s) := by
  unfold leaveSector
  simp only []
  split
  · exact .trans (t := (writeArray (sectorBase k) 4096 _ s).nextChoice) rfl (arrayOnly_noImage _ _)
  · rfl

theorem leaveSector_sameBut (k : Fin 16) (first : Bool) (s : State) :
    Flash.SameBut (sectorBase k) 4096 s.store.array (leaveSector k first s).store.array := by
  unfold leaveSector
  simp only []
  split
  · next hk =>
    subst hk
    have hlt := (spoiled_bytes_lt s.choices).2.2
    exact (Flash.sameBut_replace s.store.array _ _ _).trans ((noImage_sameBut _ _).mono (Nat.zero_le _) (by simp only [sectorBase]; omega))
  · exact Flash.sameBut_replace s.store.array _ _ _

/-- R165: a sector whose erase failed or was cut off does not read erased throughout. -/
theorem leaveSector_written (k : Fin 16) (first : Bool) (s : State) :
    Flash.read (leaveSector k first s).store.array (sectorBase k + sectorByte s.choices first) ≠ 0xFF := by
  have hwrite : ∀ held, Flash.read (Flash.replace s.store.array (sectorBase k) 4096 (failedSector s.choices k first held))
      (sectorBase k + sectorByte s.choices first) ≠ 0xFF := fun held => by
    rw [Flash.read_replace_within _ (sectorByte_lt _ _)]
    exact failedSector_written _ _ _ _
  unfold leaveSector
  simp only []
  split
  · next hk =>
    subst hk
    have hne := sectorByte_ne s.choices first
    rw [noImage_sameBut _ _ _ (by simp only [sectorBase, Fin.val_zero]; omega)]
    exact hwrite _
  · exact hwrite _

theorem leaveSector_noImage {k : Fin 16} (hk : k = 0) (first : Bool) (s : State) :
    Flash.imageValid (leaveSector k first s).store.array = false := by
  unfold leaveSector
  simp only []
  rw [if_pos hk]
  exact noImage_spec (spoiled_bytes_lt s.choices).2.2 _

/-! ### Programs and erases -/

theorem arrayOnly_programConfig (second : Bool) (written : List Byte) (passed : Bool) (s : State) :
    ArrayOnly s (programConfig second written passed s) := by
  unfold programConfig
  simp only []
  split
  · rfl
  · exact arrayOnly_leaveConfigPage _ _ s

theorem programConfig_failed (second : Bool) (written : List Byte) (s : State) :
    Flash.SameBut (if second then 256 else 0) 256 s.store.array (programConfig second written false s).store.array
    ∧ Flash.imageValid (programConfig second written false s).store.array = false :=
  ⟨leaveConfigPage_sameBut second _ s, leaveConfigPage_noImage second _ s⟩

theorem arrayOnly_programTariff (written : List Byte) (passed : Bool) (s : State) : ArrayOnly s (programTariff written passed s) := by
  unfold programTariff
  split
  · rfl
  · rfl

theorem programTariff_failed (written : List Byte) (s : State) :
    Flash.SameBut 4096 256 s.store.array (programTariff written false s).store.array := Flash.sameBut_replace _ _ _ _

theorem arrayOnly_programJournal (p : Fin 224) (written : List Byte) (passed : Bool) (s : State) :
    ArrayOnly s (programJournal p written passed s) := by
  unfold programJournal
  split
  · rfl
  · rfl

theorem programJournal_failed (p : Fin 224) (written : List Byte) (s : State) :
    Flash.SameBut (journalBase p) 256 s.store.array (programJournal p written false s).store.array
    ∧ ∃ x, journalBase p ≤ x ∧ x < journalBase p + 256 ∧ Flash.read (programJournal p written false s).store.array x ≠ 0xFF := by
  obtain ⟨k, hk, h⟩ := failedJournalPage_written s.choices (journalBase p) written
  refine ⟨Flash.sameBut_replace _ _ _ _, journalBase p + k, by omega, by omega, ?_⟩
  show Flash.read (Flash.replace s.store.array (journalBase p) 256 (failedJournalPage s.choices (journalBase p) written)) (journalBase p + k) ≠ 0xFF
  rw [Flash.read_replace_within _ hk]
  exact h

theorem arrayOnly_eraseArray (k : Fin 16) (passed : Bool) (s : State) : ArrayOnly s (eraseArray k passed s) := by
  unfold eraseArray
  split
  · rfl
  · exact arrayOnly_leaveSector k false s

theorem eraseArray_sameBut (k : Fin 16) (passed : Bool) (s : State) :
    Flash.SameBut (sectorBase k) 4096 s.store.array (eraseArray k passed s).store.array := by
  cases passed
  · exact leaveSector_sameBut k false s
  · exact Flash.sameBut_replace _ _ _ _

theorem eraseArray_passed (k : Fin 16) (s : State) {x : Nat} (hlo : sectorBase k ≤ x) (hhi : x < sectorBase k + 4096) :
    Flash.read (eraseArray k true s).store.array x = 0xFF := by
  show Flash.read (Flash.replace s.store.array (sectorBase k) 4096 []) x = 0xFF
  rw [Flash.read_replace, if_pos ⟨hlo, hhi⟩]
  rfl

end Sys2Proof.Machine

/-! PROOFS. The completions of the array's operations (R165, R167, R169, R173, R174, R175, R177). -/

namespace Sys2Proof.Machine

/-! ### Store faults (R169) -/

/-- R169, R177: the store after a failed verification. -/
def AccountStore.failed (a : AccountStore) : AccountStore :=
  { a with fault := true, checkpoint := if a.fault then a.checkpoint else none }

theorem abandonCheckpoint_store (s : State) : (abandonCheckpoint s).store = { s.store with checkpoint := none } := by
  unfold abandonCheckpoint
  split
  · rw [post_store]; rfl
  · next h => rw [← h]

theorem abandonCheckpoint_mu (s : State) : (abandonCheckpoint s).mu = s.mu := by
  unfold abandonCheckpoint
  split
  · rw [post_mu]; rfl
  · rfl

theorem abandonCheckpoint_reportsOnly (s : State) : ReportsOnly s (abandonCheckpoint s) := by
  unfold abandonCheckpoint
  split
  · exact .trans (t := s.onStore fun a => { a with checkpoint := none }) (.of_sl rfl rfl) (post_reportsOnly _ _)
  · exact .refl s

theorem storeFailed_store (op : StoreOp) (sector : Fin 16) (page : Option (Fin 16)) (s : State) :
    (storeFailed op sector page s).store = s.store.failed := by
  unfold storeFailed
  split
  · next h =>
    have hsame : s.store.failed = s.store := by
      unfold AccountStore.failed
      rw [if_pos h, ← h]
    rw [post_store, hsame]
  · next h =>
    have hnone : s.store.failed = { s.store with fault := true, checkpoint := none } := by
      unfold AccountStore.failed
      rw [if_neg h]
    simp only []
    rw [abandonCheckpoint_store, post_store, alarmChanged_store, hnone]
    rfl

theorem storeFailed_mu (op : StoreOp) (sector : Fin 16) (page : Option (Fin 16)) (s : State) : (storeFailed op sector page s).mu = s.mu := by
  unfold storeFailed
  split
  · exact post_mu _ s
  · simp only []
    rw [abandonCheckpoint_mu, post_mu, alarmChanged_mu]
    rfl

theorem storeFailed_reports (op : StoreOp) (sector : Fin 16) (page : Option (Fin 16)) (s : State) :
    ReportsOnly s (storeFailed op sector page s)
    ∧ (s.powered = true → s.reportsSince (storeFailed op sector page s) (.store op false sector page true)) := by
  have hbefore : ReportsOnly s (alarmChanged .store (s.onStore fun a => { a with fault := true })) :=
    .trans (t := s.onStore fun a => { a with fault := true }) (.of_sl rfl rfl) (alarmChanged_reportsOnly _ _)
  unfold storeFailed
  split
  · exact ⟨post_reportsOnly _ s, fun hp => post_reportsSince _ hp⟩
  · exact ⟨(hbefore.trans (post_reportsOnly _ _)).trans (abandonCheckpoint_reportsOnly _),
      fun hp => reportsSince_of_post (hbefore.power.trans hp) hbefore (abandonCheckpoint_reportsOnly _)⟩

/-! ### The jobs -/

theorem configFailed_store (page : Option (Fin 16)) (s : State) :
    (configFailed page s).store = ({ s.store with configJob := none, protect := true } : AccountStore).failed := storeFailed_store _ _ _ _

theorem configFailed_mu (page : Option (Fin 16)) (s : State) : (configFailed page s).mu = s.mu := storeFailed_mu _ _ _ _

theorem configFailed_reports (page : Option (Fin 16)) (s : State) : ReportsOnly s (configFailed page s)
    ∧ (s.powered = true → s.reportsSince (configFailed page s) (.store .config false 0 page true)) := by
  obtain ⟨h, k⟩ := storeFailed_reports .config 0 page (s.onStore fun a => { a with configJob := none, protect := true })
  exact ⟨.trans (t := s.onStore fun a => { a with configJob := none, protect := true }) (.of_sl rfl rfl) h, k⟩

theorem configDone_store (s : State) :
    (configDone s).store = { s.store with configJob := none, configDefault := false, protect := true } := post_store _ _

theorem configDone_reports {s : State} (hp : s.powered = true) :
    s.reportsSince (configDone s) (.store .config true 0 (some 1) s.store.fault) :=
  post_reportsSince (s := s.onStore fun a => { a with configJob := none, configDefault := false, protect := true }) _ hp

/-- R174: the tariff table after the job. -/
theorem tariffOutcome_passed {s : State} {bands : List Band} (h : s.mu.pendingBands = some bands) : tariffOutcome true s =
    s.onMu fun u => { u with bands := bands, pendingBands := none, index := tariffIndex bands s.cu.calendar.minuteOfDay } := by
  unfold tariffOutcome
  rw [h]
  rfl

theorem tariffOutcome_failed (s : State) : tariffOutcome false s = s.onMu fun u => { u with pendingBands := none } := by
  unfold tariffOutcome
  split
  · next h => cases h
  · rfl

theorem tariffFailed_store (page : Option (Fin 16)) (s : State) :
    (tariffFailed page s).store = ({ s.store with tariffJob := none, protect := true } : AccountStore).failed := by
  unfold tariffFailed
  rw [tariffOutcome_failed, storeFailed_store]
  rfl

theorem tariffFailed_mu (page : Option (Fin 16)) (s : State) : (tariffFailed page s).mu = { s.mu with pendingBands := none } := by
  unfold tariffFailed
  rw [tariffOutcome_failed, storeFailed_mu]
  rfl

theorem tariffFailed_reports (page : Option (Fin 16)) (s : State) : ReportsOnly s (tariffFailed page s)
    ∧ (s.powered = true → s.reportsSince (tariffFailed page s) (.store .tariff false 1 page true)) := by
  unfold tariffFailed
  rw [tariffOutcome_failed]
  obtain ⟨h, k⟩ := storeFailed_reports .tariff 1 page ((s.onStore fun a => { a with tariffJob := none, protect := true }).onMu fun u =>
    { u with pendingBands := none })
  exact ⟨.trans (t := (s.onStore fun a => { a with tariffJob := none, protect := true }).onMu fun u => { u with pendingBands := none })
    (.of_sl rfl rfl) h, k⟩

/-! ### The pages -/

theorem configPageDone_first {s : State} {j : ConfigJob} (hj : s.store.configJob = some j) :
    configPageDone false true s = writeArray 0 256 (j.image.take 256) s := by
  unfold configPageDone
  rw [hj]
  rfl

theorem configPageDone_last {s : State} {j : ConfigJob} (hj : s.store.configJob = some j) :
    configPageDone true true s = configDone (writeArray 256 256 ((j.image.drop 256).take 256) s) := by
  unfold configPageDone
  rw [hj]
  rfl

theorem configPageDone_failed {s : State} {j : ConfigJob} (hj : s.store.configJob = some j) (second : Bool) :
    configPageDone second false s = configFailed (some (if second then 1 else 0))
      (programConfig second ((j.image.drop (if second then 256 else 0)).take 256) false s) := by
  unfold configPageDone
  rw [hj]
  rfl

theorem tariffPageDone_eq {s : State} {j : TariffJob} (hj : s.store.tariffJob = some j) (passed : Bool) :
    tariffPageDone passed s =
      if passed then tariffDone (programTariff j.record passed s) else tariffFailed (some 0) (programTariff j.record passed s) := by
  unfold tariffPageDone
  rw [hj]

/-- R175, R178: the array and the index after a page of a checkpoint, and the erase ahead. -/
def journalProgrammed (p : Fin 224) (c : Checkpoint) (second passed : Bool) (s : State) : State :=
  let s := (programJournal p (c.page second) passed s).onStore fun a =>
    { a with journal := a.journal.map fun j => j.setEntry p (if passed then c.pageEntry second else .spoiled) }
  if pageOf p = 0 then s.onStore fun a => a.eraseAhead (nextSector (sectorOf p)) else s

theorem checkpointPageDone_passed {s : State} {c : Checkpoint} (hc : s.store.checkpoint = some c) (p : Fin 224) (second : Bool) :
    checkpointPageDone p second true s = if second then
        post (.checkpoint .written c.trigger c.firstSequence c.firstPage)
          ((journalProgrammed p c second true s).onStore fun a => { a with checkpoint := none })
      else journalProgrammed p c second true s := by
  unfold checkpointPageDone
  rw [hc]
  rfl

theorem checkpointPageDone_failed {s : State} {c : Checkpoint} (hc : s.store.checkpoint = some c) (p : Fin 224) (second : Bool) :
    checkpointPageDone p second false s = post (.checkpoint .failed c.trigger c.firstSequence (some p))
      (storeFailed .journalPage (sectorOf p) (some (pageOf p))
        ((journalProgrammed p c second false s).onStore fun a => { a with checkpoint := none })) := by
  unfold checkpointPageDone
  rw [hc]
  rfl

theorem eraseAhead_eq (k : Fin 16) (a : AccountStore) : ∃ w, a.eraseAhead k = { a with waitingErases := w } := by
  unfold AccountStore.eraseAhead
  split
  · split
    · exact ⟨_, rfl⟩
    · exact requestErase_eq k a
  · exact ⟨_, rfl⟩

theorem journalProgrammed_store (p : Fin 224) (c : Checkpoint) (second passed : Bool) (s : State) : ∃ w,
    (journalProgrammed p c second passed s).store = { s.store with
      array := (programJournal p (c.page second) passed s).store.array
      journal := s.store.journal.map fun j => j.setEntry p (if passed then c.pageEntry second else .spoiled)
      waitingErases := w } := by
  have hprogram := (arrayOnly_programJournal p (c.page second) passed s).store
  unfold journalProgrammed
  simp only []
  split
  · obtain ⟨w, hw⟩ := eraseAhead_eq (nextSector (sectorOf p)) { (programJournal p (c.page second) passed s).store with
      journal := (programJournal p (c.page second) passed s).store.journal.map fun j =>
        j.setEntry p (if passed then c.pageEntry second else .spoiled) }
    refine ⟨w, ?_⟩
    refine hw.trans ?_
    rw [hprogram]
  · refine ⟨s.store.waitingErases, ?_⟩
    show ({ (programJournal p (c.page second) passed s).store with journal := _ } : AccountStore) = _
    rw [hprogram]

theorem journalProgrammed_reportsOnly (p : Fin 224) (c : Checkpoint) (second passed : Bool) (s : State) :
    ReportsOnly s (journalProgrammed p c second passed s) := by
  have hprogram := (arrayOnly_programJournal p (c.page second) passed s).reportsOnly
  refine hprogram.trans ?_
  unfold journalProgrammed
  simp only []
  split
  · exact .of_sl rfl rfl
  · exact .of_sl rfl rfl

/-! ### What an operation's end keeps of the arbiter -/

/-- R164: the arbiter's state, the operation in flight and the erase are as they were. -/
def ArbiterKept (a b : AccountStore) : Prop := b.state = a.state ∧ b.flight = a.flight ∧ b.erase = a.erase

theorem ArbiterKept.refl (a : AccountStore) : ArbiterKept a a := ⟨rfl, rfl, rfl⟩

theorem ArbiterKept.trans {a b c : AccountStore} (h : ArbiterKept a b) (k : ArbiterKept b c) : ArbiterKept a c :=
  ⟨k.1.trans h.1, k.2.1.trans h.2.1, k.2.2.trans h.2.2⟩

theorem ArbiterKept.of_array {s t : State} (h : ArrayOnly s t) : ArbiterKept s.store t.store := by
  rw [h.store]
  exact ⟨rfl, rfl, rfl⟩

theorem flightDone_arbiterKept (f : Flight) (passed : Bool) (s : State) : ArbiterKept s.store (flightDone f passed s).store := by
  have hconfig : ∀ second, ArbiterKept s.store (configPageDone second passed s).store := by
    intro second
    unfold configPageDone
    split
    · next j _ =>
      have h : ∀ bytes, ArbiterKept s.store (programConfig second bytes passed s).store := fun bytes =>
        .of_array (arrayOnly_programConfig second bytes passed s)
      have hdone : ∀ x : State, ArbiterKept x.store (configDone x).store := fun x => by
        rw [configDone_store]
        exact ⟨rfl, rfl, rfl⟩
      have hfailed : ∀ page (x : State), ArbiterKept x.store (configFailed page x).store := fun page x => by
        rw [configFailed_store]
        exact ⟨rfl, rfl, rfl⟩
      simp only []
      split
      · split
        · exact (h _).trans (hdone _)
        · exact h _
      · exact (h _).trans (hfailed _ _)
    · exact .refl _
  have htariff : ArbiterKept s.store (tariffPageDone passed s).store := by
    unfold tariffPageDone
    split
    · next j _ =>
      have h := ArbiterKept.of_array (arrayOnly_programTariff j.record passed s)
      simp only []
      split
      · refine h.trans ?_
        unfold tariffDone tariffOutcome
        simp only [post_store]
        split
        · exact ⟨rfl, rfl, rfl⟩
        · exact ⟨rfl, rfl, rfl⟩
      · exact h.trans (by rw [tariffFailed_store]; exact ⟨rfl, rfl, rfl⟩)
    · exact .refl _
  have hcheckpoint : ∀ p second, ArbiterKept s.store (checkpointPageDone p second passed s).store := by
    intro p second
    cases hc : s.store.checkpoint with
    | none =>
      unfold checkpointPageDone
      rw [hc]
      exact .refl _
    | some c =>
      obtain ⟨w, hw⟩ := journalProgrammed_store p c second passed s
      cases passed with
      | true =>
        rw [checkpointPageDone_passed hc]
        split
        · rw [post_store, State.onStore_store, hw]
          exact ⟨rfl, rfl, rfl⟩
        · rw [hw]
          exact ⟨rfl, rfl, rfl⟩
      | false =>
        rw [checkpointPageDone_failed hc, post_store, storeFailed_store, State.onStore_store, hw]
        exact ⟨rfl, rfl, rfl⟩
  cases f with
  | checkpointPage p second => exact hcheckpoint p second
  | configPage second => exact hconfig second
  | tariffPage => exact htariff
  | readPage p => exact .refl _

/-- R167: an erase that has just resumed is not suspended at once. -/
theorem kick_resumed {s : State} {e : EraseRecord} (hs : s.store.state = .erasing) (he : s.store.erase = some { e with progress := 0 }) :
    kick s = s := by
  have hno : s.store.progressed = false := by
    unfold AccountStore.progressed
    rw [he]
    rfl
  unfold kick
  rw [hs]
  exact if_neg fun h => absurd (hno.symm.trans h.2) (by decide)

/-! ### The completions -/

/-- R166, R167: a page program that ends leaves the array free, or its erase resumed. -/
theorem programDone_eq {s : State} {f : Flight} (hrun : s.store.state = .programming ∨ s.store.state = .programmingInSuspend)
    (hf : s.store.flight = some f) (passed : Bool) : ∃ st e,
      programDone passed s = kick (flightDone f passed (s.onStore fun a => { a with state := st, flight := none, erase := e })) := by
  unfold programDone
  obtain h | h := hrun
  · exact ⟨.ready, s.store.erase, by rw [h, hf]; rfl⟩
  · exact ⟨.erasing, _, by rw [h, hf]; rfl⟩

theorem exec_programCompletion {s : State} (hp : s.powered = true) (passed : Bool) :
    exec (.programCompletion passed) s = .next (programDone passed s) := congrArg Host.Outcome.next (whenPowered_on hp _)

theorem exec_eraseCompletion {s : State} (hp : s.powered = true) (passed : Bool) :
    exec (.eraseCompletion passed) s = .next (eraseDone passed s) := congrArg Host.Outcome.next (whenPowered_on hp _)

theorem kick_mu (s : State) : (kick s).mu = s.mu := by rw [onlyLinkAndStore_kick s]

/-- R165: an erase that ends leaves the array free and its pages FRESH. -/
theorem eraseDone_eq {s : State} {e : EraseRecord} (hs : s.store.state = .erasing) (he : s.store.erase = some e) (passed : Bool) :
    eraseDone passed s = kick (eraseOutcome e.sector passed (eraseArray e.sector passed (s.onStore fun a =>
      { a with state := .ready, erase := none, journal := a.journal.map fun j => j.freshen e.sector }))) := by
  unfold eraseDone
  rw [hs, he]

theorem freshen_index (j : Journal) (k : Fin 16) (p : Fin 224) :
    (j.freshen k).index[p] = if sectorOf p = k then .fresh else j.index[p] := by
  show (indexOf fun p => if sectorOf p = k then PageEntry.fresh else j.index[p])[p] = _
  simp [indexOf, allPages]

end Sys2Proof.Machine

/-! PROOFS. What each completion leaves in the jobs, the flags, the index and the reports (R165, R167, R169, R173, R174, R175, R177). -/

namespace Sys2Proof.Machine

theorem Kicked.config_none {a b : AccountStore} (h : Kicked a b) (hn : a.configJob = none) : b.configJob = none := by
  obtain ⟨n, hc⟩ := h.config
  rw [hc, hn]
  rfl

theorem Kicked.tariff_none {a b : AccountStore} (h : Kicked a b) (hn : a.tariffJob = none) : b.tariffJob = none := by
  obtain ⟨n, hc⟩ := h.tariff
  rw [hc, hn]
  rfl

theorem Kicked.checkpoint_none {a b : AccountStore} (h : Kicked a b) (hn : a.checkpoint = none) : b.checkpoint = none := by
  obtain ⟨n, p, hc⟩ := h.checkpoint
  rw [hc, hn]
  rfl

/-- R177: the arbiter moves the write position at most. -/
theorem Kicked.journal_some {a b : AccountStore} (h : Kicked a b) {j : Journal} (hj : a.journal = some j) :
    ∃ k, b.journal = some k ∧ k.index = j.index ∧ k.nextSequence = j.nextSequence := by
  obtain ⟨w, hw⟩ := h.journal
  rw [hj] at hw
  exact ⟨_, hw, rfl, rfl⟩

theorem Kicked.config_some {a b : AccountStore} (h : Kicked a b) {c : ConfigJob} (hc : a.configJob = some c) :
    ∃ d, b.configJob = some d ∧ d.erased = c.erased ∧ d.image = c.image := by
  obtain ⟨n, hn⟩ := h.config
  rw [hc] at hn
  exact ⟨_, hn, rfl, rfl⟩

theorem Kicked.tariff_some {a b : AccountStore} (h : Kicked a b) {c : TariffJob} (hc : a.tariffJob = some c) :
    ∃ d, b.tariffJob = some d ∧ d.erased = c.erased ∧ d.record = c.record := by
  obtain ⟨n, hn⟩ := h.tariff
  rw [hc] at hn
  exact ⟨_, hn, rfl, rfl⟩

/-- R200: what it is for an image to be invalid. -/
theorem noImage_of_invalid {m : Flash} (h : m.imageValid = false) :
    Flash.readBytes m 311 2 ≠ u16 (crc16 (Flash.readBytes m 0 311)).toNat := of_decide_eq_false h

/-- R165: a page of the array holds what was programmed. -/
def Flash.Wrote (a b : Flash) (base : Nat) (bytes : List Byte) : Prop :=
  ∀ x : Nat, b.read x = if base ≤ x ∧ x < base + 256 then bytes.getD (x - base) 0xFF else a.read x

theorem Flash.wrote_replace (m : Flash) (base : Nat) {bytes : List Byte} (h : bytes.length ≤ 256) :
    Flash.Wrote m (m.replace base 256 bytes) base bytes := by
  intro x
  rw [Flash.read_replace, List.take_of_length_le h]

theorem take_page_length (bytes : List Byte) : (bytes.take 256).length ≤ 256 := by
  rw [List.length_take]
  omega

/-! ### The configuration job (R173) -/

theorem kick_configPage_first {s : State} {j : ConfigJob} (hj : s.store.configJob = some j) :
    Flash.Wrote s.store.array (kick (configPageDone false true s)).store.array 0 (j.image.take 256)
    ∧ (kick (configPageDone false true s)).store.fault = s.store.fault := by
  have hk := kick_kicked (configPageDone false true s)
  rw [configPageDone_first hj] at hk ⊢
  rw [hk.array, hk.fault]
  exact ⟨Flash.wrote_replace _ _ (take_page_length _), rfl⟩

theorem kick_configPage_last {s : State} {j : ConfigJob} (hj : s.store.configJob = some j) (hp : s.powered = true) :
    let t := kick (configPageDone true true s)
    t.store.configJob = none ∧ t.store.configDefault = false ∧ t.store.protect = true ∧ t.store.fault = s.store.fault
    ∧ Flash.Wrote s.store.array t.store.array 256 ((j.image.drop 256).take 256)
    ∧ s.reportsSince t (.store .config true 0 (some 1) s.store.fault) := by
  intro t
  have hk := kick_kicked (configPageDone true true s)
  have hstore : (configPageDone true true s).store = { s.store with
      array := Flash.replace s.store.array 256 256 ((j.image.drop 256).take 256), configJob := none, configDefault := false, protect := true } := by
    rw [configPageDone_last hj]
    exact configDone_store _
  rw [hstore] at hk
  refine ⟨hk.config_none rfl, hk.configDefault, hk.protect, hk.fault, ?_, kick_reportsKept _ s _ ?_⟩
  · rw [hk.array]
    exact Flash.wrote_replace _ _ (take_page_length _)
  · rw [configPageDone_last hj]
    exact configDone_reports (s := writeArray 256 256 ((j.image.drop 256).take 256) s) hp

theorem kick_configPage_failed {s : State} {j : ConfigJob} (hj : s.store.configJob = some j) (hp : s.powered = true) (second : Bool) :
    let t := kick (configPageDone second false s)
    t.store.configJob = none ∧ t.store.protect = true ∧ t.store.fault = true
    ∧ Flash.SameBut (if second then 256 else 0) 256 s.store.array t.store.array
    ∧ s.reportsSince t (.store .config false 0 (some (if second then 1 else 0)) true)
    ∧ Flash.imageValid t.store.array = false ∧ (s.store.fault = false → t.store.checkpoint = none) := by
  intro t
  have hk := kick_kicked (configPageDone second false s)
  have harray := arrayOnly_programConfig second ((j.image.drop (if second then 256 else 0)).take 256) false s
  obtain ⟨hsame, hno⟩ := programConfig_failed second ((j.image.drop (if second then 256 else 0)).take 256) s
  obtain ⟨honly, hreport⟩ := configFailed_reports (some (if second then 1 else 0))
    (programConfig second ((j.image.drop (if second then 256 else 0)).take 256) false s)
  have hstore : (configPageDone second false s).store = ({ s.store with
      array := (programConfig second ((j.image.drop (if second then 256 else 0)).take 256) false s).store.array
      configJob := none, protect := true } : AccountStore).failed := by
    rw [configPageDone_failed hj, configFailed_store, harray.store]
  rw [hstore] at hk
  refine ⟨hk.config_none rfl, hk.protect, hk.fault, ?_, kick_reportsKept _ s _ ?_, ?_, fun hf => hk.checkpoint_none ?_⟩
  · rw [hk.array]
    exact hsame
  · rw [configPageDone_failed hj]
    exact ReportsOnly.since harray.reportsOnly honly (hreport (harray.reportsOnly.power.trans hp))
  · rw [hk.array]
    exact hno
  · exact if_neg (show ¬s.store.fault = true from Bool.not_eq_true _ ▸ hf)

/-! ### The tariff job (R174) -/

theorem kick_tariffPage_passed {s : State} {j : TariffJob} {bands : List Band} (hj : s.store.tariffJob = some j)
    (hb : s.mu.pendingBands = some bands) (hlen : j.record.length ≤ 256) (hp : s.powered = true) :
    let t := kick (tariffPageDone true s)
    t.store.tariffJob = none ∧ t.store.protect = true
    ∧ t.mu = { s.mu with bands := bands, pendingBands := none, index := tariffIndex bands s.cu.calendar.minuteOfDay }
    ∧ Flash.Wrote s.store.array t.store.array 4096 j.record ∧ s.reportsSince t (.store .tariff true 1 (some 0) s.store.fault) := by
  intro t
  let s1 := (programTariff j.record true s).onStore fun a => { a with tariffJob := none, protect := true }
  let s2 := s1.onMu fun u => { u with bands := bands, pendingBands := none, index := tariffIndex bands s.cu.calendar.minuteOfDay }
  have hdone : tariffPageDone true s = post (.store .tariff true 1 (some 0) s2.store.fault) s2 := by
    rw [tariffPageDone_eq hj, if_pos rfl]
    unfold tariffDone
    simp only []
    rw [tariffOutcome_passed (s := (programTariff j.record true s).onStore fun a => { a with tariffJob := none, protect := true })
      (bands := bands) hb]
    rfl
  have hk := kick_kicked (tariffPageDone true s)
  have hstore : (tariffPageDone true s).store = s2.store := by rw [hdone, post_store]
  rw [hstore] at hk
  refine ⟨hk.tariff_none rfl, hk.protect, ?_, ?_, kick_reportsKept _ s _ ?_⟩
  · exact (kick_mu _).trans (by rw [hdone, post_mu]; rfl)
  · rw [hk.array]
    exact Flash.wrote_replace _ _ hlen
  · rw [hdone]
    exact post_reportsSince (s := s2) _ hp

theorem kick_tariffPage_failed {s : State} {j : TariffJob} (hj : s.store.tariffJob = some j) (hp : s.powered = true) :
    let t := kick (tariffPageDone false s)
    t.store.tariffJob = none ∧ t.store.protect = true ∧ t.mu = { s.mu with pendingBands := none } ∧ t.store.fault = true
    ∧ Flash.SameBut 4096 256 s.store.array t.store.array ∧ s.reportsSince t (.store .tariff false 1 (some 0) true) := by
  intro t
  have hk := kick_kicked (tariffPageDone false s)
  have harray := arrayOnly_programTariff j.record false s
  have hfailed : tariffPageDone false s = tariffFailed (some 0) (programTariff j.record false s) := by
    rw [tariffPageDone_eq hj]
    exact if_neg (by decide)
  have hstore : (tariffPageDone false s).store = ({ s.store with
      array := (programTariff j.record false s).store.array, tariffJob := none, protect := true } : AccountStore).failed := by
    rw [hfailed, tariffFailed_store, harray.store]
  obtain ⟨honly, hreport⟩ := tariffFailed_reports (some 0) (programTariff j.record false s)
  rw [hstore] at hk
  refine ⟨hk.tariff_none rfl, hk.protect, ?_, hk.fault, ?_, kick_reportsKept _ s _ ?_⟩
  · refine (kick_mu _).trans ?_
    rw [hfailed, tariffFailed_mu, harray]
  · rw [hk.array]
    exact programTariff_failed j.record s
  · rw [hfailed]
    exact ReportsOnly.since harray.reportsOnly honly (hreport (harray.reportsOnly.power.trans hp))

/-! ### The checkpoint's pages (R175, R177) -/

theorem record_length (c : Checkpoint) (i : Fin 12) : (c.record i).length = 32 := rfl

theorem records_length (c : Checkpoint) (l : List (Fin 12)) : (l.flatMap c.record).length = 32 * l.length := by
  induction l with
  | nil => rfl
  | cons i l ih =>
    rw [List.flatMap_cons, List.length_append, ih, record_length, List.length_cons]
    omega

/-- R177: the second page holds four records, the first eight. -/
theorem page_length_eq (c : Checkpoint) (second : Bool) : (c.page second).length = 32 * (if second then 4 else 8) := by
  unfold Checkpoint.page
  cases second
  · exact records_length c _
  · exact records_length c _

theorem page_length (c : Checkpoint) (second : Bool) : (c.page second).length ≤ 256 := by
  rw [page_length_eq]
  split <;> decide

theorem kick_checkpointPage_passed {s : State} {c : Checkpoint} {j : Journal} (hc : s.store.checkpoint = some c) (hj : s.store.journal = some j)
    (hp : s.powered = true) (p : Fin 224) (second : Bool) :
    let t := kick (checkpointPageDone p second true s)
    Flash.Wrote s.store.array t.store.array (journalBase p) (c.page second)
    ∧ (∃ k, t.store.journal = some k ∧ k.nextSequence = j.nextSequence ∧ k.index = j.index.set p (c.pageEntry second))
    ∧ (second = true → t.store.checkpoint = none ∧ s.reportsSince t (.checkpoint .written c.trigger c.firstSequence c.firstPage)) := by
  intro t
  have hk := kick_kicked (checkpointPageDone p second true s)
  obtain ⟨w, hw⟩ := journalProgrammed_store p c second true s
  have harray : (checkpointPageDone p second true s).store.array = Flash.replace s.store.array (journalBase p) 256 (c.page second) := by
    rw [checkpointPageDone_passed hc]
    split
    · rw [post_store, State.onStore_store, hw]; rfl
    · rw [hw]; rfl
  have hjournal : (checkpointPageDone p second true s).store.journal = some (j.setEntry p (c.pageEntry second)) := by
    rw [checkpointPageDone_passed hc]
    split
    · rw [post_store, State.onStore_store, hw, hj]; rfl
    · rw [hw, hj]; rfl
  obtain ⟨k, hk1, hk2, hk3⟩ := hk.journal_some hjournal
  refine ⟨?_, ⟨k, hk1, hk3, hk2⟩, ?_⟩
  · rw [hk.array, harray]
    exact Flash.wrote_replace _ _ (page_length c second)
  · rintro rfl
    have hdone := (checkpointPageDone_passed hc p true).trans (if_pos rfl)
    refine ⟨hk.checkpoint_none ?_, kick_reportsKept _ s _ ?_⟩
    · rw [hdone, post_store]; rfl
    · have hreports := journalProgrammed_reportsOnly p c true true s
      rw [hdone]
      exact reportsSince_of_post (t := (journalProgrammed p c true true s).onStore fun a => { a with checkpoint := none })
        (hreports.power.trans hp) (hreports.trans (.of_sl rfl rfl)) (.refl _)

theorem kick_checkpointPage_failed {s : State} {c : Checkpoint} {j : Journal} (hc : s.store.checkpoint = some c) (hj : s.store.journal = some j)
    (hp : s.powered = true) (p : Fin 224) (second : Bool) :
    let t := kick (checkpointPageDone p second false s)
    Flash.SameBut (journalBase p) 256 s.store.array t.store.array
    ∧ (∃ k, t.store.journal = some k ∧ k.index = j.index.set p .spoiled) ∧ t.store.fault = true
    ∧ (∃ x, journalBase p ≤ x ∧ x < journalBase p + 256 ∧ Flash.read t.store.array x ≠ 0xFF)
    ∧ t.store.checkpoint = none
    ∧ s.reportsSince t (.store .journalPage false (sectorOf p) (some (pageOf p)) true)
    ∧ s.reportsSince t (.checkpoint .failed c.trigger c.firstSequence (some p)) := by
  intro t
  have hk := kick_kicked (checkpointPageDone p second false s)
  obtain ⟨w, hw⟩ := journalProgrammed_store p c second false s
  obtain ⟨hsame, hwritten⟩ := programJournal_failed p (c.page second) s
  have hstore : (checkpointPageDone p second false s).store = ({ s.store with
      array := (programJournal p (c.page second) false s).store.array
      journal := s.store.journal.map fun j => j.setEntry p .spoiled
      waitingErases := w, checkpoint := none } : AccountStore).failed := by
    rw [checkpointPageDone_failed hc, post_store, storeFailed_store, State.onStore_store, hw]
    rfl
  have hreports := (journalProgrammed_reportsOnly p c second false s).trans
    (.of_sl (t := (journalProgrammed p c second false s).onStore fun a => { a with checkpoint := none }) rfl rfl)
  obtain ⟨hfail, hin⟩ := storeFailed_reports .journalPage (sectorOf p) (some (pageOf p))
    ((journalProgrammed p c second false s).onStore fun a => { a with checkpoint := none })
  rw [hstore] at hk
  obtain ⟨k, hk1, hk2, _⟩ := hk.journal_some (j := j.setEntry p .spoiled) (congrArg (Option.map _) hj)
  refine ⟨?_, ⟨k, hk1, hk2⟩, hk.fault, ?_, hk.checkpoint_none (ite_self _), kick_reportsKept _ s _ ?_, kick_reportsKept _ s _ ?_⟩
  · rw [hk.array]
    exact hsame
  · rw [hk.array]
    exact hwritten
  · rw [checkpointPageDone_failed hc]
    exact ReportsOnly.since hreports (hfail.trans (post_reportsOnly _ _)) (ReportsOnly.reportsSince (hin (hreports.power.trans hp)) (post_reportsOnly _ _))
  · rw [checkpointPageDone_failed hc]
    exact reportsSince_of_post ((hreports.trans hfail).power.trans hp) (hreports.trans hfail) (.refl _)

end Sys2Proof.Machine

/-! PROOFS. The end of an erase, of a page read, and the suspension of an erase (R165, R167, R169, R173, R174, R178). -/

namespace Sys2Proof.Machine

/-! ### The end of an erase -/

/-- R173, R174: the erase of its sector is behind a job. -/
theorem eraseOutcome_passed (k : Fin 16) (s : State) : ∃ c d,
    eraseOutcome k true s = s.onStore (fun a => { a with configJob := c, tariffJob := d })
    ∧ (k = 0 → c = s.store.configJob.map fun j => { j with erased := true })
    ∧ (k = 1 → d = s.store.tariffJob.map fun j => { j with erased := true }) := by
  unfold eraseOutcome
  by_cases h0 : k = 0
  · refine ⟨_, s.store.tariffJob, (if_pos h0).trans rfl, fun _ => rfl, fun h1 => ?_⟩
    exact absurd (h0.symm.trans h1) (by decide)
  · by_cases h1 : k = 1
    · exact ⟨s.store.configJob, _, (if_neg h0).trans ((if_pos h1).trans rfl), fun h => absurd h h0, fun _ => rfl⟩
    · exact ⟨s.store.configJob, s.store.tariffJob, (if_neg h0).trans ((if_neg h1).trans rfl), fun h => absurd h h0, fun h => absurd h h1⟩

/-- R173, R174, R178: the report of a failed erase. -/
def eraseReport (k : Fin 16) : Report :=
  if k = 0 then .store .config false 0 none true
  else if k = 1 then .store .tariff false 1 none true
  else .store .eraseAhead false k none true

/-- R169, R173, R174, R178: what a failed erase leaves of the jobs, the flags and the pending table. -/
theorem eraseOutcome_failed (k : Fin 16) (s : State) :
    (eraseOutcome k false s).store = ({ s.store with
      configJob := if k = 0 then none else s.store.configJob
      tariffJob := if k = 1 then none else s.store.tariffJob
      protect := s.store.protect || decide (k.val ≤ 1) } : AccountStore).failed
    ∧ (eraseOutcome k false s).mu = (if k = 1 then { s.mu with pendingBands := none } else s.mu)
    ∧ ReportsOnly s (eraseOutcome k false s)
    ∧ (s.powered = true → s.reportsSince (eraseOutcome k false s) (eraseReport k)) := by
  by_cases h0 : k = 0
  · subst h0
    have h : eraseOutcome 0 false s = configFailed none s := rfl
    obtain ⟨honly, hrep⟩ := configFailed_reports none s
    rw [h, configFailed_store, configFailed_mu]
    refine ⟨?_, rfl, honly, hrep⟩
    simp
  · by_cases h1 : k = 1
    · subst h1
      have h : eraseOutcome 1 false s = tariffFailed none s := rfl
      obtain ⟨honly, hrep⟩ := tariffFailed_reports none s
      rw [h, tariffFailed_store, tariffFailed_mu]
      refine ⟨?_, rfl, honly, hrep⟩
      simp
    · have h : eraseOutcome k false s = storeFailed .eraseAhead k none s := (if_neg h0).trans (if_neg h1)
      have hsector : ¬k.val ≤ 1 := by omega
      obtain ⟨honly, hrep⟩ := storeFailed_reports .eraseAhead k none s
      rw [h, storeFailed_store, storeFailed_mu]
      unfold eraseReport
      rw [if_neg h0, if_neg h1, if_neg h1, if_neg h0, if_neg h1, decide_eq_false hsector, Bool.or_false]
      exact ⟨rfl, rfl, honly, hrep⟩

/-- R165, R175: the state in which the outcome of an erase is taken. -/
def State.eraseEnded (s : State) (k : Fin 16) : State :=
  s.onStore fun a => { a with state := .ready, erase := none, journal := a.journal.map fun j => j.freshen k }

theorem eraseDone_passed {s : State} {e : EraseRecord} {j : Journal} (hs : s.store.state = .erasing) (he : s.store.erase = some e)
    (hj : s.store.journal = some j) :
    let t := eraseDone true s
    Flash.SameBut (sectorBase e.sector) 4096 s.store.array t.store.array
    ∧ (∀ x, sectorBase e.sector ≤ x → x < sectorBase e.sector + 4096 → Flash.read t.store.array x = 0xFF)
    ∧ (∃ k, t.store.journal = some k ∧ ∀ p : Fin 224, k.index[p] = if sectorOf p = e.sector then .fresh else j.index[p])
    ∧ t.store.fault = s.store.fault
    ∧ (∀ c, e.sector = 0 → s.store.configJob = some c → ∃ d, t.store.configJob = some d ∧ d.erased = true ∧ d.image = c.image)
    ∧ ∀ c, e.sector = 1 → s.store.tariffJob = some c → ∃ d, t.store.tariffJob = some d ∧ d.erased = true ∧ d.record = c.record := by
  intro t
  have harray := (arrayOnly_eraseArray e.sector true (s.eraseEnded e.sector)).store
  have hsame := eraseArray_sameBut e.sector true (s.eraseEnded e.sector)
  have hff := fun x => eraseArray_passed e.sector (s.eraseEnded e.sector) (x := x)
  generalize hu : eraseArray e.sector true (s.eraseEnded e.sector) = u at harray hsame hff
  obtain ⟨c, d, hout, hc, hd⟩ := eraseOutcome_passed e.sector u
  have ht : t = kick (eraseOutcome e.sector true u) := hu ▸ eraseDone_eq hs he true
  have hk : Kicked { u.store with configJob := c, tariffJob := d } t.store := by
    have h := kick_kicked (eraseOutcome e.sector true u)
    rwa [← ht, hout, State.onStore_store] at h
  have hjournal : u.store.journal = some (j.freshen e.sector) := by
    rw [harray]
    exact congrArg (Option.map _) hj
  obtain ⟨k, hk1, hk2, _⟩ := hk.journal_some (j := j.freshen e.sector) hjournal
  refine ⟨?_, fun x hlo hhi => ?_, ⟨k, hk1, fun p => ?_⟩, ?_, fun x h0 hx => ?_, fun x h1 hx => ?_⟩
  · rw [hk.array]
    exact hsame
  · rw [hk.array]
    exact hff x hlo hhi
  · rw [hk2]
    exact freshen_index j e.sector p
  · refine hk.fault.trans ?_
    rw [harray]
    rfl
  · refine hk.config_some (c := { x with erased := true }) ?_
    show c = _
    rw [hc h0, harray]
    exact congrArg (Option.map _) hx
  · refine hk.tariff_some (c := { x with erased := true }) ?_
    show d = _
    rw [hd h1, harray]
    exact congrArg (Option.map _) hx

theorem eraseDone_failed {s : State} {e : EraseRecord} {j : Journal} (hs : s.store.state = .erasing) (he : s.store.erase = some e)
    (hj : s.store.journal = some j) (hp : s.powered = true) :
    let t := eraseDone false s
    t.store.fault = true ∧ Flash.SameBut (sectorBase e.sector) 4096 s.store.array t.store.array
    ∧ (∃ k, t.store.journal = some k ∧ ∀ p : Fin 224, k.index[p] = if sectorOf p = e.sector then .fresh else j.index[p])
    ∧ (e.sector = 0 → t.store.configJob = none) ∧ (e.sector = 1 → t.store.tariffJob = none)
    ∧ t.store.protect = (s.store.protect || decide (e.sector.val ≤ 1))
    ∧ t.mu = (if e.sector = 1 then { s.mu with pendingBands := none } else s.mu)
    ∧ (s.store.fault = false → t.store.checkpoint = none)
    ∧ (∃ x, sectorBase e.sector ≤ x ∧ x < sectorBase e.sector + 4096 ∧ Flash.read t.store.array x ≠ 0xFF)
    ∧ (e.sector = 0 → Flash.imageValid t.store.array = false)
    ∧ s.reportsSince t (eraseReport e.sector) := by
  intro t
  have honlyArray := arrayOnly_eraseArray e.sector false (s.eraseEnded e.sector)
  have hsame := eraseArray_sameBut e.sector false (s.eraseEnded e.sector)
  have hwritten : Flash.read (eraseArray e.sector false (s.eraseEnded e.sector)).store.array _ ≠ 0xFF :=
    leaveSector_written e.sector false (s.eraseEnded e.sector)
  have hno : e.sector = 0 → Flash.imageValid (eraseArray e.sector false (s.eraseEnded e.sector)).store.array = false :=
    fun h0 => leaveSector_noImage h0 false (s.eraseEnded e.sector)
  generalize hu : eraseArray e.sector false (s.eraseEnded e.sector) = u at honlyArray hsame hwritten hno
  obtain ⟨hstore, hmu, honly, hrep⟩ := eraseOutcome_failed e.sector u
  have ht : t = kick (eraseOutcome e.sector false u) := hu ▸ eraseDone_eq hs he false
  have hk := kick_kicked (eraseOutcome e.sector false u)
  rw [← ht, hstore] at hk
  have harray := honlyArray.store
  have hjournal : u.store.journal = some (j.freshen e.sector) := by
    rw [harray]
    exact congrArg (Option.map _) hj
  obtain ⟨k, hk1, hk2, _⟩ := hk.journal_some (j := j.freshen e.sector) hjournal
  refine ⟨hk.fault, ?_, ⟨k, hk1, fun p => ?_⟩, fun h => hk.config_none (if_pos h), fun h => hk.tariff_none (if_pos h), ?_, ?_,
    fun hf => hk.checkpoint_none ?_, ⟨sectorBase e.sector + sectorByte s.choices false, Nat.le_add_right _ _,
      Nat.add_lt_add_left (sectorByte_lt s.choices false) _, ?_⟩, fun h => ?_, ?_⟩
  · rw [hk.array]
    exact hsame
  · rw [hk2]
    exact freshen_index j e.sector p
  · refine hk.protect.trans ?_
    show (u.store.protect || _) = _
    rw [harray]
    rfl
  · rw [ht, kick_mu, hmu, honlyArray]
    rfl
  · refine if_neg ?_
    show ¬u.store.fault = true
    rw [harray]
    exact Bool.not_eq_true _ ▸ hf
  · rw [hk.array]
    exact hwritten
  · rw [hk.array]
    exact hno h
  · have hpu : u.powered = true := honlyArray.reportsOnly.power.trans hp
    have hsight : (s.eraseEnded e.sector).reportsSince (eraseOutcome e.sector false u) (eraseReport e.sector) :=
      ReportsOnly.since honlyArray.reportsOnly honly (hrep hpu)
    rw [ht]
    exact kick_reportsKept _ s _ hsight

/-! ### A page program in suspension, a page read, the suspension -/

theorem programDone_resumes {s : State} {f : Flight} {e : EraseRecord} (hs : s.store.state = .programmingInSuspend)
    (hf : s.store.flight = some f) (he : s.store.erase = some e) (passed : Bool) :
    (programDone passed s).store.state = .erasing ∧ (programDone passed s).store.flight = none
    ∧ (programDone passed s).store.erase = some { e with progress := 0 } := by
  have hdone : programDone passed s = kick (flightDone f passed (s.onStore AccountStore.resumeErase)) := by
    unfold programDone
    rw [hs, hf]
  obtain ⟨hstate, hflight, herase⟩ := flightDone_arbiterKept f passed (s.onStore AccountStore.resumeErase)
  have he' : (flightDone f passed (s.onStore AccountStore.resumeErase)).store.erase = some { e with progress := 0 } :=
    herase.trans (congrArg (Option.map _) he)
  rw [hdone, kick_resumed hstate he']
  exact ⟨hstate, hflight, he'⟩

theorem readDone_resumes {s : State} {p : Fin 224} {e : EraseRecord} (hs : s.store.state = .readingInSuspend)
    (hf : s.store.flight = some (.readPage p)) (he : s.store.erase = some e) :
    (readDone s).store.state = .erasing ∧ (readDone s).store.flight = none
    ∧ (readDone s).store.erase = some { e with progress := 0 } ∧ (readDone s).store.array = s.store.array ∧ (readDone s).mu = s.mu := by
  have hdone : readDone s = kick (pageRead p (s.onStore AccountStore.resumeErase)) := by
    unfold readDone
    rw [hs, hf]
  have hread := pageRead_readOnly p (s.onStore AccountStore.resumeErase)
  have hmu : (pageRead p (s.onStore AccountStore.resumeErase)).mu = s.mu := by rw [onlyLinkAndStore_pageRead p]; rfl
  generalize pageRead p (s.onStore AccountStore.resumeErase) = u at hdone hread hmu
  have he' : u.store.erase = some { e with progress := 0 } := by
    rw [hread]
    exact congrArg (Option.map _) he
  have hs' : u.store.state = .erasing := by rw [hread]; rfl
  rw [hdone, kick_resumed hs' he']
  exact ⟨hs', by rw [hread]; rfl, he', by rw [hread]; rfl, hmu⟩

theorem exec_eraseSuspension {s : State} (hp : s.powered = true) : exec .eraseSuspension s =
    .next (if s.store.state = .erasing ∧ s.store.workOutside then s.onStore AccountStore.suspendAtFifty else s) :=
  congrArg Host.Outcome.next (whenPowered_on hp _)

theorem exec_suspendLatencyEnd {s : State} (hp : s.powered = true) : exec .suspendLatencyEnd s =
    .next (if s.store.state = .eraseSuspended then s.onStore AccountStore.suspendedStart else s) :=
  congrArg Host.Outcome.next (whenPowered_on hp _)

theorem suspendAtFifty_eq {a : AccountStore} {e : EraseRecord} (he : a.erase = some e) : a.suspendAtFifty =
    if 50 - e.progress < e.remaining then { a with
        state := .eraseSuspended
        erase := some { e with remaining := e.remaining - (50 - e.progress), progress := e.progress + (50 - e.progress) } }
    else a := by
  unfold AccountStore.suspendAtFifty
  rw [he]
  rfl

/-- R166, R167: a program starts exactly where one may run. -/
theorem startProgram_isSome (next : StoreState) (a : AccountStore) :
    (a.startProgram next).isSome = (a.checkpointMayRun || a.configMayRun || a.tariffMayRun) := by
  unfold AccountStore.startProgram
  by_cases hc : a.checkpointMayRun = true
  · rw [if_pos hc, hc]
    unfold AccountStore.checkpointMayRun at hc
    split at hc
    · rfl
    · cases hc
  · rw [if_neg hc, Bool.eq_false_of_not_eq_true hc]
    by_cases hi : a.configMayRun = true
    · rw [if_pos hi, hi, Option.isSome_map]
      unfold AccountStore.configMayRun at hi
      split at hi
      · next h => rw [h]; rfl
      · cases hi
    · rw [if_neg hi, Bool.eq_false_of_not_eq_true hi]
      by_cases ht : a.tariffMayRun = true
      · rw [if_pos ht, ht, Option.isSome_map]
        unfold AccountStore.tariffMayRun at ht
        split at ht
        · next h => rw [h]; rfl
        · cases ht
      · rw [if_neg ht, Bool.eq_false_of_not_eq_true ht]
        rfl

/-- R166, R167: a program that starts runs in the state asked for, beside the erase. -/
theorem startProgram_starts {next : StoreState} {a b : AccountStore} (h : a.startProgram next = some b) :
    b.state = next ∧ (∃ f, b.flight = some f) ∧ b.erase = a.erase ∧ b.array = a.array := by
  unfold AccountStore.startProgram at h
  split at h
  · split at h
    · cases h
      exact ⟨rfl, ⟨_, rfl⟩, rfl, rfl⟩
    · cases h
  · split at h
    · obtain ⟨j, _, rfl⟩ := Option.map_eq_some_iff.mp h
      exact ⟨rfl, ⟨_, rfl⟩, rfl, rfl⟩
    · split at h
      · obtain ⟨j, _, rfl⟩ := Option.map_eq_some_iff.mp h
        exact ⟨rfl, ⟨_, rfl⟩, rfl, rfl⟩
      · cases h

theorem workOutside_of_no_read {a : AccountStore} (h : a.readRequest = none) (next : StoreState) :
    a.workOutside = (a.startProgram next).isSome := by
  rw [startProgram_isSome]
  unfold AccountStore.workOutside
  rw [h, Bool.false_or]

theorem suspendedStart_read {a : AccountStore} {p : Fin 224} (hr : a.readRequest = some p) :
    a.suspendedStart = { a with state := .readingInSuspend, flight := some (.readPage p), readRequest := none } := by
  unfold AccountStore.suspendedStart
  rw [hr]

theorem suspendedStart_program {a b : AccountStore} (hr : a.readRequest = none) (hb : a.startProgram .programmingInSuspend = some b) :
    a.suspendedStart = b := by
  unfold AccountStore.suspendedStart
  rw [hr]
  simp only [hb]

theorem suspendedStart_resume {a : AccountStore} (hr : a.readRequest = none) (hb : a.startProgram .programmingInSuspend = none) :
    a.suspendedStart = a.resumeErase := by
  unfold AccountStore.suspendedStart
  rw [hr]
  simp only [hb]

/-- Settles O50: each completion by the job that it ends, or by the erase that it ends, resumes or suspends. -/
theorem storeCompletions : Obligations.StoreCompletions := by
  intro s hp a wrote elsewhere noImage running
  have hprogram := exec_programCompletion hp
  refine ⟨fun hf passed => ?_, fun f e passed hs hf he => ?_, fun hs passed => ?_, fun hs => ?_, fun h => ?_, fun hs => ?_,
    fun j hrun hf hj => ?_, fun j hrun hf hj => ?_, fun j bands hrun hf hj hb hlen => ?_, fun c j p second hrun hf hc hj => ?_,
    fun e j hs he hj => ?_, fun p e hs hf he => ?_, fun e hs hw he => ?_, fun p e hs he => ?_⟩
  · rw [hprogram]
    unfold programDone
    rw [show s.store.flight = none from hf]
    cases s.store.state <;> rfl
  · exact ⟨_, hprogram passed, programDone_resumes hs hf he passed⟩
  · rw [exec_eraseCompletion hp]
    unfold eraseDone
    split
    · next h _ => exact absurd h hs
    · rfl
  · have h : exec .readCompletion s = .next (readDone s) := congrArg Host.Outcome.next (whenPowered_on hp _)
    rw [h]
    unfold readDone
    split
    · next h _ => exact absurd h hs
    · rfl
  · rw [exec_eraseSuspension hp, if_neg]
    rintro ⟨h1, h2⟩
    obtain h | h := h
    · exact h h1
    · exact absurd (h.symm.trans h2) (by decide)
  · rw [exec_suspendLatencyEnd hp, if_neg hs]
  · refine ⟨⟨_, hprogram true, ?_⟩, ⟨_, hprogram false, ?_⟩⟩
    · obtain ⟨st, e, h⟩ := programDone_eq hrun hf true
      rw [h]
      exact kick_configPage_last (s := s.onStore fun a => { a with state := st, flight := none, erase := e }) hj hp
    · obtain ⟨st, e, h⟩ := programDone_eq hrun hf false
      rw [h]
      obtain ⟨h1, h2, h3, h4, h5, h6, h7⟩ :=
        kick_configPage_failed (s := s.onStore fun a => { a with state := st, flight := none, erase := e }) hj hp true
      exact ⟨h1, h2, h3, h4, h5, noImage_of_invalid h6, h7⟩
  · refine ⟨⟨_, hprogram true, ?_⟩, ⟨_, hprogram false, ?_⟩⟩
    · obtain ⟨st, e, h⟩ := programDone_eq hrun hf true
      rw [h]
      exact kick_configPage_first (s := s.onStore fun a => { a with state := st, flight := none, erase := e }) hj
    · obtain ⟨st, e, h⟩ := programDone_eq hrun hf false
      rw [h]
      obtain ⟨h1, h2, h3, h4, h5, h6, _⟩ :=
        kick_configPage_failed (s := s.onStore fun a => { a with state := st, flight := none, erase := e }) hj hp false
      exact ⟨h1, h2, h3, h4, h5, noImage_of_invalid h6⟩
  · refine ⟨⟨_, hprogram true, ?_⟩, ⟨_, hprogram false, ?_⟩⟩
    · obtain ⟨st, e, h⟩ := programDone_eq hrun hf true
      rw [h]
      obtain ⟨h1, h2, h3, h4, h5⟩ :=
        kick_tariffPage_passed (s := s.onStore fun a => { a with state := st, flight := none, erase := e }) hj hb hlen hp
      refine ⟨h1, h2, ?_, ?_, ?_, ?_, h4, h5⟩
      · exact (congrArg MeteringUnit.bands h3).trans rfl
      · exact (congrArg MeteringUnit.pendingBands h3).trans rfl
      · exact (congrArg MeteringUnit.accounts h3).trans rfl
      · exact (congrArg MeteringUnit.index h3).trans rfl
    · obtain ⟨st, e, h⟩ := programDone_eq hrun hf false
      rw [h]
      exact kick_tariffPage_failed (s := s.onStore fun a => { a with state := st, flight := none, erase := e }) hj hp
  · refine ⟨?_, ?_⟩
    · obtain ⟨st, e, h⟩ := programDone_eq hrun hf true
      obtain ⟨h1, ⟨k, h2, h3, h4⟩, h5⟩ :=
        kick_checkpointPage_passed (s := s.onStore fun a => { a with state := st, flight := none, erase := e }) hc hj hp p second
      refine ⟨_, k, hprogram true, ?_⟩
      rw [h]
      exact ⟨h1, h2, h3, h4, h5⟩
    · obtain ⟨st, e, h⟩ := programDone_eq hrun hf false
      obtain ⟨h1, ⟨k, h2, h3⟩, h4⟩ :=
        kick_checkpointPage_failed (s := s.onStore fun a => { a with state := st, flight := none, erase := e }) hc hj hp p second
      refine ⟨_, k, hprogram false, ?_⟩
      rw [h]
      exact ⟨h1, h2, h3, h4⟩
  · obtain ⟨h1, h2, ⟨k, h3, h4⟩, h5, h6, h7⟩ := eraseDone_passed hs he hj
    obtain ⟨g1, g2, ⟨l, g3, g4⟩, g5, g6, g7, g8, g9, g10, g11, g12⟩ := eraseDone_failed hs he hj hp
    exact ⟨⟨_, k, exec_eraseCompletion hp true, h1, h2, h3, h4, h5, h6, h7⟩,
      _, l, exec_eraseCompletion hp false, g1, g2, g3, g4, g5, g6, g7, g8, g9, g10, fun h => noImage_of_invalid (g11 h), g12⟩
  · exact ⟨_, congrArg Host.Outcome.next (whenPowered_on hp _), readDone_resumes hs hf he⟩
  · have hx : exec .eraseSuspension s = .next (s.onStore AccountStore.suspendAtFifty) :=
      (exec_eraseSuspension hp).trans (congrArg _ (if_pos ⟨hs, hw⟩))
    refine ⟨fun hlt => ?_, fun hle => ?_⟩
    · rw [hx]
      unfold State.onStore
      rw [suspendAtFifty_eq he, if_pos hlt]
    · rw [hx]
      unfold State.onStore
      rw [suspendAtFifty_eq he, if_neg (by omega)]
  · have hx : exec .suspendLatencyEnd s = .next (s.onStore AccountStore.suspendedStart) :=
      (exec_suspendLatencyEnd hp).trans (congrArg _ (if_pos hs))
    rw [hx]
    unfold State.onStore
    refine ⟨fun hr => ?_, fun hr hw => ?_, fun hr hw => ?_⟩
    · rw [suspendedStart_read hr]
    · have hnone : s.store.startProgram .programmingInSuspend = none := by
        rw [← Option.isNone_iff_eq_none, ← Option.isSome_eq_false_iff, ← workOutside_of_no_read hr]
        exact hw
      rw [suspendedStart_resume hr hnone]
      unfold AccountStore.resumeErase
      rw [show s.store.erase = some e from he]
      rfl
    · have hsome : (s.store.startProgram .programmingInSuspend).isSome = true := by
        rw [← workOutside_of_no_read hr]
        exact hw
      obtain ⟨b, hb⟩ := Option.isSome_iff_exists.mp hsome
      obtain ⟨h1, ⟨f, h2⟩, h3, h4⟩ := startProgram_starts hb
      rw [suspendedStart_program hr hb]
      exact ⟨_, f, rfl, rfl, h1, h2, h3.trans he, h4⟩

end Sys2Proof.Machine

/-! PROOFS. What a reset or a loss of the supply leaves of an operation of the array that it cuts off (R173, R175, R181, R182). -/

namespace Sys2Proof.Machine

/-! ### Records in a span of bytes -/

theorem recordAt_getElem? (place : Nat) (bytes : List Byte) (i : Nat) :
    (recordAt place bytes)[i]? = if i < 32 then bytes[32 * place + i]? else none := by
  unfold recordAt
  rw [List.getElem?_take]
  split
  · rw [List.getElem?_drop]
  · rfl

/-- R175: a record whose feeder byte names no feeder is not valid. -/
theorem validRecord_of_feeder {r : List Byte} (h : feederOfByte (u8At r 8) = none) : validRecord r = false := by
  unfold validRecord
  rw [h]
  rfl

theorem voidRecord_invalid (place : Nat) (bytes : List Byte) : validRecord (recordAt place (voidRecord place bytes)) = false := by
  have hbyte : u8At (recordAt place (voidRecord place bytes)) 8 = 0 := by
    unfold u8At
    rw [List.getD_eq_getElem?_getD, recordAt_getElem?, if_pos (by decide)]
    unfold voidRecord
    rw [List.getElem?_set]
    split
    · split
      · rfl
      · rfl
    · next h => exact absurd rfl h
  exact validRecord_of_feeder (by rw [hbyte]; rfl)

theorem recordAt_voidRecord {place k : Nat} (h : place ≠ k) (bytes : List Byte) :
    recordAt place (voidRecord k bytes) = recordAt place bytes := by
  apply List.ext_getElem?
  intro i
  rw [recordAt_getElem?, recordAt_getElem?]
  split
  · unfold voidRecord
    rw [List.getElem?_set_ne (by omega)]
  · rfl

/-- R181: after `noStrays` a valid record is the one that was to stand there. -/
theorem noStrays_valid (held bytes : List Byte) {n place : Nat} (hplace : place < n)
    (hvalid : validRecord (recordAt place (noStrays held n bytes)) = true) :
    recordAt place (noStrays held n bytes) = recordAt place held := by
  induction n with
  | zero => omega
  | succ n ih =>
    have hstep : noStrays held (n + 1) bytes = if validRecord (recordAt n (noStrays held n bytes))
        ∧ recordAt n (noStrays held n bytes) ≠ recordAt n held then voidRecord n (noStrays held n bytes) else noStrays held n bytes := by
      unfold noStrays
      rw [List.range_succ, List.foldl_append]
      rfl
    rw [hstep] at hvalid ⊢
    by_cases hn : place = n
    · subst hn
      split at hvalid
      · rw [voidRecord_invalid] at hvalid
        cases hvalid
      · next h =>
        rw [if_neg h]
        by_contra hne
        exact h ⟨hvalid, hne⟩
    · have hlt : place < n := by omega
      split at hvalid
      · next h =>
        rw [if_pos h]
        rw [recordAt_voidRecord hn] at hvalid ⊢
        exact ih hlt hvalid
      · next h =>
        rw [if_neg h]
        exact ih hlt hvalid

theorem recordAt_padTo {written : List Byte} {place : Nat} (h : 32 * place + 32 ≤ written.length) :
    recordAt place (padTo 256 written) = recordAt place written := by
  apply List.ext_getElem?
  intro i
  rw [recordAt_getElem?, recordAt_getElem?]
  split
  · unfold padTo
    rw [List.getElem?_append_left (by omega)]
  · rfl

/-- R175: erased bytes are no valid record. -/
theorem recordAt_padding {written : List Byte} {place : Nat} (h : written.length ≤ 32 * place) (hplace : place < 8) :
    validRecord (recordAt place (padTo 256 written)) = false := by
  refine validRecord_of_feeder ?_
  have hbyte : u8At (recordAt place (padTo 256 written)) 8 = 255 := by
    unfold u8At padTo
    rw [List.getD_eq_getElem?_getD, recordAt_getElem?, if_pos (by decide), List.getElem?_append_right (by omega), List.getElem?_replicate,
      if_pos (by omega)]
    rfl
  rw [hbyte]
  rfl

theorem recordAt_readBytes (m : Flash) (base : Nat) {n place : Nat} (h : 32 * place + 32 ≤ n) :
    recordAt place (m.readBytes base n) = m.readBytes (base + 32 * place) 32 := by
  apply List.ext_getElem?
  intro i
  rw [recordAt_getElem?]
  unfold Flash.readBytes
  rw [List.getElem?_map, List.getElem?_map]
  split
  · next hi =>
    rw [List.getElem?_range (by omega), List.getElem?_range hi]
    show some (m.read (base + (32 * place + i))) = some (m.read (base + 32 * place + i))
    rw [Nat.add_assoc]
  · next hi => rw [List.getElem?_eq_none (by rw [List.length_range]; omega)]; rfl

/-! ### What a journal page holds whose program was cut off -/

theorem notErased_length (choice : Nat) (page : List Byte) : (notErased choice page).length = page.length := by
  unfold notErased
  split
  · exact List.length_set
  · rfl

theorem cutJournalPage_length (choice a : Nat) (written : List Byte) (count : Nat) : (cutJournalPage choice a written count).length = 256 := by
  unfold cutJournalPage
  simp only []
  split
  · rw [voidRecord_length, noStrays_length, notErased_length, noise_length]
  · rw [noStrays_length, notErased_length, noise_length]

/-- R175: a page whose program was cut off is not FRESH. -/
theorem cutJournalPage_written (choice a : Nat) (written : List Byte) (count : Nat) :
    ∃ k, k < 256 ∧ (cutJournalPage choice a written count).getD k 0xFF ≠ 0xFF := by
  obtain ⟨k, hk, h⟩ := notErased_spec choice (noise_length choice a 256)
  refine ⟨k, hk, ?_⟩
  unfold cutJournalPage
  simp only []
  split
  · exact voidRecord_written (noStrays_written h _ _) _
  · exact noStrays_written h _ _

/-- R181: one of the records being written is missing, and a valid one is the one being written. -/
theorem cutJournalPage_records (choice a : Nat) (written : List Byte) {count : Nat} (hcount : 0 < count) :
    (∃ place, place < count ∧ validRecord (recordAt place (cutJournalPage choice a written count)) = false)
    ∧ ∀ place, place < 8 → validRecord (recordAt place (cutJournalPage choice a written count)) = true →
      recordAt place (cutJournalPage choice a written count) = recordAt place (padTo 256 written) := by
  have hheld := fun place => noStrays_valid (padTo 256 written) (notErased choice (noise choice a 256)) (n := 8) (place := place)
  unfold cutJournalPage
  simp only []
  generalize noStrays (padTo 256 written) 8 (notErased choice (noise choice a 256)) = page at hheld
  generalize hk : (Config.spoiledPlace choice).val % count = k
  have hlt : k < count := hk ▸ Nat.mod_lt _ hcount
  split
  · refine ⟨⟨k, hlt, voidRecord_invalid _ _⟩, fun place hplace hvalid => ?_⟩
    have hne : place ≠ k := by
      rintro rfl
      rw [voidRecord_invalid] at hvalid
      cases hvalid
    rw [recordAt_voidRecord hne] at hvalid ⊢
    exact hheld place hplace hvalid
  · next h => exact ⟨⟨k, hlt, Bool.eq_false_of_not_eq_true h⟩, fun place hplace hvalid => hheld place hplace hvalid⟩

/-! ### Programs and erases that are cut off -/

theorem arrayOnly_cutProgram (s : State) : ArrayOnly s (cutProgram s) := by
  unfold cutProgram
  split
  · rfl
  · exact arrayOnly_leaveConfigPage _ _ s
  · rfl
  · rfl
  · rfl

theorem cutProgram_none {s : State} (h : s.store.flight = none) : cutProgram s = s := by
  unfold cutProgram
  rw [h]

theorem cutProgram_config {s : State} {second : Bool} (h : s.store.flight = some (.configPage second)) :
    Flash.imageValid (cutProgram s).store.array = false := by
  unfold cutProgram
  rw [h]
  exact leaveConfigPage_noImage second _ s

theorem cutProgram_checkpoint {s : State} {p : Fin 224} {second : Bool} {k : Checkpoint}
    (h : s.store.flight = some (.checkpointPage p second)) (hk : s.store.checkpoint = some k) :
    (cutProgram s).store.array = Flash.replace s.store.array (journalBase p) 256
      (cutJournalPage s.choices (journalBase p) (k.page second) (if second then 4 else 8)) := by
  unfold cutProgram
  rw [h, hk]
  rfl

/-- R177: a page program reaches its own sector alone. -/
theorem cutProgram_sameOutside {s : State} {k : Fin 16} (hk : 2 ≤ k.val)
    (h : ∀ (p : Fin 224) (second : Bool), s.store.flight = some (.checkpointPage p second) → sectorOf p ≠ k) {x : Nat}
    (hlo : sectorBase k ≤ x) (hhi : x < sectorBase k + 4096) :
    Flash.read (cutProgram s).store.array x = Flash.read s.store.array x := by
  have hbase : sectorBase k = k.val * 4096 := rfl
  unfold cutProgram
  split
  · next p second hf =>
    have hne : (sectorOf p).val ≠ k.val := fun e => h p second hf (Fin.ext e)
    have hpage := (pageOf p).isLt
    have hj : journalBase p = (sectorOf p).val * 4096 + (pageOf p).val * 256 := rfl
    exact Flash.sameBut_replace _ _ _ _ x (by omega)
  · next second _ =>
    exact leaveConfigPage_sameBut second _ s x (.inr (by split <;> omega))
  · exact Flash.sameBut_replace s.store.array (sectorBase 1) 256 _ x (.inr (by
      show 1 * 4096 + 256 ≤ x
      omega))
  · rfl
  · rfl

theorem cutErase_none {s : State} (h : s.store.erase = none) : cutErase s = s := by
  unfold cutErase
  rw [h]

theorem cutErase_some {s : State} {e : EraseRecord} (h : s.store.erase = some e) : cutErase s =
    leaveSector e.sector (s.store.journal.any fun j => decide (sectorOf j.writePos = e.sector)) s := by
  unfold cutErase
  rw [h]

/-- R165: an erase that is cut off reaches its own sector alone. -/
theorem cutErase_sameOutside (s : State) {x : Nat}
    (h : ∀ e : EraseRecord, s.store.erase = some e → x < sectorBase e.sector ∨ sectorBase e.sector + 4096 ≤ x) :
    Flash.read (cutErase s).store.array x = Flash.read s.store.array x := by
  cases he : s.store.erase with
  | none => rw [cutErase_none he]
  | some e =>
    rw [cutErase_some he]
    exact leaveSector_sameBut e.sector _ s x (h e he)

/-- R173: an erase that is cut off makes no image valid. -/
theorem cutErase_noImage {s : State} (h : Flash.imageValid s.store.array = false) : Flash.imageValid (cutErase s).store.array = false := by
  cases he : s.store.erase with
  | none => rw [cutErase_none he]; exact h
  | some e =>
    rw [cutErase_some he]
    by_cases h0 : e.sector = 0
    · exact leaveSector_noImage h0 _ s
    · have hbase : 313 ≤ sectorBase e.sector := by
        have : e.sector.val ≠ 0 := fun h => h0 (Fin.ext h)
        unfold sectorBase
        omega
      rw [(leaveSector_sameBut e.sector _ s).imageValid hbase]
      exact h

theorem failedSector_length (choice : Nat) (k : Fin 16) (first : Bool) (held : List Byte) : (failedSector choice k first held).length = 4096 := by
  unfold failedSector
  simp only []
  split
  · rw [noStrays_length, List.length_set, noise_length]
  · rw [List.length_set, noise_length]

/-- R181: in a journal sector whose erase was cut off a valid record is one that it held. -/
theorem leaveSector_records {k : Fin 16} (hk : 2 ≤ k.val) (first : Bool) (s : State) {place : Nat} (hplace : place < 128)
    (hvalid : validRecord (Flash.readBytes (leaveSector k first s).store.array (sectorBase k + 32 * place) 32) = true) :
    Flash.readBytes (leaveSector k first s).store.array (sectorBase k + 32 * place) 32
      = Flash.readBytes s.store.array (sectorBase k + 32 * place) 32 := by
  have hne : k ≠ 0 := fun h => by subst h; exact absurd hk (by decide)
  have harray : (leaveSector k first s).store.array = Flash.replace s.store.array (sectorBase k) 4096
      (failedSector s.choices k first (Flash.readBytes s.store.array (sectorBase k) 4096)) := by
    unfold leaveSector
    simp only []
    rw [if_neg hne]
    rfl
  have hread : Flash.readBytes (leaveSector k first s).store.array (sectorBase k + 32 * place) 32
      = recordAt place (failedSector s.choices k first (Flash.readBytes s.store.array (sectorBase k) 4096)) := by
    rw [harray]
    exact Flash.readBytes_replace _ _ _ _ _ _ (by rw [failedSector_length]) (by rw [failedSector_length]; omega)
  have hsector : failedSector s.choices k first (Flash.readBytes s.store.array (sectorBase k) 4096)
      = noStrays (Flash.readBytes s.store.array (sectorBase k) 4096) 128 ((noise s.choices (sectorBase k) 4096).set
        (if first then (Config.spoiledPlace s.choices).val % 256 else (Config.spoiledPlace s.choices).val)
        (BitVec.ofNat 8 (Config.spoiledBy s.choices).val)) := if_pos hk
  rw [hread, hsector] at hvalid
  rw [hread, hsector, noStrays_valid _ _ hplace hvalid]
  exact recordAt_readBytes _ _ (by omega)

end Sys2Proof.Machine

/-! PROOFS. The cut-off operations of the array (R173, R175, R181, R182) put together. -/

namespace Sys2Proof.Machine

/-- R181: what a cut-off checkpoint page leaves, where no erase of its sector is cut off as well. -/
theorem cutOff_checkpoint {s : State} {p : Fin 224} {second : Bool} {k : Checkpoint} (hf : s.store.flight = some (.checkpointPage p second))
    (hk : s.store.checkpoint = some k) (he : ∀ e : EraseRecord, s.store.erase = some e → e.sector ≠ sectorOf p) {x : Nat}
    (hlo : journalBase p ≤ x) (hhi : x < journalBase p + 256) :
    Flash.read (cutOff s).store.array x = Flash.read (Flash.replace s.store.array (journalBase p) 256
      (cutJournalPage s.choices (journalBase p) (k.page second) (if second then 4 else 8))) x := by
  have herase : (cutProgram s).store.erase = s.store.erase := by rw [arrayOnly_cutProgram s]
  have hj : journalBase p = (sectorOf p).val * 4096 + (pageOf p).val * 256 := rfl
  have hpage := (pageOf p).isLt
  rw [← cutProgram_checkpoint hf hk]
  refine cutErase_sameOutside (cutProgram s) fun e h => ?_
  have hne : e.sector.val ≠ (sectorOf p).val := fun e' => he e (herase ▸ h) (Fin.ext e')
  have hbase : sectorBase e.sector = e.sector.val * 4096 := rfl
  omega

theorem cutOff_checkpoint_record {s : State} {p : Fin 224} {second : Bool} {k : Checkpoint}
    (hf : s.store.flight = some (.checkpointPage p second)) (hk : s.store.checkpoint = some k)
    (he : ∀ e : EraseRecord, s.store.erase = some e → e.sector ≠ sectorOf p) {place : Nat} (hplace : place < 8) :
    Flash.readBytes (cutOff s).store.array (journalBase p + 32 * place) 32
      = recordAt place (cutJournalPage s.choices (journalBase p) (k.page second) (if second then 4 else 8)) := by
  refine Eq.trans ?_ (Flash.readBytes_replace s.store.array (journalBase p) 256 (32 * place) 32 _ (by rw [cutJournalPage_length])
    (by rw [cutJournalPage_length]; omega))
  unfold Flash.readBytes
  refine List.map_congr_left fun i hi => ?_
  have := List.mem_range.mp hi
  exact cutOff_checkpoint hf hk he (by omega) (by omega)

/-- R181: a valid record of a cut-off page is the one being written at its place. -/
theorem cutJournalPage_valid {choice a : Nat} {k : Checkpoint} {second : Bool} {place : Nat} (hplace : place < 8)
    (hvalid : validRecord (recordAt place (cutJournalPage choice a (k.page second) (if second then 4 else 8))) = true) :
    recordAt place (cutJournalPage choice a (k.page second) (if second then 4 else 8)) = recordAt place (k.page second) := by
  have hcount : 0 < if second then 4 else 8 := by split <;> decide
  have hheld := (cutJournalPage_records choice a (k.page second) hcount).2 place hplace hvalid
  by_cases hin : 32 * place + 32 ≤ (k.page second).length
  · rw [hheld, recordAt_padTo hin]
  · have hlen := page_length_eq k second
    rw [hheld, recordAt_padding (by rw [hlen] at hin ⊢; omega) hplace] at hvalid
    cases hvalid

theorem mainReset_array_eq (s : State) : (mainReset s).store.array = (cutOff s).store.array := rfl

/-- R182: a reset or a loss of the supply cuts off what the array is doing. -/
theorem exec_cutsOff {c : Instr} {s : State} (hc : c = .resetLine ∨ c = .mainDomainPowerLoss ∨ c = .powerOnReset false)
    (hp : s.powered = true) : ∃ t x : State, exec c s = .next t ∧ t.store.array = (cutOff x).store.array ∧ x.store = s.store := by
  obtain rfl | rfl | rfl := hc
  · exact ⟨mainReset s, s, congrArg Host.Outcome.next (whenPowered_on hp mainReset), rfl, rfl⟩
  · exact ⟨losePower s, s, congrArg Host.Outcome.next (whenPowered_on hp losePower), rfl, rfl⟩
  · exact ⟨powerOn false s, s.onCu (loseCell false), rfl, rfl, rfl⟩

/-- R173, R181: what a cut-off erase leaves in its sector. -/
theorem cutOff_erase {s : State} {e : EraseRecord} (he : s.store.erase = some e)
    (h : ∀ (p : Fin 224) (second : Bool), s.store.flight = some (.checkpointPage p second) → sectorOf p ≠ e.sector) :
    (∃ x, sectorBase e.sector ≤ x ∧ x < sectorBase e.sector + 4096 ∧ Flash.read (cutOff s).store.array x ≠ 0xFF)
    ∧ (e.sector = 0 → Flash.imageValid (cutOff s).store.array = false)
    ∧ (2 ≤ e.sector.val → ∀ place, place < 128 →
      validRecord (Flash.readBytes (cutOff s).store.array (sectorBase e.sector + 32 * place) 32) = true →
      Flash.readBytes (cutOff s).store.array (sectorBase e.sector + 32 * place) 32
        = Flash.readBytes s.store.array (sectorBase e.sector + 32 * place) 32)
    ∧ ∀ j : Journal, s.store.journal = some j → sectorOf j.writePos = e.sector →
      ∃ x, sectorBase e.sector ≤ x ∧ x < sectorBase e.sector + 256 ∧ Flash.read (cutOff s).store.array x ≠ 0xFF := by
  have honly := arrayOnly_cutProgram s
  have herase : (cutProgram s).store.erase = some e := by rw [honly]; exact he
  have hjournal : (cutProgram s).store.journal = s.store.journal := by rw [honly]
  have hoff : cutOff s = _ := cutErase_some herase
  rw [hoff, hjournal]
  refine ⟨⟨_, Nat.le_add_right _ _, Nat.add_lt_add_left (sectorByte_lt _ _) _, leaveSector_written _ _ _⟩,
    fun h0 => leaveSector_noImage h0 _ _, fun hk place hplace hvalid => ?_, fun j hj hw => ?_⟩
  · refine (leaveSector_records hk _ _ hplace hvalid).trans ?_
    unfold Flash.readBytes
    refine List.map_congr_left fun i hi => ?_
    have := List.mem_range.mp hi
    exact cutProgram_sameOutside hk h (by omega) (by omega)
  · have hfirst : (s.store.journal.any fun j => decide (sectorOf j.writePos = e.sector)) = true := by
      rw [hj]
      exact decide_eq_true hw
    rw [hfirst]
    exact ⟨_, Nat.le_add_right _ _, Nat.add_lt_add_left (sectorByte_first _) _, leaveSector_written _ _ _⟩

/-- R173, R175, R181: what the cut-off operations of the array leave. -/
theorem cutOff_spec (s : State) :
    (∀ second, s.store.flight = some (.configPage second) → Flash.imageValid (cutOff s).store.array = false)
    ∧ (∀ (p : Fin 224) (second : Bool) (k : Checkpoint), s.store.flight = some (.checkpointPage p second) →
      s.store.checkpoint = some k → (∀ e : EraseRecord, s.store.erase = some e → e.sector ≠ sectorOf p) →
      (∃ x, journalBase p ≤ x ∧ x < journalBase p + 256 ∧ Flash.read (cutOff s).store.array x ≠ 0xFF)
      ∧ (∀ place, place < 8 → validRecord (Flash.readBytes (cutOff s).store.array (journalBase p + 32 * place) 32) = true →
        Flash.readBytes (cutOff s).store.array (journalBase p + 32 * place) 32 = recordAt place (k.page second))
      ∧ ∃ place, place < (if second then 4 else 8)
        ∧ validRecord (Flash.readBytes (cutOff s).store.array (journalBase p + 32 * place) 32) = false)
    ∧ (s.store.flight = none → ∀ x, (∀ e : EraseRecord, s.store.erase = some e → x < sectorBase e.sector ∨ sectorBase e.sector + 4096 ≤ x) →
      Flash.read (cutOff s).store.array x = Flash.read s.store.array x) := by
  refine ⟨fun second hf => cutErase_noImage (cutProgram_config hf), fun p second k hf hk he => ⟨?_, fun place hplace hvalid => ?_, ?_⟩,
    fun hf x hx => ?_⟩
  · obtain ⟨i, hi, h⟩ := cutJournalPage_written s.choices (journalBase p) (k.page second) (if second then 4 else 8)
    refine ⟨journalBase p + i, by omega, by omega, ?_⟩
    rw [cutOff_checkpoint hf hk he (by omega) (by omega), Flash.read_replace_within _ hi]
    exact h
  · rw [cutOff_checkpoint_record hf hk he hplace] at hvalid ⊢
    exact cutJournalPage_valid hplace hvalid
  · have hcount : 0 < (if second then 4 else 8) ∧ (if second then 4 else 8) ≤ 8 := by split <;> decide
    obtain ⟨place, hplace, hno⟩ := (cutJournalPage_records s.choices (journalBase p) (k.page second) hcount.1).1
    refine ⟨place, hplace, ?_⟩
    rw [cutOff_checkpoint_record hf hk he (Nat.lt_of_lt_of_le hplace hcount.2)]
    exact hno
  · refine (cutErase_sameOutside (cutProgram s) fun e h => hx e ?_).trans (by rw [cutProgram_none hf])
    rw [← h, arrayOnly_cutProgram s]

/-- Settles O53: a reset or a loss of the supply leaves of the array what its cut-off operations leave. -/
theorem cutOffWork : Obligations.CutOffWork := by
  intro c s hc hp before
  obtain ⟨t, x, hx, harray, hstore⟩ := exec_cutsOff hc hp
  obtain ⟨hconfig, hcheckpoint, hnone⟩ := cutOff_spec x
  rw [hstore] at hconfig hcheckpoint hnone
  refine ⟨t, hx, ?_⟩
  rw [harray]
  refine ⟨fun second hf => noImage_of_invalid (hconfig second hf), hcheckpoint, fun e he h => ?_, hnone⟩
  have hcut := cutOff_erase (s := x) (e := e) (by rw [hstore]; exact he) (by rw [hstore]; exact h)
  rw [hstore] at hcut
  obtain ⟨h1, h2, h3, h4⟩ := hcut
  exact ⟨h1, fun h0 => noImage_of_invalid (h2 h0), h3, h4⟩

end Sys2Proof.Machine

/-! PROOFS. The journal's records, their order, and the searches over the index (R175, R179, R181). -/

namespace Sys2Proof.Machine

theorem mem_allPages (p : Fin 224) : p ∈ allPages :=
  List.mem_map.mpr ⟨p.val, List.mem_range.mpr p.isLt, Fin.ext (Nat.mod_eq_of_lt p.isLt)⟩

theorem mem_pagesOf {p : Fin 224} {k : Fin 16} : p ∈ pagesOf k ↔ sectorOf p = k := by
  unfold pagesOf
  rw [List.mem_filter, decide_eq_true_eq]
  exact and_iff_right (mem_allPages p)

/-! ### The valid records of a page (R175, R200) -/

/-- The bytes of a page's record place. -/
def placeBytes (m : Flash) (p : Fin 224) (place : Nat) : List Byte := m.readBytes (journalBase p + 32 * place) 32

/-- A record with its sequence. -/
def sequenced (r : List Byte) : Nat × List Byte := (u32At r 0, r)

theorem Flash.part_read (m : Flash) {a n x : Nat} (hlo : a ≤ x) (hhi : x < a + n) : (m.part a n).read x = m.read x := by
  unfold Flash.read Flash.part
  rw [List.find?_filter]
  have hpred : (fun c : Host.Cell => decide (decide (a ≤ c.1 ∧ c.1 < a + n) = true ∧ (c.1 == x) = true)) = fun c => c.1 == x := by
    funext c
    by_cases hc : c.1 = x
    · rw [hc]
      simp [hlo, hhi]
    · simp [hc]
  rw [hpred]

theorem part_placeBytes (m : Flash) (p : Fin 224) {place : Nat} (h : place < 8) :
    placeBytes (m.part (journalBase p) 256) p place = placeBytes m p place := by
  unfold placeBytes Flash.readBytes
  refine List.map_congr_left fun i hi => ?_
  have := List.mem_range.mp hi
  exact Flash.part_read m (by omega) (by omega)

/-- R175: erased bytes are no valid record. -/
theorem erased_invalid : validRecord (List.replicate 32 0xFF) = false := validRecord_of_feeder rfl

theorem placeBytes_nil (p : Fin 224) (place : Nat) : placeBytes [] p place = List.replicate 32 0xFF := Flash.readBytes_nil _ _

theorem filterMap_valid (l : List Nat) (f : Nat → List Byte) :
    (l.filterMap fun place => if validRecord (f place) then some (u32At (f place) 0, f place) else none)
      = ((l.map f).filter validRecord).map sequenced := by
  induction l with
  | nil => rfl
  | cons x l ih =>
    rw [List.filterMap_cons, List.map_cons, List.filter_cons]
    split
    · next h =>
      split at h
      · cases h
      · next hv => rw [if_neg hv, ih]
    · next h =>
      split at h
      · next hv =>
        cases h
        rw [if_pos hv, List.map_cons, ih]
        rfl
      · cases h

/-- R175: a page's records are the valid ones of its eight places. -/
theorem pageRecords_eq (m : Flash) (p : Fin 224) :
    pageRecords m p = (((List.range 8).map (placeBytes m p)).filter validRecord).map sequenced := by
  have hpart : (List.range 8).map (placeBytes (m.part (journalBase p) 256) p) = (List.range 8).map (placeBytes m p) :=
    List.map_congr_left fun place hplace => part_placeBytes m p (List.mem_range.mp hplace)
  rw [← hpart]
  unfold pageRecords
  simp only []
  split
  · next h =>
    rw [h, funext (placeBytes_nil p)]
    have hnone : ((List.range 8).map fun _ : Nat => List.replicate 32 (0xFF : Byte)).filter validRecord = [] := by
      refine List.filter_eq_nil_iff.mpr fun r hr => ?_
      obtain ⟨_, _, rfl⟩ := List.mem_map.mp hr
      rw [erased_invalid]
      decide
    rw [hnone]
    rfl
  · exact filterMap_valid _ (placeBytes (m.part (journalBase p) 256) p)

theorem mem_pageRecords {m : Flash} {p : Fin 224} {x : Nat × List Byte} : x ∈ pageRecords m p ↔
    ∃ place, place < 8 ∧ validRecord (placeBytes m p place) = true ∧ x = sequenced (placeBytes m p place) := by
  rw [pageRecords_eq, List.mem_map]
  constructor
  · rintro ⟨r, hr, rfl⟩
    obtain ⟨hr, hv⟩ := List.mem_filter.mp hr
    obtain ⟨place, hplace, rfl⟩ := List.mem_map.mp hr
    exact ⟨place, List.mem_range.mp hplace, hv, rfl⟩
  · rintro ⟨place, hplace, hv, rfl⟩
    exact ⟨_, List.mem_filter.mpr ⟨List.mem_map.mpr ⟨place, List.mem_range.mpr hplace, rfl⟩, hv⟩, rfl⟩

theorem validRecord_crc {r : List Byte} (h : validRecord r = true) : crcField (r.take 30) = r.drop 30 := by
  unfold validRecord at h
  split at h
  · exact of_decide_eq_true h
  · cases h

/-! ### Sequence order (R179) -/

theorem insertRecord_perm (r : Nat × List Byte) (l : List (Nat × List Byte)) : (insertRecord r l).Perm (r :: l) := by
  induction l with
  | nil => exact .refl _
  | cons x l ih =>
    unfold insertRecord
    split
    · exact .refl _
    · exact (ih.cons x).trans (.swap r x l)

theorem insertRecord_sorted {l : List (Nat × List Byte)} (h : l.Pairwise fun a b => a.1 ≤ b.1) (r : Nat × List Byte) :
    (insertRecord r l).Pairwise fun a b => a.1 ≤ b.1 := by
  induction l with
  | nil => exact List.pairwise_singleton _ _
  | cons x l ih =>
    obtain ⟨hx, hl⟩ := List.pairwise_cons.mp h
    unfold insertRecord
    split
    · next hlt =>
      refine List.pairwise_cons.mpr ⟨fun y hy => ?_, h⟩
      obtain rfl | hy := List.mem_cons.mp hy
      · omega
      · have := hx y hy
        omega
    · next hge =>
      refine List.pairwise_cons.mpr ⟨fun y hy => ?_, ih hl⟩
      obtain rfl | hy := List.mem_cons.mp ((insertRecord_perm r l).mem_iff.mp hy)
      · omega
      · exact hx y hy

theorem sortRecords_perm (l : List (Nat × List Byte)) : (sortRecords l).Perm l := by
  have hgen : ∀ (l acc : List (Nat × List Byte)), (l.foldl (fun acc r => insertRecord r acc) acc).Perm (acc ++ l) := by
    intro l
    induction l with
    | nil => intro acc; rw [List.append_nil]; exact .refl _
    | cons r l ih =>
      intro acc
      exact ((ih _).trans ((insertRecord_perm r acc).append_right l)).trans List.perm_middle.symm
  exact hgen l []

theorem sortRecords_sorted (l : List (Nat × List Byte)) : (sortRecords l).Pairwise fun a b => a.1 ≤ b.1 :=
  List.foldlRecOn (motive := fun acc : List (Nat × List Byte) => acc.Pairwise fun a b => a.1 ≤ b.1) l _ List.Pairwise.nil
    fun _ hacc r _ => insertRecord_sorted hacc r

/-- R179: records in sequence order. -/
def ordered (l : List (List Byte)) : List (List Byte) := (sortRecords (l.map sequenced)).map Prod.snd

theorem ordered_perm (l : List (List Byte)) : (ordered l).Perm l := by
  have h := (sortRecords_perm (l.map sequenced)).map Prod.snd
  rw [List.map_map] at h
  exact h.trans (.of_eq (List.map_id l))

theorem ordered_sorted (l : List (List Byte)) : (ordered l).Pairwise fun a b => u32At a 0 ≤ u32At b 0 := by
  have hkey : ∀ x ∈ sortRecords (l.map sequenced), x.1 = u32At x.2 0 := by
    intro x hx
    obtain ⟨r, _, rfl⟩ := List.mem_map.mp ((sortRecords_perm _).mem_iff.mp hx)
    rfl
  unfold ordered
  rw [List.pairwise_map]
  refine (sortRecords_sorted (l.map sequenced)).imp_of_mem fun {a b} ha hb hab => ?_
  rw [← hkey a ha, ← hkey b hb]
  exact hab

/-! ### Searches over the index (R179) -/

/-- One page of the search for the lowest sequence. -/
def PageEntry.lower (acc : Option Nat) : PageEntry → Option Nat
  | .records lo _ => some (match acc with
    | some m => min m lo
    | none => lo)
  | .fresh | .spoiled => acc

/-- One page of the search for the highest sequence. -/
def PageEntry.higher (acc : Option Nat) : PageEntry → Option Nat
  | .records _ hi => some (match acc with
    | some m => max m hi
    | none => hi)
  | .fresh | .spoiled => acc

theorem lowestOf_eq (j : Journal) (pages : List (Fin 224)) : j.lowestOf pages = pages.foldl (fun acc p => j.index[p].lower acc) none := by
  unfold Journal.lowestOf
  congr 1
  funext acc p
  cases j.index[p] <;> cases acc <;> rfl

theorem highestOf_eq (j : Journal) (pages : List (Fin 224)) : j.highestOf pages = pages.foldl (fun acc p => j.index[p].higher acc) none := by
  unfold Journal.highestOf
  congr 1
  funext acc p
  cases j.index[p] <;> cases acc <;> rfl

theorem lower_le (e : PageEntry) (acc : Option Nat) (q : Nat) : (∃ m, e.lower acc = some m ∧ m ≤ q)
    ↔ (∃ m, acc = some m ∧ m ≤ q) ∨ ∃ lo hi, e = .records lo hi ∧ lo ≤ q := by
  cases e with
  | fresh | spoiled => simp [PageEntry.lower]
  | records lo hi => cases acc <;> simp [PageEntry.lower]

theorem le_higher (e : PageEntry) (acc : Option Nat) (q : Nat) : (∃ m, e.higher acc = some m ∧ q ≤ m)
    ↔ (∃ m, acc = some m ∧ q ≤ m) ∨ ∃ lo hi, e = .records lo hi ∧ q ≤ hi := by
  cases e with
  | fresh | spoiled => simp [PageEntry.higher]
  | records lo hi => cases acc <;> simp [PageEntry.higher]

theorem lowestOf_le (j : Journal) (pages : List (Fin 224)) (q : Nat) :
    (∃ m, j.lowestOf pages = some m ∧ m ≤ q) ↔ ∃ p ∈ pages, ∃ lo hi, j.index[p] = .records lo hi ∧ lo ≤ q := by
  have hgen : ∀ (pages : List (Fin 224)) (acc : Option Nat),
      (∃ m, pages.foldl (fun acc p => j.index[p].lower acc) acc = some m ∧ m ≤ q)
      ↔ (∃ m, acc = some m ∧ m ≤ q) ∨ ∃ p ∈ pages, ∃ lo hi, j.index[p] = .records lo hi ∧ lo ≤ q := by
    intro pages
    induction pages with
    | nil => simp
    | cons p pages ih =>
      intro acc
      rw [List.foldl_cons, ih, lower_le, or_assoc, List.exists_mem_cons_iff]
  rw [lowestOf_eq, hgen]
  simp

theorem le_highestOf (j : Journal) (pages : List (Fin 224)) (q : Nat) :
    (∃ m, j.highestOf pages = some m ∧ q ≤ m) ↔ ∃ p ∈ pages, ∃ lo hi, j.index[p] = .records lo hi ∧ q ≤ hi := by
  have hgen : ∀ (pages : List (Fin 224)) (acc : Option Nat),
      (∃ m, pages.foldl (fun acc p => j.index[p].higher acc) acc = some m ∧ q ≤ m)
      ↔ (∃ m, acc = some m ∧ q ≤ m) ∨ ∃ p ∈ pages, ∃ lo hi, j.index[p] = .records lo hi ∧ q ≤ hi := by
    intro pages
    induction pages with
    | nil => simp
    | cons p pages ih =>
      intro acc
      rw [List.foldl_cons, ih, le_higher, or_assoc, List.exists_mem_cons_iff]
  rw [highestOf_eq, hgen]
  simp

/-- R179: whether a sequence lies within the range of the sector being erased. -/
theorem inErasedRange_iff {a : AccountStore} {j : Journal} (hj : a.journal = some j) (q : Nat) : a.inErasedRange q = true ↔
    ∃ (e : EraseRecord) (p r : Fin 224) (lo hi lo' hi' : Nat), a.erase = some e ∧ sectorOf p = e.sector ∧ j.index[p] = .records lo hi
      ∧ lo ≤ q ∧ sectorOf r = e.sector ∧ j.index[r] = .records lo' hi' ∧ q ≤ hi' := by
  unfold AccountStore.inErasedRange
  rw [hj]
  cases he : a.erase with
  | none => simp
  | some e =>
    have hlow := lowestOf_le j (pagesOf e.sector) q
    have hhigh := le_highestOf j (pagesOf e.sector) q
    have hboth : (match j.lowestOf (pagesOf e.sector), j.highestOf (pagesOf e.sector) with
        | some lo, some hi => decide (lo ≤ q ∧ q ≤ hi)
        | _, _ => false) = true ↔
        (∃ m, j.lowestOf (pagesOf e.sector) = some m ∧ m ≤ q) ∧ ∃ m, j.highestOf (pagesOf e.sector) = some m ∧ q ≤ m := by
      cases j.lowestOf (pagesOf e.sector) <;> cases j.highestOf (pagesOf e.sector) <;> simp
    refine hboth.trans ?_
    rw [hlow, hhigh]
    constructor
    · rintro ⟨⟨p, hp, lo, hi, h1, h2⟩, r, hr, lo', hi', h3, h4⟩
      exact ⟨e, p, r, lo, hi, lo', hi', rfl, mem_pagesOf.mp hp, h1, h2, mem_pagesOf.mp hr, h3, h4⟩
    · rintro ⟨e', p, r, lo, hi, lo', hi', he', hp, h1, h2, hr, h3, h4⟩
      cases he'
      exact ⟨⟨p, mem_pagesOf.mpr hp, lo, hi, h1, h2⟩, r, mem_pagesOf.mpr hr, lo', hi', h3, h4⟩

/-- One page of R179's search. -/
def Journal.tryPage (j : Journal) (q : Nat) (acc : Option (Fin 224 × Nat)) (p : Fin 224) : Option (Fin 224 × Nat) :=
  match j.index[p] with
  | .records lo hi =>
    if hi < q then acc
    else match acc with
      | some (r, best) => if max lo q < best then some (p, max lo q) else some (r, best)
      | none => some (p, max lo q)
  | .fresh | .spoiled => acc

theorem pageFor_eq (j : Journal) (pages : List (Fin 224)) (q : Nat) : j.pageFor pages q = pages.foldl (j.tryPage q) none := rfl

theorem tryPage_skips {j : Journal} {q : Nat} {p : Fin 224} (h : ∀ lo hi, j.index[p] = .records lo hi → hi < q)
    (acc : Option (Fin 224 × Nat)) : j.tryPage q acc p = acc := by
  unfold Journal.tryPage
  split
  · next lo hi hp => exact if_pos (h lo hi hp)
  · rfl
  · rfl

theorem tryPage_takes {j : Journal} {q lo hi : Nat} {p : Fin 224} (hp : j.index[p] = .records lo hi) (hq : q ≤ hi)
    (acc : Option (Fin 224 × Nat)) : j.tryPage q acc p = match acc with
      | some (r, best) => if max lo q < best then some (p, max lo q) else some (r, best)
      | none => some (p, max lo q) := by
  unfold Journal.tryPage
  rw [hp]
  exact if_neg (by omega)

theorem pageFor_none {j : Journal} {pages : List (Fin 224)} {q : Nat}
    (h : ∀ p ∈ pages, ∀ lo hi, j.index[p] = .records lo hi → hi < q) : j.pageFor pages q = none := by
  rw [pageFor_eq]
  exact List.foldlRecOn (motive := fun acc => acc = none) pages _ rfl fun acc hacc p hp => (tryPage_skips (h p hp) acc).trans hacc

theorem pageFor_found {j : Journal} {pages : List (Fin 224)} {q : Nat} {r : Fin 224 × Nat} (h : j.pageFor pages q = some r) :
    ∃ lo hi, j.index[r.1] = .records lo hi ∧ r.1 ∈ pages := by
  rw [pageFor_eq] at h
  have hinv : ∀ r, pages.foldl (j.tryPage q) none = some r → ∃ lo hi, j.index[r.1] = .records lo hi ∧ r.1 ∈ pages := by
    refine List.foldlRecOn (motive := fun acc : Option (Fin 224 × Nat) => ∀ r, acc = some r → ∃ lo hi, j.index[r.1] = .records lo hi ∧ r.1 ∈ pages)
      pages _ (fun _ h => by cases h) fun acc hacc p hp r hr => ?_
    unfold Journal.tryPage at hr
    split at hr
    · next lo hi hrec =>
      split at hr
      · exact hacc r hr
      · split at hr
        · split at hr
          · cases hr; exact ⟨lo, hi, hrec, hp⟩
          · exact hacc r hr
        · cases hr; exact ⟨lo, hi, hrec, hp⟩
    · exact hacc r hr
    · exact hacc r hr
  exact hinv r h

/-- R179: the page that alone holds the lowest sequence is found. -/
theorem pageFor_lowest {j : Journal} {pages : List (Fin 224)} {q lo hi : Nat} {p : Fin 224} (hmem : p ∈ pages)
    (hp : j.index[p] = .records lo hi) (hq : q ≤ hi)
    (hlow : ∀ r, r ≠ p → ∀ lo' hi', j.index[r] = .records lo' hi' → q ≤ hi' → max lo q < max lo' q) :
    j.pageFor pages q = some (p, max lo q) := by
  have hother : ∀ r, r ≠ p → (∀ acc, j.tryPage q acc r = acc) ∨ ∃ lo' hi', j.index[r] = .records lo' hi' ∧ q ≤ hi' ∧ max lo q < max lo' q := by
    intro r hr
    cases hrec : j.index[r] with
    | fresh => exact .inl (tryPage_skips fun lo hi h => by rw [hrec] at h; cases h)
    | spoiled => exact .inl (tryPage_skips fun lo hi h => by rw [hrec] at h; cases h)
    | records lo' hi' =>
      by_cases hq' : q ≤ hi'
      · exact .inr ⟨lo', hi', rfl, hq', hlow r hr lo' hi' hrec hq'⟩
      · refine .inl (tryPage_skips fun lo hi h => ?_)
        rw [hrec] at h
        cases h
        omega
  have hkept : ∀ l : List (Fin 224), l.foldl (j.tryPage q) (some (p, max lo q)) = some (p, max lo q) := by
    intro l
    refine List.foldlRecOn (motive := fun acc => acc = some (p, max lo q)) l _ rfl fun acc hacc r _ => ?_
    rw [hacc]
    by_cases hr : r = p
    · rw [hr, tryPage_takes hp hq]
      exact if_neg (by omega)
    · obtain hskip | ⟨lo', hi', hrec, hq', hlt⟩ := hother r hr
      · exact hskip _
      · rw [tryPage_takes hrec hq']
        exact if_neg (by omega)
  have hgen : ∀ (l : List (Fin 224)) (acc : Option (Fin 224 × Nat)), p ∈ l → (∀ r b, acc = some (r, b) → max lo q < b) →
      l.foldl (j.tryPage q) acc = some (p, max lo q) := by
    intro l
    induction l with
    | nil => exact fun _ h => absurd h List.not_mem_nil
    | cons r l ih =>
      intro acc hin hacc
      rw [List.foldl_cons]
      by_cases hr : r = p
      · have htake : j.tryPage q acc r = some (p, max lo q) := by
          rw [hr, tryPage_takes hp hq]
          cases acc with
          | none => rfl
          | some x => exact if_pos (hacc x.1 x.2 rfl)
        rw [htake]
        exact hkept l
      · refine ih _ ((List.mem_cons.mp hin).resolve_left fun h => hr h.symm) ?_
        obtain hskip | ⟨lo', hi', hrec, hq', hlt⟩ := hother r hr
        · rw [hskip]
          exact hacc
        · rw [tryPage_takes hrec hq']
          cases acc with
          | none =>
            rintro _ _ ⟨⟩
            exact hlt
          | some x =>
            intro r' b' h
            simp only at h
            split at h
            · cases h; exact hlt
            · cases h; exact hacc _ _ rfl
  exact hgen pages none hmem fun _ _ h => by cases h

end Sys2Proof.Machine

/-! PROOFS. SAVE and READ_JOURNAL (R162, R176, R179). -/

namespace Sys2Proof.Machine

/-! ### What READ_JOURNAL answers with -/

/-- R179: the valid records of a page at or above a sequence. -/
def heldFrom (m : Flash) (q : Nat) (p : Fin 224) : List (List Byte) :=
  ((List.range 8).map (placeBytes m p)).filter fun r => validRecord r && decide (q ≤ u32At r 0)

theorem pageRecords_from (m : Flash) (q : Nat) (p : Fin 224) :
    (pageRecords m p).filter (fun r => decide (q ≤ r.1)) = (heldFrom m q p).map sequenced := by
  unfold heldFrom
  rw [pageRecords_eq, List.filter_map, List.filter_filter]
  refine congrArg _ (List.filter_congr fun r _ => ?_)
  exact Bool.and_comm _ _

theorem mem_heldFrom {m : Flash} {q : Nat} {p : Fin 224} {r : List Byte} (h : r ∈ heldFrom m q p) :
    ∃ place, place < 8 ∧ r = placeBytes m p place ∧ crcField (r.take 30) = r.drop 30 ∧ q ≤ u32At r 0 := by
  obtain ⟨hr, hv⟩ := List.mem_filter.mp h
  obtain ⟨place, hplace, rfl⟩ := List.mem_map.mp hr
  rw [Bool.and_eq_true, decide_eq_true_eq] at hv
  exact ⟨place, List.mem_range.mp hplace, rfl, validRecord_crc hv.1, hv.2⟩

/-- R179: what the first page gives. -/
def AccountStore.firstRead (a : AccountStore) (q : Nat) (p : Fin 224) : List (List Byte) := (ordered (heldFrom a.array q p)).take 7

/-- R179: the second page is read. -/
def AccountStore.readsOn (a : AccountStore) (q : Nat) (p : Fin 224) : Prop :=
  (a.firstRead q p).length < 7 ∧ a.readablePage (nextPage p) = true

/-- R179: what the second page adds. -/
def AccountStore.secondRead (a : AccountStore) (q : Nat) (p : Fin 224) : List (List Byte) :=
  ordered (a.firstRead q p ++ heldFrom a.array q (nextPage p))

/-- R179: what a page read comes to, by the records that it leaves. -/
theorem pageRead_eq {s : State} {job : ReadJob} (hj : s.store.readJob = some job) (p : Fin 224) :
    let records := (ordered (job.records ++ heldFrom s.store.array job.from_ p)).take 7
    pageRead p s = if job.first ∧ records.length < 7 ∧ s.store.readablePage (nextPage p) then
        s.onStore fun a => { a with readRequest := some (nextPage p), readJob := some { job with first := false, records := records } }
      else reply .ok (s.store.journalReply records) (s.onStore fun a => { a with readRequest := none, readJob := none }) := by
  intro records
  have hrecords : ((sortRecords ((job.records.map fun r => (u32At r 0, r))
      ++ (pageRecords s.store.array p).filter fun r => decide (job.from_ ≤ r.1))).map Prod.snd).take 7 = records := by
    rw [pageRecords_from]
    show ((sortRecords (job.records.map sequenced ++ (heldFrom s.store.array job.from_ p).map sequenced)).map Prod.snd).take 7 = _
    rw [← List.map_append]
    rfl
  unfold pageRead
  simp only [State.onStore_store, hj]
  rw [hrecords]
  rfl

/-- R165, R179: in READY the pages are read at once, and the reply is built. -/
theorem kick_read {s : State} (hready : s.store.state = .ready) (hr : s.store.readRequest = none) (hj : s.store.readJob = none)
    (q : Nat) (p : Fin 224) :
    let kicked := kick (s.onStore fun a =>
      { a with readJob := some { from_ := q, first := true, records := [] }, readRequest := some p })
    (s.store.readsOn q p → kicked = reply .ok (s.store.journalReply ((s.store.secondRead q p).take 7)) (s.onStore AccountStore.chooseWork))
    ∧ (¬s.store.readsOn q p → kicked = reply .ok (s.store.journalReply (s.store.firstRead q p)) (s.onStore AccountStore.chooseWork)) := by
  have hback : ∀ x : State, x = s.onStore (fun a => { a with readRequest := x.store.readRequest, readJob := x.store.readJob }) →
      (x.onStore fun a => { a with readRequest := none, readJob := none }) = s := by
    intro x hx
    rw [hx]
    unfold State.onStore
    simp only [← hr, ← hj]
  have hreply : ∀ content, (reply .ok content s).onStore AccountStore.chooseWork = reply .ok content (s.onStore AccountStore.chooseWork) := by
    intro content
    unfold reply answer
    simp only [State.onStore_sl]
    split
    · unfold transmitArbitrate
      simp only [State.onSl, State.onStore]
      repeat' split
      all_goals rfl
    · rfl
  let s1 := s.onStore fun a => { a with readJob := some { from_ := q, first := true, records := [] }, readRequest := some p }
  have hkick : kick s1 = (serveReads 2 s1).onStore AccountStore.chooseWork := by
    unfold kick
    rw [show s1.store.state = .ready from hready]
  have hfirst : serveReads 2 s1 = serveReads 1 (pageRead p s1) := rfl
  have hdone : ∀ (n : Nat) (content : List Byte), serveReads n (reply .ok content s) = reply .ok content s := by
    intro n content
    have hnone : (reply .ok content s).store.readRequest = none := by rw [reply_store]; exact hr
    cases n with
    | zero => rfl
    | succ n =>
      unfold serveReads
      rw [hnone]
  have hread := pageRead_eq (s := s1) (job := { from_ := q, first := true, records := [] }) rfl p
  have hs1 := hback s1 rfl
  refine ⟨fun hon => ?_, fun hoff => ?_⟩
  · let s2 := s.onStore fun a =>
      { a with readRequest := some (nextPage p), readJob := some { from_ := q, first := false, records := s.store.firstRead q p } }
    have h1 : pageRead p s1 = s2 := hread.trans (if_pos ⟨rfl, hon⟩)
    have h2 : pageRead (nextPage p) s2 = reply .ok (s.store.journalReply ((s.store.secondRead q p).take 7)) s := by
      refine (pageRead_eq (s := s2) (job := { from_ := q, first := false, records := s.store.firstRead q p }) rfl (nextPage p)).trans ?_
      rw [if_neg (fun h => Bool.false_ne_true h.1), hback s2 rfl]
      rfl
    have h3 : serveReads 1 s2 = serveReads 0 (pageRead (nextPage p) s2) := rfl
    refine hkick.trans ?_
    rw [hfirst, h1, h3, h2, hdone, hreply]
  · have h1 : pageRead p s1 = reply .ok (s.store.journalReply (s.store.firstRead q p)) s := by
      refine hread.trans ((if_neg fun h => hoff h.2).trans ?_)
      rw [hs1]
      rfl
    refine hkick.trans ?_
    rw [hfirst, h1, hdone, hreply]

/-! ### The commands -/

theorem serveReadJournal_eq {q : Nat} (hq : q < 4294967296) (s : State) :
    serveReadJournal (u32 q) s = if s.store.inErasedRange q then reply .erasing [] s else startJournalRead q s := by
  have h : u32At (u32 q) 0 = q := by
    have h := u32At_u32 hq []
    rwa [List.append_nil] at h
  unfold serveReadJournal
  rw [withLength_eq (n := 4) (body := u32 q) rfl]
  simp only [h]

theorem startJournalRead_none {s : State} {j : Journal} {q : Nat} (hj : s.store.journal = some j)
    (h : j.pageFor s.store.readable q = none) : startJournalRead q s = reply .ok (s.store.journalReply []) s := by
  unfold startJournalRead
  rw [hj]
  simp only [h]

theorem startJournalRead_some {s : State} {j : Journal} {q : Nat} {r : Fin 224 × Nat} (hj : s.store.journal = some j)
    (h : j.pageFor s.store.readable q = some r) : startJournalRead q s = kick (s.onStore fun a =>
      { a with readJob := some { from_ := q, first := true, records := [] }, readRequest := some r.1 }) := by
  unfold startJournalRead
  rw [hj]
  simp only [h]

theorem readable_of_no_erase {a : AccountStore} (h : a.erase = none) : a.readable = allPages := by
  unfold AccountStore.readable AccountStore.beingErased
  rw [h]
  exact List.filter_eq_self.mpr fun _ _ => rfl

theorem readablePage_iff {a : AccountStore} {j : Journal} (hj : a.journal = some j) (he : a.erase = none) (p : Fin 224) :
    a.readablePage p = true ↔ j.index[p] ≠ .fresh ∧ j.index[p] ≠ .spoiled := by
  unfold AccountStore.readablePage AccountStore.beingErased
  rw [hj, he]
  cases hp : j.index[p] with
  | fresh => simp [hp]
  | spoiled => simp [hp]
  | records lo hi => simp [hp]

theorem journalReply_eq {a : AccountStore} {j : Journal} (hj : a.journal = some j) (hlow : j.nextSequence ≤ 4294967284) (records : List (List Byte)) :
    a.journalReply records = u8 records.length ++ u32 a.oldestReadable ++ u32 j.nextSequence ++ records.flatten := by
  unfold AccountStore.journalReply AccountStore.nextSequenceSent
  rw [hj]
  simp only
  rw [if_pos (by omega)]

theorem nextPage_eq (p : Fin 224) : nextPage p = if p = 223 then 0 else p + 1 := by
  unfold nextPage
  split
  · next h => subst h; rfl
  · next h =>
    have hne : p.val ≠ 223 := fun e => h (Fin.ext e)
    apply Fin.ext
    rw [Fin.val_add]
    rfl

theorem serveSave_eq (s : State) : serveSave [] s = if s.store.fault then reply .state [] s
    else if s.store.checkpoint.isSome then reply .busy [] s
    else
      match s.store.startup, s.store.journal with
      | .complete, some j =>
        if j.nextSequence > 4294967284 then replyExhausted (postSkipped .save .pending s)
        else reply .ok (u32 j.nextSequence) (takeCheckpoint .save j s)
      | _, _ => reply .busy [] s := rfl

theorem serveSave_taken {s : State} {j : Journal} (hf : s.store.fault = false) (hc : s.store.checkpoint = none)
    (hs : s.store.startup = .complete) (hj : s.store.journal = some j) (hlow : j.nextSequence ≤ 4294967284) :
    serveSave [] s = reply .ok (u32 j.nextSequence) (takeCheckpoint .save j s) := by
  rw [serveSave_eq, if_neg (by simp [hf]), if_neg (by simp [hc]), hs, hj]
  exact if_neg (by omega)

/-- R162, R176: the checkpoint that a trigger makes. -/
def State.checkpointOf (s : State) (t : Trigger) (j : Journal) : Checkpoint :=
  { trigger := t, firstSequence := j.nextSequence, time := s.cu.calendar.seconds, cold := s.cu.clockCold,
    snapshots := snapshots s.mu, started := 0, firstPage := none }

theorem takeCheckpoint_store (t : Trigger) (j : Journal) (s : State) : Kicked { s.store with
    checkpoint := some (s.checkpointOf t j), journal := some { j with nextSequence := j.nextSequence + 12 } } (takeCheckpoint t j s).store :=
  kick_kicked (s.onStore fun a =>
    { a with checkpoint := some (s.checkpointOf t j), journal := some { j with nextSequence := j.nextSequence + 12 } })

theorem takeCheckpoint_frame (t : Trigger) (j : Journal) (s : State) : OnlyLinkAndStore s (takeCheckpoint t j s) :=
  .trans (onlyLinkAndStore_onStore s _) (onlyLinkAndStore_kick _)

theorem snapshots_getElem (s : State) (i : Fin 12) : (snapshots s.mu)[i] =
    { wh := (s.account i).wh, shedCount := (s.account i).shedCount, capTrips := (s.account i).capTrips } :=
  map12_getElem _ _ i.val i.isLt

/-- R176: SAVE takes a checkpoint. -/
theorem exec_save {s : State} {j : Journal} (tag : Byte) (hr : s.LinkReady) (hs : s.store.startup = .complete) (hj : s.store.journal = some j)
    (hlow : j.nextSequence ≤ 4294967284) (hf : s.store.fault = false) (hc : s.store.checkpoint = none) :
    ∃ (t : State) (c : Checkpoint) (k : Journal), exec (.save tag []) s = .next t ∧ t = { s with store := t.store, sl := t.sl }
      ∧ t.Replied .save tag .ok (u32 j.nextSequence) ∧ t.store.checkpoint = some c ∧ t.store.journal = some k
      ∧ c.trigger = .save ∧ c.firstSequence = j.nextSequence ∧ c.time = s.cu.calendar.seconds ∧ c.cold = s.cu.clockCold
      ∧ k.nextSequence = j.nextSequence + 12 ∧ k.index = j.index ∧ t.store.array = s.store.array
      ∧ c.snapshots = snapshots s.mu := by
  obtain ⟨t, hx, ha⟩ := exec_answers (c := .save tag []) rfl hr (changes_takeCheckpoint .save j (s.serving .save tag []))
    (serveSave_taken hf hc hs hj hlow)
  have hstore : t.store = _ := ha.proj State.store
  have hk := takeCheckpoint_store .save j (s.serving .save tag [])
  have hframe : OnlyLinkAndStore (s.serving .save tag []) _ := takeCheckpoint_frame .save j _
  obtain ⟨k, hk1, hk2, hk3⟩ := hk.journal_some (j := { j with nextSequence := j.nextSequence + 12 }) rfl
  obtain ⟨n, p, hcp⟩ := hk.checkpoint
  refine ⟨t, { (s.serving .save tag []).checkpointOf .save j with started := n, firstPage := p }, k, hx, ?_, ha.replied, ?_, ?_,
    rfl, rfl, rfl, rfl, hk3, hk2, ?_, rfl⟩
  · rw [hstore]
    conv_lhs => rw [ha.same, hframe]
    rfl
  · rw [hstore]; exact hcp
  · rw [hstore]; exact hk1
  · rw [hstore]; exact hk.array

/-- R179: READ_JOURNAL in READY, once a page has been found. -/
theorem exec_readJournal {s : State} {j : Journal} (tag : Byte) (hr : s.LinkReady) (hj : s.store.journal = some j) {q : Nat}
    (hq : q < 4294967296) (hrange : s.store.inErasedRange q = false) (hready : s.store.state = .ready) (hread : s.store.readRequest = none)
    {r : Fin 224 × Nat} (hpage : j.pageFor s.store.readable q = some r) :
    ∃ t : State, exec (.readJournal tag (u32 q)) s = .next t ∧ t = { s with store := t.store, sl := t.sl }
      ∧ t.store.array = s.store.array ∧ t.store.readJob = none
      ∧ (s.store.readsOn q r.1 → t.Replied .readJournal tag .ok (s.store.journalReply ((s.store.secondRead q r.1).take 7)))
      ∧ (¬s.store.readsOn q r.1 → t.Replied .readJournal tag .ok (s.store.journalReply (s.store.firstRead q r.1))) := by
  let s1 := s.serving .readJournal tag (u32 q)
  have hserve : serveCommand .readJournal (u32 q) s1 = kick (s1.onStore fun a =>
      { a with readJob := some { from_ := q, first := true, records := [] }, readRequest := some r.1 }) := by
    refine (serveReadJournal_eq hq s1).trans ((if_neg ?_).trans (startJournalRead_some (s := s1) hj hpage))
    exact Bool.not_eq_true _ ▸ hrange
  obtain ⟨hon, hoff⟩ := kick_read (s := s1) hready hread hr.journal q r.1
  have hkept := chooseWork_kept s.store
  have hchanges : Changes false s1 (s1.onStore AccountStore.chooseWork) := StoreKept.changes (s := s1) hkept
  have hend : ∀ content, serveCommand .readJournal (u32 q) s1 = reply .ok content (s1.onStore AccountStore.chooseWork) →
      ∃ t : State, exec (.readJournal tag (u32 q)) s = .next t ∧ t = { s with store := t.store, sl := t.sl }
        ∧ t.store.array = s.store.array ∧ t.store.readJob = none ∧ t.Replied .readJournal tag .ok content := by
    intro content h
    obtain ⟨t, hx, ha⟩ := exec_answers (c := .readJournal tag (u32 q)) rfl hr hchanges h
    have hstore : t.store = s.store.chooseWork := ha.proj State.store
    refine ⟨t, hx, ?_, ?_, ?_, ha.replied⟩
    · rw [hstore]
      exact ha.same
    · rw [hstore]; exact hkept.array
    · rw [hstore]; exact hkept.readJob.trans hr.journal
  by_cases h : s.store.readsOn q r.1
  · obtain ⟨t, h1, h2, h3, h4, h5⟩ := hend _ (hserve.trans (hon h))
    exact ⟨t, h1, h2, h3, h4, fun _ => h5, fun hno => absurd h hno⟩
  · obtain ⟨t, h1, h2, h3, h4, h5⟩ := hend _ (hserve.trans (hoff h))
    exact ⟨t, h1, h2, h3, h4, fun hyes => absurd hyes h, fun _ => h5⟩

theorem mem_firstRead {a : AccountStore} {q : Nat} {p : Fin 224} {r : List Byte} (h : r ∈ a.firstRead q p) : r ∈ heldFrom a.array q p :=
  (ordered_perm _).mem_iff.mp (List.mem_of_mem_take h)

/-- Every record that is sent stands on one of the two pages. -/
theorem mem_secondRead {a : AccountStore} {q : Nat} {p : Fin 224} {r : List Byte} (h : r ∈ (a.secondRead q p).take 7) :
    r ∈ heldFrom a.array q p ∨ r ∈ heldFrom a.array q (nextPage p) := by
  have h := (ordered_perm _).mem_iff.mp (List.mem_of_mem_take h)
  exact (List.mem_append.mp h).imp_left mem_firstRead

theorem firstRead_length (a : AccountStore) (q : Nat) (p : Fin 224) : (a.firstRead q p).length = min 7 (heldFrom a.array q p).length := by
  unfold AccountStore.firstRead
  rw [List.length_take, (ordered_perm _).length_eq]

/-- R179: a first page with fewer than seven records gives them all. -/
theorem firstRead_perm {a : AccountStore} {q : Nat} {p : Fin 224} (h : (heldFrom a.array q p).length < 7) :
    (a.firstRead q p).Perm (heldFrom a.array q p) := by
  unfold AccountStore.firstRead
  rw [List.take_of_length_le (by rw [(ordered_perm _).length_eq]; omega)]
  exact ordered_perm _

/-- Settles O49: SAVE by its tests and the checkpoint it takes; READ_JOURNAL by the page that its search finds. -/
theorem journalCommands : Obligations.JournalCommands := by
  intro tag s j hr hs hj hlow
  refine ⟨fun hf => ?_, fun hf hc => ?_, fun hf hc => ?_, ?_⟩
  · exact exec_replies rfl hr ((serveSave_eq _).trans (if_pos hf))
  · exact exec_replies rfl hr ((serveSave_eq _).trans ((if_neg (Bool.not_eq_true _ ▸ hf)).trans (if_pos hc)))
  · obtain ⟨t, c, k, h1, h2, h3, h4, h5, h6, h7, h8, h9, h10, h11, h12, h13⟩ := exec_save tag hr hs hj hlow hf hc
    refine ⟨t, c, k, h1, h2, h3, h4, h5, h6, h7, h8, h9, h10, h11, h12, fun i => ?_⟩
    rw [h13]
    exact snapshots_getElem s i
  · intro q hq content inErased
    have hrange : s.store.inErasedRange q = true ↔ inErased := inErasedRange_iff hj q
    have hcontent : ∀ records, s.store.journalReply records = content records := fun records => journalReply_eq hj hlow records
    have hserve := serveReadJournal_eq hq (s.serving .readJournal tag (u32 q))
    have hout : ¬inErased → s.store.inErasedRange q = false := fun h => Bool.eq_false_of_not_eq_true fun hyes => h (hrange.mp hyes)
    have hnone : ¬inErased → j.pageFor s.store.readable q = none →
        exec (.readJournal tag (u32 q)) s = .next (s.replyTo .readJournal tag .ok (content [])) := by
      intro hno hpage
      refine exec_replies rfl hr ((hserve.trans (if_neg (Bool.not_eq_true _ ▸ hout hno))).trans ?_)
      rw [← hcontent]
      exact startJournalRead_none (s := s.serving .readJournal tag (u32 q)) hj hpage
    refine ⟨fun hin => exec_replies rfl hr (hserve.trans (if_pos (hrange.mpr hin))), fun hno hpages => ?_, fun hno hready he hread => ?_, ?_⟩
    · refine hnone hno (pageFor_none fun p hp lo hi hrec => ?_)
      obtain ⟨_, hfree⟩ := List.mem_filter.mp hp
      obtain h | h := hpages p lo hi hrec
      · rw [h] at hfree
        cases hfree
      · exact h
    · cases hpage : j.pageFor s.store.readable q with
      | none =>
        refine ⟨_, [], hnone hno hpage, ⟨rfl, hr.free, hr.waiting⟩, rfl, rfl, hr.journal, Nat.zero_le _, fun r hr => absurd hr List.not_mem_nil⟩
      | some r =>
        obtain ⟨t, h1, h2, h3, h4, h5, h6⟩ := exec_readJournal tag hr hj hq (hout hno) hready hread hpage
        have hplace : ∀ p x, x ∈ heldFrom s.store.array q p → ∃ (p : Fin 224) (place : Nat), place < 8
            ∧ x = Flash.readBytes s.store.array (journalBase p + 32 * place) 32 ∧ crcField (x.take 30) = x.drop 30 ∧ q ≤ u32At x 0 := by
          intro p x hx
          obtain ⟨place, g1, g2, g3, g4⟩ := mem_heldFrom hx
          exact ⟨p, place, g1, g2, g3, g4⟩
        by_cases hon : s.store.readsOn q r.1
        · refine ⟨t, _, h1, hcontent _ ▸ h5 hon, h2, h3, h4, List.length_take_le _ _, fun x hx => ?_⟩
          obtain hx | hx := mem_secondRead hx
          · exact hplace _ x hx
          · exact hplace _ x hx
        · exact ⟨t, _, h1, hcontent _ ▸ h6 hon, h2, h3, h4, List.length_take_le _ _, fun x hx => hplace _ x (mem_firstRead hx)⟩
    · intro hno hready he hread p lo hi hp hqhi hlowest held next goesOn
      have hpage : j.pageFor s.store.readable q = some (p, max lo q) := by
        rw [readable_of_no_erase he]
        exact pageFor_lowest (mem_allPages p) hp hqhi fun r hr lo' hi' => hlowest r lo' hi' hr
      obtain ⟨t, h1, _, _, _, h5, h6⟩ := exec_readJournal tag hr hj hq (hout hno) hready hread hpage
      have hnext : nextPage p = next := nextPage_eq p
      have hgoes : s.store.readsOn q p ↔ goesOn := by
        unfold AccountStore.readsOn
        rw [readablePage_iff hj he, hnext, firstRead_length]
        exact and_congr_left fun _ => by
          show min 7 (held p).length < 7 ↔ (held p).length < 7
          omega
      by_cases hon : goesOn
      · have hon' := hgoes.mpr hon
        refine ⟨t, s.store.secondRead q p, h1, hcontent _ ▸ h5 hon', ordered_sorted _, ?_⟩
        rw [if_pos hon, ← hnext]
        exact (ordered_perm _).trans ((firstRead_perm hon.1).append_right _)
      · refine ⟨t, ordered (heldFrom s.store.array q p), h1, hcontent _ ▸ h6 fun h => hon (hgoes.mp h), ordered_sorted _, ?_⟩
        rw [if_neg hon]
        exact ordered_perm _

end Sys2Proof.Machine

/-! PROOFS. What no arming of a watch input changes of the settings, and the load completion (R51, R180). -/

namespace Sys2Proof.Machine

/-! ### The settings in force -/

/-- The settings of every block, the levels and the store are as they were. -/
structure SettingsKept (s t : State) : Prop where
  gov : t.gc.params = s.gc.params
  levels : t.lu = s.lu
  dispatch : t.da.params = s.da.params
  rake : t.rk.params = s.rk.params
  shedding : t.fu.params = s.fu.params
  correction : t.cu.params = s.cu.params
  source : t.ss.alarmSource = s.ss.alarmSource
  inverted : t.ss.alarmInverted = s.ss.alarmInverted
  present : ∀ i, (t.slot i).present = (s.slot i).present
  drive : ∀ i, (t.slot i).profile = (s.slot i).profile
  feeder : ∀ i, (t.feeder i).profile = (s.feeder i).profile
  store : t.store = s.store

theorem SettingsKept.refl (s : State) : SettingsKept s s :=
  ⟨rfl, rfl, rfl, rfl, rfl, rfl, rfl, rfl, fun _ => rfl, fun _ => rfl, fun _ => rfl, rfl⟩

theorem SettingsKept.trans {s t u : State} (h : SettingsKept s t) (k : SettingsKept t u) : SettingsKept s u :=
  ⟨k.gov.trans h.gov, k.levels.trans h.levels, k.dispatch.trans h.dispatch, k.rake.trans h.rake, k.shedding.trans h.shedding,
    k.correction.trans h.correction, k.source.trans h.source, k.inverted.trans h.inverted, fun i => (k.present i).trans (h.present i),
    fun i => (k.drive i).trans (h.drive i), fun i => (k.feeder i).trans (h.feeder i), k.store.trans h.store⟩

theorem SettingsKept.of_still {s t : State} (h : t.still = s.still) : SettingsKept s t := by
  have hp : ∀ {α : Type} (f : State → α), f t.still = f s.still := fun f => congrArg f h
  refine ⟨?_, ?_, ?_, ?_, ?_, ?_, ?_, ?_, fun i => ?_, fun i => ?_, fun i => ?_, ?_⟩
  · exact hp fun x => x.gc.params
  · exact hp fun x => x.lu
  · exact hp fun x => x.da.params
  · exact hp fun x => x.rk.params
  · exact hp fun x => x.fu.params
  · exact hp fun x => x.cu.params
  · exact hp fun x => x.ss.alarmSource
  · exact hp fun x => x.ss.alarmInverted
  · have e := hp fun x => (x.ds.slots[i]).present
    simp only [State.still, Fin.getElem_fin, map4_getElem] at e
    exact e
  · have e := hp fun x => (x.ds.slots[i]).profile
    simp only [State.still, Fin.getElem_fin, map4_getElem] at e
    exact e
  · have e := hp fun x => (x.fu.feeders[i]).profile
    simp only [State.still, Fin.getElem_fin, map12_getElem] at e
    exact e
  · exact hp fun x => x.store

/-- A change of the sequencer that leaves the alarm's settings, and of the link. -/
theorem SettingsKept.of_sequencer {s : State} {q : Sequencer} {l : StationLink} (hs : q.alarmSource = s.ss.alarmSource)
    (hi : q.alarmInverted = s.ss.alarmInverted) : SettingsKept s { s with ss := q, sl := l } :=
  ⟨rfl, rfl, rfl, rfl, rfl, rfl, hs, hi, fun _ => rfl, fun _ => rfl, fun _ => rfl, rfl⟩

theorem settingsKept_recomputeLimit (s : State) : SettingsKept s (recomputeLimit s) := by
  have h : SettingsKept s s.limited := ⟨rfl, rfl, rfl, rfl, rfl, rfl, rfl, rfl, fun _ => rfl, fun _ => rfl, fun _ => rfl, rfl⟩
  exact h.trans (.of_still (still_recomputeLimit s))

/-- R29, R32: leaving for STOPPING or TRIPPED changes no setting. -/
theorem settingsKept_leaveFor (new : StationState) (cause : StationCause) (c : DownCause) (s : State) :
    SettingsKept s (leaveFor new cause c s) := by
  have hset : SettingsKept s (setStation new cause (s.onSs fun q => { q with standing := false })) := by
    obtain ⟨relay, l, h⟩ := setStation_frame new cause (s.onSs fun q => { q with standing := false })
    rw [h]
    exact .of_sequencer rfl rfl
  have hlive : ∀ x : State, SettingsKept x (handLive false x) := by
    intro x
    have h : SettingsKept x (x.onCu fun u => { u with liveCopy := false }) :=
      ⟨rfl, rfl, rfl, rfl, rfl, rfl, rfl, rfl, fun _ => rfl, fun _ => rfl, fun _ => rfl, rfl⟩
    exact h.trans (.of_still (still_evaluateCorrection _))
  have hfield : ∀ x : State, SettingsKept x ((x.onDs fun d => { d with feedHold := false }).onSs fun q => { q with fieldClosed := false }) :=
    fun x => ⟨rfl, rfl, rfl, rfl, rfl, rfl, rfl, rfl, fun _ => rfl, fun _ => rfl, fun _ => rfl, rfl⟩
  unfold leaveFor
  simp only []
  have hdown : ∀ x : State, SettingsKept x
      (((takeDownLoads c x).onDs fun d => { d with feedHold := false }).onSs fun q => { q with fieldClosed := false }) := fun x =>
    (SettingsKept.of_still (still_takeDownLoads c x)).trans (hfield _)
  have hmid : SettingsKept s (if decide (s.ss.station = .live) = true then
      handLive false (setStation new cause (s.onSs fun q => { q with standing := false }))
      else setStation new cause (s.onSs fun q => { q with standing := false })) := by
    split
    · exact hset.trans (hlive _)
    · exact hset
  split
  · exact (hmid.trans (hdown _)).trans (settingsKept_recomputeLimit _)
  · exact hmid.trans (hdown _)

theorem settingsKept_post (r : Report) (s : State) : SettingsKept s (post r s) := .of_still (still_post r s)

theorem settingsKept_onSs {g : Sequencer → Sequencer} {s : State} (hs : (g s.ss).alarmSource = s.ss.alarmSource)
    (hi : (g s.ss).alarmInverted = s.ss.alarmInverted) : SettingsKept s (s.onSs g) := .of_sequencer (l := s.sl) hs hi

theorem settingsKept_takeTrip (cause : TripCause) (f : Nat) (s : State) : SettingsKept s (takeTrip cause f s) := by
  have hfill : SettingsKept s (fillCapture cause f s) := by
    obtain ⟨r, h⟩ := fillCapture_eq cause f s
    rw [h]
    exact settingsKept_onSs rfl rfl
  unfold takeTrip
  simp only []
  split
  · exact hfill.trans (settingsKept_post _ _)
  · exact ((hfill.trans (settingsKept_onSs rfl rfl)).trans (settingsKept_leaveFor _ _ _ _)).trans (settingsKept_post _ _)

theorem settingsKept_watchAct (i : Fin 4) (a : WatchAction) (s : State) : SettingsKept s (watchAct i a s) := by
  cases a with
  | report => exact .refl s
  | rake => exact .of_still (still_dueTrigger arbitrate_keeps .watch s)
  | drivesOut => exact .of_still (drivesOut_still s)
  | stop =>
    show SettingsKept s (if s.ss.station.stoppable then stationStop .watchStop s else s)
    split
    · unfold stationStop
      exact .trans (t := s.onSs fun q => { q with
        startTimer := none, settleTimer := none, underspeedTimer := none, runDownTimer := some Config.runDownTime })
        (settingsKept_onSs rfl rfl) (settingsKept_leaveFor _ _ _ _)
    · exact .refl s
  | trip => exact settingsKept_takeTrip _ _ s

theorem settingsKept_detect (i : Fin 4) (s : State) : SettingsKept s (detect i s) := by
  have h : SettingsKept s (detected i s) := by
    unfold detected
    rw [postLatch_frame]
    exact ⟨rfl, rfl, rfl, rfl, rfl, rfl, rfl, rfl, fun _ => rfl, fun _ => rfl, fun _ => rfl, rfl⟩
  rw [detect_eq]
  exact h.trans (settingsKept_watchAct _ _ _)

/-- R52: no detection changes what an input is set to. -/
theorem detect_setting (i j : Fin 4) (s : State) : ((detect i s).input j).setting = (s.input j).setting := by
  have hwu : (detect i s).wu = (s.onInput i fun w => { w with latched := true, counter := 0 }).wu := by
    rw [detect_eq]
    refine (watchAct_reports i _ (detected i s)).2.trans ?_
    rw [detected, postLatch_frame]
  rw [input_of_wu hwu, State.onInput_input]
  split
  · next h => rw [h]
  · rfl

/-- R51: the arming of the inputs changes no setting. -/
theorem armAll_settings (s : State) : SettingsKept s (armAll s) ∧ ∀ j, ((armAll s).input j).setting = (s.input j).setting := by
  unfold armAll
  refine List.foldlRecOn (motive := fun t => SettingsKept s t ∧ ∀ j, (t.input j).setting = (s.input j).setting) _ _
    ⟨⟨rfl, rfl, rfl, rfl, rfl, rfl, rfl, rfl, fun _ => rfl, fun _ => rfl, fun _ => rfl, rfl⟩, fun _ => rfl⟩ fun t ht i _ => ?_
  split
  · exact ht
  · unfold arm
    split
    · exact ⟨ht.1.trans (settingsKept_detect i t), fun j => (detect_setting i j t).trans (ht.2 j)⟩
    · exact ht

/-! ### The load of an image (R180) -/

/-- R46: new level parameters reach the levels, and not the governor's settings. -/
theorem takeLevels_facts (p : LevelParams) (s : State) : (takeLevels p s).lu.params = p ∧ (takeLevels p s).gc.params = s.gc.params
    ∧ (takeLevels p s).store = s.store := by
  have hforebay : ∀ x : State, ((x.forebayLimited false).lu.params = x.lu.params ∧ (x.forebayLimited false).gc.params = x.gc.params
      ∧ (x.forebayLimited false).store = x.store) := by
    intro x
    unfold State.forebayLimited
    split
    · exact ⟨rfl, rfl, rfl⟩
    · exact ⟨rfl, rfl, rfl⟩
  have h1 := SettingsKept.of_still (still_publishForebayLimit false (s.onLu fun u => { u with params := p }))
  have h2 := fun x : State => SettingsKept.of_still (still_evaluateRack x)
  have h3 := fun x : State => SettingsKept.of_still (still_evaluatePause x)
  have hracked : ∀ u : LevelUnit, u.racked.params = u.params := by
    intro u
    unfold LevelUnit.racked
    split
    · rfl
    · rfl
  obtain ⟨f1, f2, f3⟩ := hforebay (s.onLu fun u => { u with params := p })
  unfold takeLevels
  refine ⟨?_, ?_, ?_⟩
  · rw [(h3 _).levels]
    show (evaluateRack _).lu.params = p
    rw [(h2 _).levels]
    show LevelUnit.params (LevelUnit.racked _) = p
    rw [hracked, h1.levels, f1]
    rfl
  · rw [(h3 _).gov]
    show (evaluateRack _).gc.params = _
    rw [(h2 _).gov]
    show (publishForebayLimit false _).gc.params = _
    rw [h1.gov, f2]
    rfl
  · rw [(h3 _).store]
    show (evaluateRack _).store = _
    rw [(h2 _).store]
    show (publishForebayLimit false _).store = _
    rw [h1.store, f3]
    rfl

theorem handOverGMax_facts (s : State) : (handOverGMax s).lu.gMaxCopy = s.gc.params.gMax ∧ (handOverGMax s).lu.params = s.lu.params
    ∧ (handOverGMax s).gc.params = s.gc.params ∧ (handOverGMax s).store = s.store := by
  have h := SettingsKept.of_still (still_handOverGMax s)
  rw [h.levels, h.gov, h.store]
  unfold State.forebayLimited
  split
  · exact ⟨rfl, rfl, rfl, rfl⟩
  · exact ⟨rfl, rfl, rfl, rfl⟩

theorem takeGovernor_facts (p : GovParams) (s : State) : (takeGovernor p s).gc.params = p ∧ (takeGovernor p s).store = s.store := by
  have h := SettingsKept.of_still (still_takeGovernor p s)
  obtain ⟨hgate, _⟩ := governed_gate p s
  rw [h.gov, h.store]
  exact ⟨by rw [governed_frame p s, hgate], by rw [governed_frame p s]⟩

end Sys2Proof.Machine

/-! PROOFS. The load completion (R180). -/

namespace Sys2Proof.Machine

/-- R180: every block has taken its settings from the image. -/
structure Loaded (c : ConfigImage) (t : State) : Prop where
  gov : t.gc.params = c.gov
  levels : t.lu.params = c.levels
  dispatch : t.da.params = c.dispatch
  rake : t.rk.params = c.rake
  shedding : t.fu.params = c.shedding
  correction : t.cu.params = c.correction
  source : t.ss.alarmSource = c.alarmSource
  inverted : t.ss.alarmInverted = c.alarmInverted
  gMax : t.lu.gMaxCopy = c.gov.gMax
  watch : ∀ i : Fin 4, (t.input i).setting = c.watch[i]
  present : ∀ i : Fin 4, (t.slot i).present = c.drives[i].isSome
  drive : ∀ i : Fin 4, (t.slot i).profile = c.drives[i].getD .zero
  feeder : ∀ i : Fin 12, (t.feeder i).profile = c.feeders[i]

theorem Loaded.kept {c : ConfigImage} {s t : State} (h : Loaded c s) (k : SettingsKept s t)
    (hw : ∀ j, (t.input j).setting = (s.input j).setting) : Loaded c t :=
  ⟨k.gov.trans h.gov, by rw [k.levels]; exact h.levels, k.dispatch.trans h.dispatch, k.rake.trans h.rake, k.shedding.trans h.shedding,
    k.correction.trans h.correction, k.source.trans h.source, k.inverted.trans h.inverted, by rw [k.levels]; exact h.gMax,
    fun i => (hw i).trans (h.watch i), fun i => (k.present i).trans (h.present i), fun i => (k.drive i).trans (h.drive i),
    fun i => (k.feeder i).trans (h.feeder i)⟩

theorem takeWatchSettings_facts (w : Vector WatchSetting 4) (s : State) :
    takeWatchSettings w s = { s with wu := (takeWatchSettings w s).wu } ∧ ∀ i, ((takeWatchSettings w s).input i).setting = w[i] := by
  unfold takeWatchSettings
  refine ⟨List.foldlRecOn (motive := fun t : State => t = { s with wu := t.wu }) allInputs _ rfl fun t ht i _ => ?_, fun i => ?_⟩
  · rw [ht]
    rfl
  · obtain ⟨x, _, h⟩ := foldl_at (R := fun s t => (t.input i).setting = (s.input i).setting)
      (f := fun s j => s.onInput j fun x => { x with setting := w[j], counter := 0 }) (j := i) (fun _ => rfl) (fun h k => k.trans h)
      (fun x j hj => by rw [State.onInput_input, if_neg (fun h => hj h)]) (l := allInputs) (by decide) (by fin_cases i <;> decide) s
    rw [h, State.onInput_input, if_pos rfl]

theorem takeSlots_facts (v : Vector (Option DriveProfile) 4) (s : State) :
    let t := allSlots.foldl (fun s i => s.onSlot i (takeProfile v[i])) s
    t = { s with ds := t.ds } ∧ ∀ i : Fin 4, (t.slot i).present = v[i].isSome ∧ (t.slot i).profile = v[i].getD .zero := by
  intro t
  refine ⟨List.foldlRecOn (motive := fun t : State => t = { s with ds := t.ds }) allSlots _ rfl fun t ht i _ => ?_, fun i => ?_⟩
  · rw [ht]
    rfl
  · obtain ⟨x, _, h⟩ := foldl_at (R := fun s t => t.slot i = s.slot i)
      (f := fun s j => s.onSlot j (takeProfile v[j])) (j := i) (fun _ => rfl) (fun h k => k.trans h)
      (fun x j hj => by rw [State.onSlot_slot, if_neg (fun h => hj h)]) (l := allSlots) allSlots_nodup (mem_allSlots i) s
    rw [show t.slot i = _ from h, State.onSlot_slot, if_pos rfl]
    unfold takeProfile
    cases v[i] with
    | none => exact ⟨rfl, rfl⟩
    | some p => exact ⟨rfl, rfl⟩

theorem takeFeeders_facts (v : Vector FeederProfile 12) (s : State) :
    let t := allFeeders.foldl (fun s i => s.onFeeder i fun d => { d with profile := v[i] }) s
    t = { s with fu := { s.fu with feeders := t.fu.feeders } } ∧ ∀ i : Fin 12, (t.feeder i).profile = v[i] := by
  intro t
  refine ⟨List.foldlRecOn (motive := fun t : State => t = { s with fu := { s.fu with feeders := t.fu.feeders } }) allFeeders _ rfl
    fun t ht i _ => ?_, fun i => ?_⟩
  · rw [ht]
    rfl
  · obtain ⟨x, _, h⟩ := foldl_at (R := fun s t => t.feeder i = s.feeder i)
      (f := fun s j => s.onFeeder j fun d => { d with profile := v[j] }) (j := i) (fun _ => rfl) (fun h k => k.trans h)
      (fun x j hj => by rw [State.onFeeder_feeder, if_neg (fun h => hj h)]) (l := allFeeders) allFeeders_nodup (mem_allFeeders i) s
    rw [show t.feeder i = _ from h, State.onFeeder_feeder, if_pos rfl]

theorem takeAlarm_frame (source : AlarmSource) (inverted : Bool) (s : State) : ∃ relay, takeAlarm source inverted s =
    s.onSs fun q => { q with alarmSource := source, alarmInverted := inverted, alarmRelay := relay } := by
  unfold takeAlarm setAlarmRelay
  exact ⟨_, rfl⟩

/-- R180: the blocks take the stored values, and the store is as it was. -/
theorem takeImage_loaded (c : ConfigImage) (s : State) : Loaded c (takeImage c s) ∧ (takeImage c s).store = s.store := by
  obtain ⟨g1, g2⟩ := takeGovernor_facts c.gov s
  obtain ⟨l1, l2, l3⟩ := takeLevels_facts c.levels (takeGovernor c.gov s)
  obtain ⟨h1, h2, h3, h4⟩ := handOverGMax_facts (takeLevels c.levels (takeGovernor c.gov s))
  have hgov := (h3.trans l2).trans g1
  have hlevels := h2.trans l1
  have hmax := h1.trans (congrArg GovParams.gMax (l2.trans g1))
  have hstore := (h4.trans l3).trans g2
  unfold takeImage
  simp only []
  generalize handOverGMax (takeLevels c.levels (takeGovernor c.gov s)) = s1 at hgov hlevels hmax hstore ⊢
  obtain ⟨w1, w2⟩ := takeWatchSettings_facts c.watch s1
  generalize takeWatchSettings c.watch s1 = s2 at w1 w2 ⊢
  generalize hs3 : ((((s2.onDa fun d => { d with params := c.dispatch }).onRk (takeRakeParams c.rake)).onFu fun u =>
    { u with params := c.shedding }).onCu fun u => { u with params := c.correction }) = s3
  obtain ⟨d1, d2⟩ := takeSlots_facts c.drives s3
  generalize allSlots.foldl (fun s i => s.onSlot i (takeProfile c.drives[i])) s3 = s4 at d1 d2 ⊢
  obtain ⟨f1, f2⟩ := takeFeeders_facts c.feeders s4
  generalize allFeeders.foldl (fun s i => s.onFeeder i fun d => { d with profile := c.feeders[i] }) s4 = s5 at f1 f2 ⊢
  obtain ⟨relay, ha⟩ := takeAlarm_frame c.alarmSource c.alarmInverted s5
  obtain ⟨hkept, hsetting⟩ := armAll_settings (takeAlarm c.alarmSource c.alarmInverted s5)
  rw [ha] at hkept hsetting ⊢
  have hfu : s5.fu.params = c.shedding := by rw [f1, d1, ← hs3]; rfl
  have hloaded : Loaded c (s5.onSs fun q => { q with alarmSource := c.alarmSource, alarmInverted := c.alarmInverted, alarmRelay := relay }) := by
    refine ⟨?_, ?_, ?_, ?_, hfu, ?_, rfl, rfl, ?_, fun i => ?_, fun i => ?_, fun i => ?_, f2⟩
    · show s5.gc.params = _
      rw [f1, d1, ← hs3, w1]
      exact hgov
    · show s5.lu.params = _
      rw [f1, d1, ← hs3, w1]
      exact hlevels
    · show s5.da.params = _
      rw [f1, d1, ← hs3]
      rfl
    · show s5.rk.params = _
      rw [f1, d1, ← hs3]
      rfl
    · show s5.cu.params = _
      rw [f1, d1, ← hs3]
      rfl
    · show s5.lu.gMaxCopy = _
      rw [f1, d1, ← hs3, w1]
      exact hmax
    · have hwu : s5.wu = s2.wu := by rw [f1, d1, ← hs3]; rfl
      exact (congrArg WatchInput.setting (input_of_wu hwu i)).trans (w2 i)
    · have hds : s5.slot i = s4.slot i := by rw [f1]; rfl
      exact (congrArg Slot.present hds).trans (d2 i).1
    · have hds : s5.slot i = s4.slot i := by rw [f1]; rfl
      exact (congrArg Slot.profile hds).trans (d2 i).2
  refine ⟨hloaded.kept hkept hsetting, hkept.store.trans ?_⟩
  show s5.store = _
  rw [f1, d1, ← hs3, w1]
  exact hstore

/-! ### The stored tariff (R180, R198) -/

theorem storedTariff_erased {m : Flash} (h : m.read 4096 = 0xFF) : storedTariff m = none := by
  unfold storedTariff
  rw [h]
  rfl

theorem sent_injective : Function.Injective Band.sent := by
  rintro ⟨start, index⟩ ⟨start', index'⟩ h
  obtain ⟨rfl, hindex⟩ := Prod.mk.inj h
  have hindex := congrArg BitVec.toNat hindex
  simp only [BitVec.toNat_ofNat] at hindex
  have : index.val = index'.val := by omega
  rw [Fin.ext this]

/-- R158, R159: a good table reads back from its bytes. -/
theorem bandTable_bytes {bands : List Band} (hlen : bands.length ≤ 8) (hstart : ∀ b ∈ bands, b.start ≤ 1439)
    (hup : bands.Pairwise fun a b => a.start < b.start) : bandTable? (bandBytes bands) = some bands := by
  have hlow : ∀ b ∈ bands.map Band.sent, b.1 < 65536 := by
    intro b hb
    obtain ⟨x, hx, rfl⟩ := List.mem_map.mp hb
    have := hstart x hx
    show x.start < 65536
    omega
  have hgood : GoodBands (bands.map Band.sent) := by
    refine ⟨by rw [List.length_map]; exact hlen, fun b hb => ?_, List.pairwise_map.mpr hup⟩
    obtain ⟨x, hx, rfl⟩ := List.mem_map.mp hb
    refine ⟨hstart x hx, ?_⟩
    show (BitVec.ofNat 8 x.index.val).toNat < 4
    rw [BitVec.toNat_ofNat]
    omega
  obtain ⟨taken, htaken, hmap⟩ := (bandTable_sent (by rw [List.length_map]; omega) hlow).2 hgood
  rw [bandBytes_of_sent rfl, htaken, List.map_injective_iff.mpr sent_injective hmap]

theorem storedTariff_bytes {m : Flash} {bands : List Band} (hbytes : m.readBytes 4096 (1 + 3 * bands.length) = bandBytes bands)
    (hcrc : m.readBytes (4097 + 3 * bands.length) 2 = u16 (crc16 (bandBytes bands)).toNat) (hlen : bands.length ≤ 8)
    (hstart : ∀ b ∈ bands, b.start ≤ 1439) (hup : bands.Pairwise fun a b => a.start < b.start) : storedTariff m = some bands := by
  have hcount : (m.read 4096).toNat = bands.length := by
    have hhead : m.read 4096 = BitVec.ofNat 8 bands.length := by
      have h := congrArg (fun l : List Byte => l[0]?) hbytes
      unfold Flash.readBytes at h
      rw [show (fun i => m.read (4096 + i)) = fun i => m.read (4096 + i) from rfl] at h
      simp only [List.getElem?_map] at h
      rw [List.getElem?_range (by omega)] at h
      exact Option.some.inj h
    rw [hhead, BitVec.toNat_ofNat]
    omega
  unfold storedTariff
  rw [hcount]
  simp only []
  rw [if_pos hlen, hbytes, bandTable_bytes hlen hstart hup]
  exact if_pos hcrc

/-! ### The load completion -/

/-- R180: the tariff table in force after the load. -/
def tariffLoaded (s : State) : State :=
  match storedTariff s.store.array with
  | some bands => lookUpTariff (s.onMu fun u => { u with bands := bands })
  | none => s

theorem loadComplete_eq {s : State} (h : s.store.startup = .loading) : loadComplete s = tariffLoaded
    (match storedImage s.choices s.store.array with
    | some c => takeImage c (s.onStore fun a => { a with startup := .scanning }).nextChoice
    | none => handOverGMax ((s.onStore fun a => { a with startup := .scanning }).onStore fun a => { a with configDefault := true })) := by
  unfold loadComplete
  rw [h]
  rfl

theorem tariffLoaded_frame (s : State) : tariffLoaded s = { s with mu := (tariffLoaded s).mu } := by
  unfold tariffLoaded
  split
  · rfl
  · rfl

theorem loadComplete_image {s : State} (h : s.store.startup = .loading) (hv : Flash.imageValid s.store.array = true) :
    let t := loadComplete s
    let c := decodeImage s.choices (Flash.readBytes s.store.array 0 311)
    Loaded c t ∧ t.store = { s.store with startup := .scanning } := by
  intro t c
  have himage : storedImage s.choices s.store.array = some c := if_pos hv
  have ht : t = tariffLoaded (takeImage c (s.onStore fun a => { a with startup := .scanning }).nextChoice) := by
    refine (loadComplete_eq h).trans ?_
    rw [himage]
  obtain ⟨hloaded, hstore⟩ := takeImage_loaded c (s.onStore fun a => { a with startup := .scanning }).nextChoice
  generalize takeImage c (s.onStore fun a => { a with startup := .scanning }).nextChoice = x at hloaded hstore ht
  rw [ht, tariffLoaded_frame x]
  exact ⟨hloaded.kept ⟨rfl, rfl, rfl, rfl, rfl, rfl, rfl, rfl, fun _ => rfl, fun _ => rfl, fun _ => rfl, rfl⟩ fun _ => rfl, hstore⟩

theorem loadComplete_default {s : State} (h : s.store.startup = .loading) (hv : Flash.imageValid s.store.array = false)
    (hempty : s.lu.forebay.samples = []) : loadComplete s = tariffLoaded { s with
      store := { s.store with startup := .scanning, configDefault := true }, lu := { s.lu with gMaxCopy := s.gc.params.gMax } } := by
  have himage : storedImage s.choices s.store.array = none := if_neg (Bool.not_eq_true _ ▸ hv)
  rw [loadComplete_eq h, himage]
  simp only []
  refine congrArg tariffLoaded ?_
  unfold handOverGMax publishForebayLimit
  refine if_neg ?_
  show ¬s.lu.forebay.filled = true
  rw [filled_iff]
  exact fun hne => hne hempty

end Sys2Proof.Machine

/-! PROOFS. The journal scan (R163, R175, R181). -/

namespace Sys2Proof.Machine

/-! ### The index (R175, R181) -/

theorem indexOf_getElem (f : Fin 224 → PageEntry) (p : Fin 224) : (indexOf f)[p] = f p := by simp [indexOf, allPages]

/-- Chapter 10: in the canonical form a listed cell is the byte that is read, and not an erased one. -/
theorem Flash.read_of_mem {m : Flash} (h : Flash.wf m) {c : Host.Cell} (hc : c ∈ m) : m.read c.1 ≠ 0xFF := by
  have hfind : ∃ d, m.find? (fun d => d.1 == c.1) = some d := by
    rw [← Option.isSome_iff_exists, List.find?_isSome]
    exact ⟨c, hc, beq_self_eq_true _⟩
  obtain ⟨d, hd⟩ := hfind
  unfold Flash.read
  rw [hd]
  exact (h.2 d (List.mem_of_find?_eq_some hd)).1

theorem isErased_iff {m : Flash} (h : Flash.wf m) (a n : Nat) : m.isErased a n = true ↔ ∀ x, a ≤ x → x < a + n → m.read x = 0xFF := by
  refine ⟨fun he x hlo hhi => Flash.isErased_read he hlo hhi, fun hread => ?_⟩
  unfold Flash.isErased
  rw [Bool.not_eq_true', List.any_eq_false]
  intro c hc hin
  obtain ⟨hlo, hhi⟩ := of_decide_eq_true hin
  exact Flash.read_of_mem h hc (hread c.1 hlo hhi)

theorem scanPage_fresh_iff {m : Flash} (h : Flash.wf m) (p : Fin 224) :
    scanPage m p = .fresh ↔ ∀ x, journalBase p ≤ x → x < journalBase p + 256 → m.read x = 0xFF := by
  rw [← isErased_iff h]
  unfold scanPage
  split
  · next he => simp [he]
  · next he =>
    refine iff_of_false ?_ he
    split
    · simp
    · simp

theorem scanPage_spoiled {m : Flash} {p : Fin 224} (h : scanPage m p = .spoiled) {place : Nat} (hplace : place < 8) :
    validRecord (placeBytes m p place) = false := by
  by_contra hv
  have hmem : sequenced (placeBytes m p place) ∈ pageRecords m p :=
    mem_pageRecords.mpr ⟨place, hplace, by simpa using hv, rfl⟩
  unfold scanPage at h
  split at h
  · cases h
  · split at h
    · next hnil => rw [hnil] at hmem; cases hmem
    · cases h

/-! ### The latest record (R181) -/

/-- One record of the search. -/
def later (acc : Option (Fin 224 × Nat × List Byte)) (r : Fin 224 × Nat × List Byte) : Option (Fin 224 × Nat × List Byte) :=
  match acc with
  | some x => if x.2.1 < r.2.1 then some r else some x
  | none => some r

theorem latest_eq (rs : List (Fin 224 × Nat × List Byte)) : latest rs = rs.foldl later none := rfl

/-- R181: the latest of some records is one of them, and none has a higher sequence. -/
theorem latest_spec (rs : List (Fin 224 × Nat × List Byte)) : (rs = [] ∧ latest rs = none)
    ∨ ∃ x, latest rs = some x ∧ x ∈ rs ∧ ∀ y ∈ rs, y.2.1 ≤ x.2.1 := by
  have hgen : ∀ (rs seen : List (Fin 224 × Nat × List Byte)) (x : Fin 224 × Nat × List Byte), x ∈ seen → (∀ y ∈ seen, y.2.1 ≤ x.2.1) →
      ∃ z, rs.foldl later (some x) = some z ∧ z ∈ seen ++ rs ∧ ∀ y ∈ seen ++ rs, y.2.1 ≤ z.2.1 := by
    intro rs
    induction rs with
    | nil => exact fun seen x hx hmax => ⟨x, rfl, by rwa [List.append_nil], by rwa [List.append_nil]⟩
    | cons r rs ih =>
      intro seen x hx hmax
      have hassoc : seen ++ r :: rs = (seen ++ [r]) ++ rs := by simp
      rw [List.foldl_cons, hassoc]
      by_cases hlt : x.2.1 < r.2.1
      · rw [show later (some x) r = some r from if_pos hlt]
        refine ih (seen ++ [r]) r (by simp) fun y hy => ?_
        obtain hy | hy := List.mem_append.mp hy
        · have := hmax y hy
          omega
        · rw [List.mem_singleton.mp hy]
      · rw [show later (some x) r = some x from if_neg hlt]
        refine ih (seen ++ [r]) x (List.mem_append_left _ hx) fun y hy => ?_
        obtain hy | hy := List.mem_append.mp hy
        · exact hmax y hy
        · rw [List.mem_singleton.mp hy]
          omega
  cases rs with
  | nil => exact .inl ⟨rfl, rfl⟩
  | cons r rs =>
    obtain ⟨z, h1, h2, h3⟩ := hgen rs [r] r (by simp) fun y hy => by rw [List.mem_singleton.mp hy]
    exact .inr ⟨z, h1, h2, h3⟩

/-- R181: every valid record, with its page and its sequence. -/
theorem mem_allRecords {m : Flash} {x : Fin 224 × Nat × List Byte} : x ∈ allRecords m ↔
    ∃ place, place < 8 ∧ validRecord (placeBytes m x.1 place) = true
      ∧ x = (x.1, u32At (placeBytes m x.1 place) 0, placeBytes m x.1 place) := by
  unfold allRecords
  rw [List.mem_flatMap]
  constructor
  · rintro ⟨p, _, hx⟩
    obtain ⟨r, hr, rfl⟩ := List.mem_map.mp hx
    obtain ⟨place, hplace, hv, rfl⟩ := mem_pageRecords.mp hr
    exact ⟨place, hplace, hv, rfl⟩
  · rintro ⟨place, hplace, hv, hx⟩
    refine ⟨x.1, mem_allPages _, List.mem_map.mpr ⟨_, mem_pageRecords.mpr ⟨place, hplace, hv, rfl⟩, hx.symm⟩⟩

/-- R181: a record above all others that pass a test is the latest that passes it. -/
theorem latest_of_highest {m : Flash} {test : List Byte → Bool} {p : Fin 224} {place : Nat} (hplace : place < 8)
    (hv : validRecord (placeBytes m p place) = true) (ht : test (placeBytes m p place) = true)
    (hmax : ∀ (p' : Fin 224) (place' : Nat), place' < 8 → validRecord (placeBytes m p' place') = true → test (placeBytes m p' place') = true →
      p' = p ∧ place' = place ∨ u32At (placeBytes m p' place') 0 < u32At (placeBytes m p place) 0) :
    latest ((allRecords m).filter fun r => test r.2.2) = some (p, u32At (placeBytes m p place) 0, placeBytes m p place) := by
  have hmem : (p, u32At (placeBytes m p place) 0, placeBytes m p place) ∈ (allRecords m).filter fun r => test r.2.2 :=
    List.mem_filter.mpr ⟨mem_allRecords.mpr ⟨place, hplace, hv, rfl⟩, ht⟩
  obtain ⟨hnil, _⟩ | ⟨x, hx, hin, hle⟩ := latest_spec ((allRecords m).filter fun r => test r.2.2)
  · rw [hnil] at hmem
    cases hmem
  · obtain ⟨hin, htx⟩ := List.mem_filter.mp hin
    obtain ⟨place', hplace', hv', hx'⟩ := mem_allRecords.mp hin
    have htx' : test (placeBytes m x.1 place') = true := by
      rw [hx'] at htx
      exact htx
    have hseq : u32At (placeBytes m p place) 0 ≤ x.2.1 := hle _ hmem
    have hkey : x.2.1 = u32At (placeBytes m x.1 place') 0 := by rw [hx']
    obtain ⟨h1, h2⟩ | hlt := hmax x.1 place' hplace' hv' htx'
    · rw [hx, hx', h1, h2]
    · exact absurd hlt (by omega)

theorem latest_none {m : Flash} {test : List Byte → Bool}
    (h : ∀ (p : Fin 224) (place : Nat), place < 8 → validRecord (placeBytes m p place) = true → test (placeBytes m p place) = false) :
    latest ((allRecords m).filter fun r => test r.2.2) = none := by
  have hnil : (allRecords m).filter (fun r => test r.2.2) = [] := by
    refine List.filter_eq_nil_iff.mpr fun x hx => ?_
    obtain ⟨place, hplace, hv, hx'⟩ := mem_allRecords.mp hx
    have hno := h x.1 place hplace hv
    rw [hx']
    exact Bool.not_eq_true _ ▸ hno
  rw [hnil]
  rfl

theorem filter_all (rs : List (Fin 224 × Nat × List Byte)) : rs.filter (fun r => (fun _ : List Byte => true) r.2.2) = rs :=
  List.filter_eq_self.mpr fun _ _ => rfl

/-! ### What the scan gives -/

theorem scanJournal_index (m : Flash) (p : Fin 224) : (scanJournal m).index[p] = scanPage m p := by
  unfold scanJournal
  simp only []
  split
  · exact indexOf_getElem _ p
  · exact indexOf_getElem _ p

/-- R181, step 2: every valid record has a sequence below the next one. -/
theorem scanJournal_next (m : Flash) {p : Fin 224} {place : Nat} (hplace : place < 8) (hv : validRecord (placeBytes m p place) = true) :
    u32At (placeBytes m p place) 0 < (scanJournal m).nextSequence := by
  have hmem : (p, u32At (placeBytes m p place) 0, placeBytes m p place) ∈ allRecords m := mem_allRecords.mpr ⟨place, hplace, hv, rfl⟩
  obtain ⟨hnil, _⟩ | ⟨x, hx, _, hle⟩ := latest_spec (allRecords m)
  · rw [hnil] at hmem
    cases hmem
  · have hseq : u32At (placeBytes m p place) 0 ≤ x.2.1 := hle _ hmem
    unfold scanJournal
    rw [hx]
    exact Nat.lt_succ_of_le hseq

/-- R181: with no valid record the sequences begin at 1, at the ring's first page. -/
theorem scanJournal_empty {m : Flash} (h : ∀ (p : Fin 224) (place : Nat), place < 8 → validRecord (placeBytes m p place) = false) :
    (scanJournal m).nextSequence = 1 ∧ (scanJournal m).writePos = 0 := by
  have hnone : latest (allRecords m) = none := by
    have hl := latest_none (m := m) (test := fun _ => true) fun p place hplace hv => absurd (h p place hplace) (by simp [hv])
    rwa [filter_all] at hl
  unfold scanJournal
  rw [hnone]
  exact ⟨rfl, rfl⟩

/-- R181, steps 2 and 4: the record with the highest sequence gives the next sequence and the write position. -/
theorem scanJournal_latest {m : Flash} {p : Fin 224} {place : Nat} (hplace : place < 8) (hv : validRecord (placeBytes m p place) = true)
    (hmax : ∀ (p' : Fin 224) (place' : Nat), place' < 8 → validRecord (placeBytes m p' place') = true →
      p' = p ∧ place' = place ∨ u32At (placeBytes m p' place') 0 < u32At (placeBytes m p place) 0) :
    (scanJournal m).nextSequence = u32At (placeBytes m p place) 0 + 1
    ∧ (scanJournal m).writePos = positionAfter (indexOf (scanPage m)) p := by
  have hsome := latest_of_highest (test := fun _ => true) hplace hv rfl fun p' place' h1 h2 _ => hmax p' place' h1 h2
  rw [filter_all] at hsome
  unfold scanJournal
  rw [hsome]
  exact ⟨rfl, rfl⟩

theorem find_first {α : Type} [LT α] {l : List α} (hl : l.Pairwise (· < ·)) {test : α → Bool} {w : α} (h : l.find? test = some w) {x : α}
    (hx : x ∈ l) (ht : test x = true) : x = w ∨ w < x := by
  induction l with
  | nil => cases hx
  | cons y l ih =>
    obtain ⟨hy, hl⟩ := List.pairwise_cons.mp hl
    rw [List.find?_cons] at h
    split at h
    · cases h
      exact (List.mem_cons.mp hx).imp_right (hy x)
    · next hno =>
      obtain rfl | hx := List.mem_cons.mp hx
      · rw [ht] at hno; cases hno
      · exact ih hl h hx

theorem allPages_sorted : allPages.Pairwise (· < ·) := by
  unfold allPages
  rw [List.pairwise_map]
  refine List.pairwise_lt_range.imp_of_mem fun {a b} ha hb hab => ?_
  have ha := List.mem_range.mp ha
  have hb := List.mem_range.mp hb
  show a % 224 < b % 224
  rw [Nat.mod_eq_of_lt ha, Nat.mod_eq_of_lt hb]
  exact hab

/-- R181, step 4: the first FRESH page after a page, in its sector. -/
theorem positionAfter_fresh {index : Vector PageEntry 224} {p w : Fin 224} (hlt : p < w) (hs : sectorOf w = sectorOf p)
    (hfresh : index[w] = .fresh) (hfirst : ∀ w', p < w' → w' < w → index[w'] ≠ .fresh) : positionAfter index p = w := by
  have htest : decide (p < w ∧ index[w] = .fresh) = true := decide_eq_true ⟨hlt, hfresh⟩
  have hmem : w ∈ pagesOf (sectorOf p) := mem_pagesOf.mpr hs
  have hsorted : (pagesOf (sectorOf p)).Pairwise (· < ·) := allPages_sorted.filter _
  unfold positionAfter
  cases hfind : (pagesOf (sectorOf p)).find? fun q => decide (p < q ∧ index[q] = .fresh) with
  | none =>
    have hno := List.find?_eq_none.mp hfind w hmem
    exact absurd htest hno
  | some q =>
    have hq := List.find?_some hfind
    obtain ⟨hpq, hq⟩ := of_decide_eq_true (show decide (p < q ∧ index[q] = .fresh) = true from hq)
    obtain h | h := find_first hsorted hfind hmem htest
    · exact h.symm
    · exact absurd hq (hfirst q hpq h)

theorem positionAfter_none {index : Vector PageEntry 224} {p : Fin 224} (h : ∀ w, p < w → sectorOf w = sectorOf p → index[w] ≠ .fresh) :
    (positionAfter index p).val = (p.val / 16 + 1) % 14 * 16 := by
  have hfind : ((pagesOf (sectorOf p)).find? fun q => decide (p < q ∧ index[q] = .fresh)) = none := by
    refine List.find?_eq_none.mpr fun q hq htest => ?_
    obtain ⟨hpq, hfresh⟩ := of_decide_eq_true htest
    exact h q hpq (mem_pagesOf.mp hq) hfresh
  unfold positionAfter
  rw [hfind]
  show (p.val / 16 + 1) * 16 % 224 = _
  omega

/-- R181, step 3: the snapshot that a feeder's latest record holds. -/
theorem latestOf_highest {m : Flash} {i : Fin 12} {p : Fin 224} {place : Nat} (hplace : place < 8)
    (hv : validRecord (placeBytes m p place) = true) (hi : u8At (placeBytes m p place) 8 = 16 + i.val)
    (hmax : ∀ (p' : Fin 224) (place' : Nat), place' < 8 → validRecord (placeBytes m p' place') = true →
      u8At (placeBytes m p' place') 8 = 16 + i.val →
      p' = p ∧ place' = place ∨ u32At (placeBytes m p' place') 0 < u32At (placeBytes m p place) 0) :
    latestOf m i = some (recordSnapshot (placeBytes m p place)) := by
  have hnamed : ∀ n : Nat, decide (feederOfByte n = some i) = true ↔ n = 16 + i.val := by
    intro n
    rw [decide_eq_true_eq]
    unfold feederOfByte
    split
    · next h =>
      rw [Option.some.injEq, Fin.ext_iff]
      show n - 0x10 = i.val ↔ _
      omega
    · next h =>
      have := i.isLt
      refine iff_of_false (by simp) ?_
      omega
  unfold latestOf
  rw [latest_of_highest (test := fun r => decide (feederOfByte (u8At r 8) = some i)) hplace hv ((hnamed _).mpr hi)
    fun p' place' h1 h2 h3 => hmax p' place' h1 h2 ((hnamed _).mp h3)]
  rfl

theorem latestOf_none {m : Flash} {i : Fin 12} (h : ∀ (p : Fin 224) (place : Nat), place < 8 → validRecord (placeBytes m p place) = true →
    u8At (placeBytes m p place) 8 ≠ 16 + i.val) : latestOf m i = none := by
  unfold latestOf
  rw [latest_none (test := fun r => decide (feederOfByte (u8At r 8) = some i)) fun p place hplace hv => ?_]
  · rfl
  · refine decide_eq_false fun hf => h p place hplace hv ?_
    unfold feederOfByte at hf
    split at hf
    · next hin =>
      cases hf
      show _ = 16 + (u8At (placeBytes m p place) 8 - 0x10)
      omega
    · cases hf

/-- R163, R181: each account takes what its feeder's latest record holds. -/
theorem recoverAccounts_facts (m : Flash) (s : State) :
    (∀ i, (recoverAccounts m s).account i = (s.account i).restore (latestOf m i))
    ∧ recoverAccounts m s = { s with mu := (recoverAccounts m s).mu } := by
  unfold recoverAccounts
  refine ⟨fun i => ?_, List.foldlRecOn (motive := fun t : State => t = { s with mu := t.mu }) allFeeders _ rfl fun t ht i _ => ?_⟩
  · obtain ⟨x, hx, h⟩ := foldl_at (R := fun s t => t.account i = s.account i)
      (f := fun s i => s.onAccount i fun a => a.restore (latestOf m i)) (j := i) (fun _ => rfl) (fun h k => k.trans h)
      (fun x j hj => by rw [State.onAccount_account, if_neg (fun h => hj h)]) (l := allFeeders) allFeeders_nodup (mem_allFeeders i) s
    rw [h, State.onAccount_account, if_pos rfl, hx]
  · rw [ht]
    rfl

end Sys2Proof.Machine

/-! PROOFS. The scan completion and the start-up (R163, R180, R181). -/

namespace Sys2Proof.Machine

/-! ### The link through the arbiter's choice -/

theorem reply_lost (r : Result) (content : List Byte) (s : State) :
    (reply r content s).sl.lostReports = s.sl.lostReports ∧ (reply r content s).powered = s.powered := by
  unfold reply answer transmitArbitrate
  repeat' split
  all_goals exact ⟨rfl, rfl⟩

theorem pageRead_lost (p : Fin 224) (s : State) :
    (pageRead p s).sl.lostReports = s.sl.lostReports ∧ (pageRead p s).powered = s.powered := by
  unfold pageRead
  simp only []
  split
  · split
    · exact ⟨rfl, rfl⟩
    · exact reply_lost _ _ _
  · exact ⟨rfl, rfl⟩

theorem kick_lost (s : State) : (kick s).sl.lostReports = s.sl.lostReports ∧ (kick s).powered = s.powered := by
  have hserve : ∀ (n : Nat) (x : State), (serveReads n x).sl.lostReports = x.sl.lostReports ∧ (serveReads n x).powered = x.powered := by
    intro n
    induction n with
    | zero => exact fun x => ⟨rfl, rfl⟩
    | succ n ih =>
      intro x
      unfold serveReads
      split
      · next p _ =>
        obtain ⟨h1, h2⟩ := ih (pageRead p x)
        obtain ⟨k1, k2⟩ := pageRead_lost p x
        exact ⟨h1.trans k1, h2.trans k2⟩
      · exact ⟨rfl, rfl⟩
  unfold kick
  split
  · exact hserve 2 s
  · split
    · exact ⟨rfl, rfl⟩
    · exact ⟨rfl, rfl⟩
  all_goals exact ⟨rfl, rfl⟩

/-! ### The scan completion -/

/-- R181: the state in which the scan's erase is requested. -/
def scanned (s : State) : State :=
  recoverAccounts s.store.array (s.onStore fun a => { a with journal := some (scanJournal s.store.array) })

/-- R181, step 5, R189: the end of a scan that has found a journal. -/
def scanEnd (j : Journal) (x : State) : State :=
  post (.station .stopped .stopped false .ready)
    ((kick (x.onStore fun a => { a with startup := .complete }.scanErase j)).onSl fun l => { l with startup := false })

theorem scanComplete_eq {s : State} (h : s.store.startup = .scanning) :
    scanComplete s = scanEnd (scanJournal s.store.array) (scanned s) := by
  unfold scanComplete
  rw [h]
  rfl

theorem scanErase_eq (j : Journal) (a : AccountStore) : ∃ w, a.scanErase j = { a with waitingErases := w } := by
  unfold AccountStore.scanErase
  split
  · exact requestErase_eq _ a
  · exact eraseAhead_eq _ a

theorem scanEnd_store (j : Journal) (x : State) :
    (scanEnd j x).store = (kick (x.onStore fun a => { a with startup := .complete }.scanErase j)).store := by
  unfold scanEnd
  rw [post_store]
  rfl

theorem scanEnd_mu (j : Journal) (x : State) : (scanEnd j x).mu = x.mu := by
  unfold scanEnd
  rw [post_mu]
  exact kick_mu _

/-- R189, R190: the report at the end of the start-up is in sight from before the store's work. -/
theorem ready_reportsSince {x y : State} (hlost : y.sl.lostReports = x.sl.lostReports) (hp : y.powered = true) (r : Report) :
    x.reportsSince (post r (y.onSl fun l => { l with startup := false })) r := by
  have hsince := post_reportsSince (s := y.onSl fun l => { l with startup := false }) r hp
  unfold State.reportsSince at hsince ⊢
  rwa [show (y.onSl fun l => { l with startup := false }).sl.lostReports = x.sl.lostReports from hlost] at hsince

/-- R181, R189: the end of the start-up. -/
theorem scanEnd_facts {j : Journal} {x : State} (hj : x.store.journal = some j) (hp : x.powered = true) :
    (scanEnd j x).store.startup = .complete ∧ (scanEnd j x).sl.startup = false ∧ (scanEnd j x).store.array = x.store.array
    ∧ (∃ k, (scanEnd j x).store.journal = some k ∧ k.index = j.index ∧ k.nextSequence = j.nextSequence
      ∧ (x.store.checkpoint = none → k.writePos = j.writePos))
    ∧ x.reportsSince (scanEnd j x) (.station .stopped .stopped false .ready) := by
  obtain ⟨w, hw⟩ := scanErase_eq j { x.store with startup := .complete }
  have hk := kick_kicked (x.onStore fun a => { a with startup := .complete }.scanErase j)
  have hstore : (x.onStore fun a => { a with startup := .complete }.scanErase j).store
      = { x.store with startup := .complete, waitingErases := w } := hw
  rw [hstore] at hk
  obtain ⟨k, hk1, hk2, hk3⟩ := hk.journal_some (j := j) hj
  obtain ⟨hlost, hpower⟩ := kick_lost (x.onStore fun a => { a with startup := .complete }.scanErase j)
  rw [scanEnd_store]
  refine ⟨hk.startup, ?_, hk.array, ⟨k, hk1, hk2, hk3, fun hc => ?_⟩, ?_⟩
  · unfold scanEnd
    rw [(post_reportsOnly _ _).link]
    rfl
  · have hstill := hk.journalStill (by
      unfold AccountStore.checkpointMayRun
      rw [show x.store.checkpoint = none from hc])
    rw [hk1, show x.store.journal = some j from hj] at hstill
    exact congrArg Journal.writePos (Option.some.inj hstill)
  · exact ready_reportsSince hlost (hpower.trans hp) _

/-- R181, step 5: the sectors whose pages are all FRESH. -/
theorem allFresh_iff (j : Journal) (k : Fin 16) : j.allFresh k = true ↔ ∀ p : Fin 224, sectorOf p = k → j.index[p] = .fresh := by
  unfold Journal.allFresh
  rw [List.all_eq_true]
  refine forall_congr' fun p => ?_
  rw [mem_pagesOf, decide_eq_true_eq]

theorem nextSector_eq (k : Fin 16) : nextSector k = if k = 15 then 2 else k + 1 := by
  revert k
  decide

/-- R181, step 5: what the scan's erase request comes to. -/
theorem scanErase_cases {a : AccountStore} {j : Journal} (hj : a.journal = some j) :
    (j.index[j.writePos] ≠ .fresh → a.scanErase j = a.requestErase (sectorOf j.writePos))
    ∧ (j.index[j.writePos] = .fresh → j.allFresh (nextSector (sectorOf j.writePos)) = false →
      a.scanErase j = a.requestErase (nextSector (sectorOf j.writePos)))
    ∧ (j.index[j.writePos] = .fresh → j.allFresh (nextSector (sectorOf j.writePos)) = true → a.scanErase j = a) := by
  unfold AccountStore.scanErase AccountStore.eraseAhead
  rw [hj]
  refine ⟨fun hno => if_pos hno, fun hyes hall => ?_, fun hyes hall => ?_⟩
  · rw [if_neg (fun hno => hno hyes)]
    exact if_neg (Bool.not_eq_true _ ▸ hall)
  · rw [if_neg (fun hno => hno hyes)]
    exact if_pos hall

/-- R166, R181: an idle store starts the scan's erase at once. -/
theorem scanEnd_request {j : Journal} {x : State} {k : Fin 16} (hidle : x.store.Idle) (he : x.store.erase = none)
    (h : ({ x.store with startup := .complete } : AccountStore).scanErase j
      = ({ x.store with startup := .complete } : AccountStore).requestErase k) :
    (scanEnd j x).store.waitingErases = []
    ∧ (scanEnd j x).store.erase = some { sector := k, remaining := 400, progress := 0 } := by
  have hkick : (kick ((x.onStore fun a => { a with startup := .complete }).onStore fun a => a.requestErase k)).store = _ :=
    kick_erase hidle.ready he hidle.waiting hidle.read hidle.checkpoint (by simp [AccountStore.configMayRun, hidle.config])
      (by simp [AccountStore.tariffMayRun, hidle.tariff])
  have hsame : (x.onStore fun a => { a with startup := .complete }.scanErase j)
      = (x.onStore fun a => { a with startup := .complete }).onStore fun a => a.requestErase k := by
    unfold State.onStore
    beta_reduce
    rw [h]
  rw [scanEnd_store, hsame, hkick]
  exact ⟨rfl, rfl⟩

theorem scanEnd_nothing {j : Journal} {x : State} (hidle : x.store.Idle) (he : x.store.erase = none)
    (h : ({ x.store with startup := .complete } : AccountStore).scanErase j = { x.store with startup := .complete }) :
    (scanEnd j x).store.waitingErases = [] ∧ (scanEnd j x).store.erase = none ∧ (scanEnd j x).store.state = .ready := by
  have hsame : (x.onStore fun a => { a with startup := .complete }.scanErase j) = x.onStore fun a => { a with startup := .complete } := by
    unfold State.onStore
    beta_reduce
    rw [h]
  have hwork : ({ x.store with startup := .complete } : AccountStore).chooseWork = { x.store with startup := .complete } := by
    rw [chooseWork_of_none (by simp [AccountStore.checkpointMayRun, hidle.checkpoint]) (by simp [AccountStore.configMayRun, hidle.config])
      (by simp [AccountStore.tariffMayRun, hidle.tariff])]
    unfold AccountStore.startErase
    rw [hidle.waiting]
  rw [scanEnd_store, hsame, kick_ready (s := x.onStore fun a => { a with startup := .complete }) hidle.ready hidle.read]
  show ({ x.store with startup := .complete } : AccountStore).chooseWork.waitingErases = [] ∧
    ({ x.store with startup := .complete } : AccountStore).chooseWork.erase = none ∧
    ({ x.store with startup := .complete } : AccountStore).chooseWork.state = .ready
  rw [hwork]
  exact ⟨hidle.waiting, he, hidle.ready⟩

theorem scanEnd_waiting {j : Journal} {x : State} (hj : x.store.journal = some j) (hidle : x.store.Idle) (he : x.store.erase = none) :
    (scanEnd j x).store.waitingErases = [] := by
  obtain ⟨h1, h2, h3⟩ := scanErase_cases (a := { x.store with startup := .complete }) (j := j) hj
  by_cases hyes : j.index[j.writePos] = .fresh
  · by_cases hall : j.allFresh (nextSector (sectorOf j.writePos)) = true
    · exact (scanEnd_nothing hidle he (h3 hyes hall)).1
    · exact (scanEnd_request hidle he (h2 hyes (Bool.eq_false_of_not_eq_true hall))).1
  · exact (scanEnd_request hidle he (h1 hyes)).1

/-- R163: what the scan changes before its erase. -/
theorem scanned_facts (s : State) : scanned s = { s with
      mu := (scanned s).mu, store := { s.store with journal := some (scanJournal s.store.array) } }
    ∧ ∀ i, (scanned s).account i = (s.account i).restore (latestOf s.store.array i) := by
  obtain ⟨h1, h2⟩ := recoverAccounts_facts s.store.array (s.onStore fun a => { a with journal := some (scanJournal s.store.array) })
  exact ⟨h2, h1⟩

/-- R175: a span without a valid record. -/
theorem placeBytes_erased {m : Flash} (h : ∀ x, 8192 ≤ x → m.read x = 0xFF) (p : Fin 224) (place : Nat) :
    validRecord (placeBytes m p place) = false := by
  have hbase : 8192 ≤ journalBase p := by
    have h : journalBase p = (2 + p.val / 16) * 4096 + p.val % 16 * 256 := rfl
    omega
  have hbytes : placeBytes m p place = List.replicate 32 0xFF := by
    apply List.ext_getElem
    · simp [placeBytes, Flash.readBytes]
    · intro i h1 h2
      have hread := Flash.readBytes_getElem m (journalBase p + 32 * place) 32 i h1
      rw [List.getElem_replicate]
      exact hread.trans (h _ (by omega))
  rw [hbytes]
  exact erased_invalid

/-- Settles O51: the load by the image's CRC-16; the scan by the journal's valid records. -/
theorem startUp : Obligations.StartUp := by
  intro s hp b
  have hload : exec .loadCompletion s = .next (loadComplete s) := congrArg Host.Outcome.next (whenPowered_on hp _)
  have hscan : exec .scanCompletion s = .next (scanComplete s) := congrArg Host.Outcome.next (whenPowered_on hp _)
  refine ⟨fun h => ?_, fun h => ?_, fun h => ⟨fun hv => ?_, fun c hc hb hv => ?_, fun hv hempty => ?_⟩, fun h hcanonical => ?_⟩
  · rw [hload]
    unfold loadComplete
    split
    · next hl => exact absurd hl h
    · rfl
    · rfl
  · rw [hscan]
    unfold scanComplete
    split
    · next hl => exact absurd hl h
    · rfl
    · rfl
  · obtain ⟨_, hstore⟩ := loadComplete_image h (decide_eq_true hv)
    exact ⟨_, hload, by rw [hstore], by rw [hstore]⟩
  · have hvalid : Flash.imageValid s.store.array = true := by
      refine decide_eq_true ?_
      show Flash.readBytes s.store.array 311 2 = crcField b
      rw [hb]
      exact hv
    obtain ⟨hloaded, hstore⟩ := loadComplete_image h hvalid
    rw [show Flash.readBytes s.store.array 0 311 = c.bytes from hb, decodeImage_bytes _ hc] at hloaded
    exact ⟨_, hload, by rw [hstore], by rw [hstore], hloaded.gov, hloaded.levels, hloaded.dispatch, hloaded.rake, hloaded.shedding,
      hloaded.correction, hloaded.source, hloaded.inverted, hloaded.gMax,
      fun i => ⟨hloaded.watch i, hloaded.present i, hloaded.drive i⟩, hloaded.feeder⟩
  · have ht := loadComplete_default h (decide_eq_false hv) hempty
    have hframe := tariffLoaded_frame { s with
      store := { s.store with startup := .scanning, configDefault := true }, lu := { s.lu with gMaxCopy := s.gc.params.gMax } }
    refine ⟨_, hload, ?_, fun herased => ?_, fun bands hbytes hcrc hlen hstart hup => ?_⟩
    · rw [ht]
      conv_lhs => rw [hframe]
    · rw [ht]
      unfold tariffLoaded
      rw [storedTariff_erased herased]
    · rw [ht]
      unfold tariffLoaded
      rw [storedTariff_bytes hbytes hcrc hlen hstart hup]
      rfl
  · obtain ⟨hframe, hrestore⟩ := scanned_facts s
    have hend := scanComplete_eq h
    have hindexOf := scanJournal_index s.store.array
    have hnextOf := fun p place => scanJournal_next s.store.array (p := p) (place := place)
    have hemptyOf := scanJournal_empty (m := s.store.array)
    have hlatestOf := fun p place => scanJournal_latest (m := s.store.array) (p := p) (place := place)
    generalize scanned s = x at hframe hrestore hend
    generalize scanJournal s.store.array = found at hframe hend hindexOf hnextOf hemptyOf hlatestOf
    have hjournal : x.store.journal = some found := by rw [hframe]
    have hlost : x.sl = s.sl := by rw [hframe]
    have hcheckpoint : x.store.checkpoint = s.store.checkpoint := by rw [hframe]
    obtain ⟨h1, h2, h3, ⟨j, h4, h5, h6, h7⟩, h8⟩ := scanEnd_facts (x := x) hjournal (by rw [hframe]; exact hp)
    rw [hcheckpoint] at h7
    have hreport : s.reportsSince (scanEnd found x) (.station .stopped .stopped false .ready) := by
      unfold State.reportsSince at h8 ⊢
      rwa [hlost] at h8
    have harray : (scanEnd found x).store.array = s.store.array := h3.trans (by rw [hframe])
    have hindex : ∀ p : Fin 224, j.index[p] = scanPage s.store.array p := fun p => by rw [h5]; exact hindexOf p
    have haccount : ∀ i, (scanEnd found x).account i = (s.account i).restore (latestOf s.store.array i) := fun i => by
      rw [← hrestore]
      unfold State.account
      rw [scanEnd_mu]
    rw [hend] at hscan
    refine ⟨_, j, hscan, h1, h2, harray, h4, fun p => ⟨?_, fun hspoiled place hplace => ?_⟩, fun p place hplace hv => ?_, fun herased => ?_, ?_, hreport⟩
    · rw [hindex]
      exact scanPage_fresh_iff hcanonical p
    · rw [hindex] at hspoiled
      exact scanPage_spoiled hspoiled hplace
    · rw [h6]
      exact hnextOf p place hplace hv
    · have hinvalid := placeBytes_erased herased
      refine ⟨by rw [h6]; exact (hemptyOf fun p place _ => hinvalid p place).1, fun i => ?_⟩
      rw [haccount, latestOf_none fun p place _ hv => absurd hv (by rw [hinvalid]; decide)]
      rfl
    · intro at_ ofFeeder
      refine ⟨fun i p place hof hmax => ?_, fun i hno => ?_, fun p place hplace hv hmax => ?_, fun hno => ?_,
        fun hready he hw hc hi ht hr => ?_⟩
      · obtain ⟨hplace, hv, hbyte⟩ := hof
        intro r
        rw [haccount, latestOf_highest hplace hv hbyte fun p' place' g1 g2 g3 => hmax p' place' ⟨g1, g2, g3⟩]
        rfl
      · rw [haccount, latestOf_none fun p place hplace hv hbyte => hno p place ⟨hplace, hv, hbyte⟩]
        rfl
      · obtain ⟨k1, k2⟩ := hlatestOf p place hplace hv hmax
        refine ⟨by rw [h6]; exact k1, fun hc w hlt hsec hfresh hfirst => ?_, fun hc hnone => ?_⟩
        · rw [h7 hc, k2]
          refine positionAfter_fresh hlt hsec ?_ fun w' g1 g2 => ?_
          · rw [indexOf_getElem, ← hindex]
            exact hfresh
          · rw [indexOf_getElem, ← hindex]
            exact hfirst w' g1 g2
        · rw [h7 hc, k2]
          refine positionAfter_none fun w g1 g2 => ?_
          rw [indexOf_getElem, ← hindex]
          exact hnone w g1 g2
      · obtain ⟨k1, k2⟩ := hemptyOf hno
        exact ⟨by rw [h6]; exact k1, fun hc => by rw [h7 hc]; exact k2⟩
      · intro own next
        have hj : j = found := by
          have hpos := h7 hc
          cases j
          cases found
          simp only at h5 h6 hpos
          rw [h5, h6, hpos]
        subst hj
        have hidle : x.store.Idle := by
          rw [hframe]
          exact ⟨hready, hc, hi, ht, hw, hr⟩
        have hfree : x.store.erase = none := by rw [hframe]; exact he
        have hnext : nextSector own = next := nextSector_eq own
        obtain ⟨k1, k2, k3⟩ := scanErase_cases (a := { x.store with startup := .complete }) (j := j) hjournal
        refine ⟨scanEnd_waiting hjournal hidle hfree, fun hno => (scanEnd_request hidle hfree (k1 hno)).2, fun hfresh ⟨p, hp1, hp2⟩ => ?_,
          fun hfresh hall => ?_⟩
        · rw [← hnext]
          refine (scanEnd_request hidle hfree (k2 hfresh (Bool.eq_false_of_not_eq_true fun hall => hp2 ?_))).2
          exact (allFresh_iff j _).mp hall p (hp1.trans hnext.symm)
        · exact (scanEnd_nothing hidle hfree (k3 hfresh ((allFresh_iff j _).mpr fun p hp1 => hall p (hp1.trans hnext)))).2

end Sys2Proof.Machine

/-! PROOFS. The settle timer's expiry and the requests at entry to LIVE (R26, R27, R107, R122). -/

namespace Sys2Proof.Machine

/-! ### Where no grant can be made -/

/-- R65: the spacing timer runs, or the capacity does not reach the reserve. -/
def State.Barred (s : State) : Prop := s.da.spacingTimer.isSome = true ∨ s.da.capacity < s.da.params.reserve

theorem arbitrate_of_barred {s : State} (h : s.Barred) : arbitrate s = s := by
  obtain h | h := h
  · exact arbitrate_of_spacing h
  · refine arbitrate_of_walk_none (Option.eq_none_iff_forall_ne_some.mpr fun e he => ?_)
    obtain ⟨_, _, hfits⟩ := walk_eq_some.mp he
    omega

/-! ### The requests of the feeders (R122) -/

/-- R122: the feeder is in OFF with the auto-connect flag. -/
def State.asksAuto (s : State) (i : Fin 12) : Bool := decide ((s.feeder i).state = .off ∧ (s.feeder i).profile.auto = true)

/-- R122: a feeder that asks, queued. -/
def autoConnected (s : State) (i : Fin 12) : State :=
  (insertRequest (requestEntry (hostRequest s i) s) s).onFeeder i fun d => { d with state := .queued }

theorem autoConnected_feeder (s : State) (i j : Fin 12) :
    (autoConnected s i).feeder j = if i = j then { s.feeder i with state := .queued } else s.feeder j := State.onFeeder_feeder _ _ _ _

theorem autoConnected_asks {s : State} {i j : Fin 12} (h : i ≠ j) : (autoConnected s i).asksAuto j = s.asksAuto j := by
  unfold State.asksAuto
  rw [autoConnected_feeder, if_neg h]

theorem autoConnected_length (s : State) (i : Fin 12) : (autoConnected s i).da.queue.length = s.da.queue.length + 1 :=
  (insertEntry_perm _ s.da.queue).length_eq

theorem mem_autoConnected {s : State} {i : Fin 12} {e : QueueEntry} :
    e ∈ (autoConnected s i).da.queue ↔ e = requestEntry (hostRequest s i) s ∨ e ∈ s.da.queue :=
  (insertEntry_perm _ s.da.queue).mem_iff.trans List.mem_cons

theorem autoConnected_queueHas {s : State} {i : Fin 12} {o : Owner} (h : o ≠ .feeder i) : (autoConnected s i).queueHas o = s.queueHas o := by
  rw [Bool.eq_iff_iff, queueHas_iff, queueHas_iff]
  exact (insertRequest_queueOwners (requestEntry (hostRequest s i) s) s).mem_iff.trans (List.mem_cons.trans (or_iff_right h))

/-- Of the feeders of `l` those that ask have neither kind of entry. -/
def FreeToAsk (l : List (Fin 12)) (s : State) : Prop :=
  ∀ i ∈ l, s.asksAuto i = true → s.queueHas (.feeder i) = false ∧ s.tableHas (.feeder i) = false

theorem FreeToAsk.autoConnected {i : Fin 12} {l : List (Fin 12)} {s : State} (hi : i ∉ l) (h : FreeToAsk (i :: l) s) :
    FreeToAsk l (autoConnected s i) := fun j hj ha => by
  have hij : i ≠ j := fun hk => hi (hk ▸ hj)
  rw [autoConnected_asks hij] at ha
  obtain ⟨hq, ht⟩ := h j (List.mem_cons_of_mem _ hj) ha
  exact ⟨(autoConnected_queueHas fun hk => hij (Owner.feeder.inj hk).symm).trans hq, ht⟩

/-- R122: the first FULL ends the requests, so that as many feeders are queued as there are places. -/
theorem autoConnectList_eq {l : List (Fin 12)} (hl : l.Nodup) {s : State} (hb : s.Barred) (hfree : FreeToAsk l s) :
    autoConnectList arbitrate l s = ((l.filter s.asksAuto).take (8 - s.da.queue.length)).foldl autoConnected s := by
  induction l generalizing s with
  | nil => simp [autoConnectList]
  | cons i rest ih =>
    obtain ⟨hi, hrest⟩ := List.nodup_cons.mp hl
    by_cases ha : s.asksAuto i = true
    · obtain ⟨hq, ht⟩ := hfree i List.mem_cons_self ha
      have hask := of_decide_eq_true ha
      rw [List.filter_cons_of_pos ha, autoConnectList, if_pos hask]
      by_cases hroom : s.da.queue.length < 8
      · have htaken := enqueue_taken (r := hostRequest s i) (setFeederState i .queued) hq ht hroom
        have hstep : arbitrate (setFeederState i .queued (insertRequest (requestEntry (hostRequest s i) s) s)) = autoConnected s i := by
          have hquiet : setFeederState i .queued (insertRequest (requestEntry (hostRequest s i) s) s) = autoConnected s i :=
            setFeederState_quiet (s := insertRequest (requestEntry (hostRequest s i) s) s)
              ⟨fun hk => FeederState.noConfusion (hask.1.symm.trans hk), fun hk => FeederState.noConfusion (hask.1.symm.trans hk)⟩ ⟨by decide, by decide⟩
          rw [hquiet]
          exact arbitrate_of_barred (s := autoConnected s i) hb
        have hrestasks : rest.filter (autoConnected s i).asksAuto = rest.filter s.asksAuto :=
          List.filter_congr fun j hj => autoConnected_asks fun hk => hi (hk ▸ hj)
        have hplaces : 8 - s.da.queue.length = (8 - (autoConnected s i).da.queue.length) + 1 := by
          rw [autoConnected_length]
          omega
        rw [hplaces, List.take_succ_cons, List.foldl_cons, ← hrestasks, ← ih hrest (s := autoConnected s i) hb (hfree.autoConnected hi)]
        simp only [htaken]
        exact congrArg (autoConnectList arbitrate rest) hstep
      · have hfull := enqueue_full (r := hostRequest s i) (setFeederState i .queued) hq ht (Nat.le_of_not_lt hroom)
        rw [Nat.sub_eq_zero_of_le (Nat.le_of_not_lt hroom)]
        simp only [hfull]
        rfl
    · rw [List.filter_cons_of_neg ha, autoConnectList, if_neg fun hk => ha (decide_eq_true hk)]
      exact ih hrest hb fun j hj => hfree j (List.mem_cons_of_mem _ hj)

/-- What the requests of the feeders of `l`, all of them with room, leave. -/
structure AutoConnects (l : List (Fin 12)) (s t : State) : Prop where
  queued : ∀ i ∈ l, t.feeder i = { s.feeder i with state := .queued }
    ∧ ∃ e ∈ t.da.queue, e.owner = .feeder i ∧ e.cls = (s.feeder i).profile.cls
      ∧ e.booking = (s.feeder i).profile.booking ∧ e.waitLimit = (s.feeder i).profile.waitLimit ∧ e.origin = .host
  others : ∀ i, i ∉ l → t.feeder i = s.feeder i
  queue : ∀ e ∈ s.da.queue, e ∈ t.da.queue
  length : t.da.queue.length = s.da.queue.length + l.length
  rakeEntry : t.queueHas .rake = s.queueHas .rake
  same : ∃ (q : List QueueEntry) (n : Nat), t = { s with da := { s.da with queue := q, sequence := n }, fu := t.fu }

theorem foldl_autoConnects {l : List (Fin 12)} (hl : l.Nodup) (s : State) : AutoConnects l s (l.foldl autoConnected s) := by
  induction l generalizing s with
  | nil =>
    exact ⟨fun _ h => absurd h List.not_mem_nil, fun _ _ => rfl, fun _ => id, rfl, rfl, s.da.queue, s.da.sequence, rfl⟩
  | cons i rest ih =>
    obtain ⟨hi, hrest⟩ := List.nodup_cons.mp hl
    obtain ⟨hqueued, hothers, hqueue, hlength, hrake, q, n, hsame⟩ := ih hrest (autoConnected s i)
    have hother : ∀ j, i ≠ j → (autoConnected s i).feeder j = s.feeder j := fun j hij => (autoConnected_feeder s i j).trans (if_neg hij)
    rw [List.foldl_cons]
    refine ⟨fun j hj => ?_, fun j hj => ?_, fun e he => hqueue e (mem_autoConnected.mpr (.inr he)), ?_, ?_, q, n, ?_⟩
    · obtain rfl | hj := List.mem_cons.mp hj
      · refine ⟨(hothers j hi).trans ((autoConnected_feeder s j j).trans (if_pos rfl)), requestEntry (hostRequest s j) s, ?_, rfl, rfl, rfl, rfl, rfl⟩
        exact hqueue _ (mem_autoConnected.mpr (.inl rfl))
      · have h := hqueued j hj
        rw [hother j fun hk => hi (hk ▸ hj)] at h
        exact h
    · rw [hothers j fun hk => hj (List.mem_cons_of_mem _ hk), hother j fun hk => hj (hk ▸ List.mem_cons_self)]
    · rw [hlength, autoConnected_length, List.length_cons]
      omega
    · exact hrake.trans (autoConnected_queueHas Owner.noConfusion)
    · exact hsame

/-! ### The order of the requests -/

/-- R122: one feeder stands before another: a lower class, or a lower index in the class. -/
def State.before (s : State) (j i : Fin 12) : Bool := decide ((s.feeder j).profile.cls < (s.feeder i).profile.cls
  ∨ (s.feeder j).profile.cls = (s.feeder i).profile.cls ∧ j < i)

/-- R122: how many of the feeders that ask stand before a feeder. -/
def State.rank (s : State) (i : Fin 12) : Nat := ((List.finRange 12).filter fun j => s.asksAuto j && s.before j i).length

/-- R122: how many feeders ask. -/
def State.askers (s : State) : Nat := ((List.finRange 12).filter s.asksAuto).length

/-- In a list that stands in the order of `before`, an element's place is the number of those before it. -/
theorem mem_take_iff_count {α : Type} {before : α → α → Bool} (hself : ∀ a, before a a = false)
    (hasymm : ∀ a b, before a b = true → before b a = false) {l : List α} (hl : l.Pairwise fun a b => before a b = true) {x : α} (hx : x ∈ l) (n : Nat) :
    x ∈ l.take n ↔ (l.filter fun a => before a x).length < n := by
  induction l generalizing n with
  | nil => exact absurd hx List.not_mem_nil
  | cons a rest ih =>
    obtain ⟨ha, hrest⟩ := List.pairwise_cons.mp hl
    cases n with
    | zero => simp
    | succ n =>
      obtain rfl | hin := List.mem_cons.mp hx
      · have hnone : rest.filter (fun a => before a x) = [] :=
          List.filter_eq_nil_iff.mpr fun b hb => Bool.eq_false_iff.mp (hasymm _ _ (ha b hb))
        rw [List.filter_cons_of_neg (p := fun a => before a x) (Bool.eq_false_iff.mp (hself x)), hnone, List.take_succ_cons]
        simp
      · have hne : x ≠ a := by
          rintro rfl
          exact Bool.eq_false_iff.mp (hself x) (ha x hin)
        rw [List.filter_cons_of_pos (p := fun a => before a x) (ha x hin), List.take_succ_cons, List.mem_cons, or_iff_right hne, List.length_cons,
          ih hrest hin n]
        omega

theorem before_self (s : State) (i : Fin 12) : s.before i i = false := by simp [State.before]

theorem before_asymm (s : State) (i j : Fin 12) (h : s.before i j = true) : s.before j i = false := by
  unfold State.before at h ⊢
  have h := of_decide_eq_true h
  refine decide_eq_false fun hk => ?_
  omega

theorem feedersByClass_pairwise (s : State) : (feedersByClass s).Pairwise fun i j => s.before i j = true := by
  unfold feedersByClass
  have hcls : ∀ {c : Nat} {i : Fin 12}, i ∈ allFeeders.filter (fun i => decide ((s.feeder i).profile.cls = c)) → (s.feeder i).profile.cls = c :=
    fun hi => of_decide_eq_true (List.mem_filter.mp hi).2
  refine List.pairwise_flatMap.mpr ⟨fun c _ => ?_, List.Pairwise.imp (R := (· < ·)) (fun {a b} hab i hi j hj => ?_) (by decide)⟩
  · have hindex : (allFeeders.filter fun i => decide ((s.feeder i).profile.cls = c)).Pairwise (· < ·) :=
      List.Pairwise.filter _ (by decide)
    exact hindex.imp_of_mem fun {i j} hi hj hij => decide_eq_true (.inr ⟨(hcls hi).trans (hcls hj).symm, hij⟩)
  · exact decide_eq_true (.inl (by rw [hcls hi, hcls hj]; exact hab))

/-- The feeders that ask, in their order, are those that ask. -/
theorem askers_perm {s : State} (hs : s.ProfilesInRange) :
    ((feedersByClass s).filter s.asksAuto).Perm ((List.finRange 12).filter s.asksAuto) := by
  refine (List.perm_ext_iff_of_nodup ((feedersByClass_nodup s).filter _) ((List.nodup_finRange 12).filter _)).mpr fun i => ?_
  simp only [List.mem_filter, List.mem_finRange, true_and, mem_feedersByClass, and_iff_right (profile_cls hs i)]

theorem mem_askers_take {s : State} (hs : s.ProfilesInRange) {i : Fin 12} {n : Nat} :
    i ∈ ((feedersByClass s).filter s.asksAuto).take n ↔ s.asksAuto i = true ∧ s.rank i < n := by
  have hperm := askers_perm hs
  have hrank : (((feedersByClass s).filter s.asksAuto).filter fun j => s.before j i).length = s.rank i := by
    rw [(hperm.filter _).length_eq, List.filter_filter]
    unfold State.rank
    refine congrArg List.length (List.filter_congr fun j _ => Bool.and_comm _ _)
  by_cases ha : s.asksAuto i = true
  · have hi : i ∈ (feedersByClass s).filter s.asksAuto := List.mem_filter.mpr ⟨mem_feedersByClass.mpr (profile_cls hs i), ha⟩
    rw [mem_take_iff_count (before_self s) (before_asymm s) (List.Pairwise.filter _ (feedersByClass_pairwise s)) hi, hrank, and_iff_right ha]
  · refine iff_of_false (fun hk => ha (List.mem_filter.mp (List.mem_of_mem_take hk)).2) fun hk => ha hk.1

end Sys2Proof.Machine

/-! PROOFS. The rake's request at entry to LIVE, and what the settle timer's expiry leaves (R26, R27, R107, R108). -/

namespace Sys2Proof.Machine

/-! ### The rake's request where no grant can be made (R107, R108) -/

/-- R108: a rake that is to ask, forced where its grace is spent. -/
def rakeAsking (s : State) : State :=
  if s.rk.state = .due ∧ s.rk.graceSpent = true then postRake .due .grace (s.onRk fun k => { k with state := .forced }) else s

theorem rakeAsking_same (s : State) : (rakeAsking s).da = s.da ∧ (rakeAsking s).fu = s.fu := by
  unfold rakeAsking postRake
  split
  · exact ⟨post_da _ _, post_fu _ _⟩
  · exact ⟨rfl, rfl⟩

theorem rakeAsking_rk {s : State} (h : s.rk.state = .due ∨ s.rk.state = .forced) :
    (rakeAsking s).rk = { s.rk with state := if s.rk.graceSpent then .forced else s.rk.state } := by
  unfold rakeAsking postRake
  split
  · next hspent =>
    rw [if_pos hspent.2]
    exact post_rk _ _
  · next hspent =>
    refine congrArg (fun st => ({ s.rk with state := st } : RakeUnit)) (a₁ := s.rk.state) ?_
    split
    · next hgrace => exact h.resolve_left fun hdue => hspent ⟨hdue, hgrace⟩
    · rfl

/-- R70, R101: a forcing that finds no entry of the rake's and no engaged slot is the rake's alone. -/
theorem forceRake_alone {s : State} (hq : s.queueHas .rake = false) (hslots : ∀ i, (s.slot i).state.engaged = false) :
    forceRake arbitrate s = postRake .due .grace (s.onRk fun k => { k with state := .forced }) := by
  unfold forceRake postRake
  simp only []
  generalize hx : post (.rake _ _ _ _ _) (s.onRk fun k => { k with state := .forced }) = x
  have hda : x.da = s.da := by
    rw [← hx]
    exact post_da _ _
  have hslot : ∀ i, x.slot i = s.slot i := fun i => by
    rw [← hx]
    exact post_slot _ _ i
  have hentry : forceRakeEntry arbitrate x = x := by
    have hnone : (x.da.queue.find? fun e => decide (e.owner = .rake)) = none := by
      rw [hda]
      exact List.find?_eq_none.mpr (List.any_eq_false.mp hq)
    unfold forceRakeEntry
    rw [hnone]
  rw [hentry]
  exact List.foldlRecOn (motive := fun t : State => t = x) _ _ rfl fun t ht i _ => by
    rw [ht]
    exact rakeForcesSlot_free (by rw [hslot]; exact hslots i)

/-- R107: the request that a rake makes, by its state. -/
def rakeCall (s : State) : Request :=
  { owner := .rake, cls := if s.rk.state = .forced then 0 else 3, booking := s.rk.params.booking, waitLimit := 0, origin := .host }

/-- A rake that asks in LIVE, has no entry, and finds no slot engaged and no grant to be made. -/
structure RakeMayAsk (s : State) : Prop where
  asks : s.rk.state = .due ∨ s.rk.state = .forced
  live : s.ss.station = .live
  held : s.rk.entryHeld = false
  queue : s.queueHas .rake = false
  table : s.tableHas .rake = false
  slots : ∀ i, (s.slot i).state.engaged = false
  barred : s.Barred

theorem rakeRequest_enqueues {s : State} (h : RakeMayAsk s) : rakeRequest arbitrate s =
    (enqueue arbitrate (rakeCall (rakeAsking s)) (fun s => s.onRk fun k => { k with entryHeld := true }) (rakeAsking s)).2 := by
  have hasks : s.rk.state.asks = true ∧ s.rk.entryHeld = false ∧ s.ss.station = .live :=
    ⟨by obtain hk | hk := h.asks <;> rw [hk] <;> rfl, h.held, h.live⟩
  unfold rakeRequest
  rw [if_pos hasks, forceRake_alone h.queue h.slots]
  rfl

/-- R107: what the rake's request leaves. -/
structure RakeAsks (s t : State) : Prop where
  room : s.da.queue.length < 8 → t.rk = { s.rk with state := if s.rk.graceSpent then .forced else s.rk.state, entryHeld := true }
    ∧ (∃ e ∈ t.da.queue, e.owner = .rake ∧ e.cls = (if t.rk.state = .forced then 0 else 3)
      ∧ e.booking = s.rk.params.booking ∧ e.waitLimit = 0 ∧ e.origin = .host)
    ∧ t.da.queue.length = s.da.queue.length + 1
  full : 8 ≤ s.da.queue.length → t.rk.entryHeld = false ∧ t.da.queue = s.da.queue
  queue : ∀ e ∈ s.da.queue, e ∈ t.da.queue
  feederEntry : ∀ i, t.queueHas (.feeder i) = s.queueHas (.feeder i)
  fu : t.fu = s.fu
  da : ∃ (q : List QueueEntry) (n : Nat), t.da = { s.da with queue := q, sequence := n }

theorem rakeRequest_asks {s : State} (h : RakeMayAsk s) : RakeAsks s (rakeRequest arbitrate s) := by
  have hrk := rakeAsking_rk h.asks
  obtain ⟨hda, hfu⟩ := rakeAsking_same s
  rw [rakeRequest_enqueues h]
  generalize hx : rakeAsking s = x at hrk hda hfu
  have hq : x.queueHas (rakeCall x).owner = false := by
    unfold State.queueHas
    rw [hda]
    exact h.queue
  have ht : x.tableHas (rakeCall x).owner = false := by
    unfold State.tableHas
    rw [hda]
    exact h.table
  by_cases hroom : s.da.queue.length < 8
  · have htaken := enqueue_taken (r := rakeCall x) (fun s => s.onRk fun k => { k with entryHeld := true }) hq ht (by rw [hda]; exact hroom)
    have hbarred : State.Barred ((insertRequest (requestEntry (rakeCall x) x) x).onRk fun k => { k with entryHeld := true }) := by
      show x.Barred
      unfold State.Barred
      rw [hda]
      exact h.barred
    rw [htaken, arbitrate_of_barred hbarred]
    have hmem : ∀ e, e ∈ insertEntry (requestEntry (rakeCall x) x) x.da.queue ↔ e = requestEntry (rakeCall x) x ∨ e ∈ s.da.queue := fun e => by
      rw [← hda]
      exact (insertEntry_perm _ x.da.queue).mem_iff.trans List.mem_cons
    refine ⟨fun _ => ⟨?_, ⟨requestEntry (rakeCall x) x, (hmem _).mpr (.inl rfl), rfl, rfl, ?_, rfl, rfl⟩, ?_⟩, fun hk => absurd hroom (Nat.not_lt.mpr hk),
      fun e he => (hmem e).mpr (.inr he), fun i => ?_, hfu,
      insertEntry (requestEntry (rakeCall x) x) s.da.queue, s.da.sequence + 1, ?_⟩
    · exact congrArg (fun k : RakeUnit => { k with entryHeld := true }) hrk
    · exact (congrArg (fun k : RakeUnit => k.params.booking) hrk).trans rfl
    · rw [← hda]
      exact (insertEntry_perm _ x.da.queue).length_eq
    · rw [Bool.eq_iff_iff, queueHas_iff, queueHas_iff]
      have howners : s.queueOwners = x.queueOwners := by
        unfold State.queueOwners
        rw [hda]
      rw [howners]
      exact (insertRequest_queueOwners (requestEntry (rakeCall x) x) x).mem_iff.trans (List.mem_cons.trans (or_iff_right Owner.noConfusion))
    · exact congrArg (fun d : Arbiter => { d with queue := insertEntry (requestEntry (rakeCall x) x) d.queue, sequence := d.sequence + 1 }) hda
  · have hfull := enqueue_full (r := rakeCall x) (fun s => s.onRk fun k => { k with entryHeld := true }) hq ht (by rw [hda]; omega)
    rw [hfull]
    refine ⟨fun hk => absurd hk hroom, fun _ => ⟨?_, congrArg Arbiter.queue hda⟩, fun e he => ?_, fun i => ?_, hfu, s.da.queue, s.da.sequence, hda⟩
    · exact (congrArg RakeUnit.entryHeld hrk).trans h.held
    · show e ∈ x.da.queue
      rw [hda]
      exact he
    · unfold State.queueHas
      rw [hda]

theorem rakeRequest_silent {s : State} (h : ¬(s.rk.state = .due ∨ s.rk.state = .forced)) : rakeRequest arbitrate s = s := by
  refine if_neg fun hk => h ?_
  have hasks := hk.1
  cases hst : s.rk.state with
  | due => exact .inl rfl
  | forced => exact .inr rfl
  | idle | running => rw [hst] at hasks; cases hasks

end Sys2Proof.Machine

/-! PROOFS. Entry to LIVE: the station's part, and the requests in both of their orders (R26, R27, R122; log 3). -/

namespace Sys2Proof.Machine

/-! ### The feeders' requests, by rank -/

/-- What the feeder's requests read of the state. -/
theorem asksAuto_of_fu {s t : State} (h : t.fu = s.fu) : t.asksAuto = s.asksAuto ∧ t.rank = s.rank ∧ feedersByClass t = feedersByClass s := by
  have hfeeder : t.feeder = s.feeder := by
    unfold State.feeder
    rw [h]
  have hasks : t.asksAuto = s.asksAuto := by
    unfold State.asksAuto
    rw [hfeeder]
  refine ⟨hasks, ?_, ?_⟩
  · unfold State.rank State.before
    rw [hasks, hfeeder]
  · unfold feedersByClass
    rw [hfeeder]

/-- R122: what the requests of the feeders leave, where there are `places` in the queue. -/
structure FeedersAsk (places : Nat) (s t : State) : Prop where
  feeders : ∀ i : Fin 12,
    (s.asksAuto i = true → s.rank i < places → t.feeder i = { s.feeder i with state := .queued }
      ∧ ∃ e ∈ t.da.queue, e.owner = .feeder i ∧ e.cls = (s.feeder i).profile.cls
        ∧ e.booking = (s.feeder i).profile.booking ∧ e.waitLimit = (s.feeder i).profile.waitLimit ∧ e.origin = .host)
    ∧ ((s.asksAuto i = false ∨ places ≤ s.rank i) → t.feeder i = s.feeder i)
  queue : ∀ e ∈ s.da.queue, e ∈ t.da.queue
  length : t.da.queue.length = s.da.queue.length + min places s.askers
  rakeEntry : t.queueHas .rake = s.queueHas .rake
  same : ∃ (q : List QueueEntry) (n : Nat), t = { s with da := { s.da with queue := q, sequence := n }, fu := t.fu }

theorem autoConnect_asks {s : State} (hs : s.ProfilesInRange) (hb : s.Barred)
    (hfree : ∀ i, s.asksAuto i = true → s.queueHas (.feeder i) = false ∧ s.tableHas (.feeder i) = false) :
    FeedersAsk (8 - s.da.queue.length) s (autoConnect arbitrate s) := by
  have hnodup := feedersByClass_nodup s
  have hsub := List.take_sublist (8 - s.da.queue.length) ((feedersByClass s).filter s.asksAuto)
  obtain ⟨hqueued, hothers, hqueue, hlength, hrake, hsame⟩ := foldl_autoConnects ((hnodup.filter _).sublist hsub) s
  have heq : autoConnect arbitrate s = _ := autoConnectList_eq hnodup hb fun i _ => hfree i
  rw [← heq] at hqueued hothers hqueue hlength hrake hsame
  refine ⟨fun i => ⟨fun ha hr => hqueued i ((mem_askers_take hs).mpr ⟨ha, hr⟩), fun hno => hothers i fun hk => ?_⟩, hqueue, ?_, hrake, hsame⟩
  · obtain ⟨ha, hr⟩ := (mem_askers_take hs).mp hk
    exact hno.elim (fun hna => Bool.false_ne_true (hna.symm.trans ha)) fun hle => Nat.not_lt.mpr hle hr
  · rw [hlength, List.length_take, (askers_perm hs).length_eq]
    rfl

/-! ### Both kinds of request -/

/-- R27, R107, R122: what the requests at entry to LIVE leave, the rake's coming first or last. -/
structure RequestsLeft (first : Bool) (s t : State) : Prop where
  feeders : ∀ i : Fin 12,
    (s.asksAuto i = true → s.rank i < (if (s.rk.state = .due ∨ s.rk.state = .forced) ∧ first = true then 7 else 8) →
      t.feeder i = { s.feeder i with state := .queued }
      ∧ ∃ e ∈ t.da.queue, e.owner = .feeder i ∧ e.cls = (s.feeder i).profile.cls
        ∧ e.booking = (s.feeder i).profile.booking ∧ e.waitLimit = (s.feeder i).profile.waitLimit ∧ e.origin = .host)
    ∧ ((s.asksAuto i = false ∨ (if (s.rk.state = .due ∨ s.rk.state = .forced) ∧ first = true then 7 else 8) ≤ s.rank i) →
      t.feeder i = s.feeder i)
  rake : (s.rk.state = .due ∨ s.rk.state = .forced) → (first = true ∨ s.askers < 8) →
    t.rk = { s.rk with state := if s.rk.graceSpent then .forced else s.rk.state, entryHeld := true }
    ∧ ∃ e ∈ t.da.queue, e.owner = .rake ∧ e.cls = (if t.rk.state = .forced then 0 else 3)
      ∧ e.booking = s.rk.params.booking ∧ e.waitLimit = 0 ∧ e.origin = .host
  full : (s.rk.state = .due ∨ s.rk.state = .forced) → first = false → 8 ≤ s.askers → t.rk.entryHeld = false
  silent : ¬(s.rk.state = .due ∨ s.rk.state = .forced) → t.rk = s.rk
  table : t.da.table = s.da.table
  length : t.da.queue.length = min 8 (s.askers + if s.rk.state = .due ∨ s.rk.state = .forced then 1 else 0)

/-- A state at entry to LIVE in which the two collections are empty and no grant can be made. -/
structure EntersEmpty (s : State) : Prop where
  consistent : s.Consistent
  profiles : s.ProfilesInRange
  queue : s.da.queue = []
  table : s.da.table = []
  barred : s.Barred
  live : s.ss.station = .live

theorem EntersEmpty.queueHas {s : State} (h : EntersEmpty s) (o : Owner) : s.queueHas o = false := by
  unfold State.queueHas
  rw [h.queue]
  rfl

theorem EntersEmpty.tableHas {s : State} (h : EntersEmpty s) (o : Owner) : s.tableHas o = false := by
  unfold State.tableHas
  rw [h.table]
  rfl

theorem EntersEmpty.mayAsk {s : State} (h : EntersEmpty s) (hr : s.rk.state = .due ∨ s.rk.state = .forced) : RakeMayAsk s :=
  ⟨hr, h.live, h.consistent.rakeQueued.symm.trans (h.queueHas _), h.queueHas _, h.tableHas _,
    fun i => (h.consistent.driveGranted i).symm.trans (h.tableHas _), h.barred⟩

/-- The feeders ask alone. -/
theorem EntersEmpty.feedersAlone {s : State} (h : EntersEmpty s) (first : Bool) (hr : ¬(s.rk.state = .due ∨ s.rk.state = .forced)) :
    RequestsLeft first s (autoConnect arbitrate s) := by
  obtain ⟨hfeeders, _, hlength, _, q, n, hsame⟩ := autoConnect_asks h.profiles h.barred fun i _ => ⟨h.queueHas _, h.tableHas _⟩
  rw [h.queue] at hfeeders hlength
  refine ⟨?_, fun hk => absurd hk hr, fun hk => absurd hk hr, fun _ => by rw [hsame], by rw [hsame], ?_⟩
  · rw [if_neg fun hk => hr hk.1]
    exact hfeeders
  · rw [hlength, if_neg hr]
    show 0 + min (8 - 0) s.askers = min 8 (s.askers + 0)
    omega

/-- The rake asks first. -/
theorem EntersEmpty.rakeThenFeeders {s : State} (h : EntersEmpty s) (hr : s.rk.state = .due ∨ s.rk.state = .forced) :
    RequestsLeft true s (autoConnect arbitrate (rakeRequest arbitrate s)) := by
  obtain ⟨hroom, _, _, hentry, hfu, q, n, hda⟩ := rakeRequest_asks (h.mayAsk hr)
  have hprofiles : (rakeRequest arbitrate s).ProfilesInRange := profilesInRange_of_still (still_rakeRequest arbitrate_keeps s) h.profiles
  obtain ⟨hrk, ⟨e, he, hspec⟩, hone⟩ := hroom (by rw [h.queue]; exact Nat.zero_lt_succ 7)
  rw [h.queue] at hone
  generalize rakeRequest arbitrate s = x at *
  have hbarred : x.Barred := by
    unfold State.Barred
    rw [hda]
    exact h.barred
  obtain ⟨hasks, hrank, _⟩ := asksAuto_of_fu hfu
  have hfeeder : x.feeder = s.feeder := by
    unfold State.feeder
    rw [hfu]
  have haskers : x.askers = s.askers := congrArg (fun p => ((List.finRange 12).filter p).length) hasks
  have htable : x.da.table = s.da.table := by rw [hda]
  have hfree : ∀ i, x.asksAuto i = true → x.queueHas (.feeder i) = false ∧ x.tableHas (.feeder i) = false := fun i _ => by
    refine ⟨(hentry i).trans (h.queueHas _), ?_⟩
    unfold State.tableHas
    rw [htable]
    exact h.tableHas _
  obtain ⟨hfeeders, hqueue, hlength, _, q', n', hsame⟩ := autoConnect_asks hprofiles hbarred hfree
  have hrakeKept : (autoConnect arbitrate x).rk = x.rk := by rw [hsame]
  rw [hone, hasks, hrank, hfeeder] at hfeeders
  rw [hone, haskers] at hlength
  refine ⟨?_, fun _ _ => ⟨hrakeKept.trans hrk, e, hqueue e he, ?_⟩, fun _ hk => absurd hk.symm Bool.false_ne_true, fun hk => absurd hr hk, ?_, ?_⟩
  · rw [if_pos ⟨hr, rfl⟩]
    exact hfeeders
  · rw [hrakeKept]
    exact hspec
  · rw [hsame]
    exact htable
  · rw [hlength, if_pos hr]
    show 0 + 1 + min (8 - (0 + 1)) s.askers = min 8 (s.askers + 1)
    omega

theorem min_succ_of_lt {n : Nat} (h : min 8 n < 8) : min 8 n + 1 = min 8 (n + 1) := by omega

theorem min_succ_of_not_lt {n : Nat} (h : ¬min 8 n < 8) : min 8 n = min 8 (n + 1) := by omega

/-- The feeders ask first. -/
theorem EntersEmpty.feedersThenRake {s : State} (h : EntersEmpty s) (hr : s.rk.state = .due ∨ s.rk.state = .forced) :
    RequestsLeft false s (rakeRequest arbitrate (autoConnect arbitrate s)) := by
  obtain ⟨hfeeders, _, hlength, hrakeEntry, q, n, hsame⟩ := autoConnect_asks h.profiles h.barred fun i _ => ⟨h.queueHas _, h.tableHas _⟩
  rw [h.queue] at hfeeders hlength
  generalize hx : autoConnect arbitrate s = x at *
  have hlen : x.da.queue.length = min 8 s.askers := by
    rw [hlength]
    exact Nat.zero_add _
  have hrk : x.rk = s.rk := by rw [hsame]
  have htable : x.da.table = s.da.table := by rw [hsame]
  obtain ⟨hasks, hlive, hheld, _, _, hslots, hb⟩ := h.mayAsk hr
  have hmay : RakeMayAsk x := by
    refine ⟨by rw [hrk]; exact hasks, by rw [hsame]; exact hlive, by rw [hrk]; exact hheld, hrakeEntry.trans (h.queueHas _), ?_, ?_, ?_⟩
    · unfold State.tableHas
      rw [htable]
      exact h.tableHas _
    · rw [hsame]
      exact hslots
    · rw [hsame]
      exact hb
  obtain ⟨hroom, hfull, hqueue, _, hfu, q', n', hda⟩ := rakeRequest_asks hmay
  have hfeeder : ∀ i, (rakeRequest arbitrate x).feeder i = x.feeder i := fun i => by
    unfold State.feeder
    rw [hfu]
  rw [hrk] at hroom
  refine ⟨fun i => ?_, fun _ hk => ?_, fun _ _ hk => (hfull (hlen.symm ▸ le_min le_rfl hk)).1, fun hk => absurd hr hk, by rw [hda]; exact htable, ?_⟩
  · rw [if_neg fun hk => Bool.false_ne_true hk.2, hfeeder]
    obtain ⟨hin, hout⟩ := hfeeders i
    refine ⟨fun ha hrank => ?_, hout⟩
    obtain ⟨hstate, e, he, hspec⟩ := hin ha hrank
    exact ⟨hstate, e, hqueue e he, hspec⟩
  · have haskers := hk.resolve_left Bool.false_ne_true
    obtain ⟨hrk', hentry, _⟩ := hroom (hlen.symm ▸ lt_of_le_of_lt (min_le_right _ _) haskers)
    exact ⟨hrk', hentry⟩
  · rw [if_pos hr]
    by_cases hk : x.da.queue.length < 8
    · rw [(hroom hk).2.2, hlen]
      rw [hlen] at hk
      exact min_succ_of_lt hk
    · rw [(hfull (Nat.le_of_not_lt hk)).2, hlen]
      rw [hlen] at hk
      exact min_succ_of_not_lt hk

/-- R27: the requests at entry to LIVE, in either order (log 3). -/
theorem requestsAtLive_leaves {s : State} (h : EntersEmpty s) : RequestsLeft (Config.rakeFirst s.choices) s (requestsAtLive s) := by
  have hnext : EntersEmpty s.nextChoice := ⟨(consistent_iff _).mpr (((consistent_iff s).mp h.consistent).of_eq rfl rfl (fun _ => rfl) rfl (fun _ => rfl) rfl),
    ⟨h.profiles.drives, h.profiles.feeders⟩, h.queue, h.table, h.barred, h.live⟩
  have hsame : ∀ {first : Bool} {t : State}, RequestsLeft first s.nextChoice t → RequestsLeft first s t := fun ⟨h1, h2, h3, h4, h5, h6⟩ =>
    ⟨h1, h2, h3, h4, h5, h6⟩
  unfold requestsAtLive
  by_cases hr : s.rk.state = .due ∨ s.rk.state = .forced
  · cases hfirst : Config.rakeFirst s.choices with
    | true => exact hsame (hnext.rakeThenFeeders hr)
    | false => exact hsame (hnext.feedersThenRake hr)
  · have halone := hnext.feedersAlone (Config.rakeFirst s.choices) hr
    have hsilent : ∀ x : State, x.rk = s.rk → rakeRequest arbitrate x = x := fun x hx => rakeRequest_silent (by rw [hx]; exact hr)
    have hkept : (autoConnect arbitrate s.nextChoice).rk = s.rk := halone.silent hr
    rw [hsilent s.nextChoice rfl, hsilent _ hkept, ite_self]
    exact hsame halone

/-! ### The obligation -/

/-- R26: the station at the settle timer's expiry, before the requests. -/
def stationLive (s : State) : State :=
  setStation .live .settled (s.onSs fun q => { q with fieldClosed := true, startTimer := none, settleTimer := none })

theorem stationLive_eq {s : State} (h : s.ss.station = .runUp) : stationLive s = post (.station .live .runUp s.ss.standing .settled)
    (s.onSs fun q => { q with station := .live, fieldClosed := true, startTimer := none, settleTimer := none }) := by
  unfold stationLive
  rw [setStation_plain .settled (by show s.ss.station ≠ .tripped; rw [h]; decide) (by decide)]
  show post (.station .live s.ss.station s.ss.standing .settled) _ = _
  rw [h]
  rfl

theorem exec_settleTimer {s : State} (hp : s.powered = true) (hst : s.ss.station = .runUp) (ht : s.ss.settleTimer.isSome = true) :
    exec .settleTimerExpiry s = .next (handLive true (requestsAtLive (stationLive s))) :=
  congrArg Host.Outcome.next ((whenPowered_on hp _).trans ((whenRunning_of_isSome ht s _).trans (if_pos hst)))

theorem calm_requestsAtLive {s : State} (h : s.ss.station = .live) : Calm [] s.nextChoice (requestsAtLive s) := by
  have hrake : ∀ x, Calm [] x (rakeRequest arbitrate x) := calm_rakeRequest arbitrate_arbitrates feedersOnly_nil
  have hfeeders : ∀ {x : State}, x.ss.station = .live → Calm [] x (autoConnect arbitrate x) := calm_autoConnect arbitrate_arbitrates feedersOnly_nil
  unfold requestsAtLive
  split
  · exact (hrake s.nextChoice).trans (hfeeders ((hrake s.nextChoice).station.trans h))
  · exact (hfeeders (x := s.nextChoice) h).trans (hrake _)

theorem handLive_reportsOnly (live : Bool) (s : State) : ReportsOnly s (handLive live s) :=
  ReportsOnly.trans (t := s.onCu fun u => { u with liveCopy := live }) (.of_sl rfl rfl) (evaluateCorrection_reportsOnly _)

/-- What the settle timer's expiry shows of the station, the gate and the calendar. -/
theorem still_entersLive {s : State} (h : s.ss.station = .runUp) : (handLive true (requestsAtLive (stationLive s))).still =
    ({ s with
      ss := { s.ss with station := .live, fieldClosed := true, startTimer := none, settleTimer := none }
      cu := { s.cu with liveCopy := true }, choices := s.choices + 1 } : State).still := by
  have hlive : (stationLive s).ss.station = .live := (setStation_flags _ _ _).1
  have hrequests := (calm_requestsAtLive hlive).still
  have hstation : (stationLive s).still = (s.onSs fun q => { q with
      station := .live, fieldClosed := true, startTimer := none, settleTimer := none }).still := by
    rw [stationLive_eq h]
    exact still_post _ _
  have hnext : (stationLive s).nextChoice.still = (State.nextChoice (s.onSs fun q => { q with
      station := .live, fieldClosed := true, startTimer := none, settleTimer := none })).still := by
    have hchoices := congrArg (fun x : State => { x with choices := x.choices + 1 }) hstation
    exact hchoices
  have hcopy := congrArg (fun x : State => { x with cu := { x.cu with liveCopy := true } }) (hrequests.trans hnext)
  exact (still_evaluateCorrection _).trans hcopy

/-- What `still` shows of the sequencer is all but the relay. -/
theorem ss_of_still {s t : State} (h : t.still = s.still) : t.ss = { s.ss with alarmRelay := t.ss.alarmRelay } :=
  congrArg (fun x : State => { x.ss with alarmRelay := t.ss.alarmRelay }) h

/-- Settles O14: the station enters LIVE, and the rake and the feeders ask. -/
theorem settleExpiryEntersLive : Obligations.SettleExpiryEntersLive := by
  intro s hp hst ht
  have hstill := still_entersLive hst
  have hss := ss_of_still hstill
  have hlive : (stationLive s).ss.station = .live := (setStation_flags _ _ _).1
  have hsl : ∀ {α : Type} (f : State → α), (∀ x r, f (post r x) = f x) → f (stationLive s) = f (s.onSs fun q => { q with
      station := .live, fieldClosed := true, startTimer := none, settleTimer := none }) := fun f hf => by
    rw [stationLive_eq hst]
    exact hf _ _
  refine ⟨_, exec_settleTimer hp hst ht, hss, ?_, ?_, ?_, fun hs hprofiles hq htable hbarred => ?_⟩
  · refine hstill.trans ?_
    rw [hss]
    rfl
  · have hgate : (handLive true (requestsAtLive (stationLive s))).still.gc.gateOut = _ := congrArg (fun x : State => x.gc.gateOut) hstill
    exact hgate
  · have hreport : s.reportsSince (stationLive s) (.station .live .runUp s.ss.standing .settled) := by
      rw [stationLive_eq hst]
      exact reportsSince_of_post (t := s.onSs fun q => { q with station := .live, fieldClosed := true, startTimer := none, settleTimer := none })
        hp (.of_sl rfl rfl) (.refl _)
    have hafter : ReportsOnly (stationLive s) (handLive true (requestsAtLive (stationLive s))) :=
      (ReportsOnly.trans (s := stationLive s) (t := (stationLive s).nextChoice) (.of_sl rfl rfl) (calm_requestsAtLive hlive).reportsOnly).trans (handLive_reportsOnly _ _)
    exact hafter.reportsSince hreport
  · have hda : (stationLive s).da = s.da := hsl State.da fun x r => post_da r x
    have hfu : (stationLive s).fu = s.fu := hsl State.fu fun x r => post_fu r x
    have hrk : (stationLive s).rk = s.rk := hsl State.rk fun x r => post_rk r x
    have hds : (stationLive s).ds = s.ds := hsl State.ds fun x r => post_ds r x
    have hgc : (stationLive s).gc = s.gc := hsl State.gc fun x r => post_gc r x
    have hchoices : (stationLive s).choices = s.choices := hsl State.choices fun x r => post_choices r x
    have hempty : EntersEmpty (stationLive s) := by
      refine ⟨(consistent_iff _).mpr (((consistent_iff s).mp hs).of_eq ?_ ?_ (fun i => ?_) hrk (fun i => ?_) ?_), ⟨fun i => ?_, fun i => ?_⟩, ?_, ?_, ?_, hlive⟩
      · unfold State.tableOwners
        rw [hda]
      · unfold State.queueOwners
        rw [hda]
      · unfold State.slot
        rw [hds]
      · unfold State.feeder
        rw [hfu]
      · rw [hgc]
      · unfold State.slot
        rw [hds]
        exact hprofiles.drives i
      · unfold State.feeder
        rw [hfu]
        exact hprofiles.feeders i
      · rw [hda]
        exact hq
      · rw [hda]
        exact htable
      · unfold State.Barred
        rw [hda]
        exact hbarred
    obtain ⟨hfeeders, hrake, hfull, hsilent, hkept, hlength⟩ := requestsAtLive_leaves hempty
    obtain ⟨hasks, hrank, _⟩ := asksAuto_of_fu hfu
    have haskers : (stationLive s).askers = s.askers := congrArg (fun p => ((List.finRange 12).filter p).length) hasks
    have hfeeder : (stationLive s).feeder = s.feeder := by
      unfold State.feeder
      rw [hfu]
    rw [hasks, hrank, hfeeder, hrk, hchoices] at hfeeders
    rw [hrk, haskers, hchoices] at hrake hfull
    rw [hrk] at hsilent
    rw [hda, htable] at hkept
    rw [haskers, hrk] at hlength
    generalize hx : requestsAtLive (stationLive s) = x at *
    have hda' : (handLive true x).da = x.da := evaluateCorrection_da _
    have hrk' : (handLive true x).rk = x.rk := evaluateCorrection_rk _
    have hfeeder' : (handLive true x).feeder = x.feeder := by
      unfold State.feeder handLive
      rw [evaluateCorrection_fu]
      rfl
    rw [hda', hrk', hfeeder']
    exact ⟨hfeeders, hrake, hfull, hsilent, hkept, hlength⟩

end Sys2Proof.Machine

/-! PROOFS. What moves while the spacing timer keeps grants back: no feeder comes on, and with owners that agree with the collections a
stop or a trip still finds everything in the class that it takes down (R67, R99, R107, R129, R132). -/

namespace Sys2Proof.Machine

theorem SlotState.down_of_engaged {a : SlotState} (h : a.engaged = true) : a.down = .coasting := by
  cases a <;> first | rfl | cases h

/-- What moves while the spacing timer runs: no feeder comes on; and where `c` holds, everything stays in the class that a stop or a trip
takes down, and of the rake only its mark of an entry changes. -/
structure Loads (c : Prop) (s t : State) : Prop where
  spacing : t.da.spacingTimer = s.da.spacingTimer
  feeders : ∀ i, (t.feeder i).state = (s.feeder i).state ∨ (t.feeder i).state ≠ .on ∧ (c → (t.feeder i).state.down = (s.feeder i).state.down)
  slots : c → ∀ i, (t.slot i).state.down = (s.slot i).state.down
  rake : c → t.rk.state = s.rk.state ∧ t.rk.graceSpent = s.rk.graceSpent

/-- The stages and the profiles stay as well, and no restore permit is set. -/
structure Drift (c : Prop) (s t : State) : Prop extends Loads c s t where
  stages : t.fu.stages = s.fu.stages
  permit : t.fu.permit = true → s.fu.permit = true
  profile : ∀ i, (t.feeder i).profile = (s.feeder i).profile

section
variable {c : Prop} {s t u : State}

theorem Loads.refl (c : Prop) (s : State) : Loads c s s := ⟨rfl, fun _ => .inl rfl, fun _ _ => rfl, fun _ => ⟨rfl, rfl⟩⟩

theorem Loads.trans (h : Loads c s t) (k : Loads c t u) : Loads c s u where
  spacing := k.spacing.trans h.spacing
  feeders i := by
    obtain hu | ⟨hu, hku⟩ := k.feeders i
    · rw [hu]
      exact h.feeders i
    · refine .inr ⟨hu, fun hc => (hku hc).trans ?_⟩
      exact (h.feeders i).elim (congrArg FeederState.down) fun ht => ht.2 hc
  slots hc i := (k.slots hc i).trans (h.slots hc i)
  rake hc := ⟨(k.rake hc).1.trans (h.rake hc).1, (k.rake hc).2.trans (h.rake hc).2⟩

theorem Loads.down (h : Loads c s t) (hc : c) (i : Fin 12) : (t.feeder i).state.down = (s.feeder i).state.down :=
  (h.feeders i).elim (congrArg FeederState.down) fun ht => ht.2 hc

/-- No feeder comes on. -/
theorem Loads.not_on (h : Loads c s t) {i : Fin 12} (hs : (s.feeder i).state ≠ .on) : (t.feeder i).state ≠ .on :=
  (h.feeders i).elim (fun ht => ht ▸ hs) And.left

theorem Loads.running (h : Loads c s t) (hs : s.da.spacingTimer.isSome = true) : t.da.spacingTimer.isSome = true := h.spacing ▸ hs

theorem Loads.unspent (h : Loads c s t) (hs : c → ¬s.spent) : c → ¬t.spent := fun hc hk => by
  obtain ⟨hstate, hgrace⟩ := h.rake hc
  exact hs hc ⟨hstate.symm.trans hk.1, hgrace.symm.trans hk.2⟩

theorem Drift.refl (c : Prop) (s : State) : Drift c s s := ⟨.refl c s, rfl, id, fun _ => rfl⟩

theorem Drift.trans (h : Drift c s t) (k : Drift c t u) : Drift c s u :=
  ⟨h.toLoads.trans k.toLoads, k.stages.trans h.stages, fun hu => h.permit (k.permit hu), fun i => (k.profile i).trans (h.profile i)⟩

theorem drift_foldl {α : Type} {g : State → α → State} {l : List α}
    (hg : ∀ x, Drift c s x → ∀ a ∈ l, Drift c x (g x a)) : Drift c s (l.foldl g s) :=
  List.foldlRecOn (motive := fun x : State => Drift c s x) l g (.refl c s) fun x hx a ha => hx.trans (hg x hx a ha)

/-! ### Elementary changes -/

/-- A change that keeps the owners and the spacing timer. -/
theorem Drift.of_owners (hda : t.da.spacingTimer = s.da.spacingTimer) (hds : c → t.ds = s.ds)
    (hrk : c → t.rk.state = s.rk.state ∧ t.rk.graceSpent = s.rk.graceSpent) (hfu : t.fu = s.fu) : Drift c s t := by
  have hfeeder : ∀ i, t.feeder i = s.feeder i := fun i => by unfold State.feeder; rw [hfu]
  exact ⟨⟨hda, fun i => .inl (by rw [hfeeder]), fun hc i => by unfold State.slot; rw [hds hc], hrk⟩, by rw [hfu], fun h => hfu ▸ h,
    fun i => by rw [hfeeder]⟩

theorem drift_post (r : Report) (s : State) : Drift c s (post r s) :=
  .of_owners (by rw [post_da]) (fun _ => post_ds r s) (fun _ => by rw [post_rk]; exact ⟨rfl, rfl⟩) (post_fu r s)

theorem drift_arbitrate (hs : s.da.spacingTimer.isSome = true) : Drift c s (arbitrate s) := by
  rw [arbitrate_of_spacing hs]
  exact .refl c s

theorem drift_onSlot (i : Fin 4) (g : Slot → Slot) (hg : c → (g (s.slot i)).state.down = (s.slot i).state.down) : Drift c s (s.onSlot i g) := by
  refine ⟨⟨rfl, fun _ => .inl rfl, fun hc j => ?_, fun _ => ⟨rfl, rfl⟩⟩, rfl, id, fun _ => rfl⟩
  rw [State.onSlot_slot]
  split
  · next hij =>
    subst hij
    exact hg hc
  · rfl

theorem drift_setFeederState (i : Fin 12) {new : FeederState} (hnew : new ≠ .on) (hdown : c → new.down = (s.feeder i).state.down) :
    Drift c s (setFeederState i new s) := by
  refine ⟨⟨by rw [setFeederState_da], fun j => ?_, fun _ j => ?_, fun _ => ?_⟩, setFeederState_stages i new s, setFeederState_permit, fun j => ?_⟩
  · rw [setFeederState_feeder]
    split
    · next hij =>
      subst hij
      exact .inr ⟨hnew, hdown⟩
    · exact .inl rfl
  · unfold State.slot
    rw [setFeederState_ds]
  · rw [setFeederState_rk]
    exact ⟨rfl, rfl⟩
  · rw [setFeederState_feeder]
    split
    · next hij =>
      subst hij
      rfl
    · rfl

theorem drift_releaseNotice (o : Owner) (hs : s.da.spacingTimer.isSome = true) : Drift c s (releaseNotice arbitrate o s) := by
  obtain ⟨_, hsame⟩ | ⟨ht, _⟩ := releaseNotice_cases arbitrate o s
  · rw [hsame]
    exact .refl c s
  · obtain ⟨g, timer, hframe⟩ := released_frame o s
    rw [releaseNotice_of_spacing hs ht, hframe]
    exact .of_owners rfl (fun _ => rfl) (fun _ => ⟨rfl, rfl⟩) rfl

/-- R60: an enqueue request drifts as its owner's own move does. -/
theorem drift_enqueue (r : Request) {moved : State → State} (hs : s.da.spacingTimer.isSome = true)
    (hmoved : ∀ e, Drift c (insertRequest e s) (moved (insertRequest e s))) : Drift c s (enqueue arbitrate r moved s).2 := by
  obtain ⟨_, hsame⟩ | ⟨_, _, _, hsame⟩ | ⟨_, _, _, e, _, _, _, _, _, _, _, htaken⟩ := enqueue_cases arbitrate r moved s
  · rw [hsame]
    exact .refl c s
  · rw [hsame]
    exact .refl c s
  · rw [htaken]
    have hinsert : Drift c s (insertRequest e s) := .of_owners rfl (fun _ => rfl) (fun _ => ⟨rfl, rfl⟩) rfl
    have hmove := hinsert.trans (hmoved e)
    exact hmove.trans (drift_arbitrate (hmove.running hs))

/-! ### The rake's request and the offers -/

theorem drift_forcedOut {cause : DriveCause} (hcause : cause ≠ .shortfall) (i : Fin 4) (hs : s.da.spacingTimer.isSome = true) :
    Drift c s (forcedOut arbitrate cause i s) := by
  by_cases h : (s.slot i).state.engaged = true
  · rw [forcedOut_of_engaged hcause h]
    have hslot : Drift c s (s.onSlot i Slot.toCoasting) := drift_onSlot i Slot.toCoasting fun _ => (SlotState.down_of_engaged h).symm
    have hrelease := hslot.trans (drift_releaseNotice (.drive i) hs)
    unfold takeOut postAborted
    simp only []
    split
    · exact (hrelease.trans (drift_post _ _)).trans (drift_post _ _)
    · exact hrelease.trans (drift_post _ _)
  · rw [forcedOut_of_free _ _ (Bool.eq_false_iff.mpr h)]
    exact .refl c s

theorem drift_rakeForcesSlot (i : Fin 4) (hs : s.da.spacingTimer.isSome = true) : Drift c s (rakeForcesSlot arbitrate i s) := by
  by_cases h : (s.slot i).state = .cutting
  · rw [rakeForcesSlot_cutting h]
    exact drift_onSlot i _ fun _ => rfl
  · by_cases heng : (s.slot i).state.engaged = true
    · rw [rakeForcesSlot_engaged heng h]
      exact drift_forcedOut (by decide) i hs
    · rw [rakeForcesSlot_free (Bool.eq_false_iff.mpr heng)]
      exact .refl c s

/-- R108: a forcing, which `c` excludes. -/
theorem drift_forceRake (hc : ¬c) (hs : s.da.spacingTimer.isSome = true) : Drift c s (forceRake arbitrate s) := by
  have hforced : Drift c s (postRake .due .grace (s.onRk fun k => { k with state := .forced })) :=
    Drift.trans (t := s.onRk fun k => { k with state := .forced }) (.of_owners rfl (fun _ => rfl) (fun hk => absurd hk hc) rfl) (drift_post _ _)
  have hentry : ∀ x : State, x.da.spacingTimer.isSome = true → Drift c x (forceRakeEntry arbitrate x) := by
    intro x hx
    unfold forceRakeEntry
    split
    · next e _ =>
      have hmove : Drift c x (x.onDa fun d => { d with queue := { e with cls := 0 } :: d.queue.filter fun x => decide (x.owner ≠ .rake) }) :=
        .of_owners rfl (fun _ => rfl) (fun _ => ⟨rfl, rfl⟩) rfl
      exact hmove.trans (drift_arbitrate hx)
    · exact .refl c x
  have hboth := hforced.trans (hentry _ (hforced.running hs))
  exact hboth.trans (drift_foldl fun x hx i _ => drift_rakeForcesSlot i (hx.running (hboth.running hs)))

theorem drift_rakeRequest (hs : s.da.spacingTimer.isSome = true) (hspent : c → ¬s.spent) : Drift c s (rakeRequest arbitrate s) := by
  unfold rakeRequest
  split
  · have hforced : Drift c s (if s.rk.state = .due ∧ s.rk.graceSpent then forceRake arbitrate s else s) := by
      split
      · next h => exact drift_forceRake (fun hc => hspent hc h) hs
      · exact .refl c s
    exact hforced.trans (drift_enqueue _ (hforced.running hs) fun e => .of_owners rfl (fun _ => rfl) (fun _ => ⟨rfl, rfl⟩) rfl)
  · exact .refl c s

theorem drift_offerList (l : List (Fin 12)) (hs : s.da.spacingTimer.isSome = true) : Drift c s (offerList arbitrate l s) := by
  induction l generalizing s with
  | nil => exact .refl c s
  | cons i rest ih =>
    unfold offerList
    split
    · next hshed =>
      have hone := drift_enqueue (c := c) (restoreRequest s i) (s := s)
        (moved := fun x => setFeederState i .queued (post (.restore i (s.feeder i).profile.cls (s.feeder i).profile.booking) x)) hs fun e =>
          (drift_post _ _).trans (drift_setFeederState i (by decide) fun _ => by
            rw [post_feeder]
            exact (congrArg FeederState.down hshed).symm)
      simp only []
      split
      · next heq => rw [heq] at hone; exact hone
      · next heq => rw [heq] at hone; exact hone.trans (ih (hone.running hs))
      · next heq => rw [heq] at hone; exact hone.trans (ih (hone.running hs))
    · exact ih hs

theorem drift_feederOffer (hs : s.da.spacingTimer.isSome = true) : Drift c s (feederOffer arbitrate s) := by
  unfold feederOffer
  split
  · exact drift_offerList _ hs
  · exact .refl c s

theorem drift_giveSpace (hs : s.da.spacingTimer.isSome = true) (hspent : c → ¬s.spent) : Drift c s (giveSpace s) := by
  have hrake := drift_rakeRequest hs hspent
  exact hrake.trans (drift_feederOffer (hrake.running hs))

/-! ### A stage that fires (R129) -/

/-- The owners in the queue wait. -/
def State.WaitersWait (s : State) : Prop :=
  (∀ i : Fin 12, s.queueHas (.feeder i) = true → (s.feeder i).state = .queued) ∧ ∀ i : Fin 4, s.queueHas (.drive i) = true → (s.slot i).state = .queued

theorem consistent_waitersWait (hs : s.Consistent) : s.WaitersWait :=
  ⟨fun i h => of_decide_eq_true ((hs.feederQueued i).symm.trans h), fun i h => of_decide_eq_true ((hs.driveQueued i).symm.trans h)⟩

theorem drift_stageTells (k : Fin 3) (o : Owner) (hfeeder : ∀ i, o = .feeder i → c → (s.feeder i).state.down = .off)
    (hslot : ∀ i, o = .drive i → c → (s.slot i).state.down = .idle) : Drift c s (stageTells k o s) := by
  cases o with
  | drive i => exact drift_onSlot i (fun d => { d with state := .idle }) fun hc => (hslot i rfl hc).symm
  | feeder i => exact (drift_setFeederState i (new := .shed) (by decide) fun hc => (hfeeder i rfl hc).symm).trans (drift_post _ _)
  | rake => exact .refl c s

theorem drift_stageWithdraw (k : Fin 3) (named : QueueEntry → Bool) (cause : ExpiredCause) (hs : s.da.spacingTimer.isSome = true)
    (hspent : c → ¬s.spent) (hwait : c → s.WaitersWait) : Drift c s (withdraw arbitrate giveSpace named cause (stageTells k) s) := by
  unfold withdraw
  simp only []
  split
  · exact .refl c s
  · have hset : Drift c s (setQueue (s.da.queue.filter fun e => !named e) s) := .of_owners rfl (fun _ => rfl) (fun _ => ⟨rfl, rfl⟩) rfl
    have htold : Drift c (setQueue (s.da.queue.filter fun e => !named e) s)
        ((s.da.queue.filter named).foldl (fun s e => stageTells k e.owner (postExpired cause e s)) (setQueue (s.da.queue.filter fun e => !named e) s)) := by
      refine drift_foldl fun x hx e he => ?_
      have hin : s.queueHas e.owner = true := queueHas_iff.mpr (List.mem_map_of_mem (List.mem_filter.mp he).1)
      have hpost : Drift c x (postExpired cause e x) := drift_post _ _
      have hall := (hset.trans hx).trans hpost
      refine hpost.trans (drift_stageTells k e.owner (fun i ho hc => ?_) fun i ho hc => ?_)
      · rw [hall.down hc, (hwait hc).1 i (ho ▸ hin)]
        rfl
      · rw [hall.slots hc, (hwait hc).2 i (ho ▸ hin)]
        rfl
    have hboth := hset.trans htold
    have hspace := hboth.trans (drift_giveSpace (hboth.running hs) (hboth.unspent hspent))
    exact hspace.trans (drift_arbitrate (hspace.running hs))

theorem drift_shedOnFeeder (k : Fin 3) (i : Fin 12) (hs : s.da.spacingTimer.isSome = true) (hon : (s.feeder i).state = .on) :
    Drift c s (shedOnFeeder arbitrate k i s) := by
  have hrelease : Drift c s (releaseNotice arbitrate (.feeder i) s) := drift_releaseNotice (.feeder i) hs
  have hraise : Drift c (releaseNotice arbitrate (.feeder i) s) (raiseShedCount i (releaseNotice arbitrate (.feeder i) s)) :=
    .of_owners rfl (fun _ => rfl) (fun _ => ⟨rfl, rfl⟩) rfl
  rw [shedOnFeeder_eq]
  refine ((hrelease.trans hraise).trans (drift_setFeederState i (by decide) fun hc => ?_)).trans (drift_post _ _)
  exact ((hrelease.trans hraise).down hc i).trans (congrArg FeederState.down hon) |>.symm

theorem drift_stageFeeder (k : Fin 3) (i : Fin 12) (hs : s.da.spacingTimer.isSome = true) : Drift c s (stageFeeder k s i) := by
  unfold stageFeeder
  split
  · next h => exact drift_shedOnFeeder k i hs h.1
  · exact .refl c s

theorem drift_stageSlot (k : Fin 3) (i : Fin 4) (hs : s.da.spacingTimer.isSome = true) : Drift c s (stageSlot k s i) := by
  unfold stageSlot
  split
  · exact drift_forcedOut (by decide) i hs
  · exact .refl c s

/-- A stage that fires moves its own state and its permit first. -/
theorem drift_fireStage (k : Fin 3) (f : Nat) (hs : s.da.spacingTimer.isSome = true) (hspent : c → ¬s.spent) (hwait : c → s.WaitersWait) :
    Drift c (stageFired k f s) (fireStage arbitrate giveSpace k f s) := by
  obtain ⟨hda, hrk, _, hfeeder, hslot, _, _, _, _⟩ := stageFired_frame k f s
  have hqueue : ∀ o, (stageFired k f s).queueHas o = s.queueHas o := fun o => by unfold State.queueHas; rw [hda]
  have hs' : (stageFired k f s).da.spacingTimer.isSome = true := by rw [hda]; exact hs
  have hwithdraw : Drift c (stageFired k f s) (stageWithdrawal k f s) := by
    refine drift_stageWithdraw k _ .shed hs' (fun hc => ?_) fun hc => ⟨fun i hq => ?_, fun i hq => ?_⟩
    · unfold State.spent
      rw [hrk]
      exact hspent hc
    · rw [hfeeder]
      exact (hwait hc).1 i ((hqueue _).symm.trans hq)
    · rw [hslot]
      exact (hwait hc).2 i ((hqueue _).symm.trans hq)
  rw [fireStage_eq]
  generalize stageWithdrawal k f s = w at hwithdraw ⊢
  have hfeeders : Drift c (stageFired k f s) (allFeeders.foldl (stageFeeder k) w) :=
    hwithdraw.trans (drift_foldl fun x hx i _ => drift_stageFeeder k i (hx.running (hwithdraw.running hs')))
  exact hfeeders.trans (drift_foldl fun x hx i _ => drift_stageSlot k i (hx.running (hfeeders.running hs')))

end

end Sys2Proof.Machine

/-! PROOFS. The Station Sequencer's tests at a control step outside LIVE, with the governor's step before or after them (R13, R25, R26, R30). -/

namespace Sys2Proof.Machine

/-! ### The governor's step where no grant can follow it -/

/-- R65, R67: no grant can be made: the spacing timer runs, or no entry waits. -/
def State.NoGrant (s : State) : Prop := s.da.spacingTimer.isSome = true ∨ s.da.queue = []

/-- R9, R73: the capacity then reaches the Gate Controller, the held capacity and the shortfall timer alone. -/
theorem computeCapacity_of_no_grant {s : State} (h : s.NoGrant) : ∃ timer : Timer, computeCapacity s =
    { s with gc := { s.gc with capacity := s.gc.capacityNow }, da := { s.da with capacity := s.gc.capacityNow, shortfallTimer := timer } } := by
  obtain ⟨timer, htest⟩ := shortfallTest_frame ({ s with
    gc := { s.gc with capacity := s.gc.capacityNow }, da := { s.da with capacity := s.gc.capacityNow } } : State)
  have hkept : (shortfallTest ({ s with
      gc := { s.gc with capacity := s.gc.capacityNow }, da := { s.da with capacity := s.gc.capacityNow } } : State)).NoGrant := by
    rw [htest]
    exact h
  have hcompute : computeCapacity s = if s.gc.capacityNow > s.da.capacity then arbitrate (shortfallTest ({ s with
        gc := { s.gc with capacity := s.gc.capacityNow }, da := { s.da with capacity := s.gc.capacityNow } } : State))
      else if s.gc.capacityNow < s.da.capacity then shortfallTest ({ s with
        gc := { s.gc with capacity := s.gc.capacityNow }, da := { s.da with capacity := s.gc.capacityNow } } : State)
      else { s with gc := { s.gc with capacity := s.gc.capacityNow } } := rfl
  rw [hcompute, arbitrate_of_no_grant hkept]
  split
  · exact ⟨timer, htest⟩
  · split
    · exact ⟨timer, htest⟩
    · next h1 h2 =>
      have hsame : s.gc.capacityNow = s.da.capacity := by omega
      exact ⟨s.da.shortfallTimer, by rw [hsame]⟩

theorem governorStep_of_no_grant (f : Nat) {s : State} (h : s.NoGrant) : ∃ timer : Timer, governorStep f s =
    { s with
      gc := { s.gc.step s.ss.station s.fRef f with capacity := (s.gc.step s.ss.station s.fRef f).capacityNow }
      da := { s.da with capacity := (s.gc.step s.ss.station s.fRef f).capacityNow, shortfallTimer := timer } } :=
  computeCapacity_of_no_grant (s := s.onGc fun g => g.step s.ss.station s.fRef f) h

theorem governorStep_ss {f : Nat} {s : State} (h : s.NoGrant) : (governorStep f s).ss = s.ss := by
  obtain ⟨timer, hgov⟩ := governorStep_of_no_grant f h
  rw [hgov]

theorem governorStep_reportsOnly {f : Nat} {s : State} (h : s.NoGrant) : ReportsOnly s (governorStep f s) := by
  obtain ⟨timer, hgov⟩ := governorStep_of_no_grant f h
  rw [hgov]
  exact .of_sl rfl rfl

/-! ### Tests that do nothing, and those of RUN_UP and LIVE -/

theorem stationStep_idle {f : Nat} {s : State} (h : s.ss.station = .starting ∧ f < 45000 ∨ s.ss.station = .stopped ∨ s.ss.station = .tripped) :
    stationStep f s = s := by
  unfold stationStep
  obtain ⟨h, hf⟩ | h | h := h
  · rw [h]
    exact (if_neg (by omega)).trans (if_neg (by omega))
  · rw [h]
  · rw [h]

/-- R25: where the sequencer's tests do nothing, the step is the governor's. -/
theorem controlStep_idle {f : Nat} {s : State} (hn : s.NoGrant)
    (h : s.ss.station = .starting ∧ f < 45000 ∨ s.ss.station = .stopped ∨ s.ss.station = .tripped) : controlStep f s = governorStep f s.nextChoice := by
  have hne : s.ss.station ≠ .live := by obtain ⟨h, _⟩ | h | h := h <;> simp [h]
  obtain hstep | hstep := controlStep_of_ne_live f hne
  · have hss := governorStep_ss (f := f) (s := s.nextChoice) hn
    rw [hstep, stationStep_idle (by rw [hss]; exact h)]
  · rw [hstep, stationStep_idle (s := s.nextChoice) h]

/-- R26: the settle timer at a control step. -/
def Sequencer.settling (f : Nat) (q : Sequencer) : Sequencer :=
  { q with settleTimer := if 49500 ≤ f ∧ f ≤ 50500 then some (q.settleTimer.getD 3000) else none }

theorem stationStep_runUp {f : Nat} {s : State} (h : s.ss.station = .runUp) (hf : f < 55000) : stationStep f s = s.onSs (Sequencer.settling f) := by
  unfold stationStep
  rw [h]
  simp only []
  rw [if_neg (Nat.not_le.mpr hf)]
  unfold Sequencer.settling
  by_cases hband : 49500 ≤ f ∧ f ≤ 50500
  · simp only [if_pos hband]
    rfl
  · simp only [if_neg hband]

theorem controlStep_runUp {f : Nat} {s : State} (hn : s.NoGrant) (h : s.ss.station = .runUp) (hf : f < 55000) :
    (controlStep f s).ss = s.ss.settling f := by
  obtain hstep | hstep := controlStep_of_ne_live f (s := s) (by simp [h])
  · have hss := governorStep_ss (f := f) (s := s.nextChoice) hn
    rw [hstep, stationStep_runUp (by rw [hss]; exact h) hf]
    exact congrArg (Sequencer.settling f) hss
  · rw [hstep, stationStep_runUp (s := s.nextChoice) h hf]
    exact governorStep_ss (s := s.nextChoice.onSs (Sequencer.settling f)) hn

/-! ### Coming to speed (R13, R25) -/

/-- R13: the gate after STARTING has come to RUN_UP: the governor's step was one of STARTING, or it is the PI step from the transfer. -/
inductive CameToSpeed (f : Nat) (s t : State) : Prop
  | before (h : t.gc = { s.gc with
      integrator := 1000 * s.gc.fixedGate .starting, gateOut := s.gc.fixedGate .starting, capacity := t.gc.capacity })
  | after (h : t.gc = { ({ s.gc with integrator := 1000 * s.gc.gateOut } : GateController).piStep s.fRef f with capacity := t.gc.capacity })

theorem stationStep_speed {f : Nat} {s : State} (h : s.ss.station = .starting) (hlow : 45000 ≤ f) (hhigh : f < 55000) :
    stationStep f s = post (.station .runUp .starting s.ss.standing .speed) ((bumpless s).onSs fun q => { q with station := .runUp }) := by
  have hspeed : stationStep f s = setStation .runUp .speed (bumpless s) := by
    unfold stationStep
    rw [h]
    exact (if_neg (by omega)).trans (if_pos hlow)
  rw [hspeed, setStation_plain .speed (s := bumpless s) (by show s.ss.station ≠ .tripped; rw [h]; decide) (by decide)]
  show post (.station .runUp s.ss.station s.ss.standing .speed) _ = _
  rw [h]

theorem controlStep_speed {f : Nat} {s : State} (hp : s.powered = true) (hn : s.NoGrant) (h : s.ss.station = .starting) (hlow : 45000 ≤ f)
    (hhigh : f < 55000) : (controlStep f s).ss = { s.ss with station := .runUp }
    ∧ s.reportsSince (controlStep f s) (.station .runUp .starting s.ss.standing .speed) ∧ CameToSpeed f s (controlStep f s) := by
  obtain hstep | hstep := controlStep_of_ne_live f (s := s) (by simp [h])
  · obtain ⟨timer, hgov⟩ := governorStep_of_no_grant f (s := s.nextChoice) hn
    have hstarting : s.nextChoice.ss.station = .starting := h
    rw [hstarting] at hgov
    have hspeed := stationStep_speed (f := f) (s := governorStep f s.nextChoice) (by rw [hgov]; exact h) hlow hhigh
    rw [hgov] at hspeed
    rw [hgov] at hstep
    rw [hstep, hspeed]
    refine ⟨post_ss _ _, ?_, .before ?_⟩
    · exact post_reportsSince _ (by exact hp)
    · rw [post_gc]
      rfl
  · rw [hstep, stationStep_speed (s := s.nextChoice) h hlow hhigh]
    generalize hx : post (.station .runUp .starting s.nextChoice.ss.standing .speed) _ = x
    have hxss : x.ss = { s.ss with station := .runUp } := by rw [← hx]; exact post_ss _ _
    have hxgc : x.gc = { s.gc with integrator := 1000 * s.gc.gateOut } := by rw [← hx]; exact post_gc _ _
    have hxcu : x.cu = s.cu := by rw [← hx]; exact post_cu _ _
    have hxda : x.da = s.da := by rw [← hx]; exact post_da _ _
    have hreport : s.reportsSince x (.station .runUp .starting s.ss.standing .speed) := by
      rw [← hx]
      exact post_reportsSince _ (by exact hp)
    have hxn : x.NoGrant := by
      unfold State.NoGrant
      rw [hxda]
      exact hn
    obtain ⟨timer, hgov⟩ := governorStep_of_no_grant f hxn
    refine ⟨(governorStep_ss hxn).trans hxss, (governorStep_reportsOnly hxn).reportsSince hreport, .after ?_⟩
    have hrun : x.ss.station = .runUp := by rw [hxss]
    have href : x.fRef = s.fRef := by
      unfold State.fRef
      rw [hxcu]
    rw [hgov, hrun, hxgc, href]
    rfl

/-! ### The end of the run-down (R30) -/

/-- R30: the sequencer at the end of the run-down. -/
def Sequencer.runDownEnded (q : Sequencer) : Sequencer := { q with station := .stopped, runDownTimer := none, runDownMark := false }

theorem stationStep_stopping {f : Nat} {s : State} (h : s.ss.station = .stopping) (hf : f < 55000) : stationStep f s = runDownTest f s := by
  unfold stationStep
  rw [h]
  exact if_neg (Nat.not_le.mpr hf)

theorem runDownTest_ends {f : Nat} {s : State} (hp : s.powered = true) (h : s.ss.station = .stopping) (hgate : s.gc.gateOut = 0)
    (hdown : f < 5000 ∨ s.ss.runDownMark = true) : (runDownTest f s).ss = s.ss.runDownEnded ∧ (runDownTest f s).da = s.da
      ∧ s.reportsSince (runDownTest f s) (.station .stopped .stopping s.ss.standing .runDown) := by
  have htest : runDownTest f s = enterStopped .runDown s := if_pos ⟨hgate, hdown⟩
  obtain ⟨hss, hsame, hreport⟩ := enterStopped_eq .runDown hp
  rw [htest]
  rw [h] at hreport
  have hda := congrArg State.da hsame
  refine ⟨hss.trans ?_, hda, hreport⟩
  rw [setStation_ss]
  have hst : s.ss.station ≠ .tripped := by rw [h]; decide
  simp [State.onSs, Sequencer.runDownEnded, hst]

theorem runDownTest_stays {f : Nat} {s : State} (h : ¬(s.gc.gateOut = 0 ∧ (f < 5000 ∨ s.ss.runDownMark = true))) : runDownTest f s = s := if_neg h

/-- The governor's step of STOPPING, before the sequencer's test. -/
theorem governorStep_stopping {f : Nat} {s : State} (hn : s.NoGrant) (h : s.ss.station = .stopping) :
    (governorStep f s).ss = s.ss ∧ (governorStep f s).gc.gateOut = s.gc.gateOut - s.gc.params.closeRate ∧ (governorStep f s).sl = s.sl
      ∧ (governorStep f s).powered = s.powered := by
  obtain ⟨timer, hgov⟩ := governorStep_of_no_grant f hn
  refine ⟨governorStep_ss hn, ?_, by rw [hgov], by rw [hgov]⟩
  rw [hgov, h]
  exact s.gc.fixedGate_of_ne_starting (st := .stopping) (by decide)

/-- R30: what a control step in STOPPING leaves of the sequencer, in the numbers of the gate before it. -/
structure RunsDown (f : Nat) (s t : State) : Prop where
  ends : s.gc.gateOut = 0 → (f < 5000 ∨ s.ss.runDownMark = true) →
    t.ss = s.ss.runDownEnded ∧ s.reportsSince t (.station .stopped .stopping s.ss.standing .runDown)
  stays : (s.gc.params.closeRate < s.gc.gateOut ∨ 5000 ≤ f ∧ s.ss.runDownMark = false) → t.ss = s.ss
  either : t.ss = s.ss ∨ t.ss = s.ss.runDownEnded

theorem controlStep_stopping {f : Nat} {s : State} (hp : s.powered = true) (hn : s.NoGrant) (h : s.ss.station = .stopping) (hf : f < 55000) :
    RunsDown f s (controlStep f s) := by
  have hnotdown : 5000 ≤ f ∧ s.ss.runDownMark = false → ¬(f < 5000 ∨ s.ss.runDownMark = true) := fun hk hd => by
    obtain hd | hd := hd
    · omega
    · rw [hk.2] at hd
      cases hd
  obtain hstep | hstep := controlStep_of_ne_live f (s := s) (by simp [h])
  · obtain ⟨hss, hgate, hsl, hpower⟩ := governorStep_stopping (f := f) (s := s.nextChoice) hn h
    rw [hstep]
    have hsl : (governorStep f s.nextChoice).sl = s.sl := hsl
    have hpower : (governorStep f s.nextChoice).powered = s.powered := hpower
    have hss : (governorStep f s.nextChoice).ss = s.ss := hss
    have hgate : (governorStep f s.nextChoice).gc.gateOut = s.gc.gateOut - s.gc.params.closeRate := hgate
    generalize governorStep f s.nextChoice = x at hss hgate hsl hpower ⊢
    rw [stationStep_stopping (by rw [hss]; exact h) hf]
    have hends : x.gc.gateOut = 0 → (f < 5000 ∨ s.ss.runDownMark = true) → (runDownTest f x).ss = s.ss.runDownEnded
        ∧ s.reportsSince (runDownTest f x) (.station .stopped .stopping s.ss.standing .runDown) := fun hz hd => by
      obtain ⟨h1, _, h3⟩ := runDownTest_ends (f := f) (hpower.trans hp) (by rw [hss]; exact h) hz (by rw [hss]; exact hd)
      rw [hss] at h1 h3
      unfold State.reportsSince at h3 ⊢
      rw [hsl] at h3
      exact ⟨h1, h3⟩
    have hstays : ¬(x.gc.gateOut = 0 ∧ (f < 5000 ∨ s.ss.runDownMark = true)) → (runDownTest f x).ss = s.ss := fun hk => by
      rw [runDownTest_stays (by rw [hss]; exact hk)]
      exact hss
    refine ⟨fun hz hd => hends (by rw [hgate, hz, Nat.zero_sub]) hd, fun hk => hstays fun hd => ?_, ?_⟩
    · obtain hk | hk := hk
      · have := hd.1
        omega
      · exact hnotdown hk hd.2
    · by_cases hd : x.gc.gateOut = 0 ∧ (f < 5000 ∨ s.ss.runDownMark = true)
      · exact .inr (hends hd.1 hd.2).1
      · exact .inl (hstays hd)
  · rw [hstep, stationStep_stopping (s := s.nextChoice) h hf]
    by_cases hd : s.gc.gateOut = 0 ∧ (f < 5000 ∨ s.ss.runDownMark = true)
    · obtain ⟨hss, hda, hreport⟩ := runDownTest_ends (f := f) (s := s.nextChoice) hp h hd.1 hd.2
      have hxn : (runDownTest f s.nextChoice).NoGrant := by
        unfold State.NoGrant
        rw [hda]
        exact hn
      have hend := (governorStep_ss (f := f) hxn).trans hss
      refine ⟨fun _ _ => ⟨hend, (governorStep_reportsOnly hxn).reportsSince hreport⟩, fun hk => ?_, .inr hend⟩
      obtain hk | hk := hk
      · have := hd.1
        omega
      · exact absurd hd.2 (hnotdown hk)
    · rw [runDownTest_stays (s := s.nextChoice) hd]
      have hsame : (governorStep f s.nextChoice).ss = s.ss := governorStep_ss (s := s.nextChoice) hn
      exact ⟨fun hz hk => absurd ⟨hz, hk⟩ hd, fun _ => hsame, .inl hsame⟩

end Sys2Proof.Machine

/-! PROOFS. The Station Sequencer's tests in LIVE, and the overspeed trip among the four parts of a control step (R31, R32; log 3). -/

namespace Sys2Proof.Machine

/-! ### The second of four parts -/

/-- What three of four parts keep before the second has come, and what they keep after it. -/
theorem foldl_order4_second {P Q : State → Prop} {a b c d : State → State} (hb : ∀ s, P s → Q (b s)) (ha : ∀ s, P s → P (a s))
    (hc : ∀ s, P s → P (c s)) (hd : ∀ s, P s → P (d s)) (ha' : ∀ s, Q s → Q (a s)) (hc' : ∀ s, Q s → Q (c s)) (hd' : ∀ s, Q s → Q (d s))
    (n : Fin 24) {s : State} (hs : P s) : Q ((order4 a b c d n).foldl (fun s part => part s) s) := by
  fin_cases n
  all_goals
    simp only [order4, List.foldl_cons, List.foldl_nil]
    apply_rules [ha, hb, hc, hd, ha', hc', hd']

/-! ### The underspeed timer (R31) -/

/-- All of the sequencer but the alarm relay. -/
def State.sequencer (s : State) : Sequencer := { s.ss with alarmRelay := false }

/-- R31: the underspeed timer at a control step. -/
def Sequencer.slowing (f : Nat) (q : Sequencer) : Sequencer :=
  { q with underspeedTimer := if f < 45000 then some (q.underspeedTimer.getD 3000) else none }

theorem stationStep_live {f : Nat} {s : State} (h : s.ss.station = .live) (hf : f < 55000) : stationStep f s = s.onSs (Sequencer.slowing f) := by
  unfold stationStep
  rw [h]
  simp only []
  rw [if_neg (Nat.not_le.mpr hf)]
  unfold Sequencer.slowing
  by_cases hslow : f < 45000
  · simp only [if_pos hslow]
    rfl
  · simp only [if_neg hslow]

theorem governorStep_sequencer (f : Nat) (s : State) : (governorStep f s).sequencer = s.sequencer := by
  have hstill := congrArg State.sequencer (still_computeCapacity (s.onGc fun g => g.step s.ss.station s.fRef f))
  exact hstill

theorem controlStep_live_ss {f : Nat} {s : State} (h : s.ss.station = .live) (hf : f < 55000) :
    (controlStep f s).sequencer = s.sequencer.slowing f := by
  have hgov : ∀ (q : Sequencer) (x : State), x.sequencer = q → (governorStep f x).sequencer = q := fun _ x hx => (governorStep_sequencer f x).trans hx
  have hfeeder : ∀ (q : Sequencer) (x : State), x.sequencer = q → (feederStep arbitrate giveSpace f x).sequencer = q := fun _ x hx =>
    (feederStep_proj State.sequencer (fun _ => rfl) f x).trans hx
  have hhold : ∀ (q : Sequencer) (x : State), x.sequencer = q → (feedHoldStep arbitrate f x).sequencer = q := fun _ x hx =>
    (feedHoldStep_proj State.sequencer (fun _ => rfl) (fun _ _ => rfl) f x).trans hx
  refine foldl_order4_second (P := fun x => x.sequencer = s.sequencer) (Q := fun x => x.sequencer = s.sequencer.slowing f) (fun x hx => ?_)
    (hgov _) (hfeeder _) (hhold _) (hgov _) (hfeeder _) (hhold _) _ (s := s.nextChoice) rfl
  have hst : x.ss.station = .live := (congrArg Sequencer.station hx).trans h
  rw [stationStep_live hst hf]
  exact congrArg (Sequencer.slowing f) hx

/-! ### What the parts of a control step leave of the loads -/

section
variable {c : Prop} {s : State}

theorem loads_testStage (f : Nat) (k : Fin 3) (hs : s.da.spacingTimer.isSome = true) (hspent : c → ¬s.spent) (hcons : c → s.Consistent) :
    Loads c s (testStage arbitrate giveSpace f s k) := by
  have hstage : ∀ (g : FeederUnit → FeederUnit), (∀ u, (g u).feeders = u.feeders) → Loads c s (s.onFu g) := fun g hg => by
    have hfeeder : ∀ i, (s.onFu g).feeder i = s.feeder i := fun i => congrArg (fun v : Vector Feeder 12 => v[i]) (hg s.fu)
    exact ⟨rfl, fun i => .inl (by rw [hfeeder]), fun _ _ => rfl, fun _ => ⟨rfl, rfl⟩⟩
  unfold testStage
  repeat' split
  · obtain ⟨hda, hrk, _, hfeeder, hslot, _⟩ := stageFired_frame k f s
    have hfired : Loads c s (stageFired k f s) := ⟨by rw [hda], fun i => .inl (by rw [hfeeder]), fun _ i => by rw [hslot], fun _ => by
      rw [hrk]
      exact ⟨rfl, rfl⟩⟩
    exact hfired.trans (drift_fireStage k f hs hspent fun hc => consistent_waitersWait (hcons hc)).toLoads
  · exact hstage (fun u => { u with stages := u.stages.set k { state := .timing, timer := some (s.fu.params.delay k) }, permit := false }) fun _ => rfl
  · exact .refl c s
  · exact .refl c s
  · exact hstage (fun u => { u with stages := u.stages.set k { state := .armed, timer := none } }) fun _ => rfl
  · exact hstage (fun u => { u with stages := u.stages.set k { state := .armed, timer := none } }) fun _ => rfl
  · exact .refl c s

theorem loads_testRestore (f : Nat) (hs : s.da.spacingTimer.isSome = true) : Loads c s (testRestore arbitrate f s) := by
  have hset : ∀ (g : FeederUnit → FeederUnit), (∀ u, (g u).feeders = u.feeders) → Loads c s (s.onFu g) := fun g hg => by
    have hfeeder : ∀ i, (s.onFu g).feeder i = s.feeder i := fun i => congrArg (fun v : Vector Feeder 12 => v[i]) (hg s.fu)
    exact ⟨rfl, fun i => .inl (by rw [hfeeder]), fun _ _ => rfl, fun _ => ⟨rfl, rfl⟩⟩
  unfold testRestore
  repeat' split
  · exact (hset (fun u => { u with permit := true, restoreTimer := none }) fun _ => rfl).trans (drift_feederOffer (s := s.permitted) hs).toLoads
  · exact hset (fun u => { u with restoreTimer := some u.params.restoreDelay }) fun _ => rfl
  · exact .refl c s
  · exact hset (fun u => { u with restoreTimer := none }) fun _ => rfl

theorem loads_feederStep (f : Nat) (hs : s.da.spacingTimer.isSome = true) (hspent : c → ¬s.spent) (hcons : c → s.Consistent) :
    Loads c s (feederStep arbitrate giveSpace f s) := by
  unfold feederStep
  split
  · have hstages := List.foldlRecOn (motive := fun x : State => Loads c s x ∧ (c → x.Consistent)) allStages (testStage arbitrate giveSpace f)
      ⟨Loads.refl c s, hcons⟩ fun x hx k _ => by
        obtain ⟨hloads, hx⟩ := hx
        refine ⟨hloads.trans (loads_testStage f k (hloads.running hs) (hloads.unspent hspent) hx), fun hc => (consistent_iff _).mpr ?_⟩
        exact (calm_testStage arbitrate_arbitrates giveSpace_arbitrates f x k).agree ((consistent_iff x).mp (hx hc))
    exact hstages.1.trans (loads_testRestore f (hstages.1.running hs))
  · exact .refl c s

theorem loads_feedHoldStep (f : Nat) (hs : s.da.spacingTimer.isSome = true) : Loads c s (feedHoldStep arbitrate f s) := by
  have hflag : ∀ b : Bool, Loads c s (s.onDs fun d => { d with feedHold := b }) := fun b => ⟨rfl, fun _ => .inl rfl, fun _ _ => rfl, fun _ => ⟨rfl, rfl⟩⟩
  have hhold : ∀ (i : Fin 4) (x : State), x.da.spacingTimer.isSome = true → Drift c x (holdSlot arbitrate i x) := by
    intro i x hx
    unfold holdSlot
    repeat' split
    · exact drift_forcedOut (by decide) i hx
    · next h _ => exact (drift_onSlot i (fun d => { d with state := .held }) fun _ => (congrArg SlotState.down h).symm).trans (drift_post _ _)
    · exact .refl c x
  have hresume : ∀ (i : Fin 4) (x : State), Drift c x (resumeSlot i x) := by
    intro i x
    unfold resumeSlot
    split
    · next h => exact (drift_onSlot i (fun d => { d with state := .cutting }) fun _ => (congrArg SlotState.down h).symm).trans (drift_post _ _)
    · exact .refl c x
  unfold feedHoldStep
  repeat' split
  · exact .refl c s
  · have hpass : Drift c (s.onDs fun d => { d with feedHold := true })
        (allSlots.foldl (fun s i => holdSlot arbitrate i s) (s.onDs fun d => { d with feedHold := true })) :=
      drift_foldl fun x hx i _ => hhold i x (hx.running hs)
    exact (hflag true).trans hpass.toLoads
  · have hpass : Drift c (s.onDs fun d => { d with feedHold := false })
        (allSlots.foldl (fun s i => resumeSlot i s) (s.onDs fun d => { d with feedHold := false })) :=
      drift_foldl fun x _ i _ => hresume i x
    exact (hflag false).trans hpass.toLoads
  · exact .refl c s
  · exact .refl c s

end

/-! ### The overspeed trip -/

/-- What the parts of a control step that come before the trip keep. -/
structure BeforeTrip (s x : State) : Prop where
  loads : Loads True s x
  consistent : x.Consistent
  station : x.ss.station = s.ss.station
  capture : x.ss.capture = none
  calendar : x.cu.calendar = s.cu.calendar
  link : ReportsOnly s x
  grants : x.ss.station ≠ .live ∧ x.da.queue = [] ∨ x.da.spacingTimer.isSome = true

/-- What an overspeed trip leaves, and what the parts of a control step that come after it keep. -/
structure Overspeed (f : Nat) (s t : State) : Prop where
  station : t.ss.station = .tripped
  flags : t.ss.standing = false ∧ t.ss.runDownMark = false
  timers : t.ss.startTimer = none ∧ t.ss.settleTimer = none ∧ t.ss.underspeedTimer = none ∧ t.ss.runDownTimer = none
  capture : ∃ r : TripRecord, t.ss.capture = some r ∧ r.cause = .overspeed ∧ r.freq = f ∧ r.overflow = false ∧ r.time = s.cu.calendar.seconds
  loads : s.LoadsTakenDown t
  changed : s.reportsSince t (.station .tripped s.ss.station false .trip)
  tripped : s.reportsSince t (.trip .overspeed true)

/-- What is taken down is taken down wherever the loads had come to before. -/
theorem loadsTakenDown_of_loads {s x t : State} (h : x.LoadsTakenDown t) (k : Loads True s x) : s.LoadsTakenDown t := by
  obtain ⟨hdriven, htable, hfeeders, hslots, hrake, hstages, hrestore, hhold, hspacing⟩ := h
  refine ⟨hdriven, htable, fun i => ?_, fun i => ?_, ?_, hstages, hrestore, hhold, hspacing⟩
  · have hx : (t.feeder i).state = (x.feeder i).state.down := hfeeders i
    exact hx.trans (k.down trivial i)
  · have hx : (t.slot i).state = (x.slot i).state.down := hslots i
    exact hx.trans (k.slots trivial i)
  · rw [(k.rake trivial).1] at hrake
    exact hrake

theorem stationStep_overspeed {f : Nat} {s : State} (hf : 55000 ≤ f) (h1 : s.ss.station ≠ .stopped) (h2 : s.ss.station ≠ .tripped) :
    stationStep f s = takeTrip .overspeed f s := by
  unfold stationStep
  split
  case h_5 h => exact absurd h h1
  case h_6 h => exact absurd h h2
  all_goals exact if_pos hf

theorem BeforeTrip.noGrant {s x : State} (h : BeforeTrip s x) : x.NoGrant := h.grants.elim (fun hk => .inr hk.2) .inl

theorem BeforeTrip.trips {f : Nat} {s x : State} (hp : s.powered = true) (hf : 55000 ≤ f) (h1 : s.ss.station ≠ .stopped) (h2 : s.ss.station ≠ .tripped)
    (h : BeforeTrip s x) : Overspeed f s (stationStep f x) := by
  rw [stationStep_overspeed hf (by rw [h.station]; exact h1) (by rw [h.station]; exact h2)]
  have htrip := takeTrip_trippedBy (cause := .overspeed) (f := f) (h.link.power.trans hp) h.consistent h.capture (by rw [h.station]; exact h2)
  have hlink : ReportsOnly x (takeTrip .overspeed f x) := (takeTrip_reports .overspeed f x).1
  obtain ⟨hstation, htimers, ⟨hmark, hstanding⟩, hloads, hcapture, _, hchanged, htripped⟩ := htrip
  rw [h.station] at hchanged
  refine ⟨hstation, ⟨hstanding, hmark⟩, htimers, ⟨_, hcapture, rfl, rfl, rfl, by rw [h.calendar]⟩, loadsTakenDown_of_loads hloads h.loads,
    h.link.since hlink hchanged, h.link.since hlink htripped⟩

/-- R9: where no grant can follow it the governor's step leaves the agreement of the owners and the collections. -/
theorem consistent_governorStep (f : Nat) {x : State} (hn : x.NoGrant) (hs : x.Consistent) : (governorStep f x).Consistent := by
  obtain ⟨timer, hgov⟩ := governorStep_of_no_grant f hn
  rw [hgov]
  refine (consistent_iff _).mpr (((consistent_iff x).mp hs).of_eq rfl rfl (fun _ => rfl) rfl (fun _ => rfl) ?_)
  cases hst : x.ss.station <;> rfl

theorem BeforeTrip.governed {f : Nat} {s x : State} (h : BeforeTrip s x) : BeforeTrip s (governorStep f x) := by
  obtain ⟨timer, hgov⟩ := governorStep_of_no_grant f h.noGrant
  have hlink := governorStep_reportsOnly (f := f) h.noGrant
  have hagree := consistent_governorStep f h.noGrant h.consistent
  obtain ⟨hloads, hcons, hstation, hcapture, hcalendar, hreports, hgrants⟩ := h
  have hmoved : Loads True x (governorStep f x) := by
    rw [hgov]
    exact ⟨rfl, fun _ => .inl rfl, fun _ _ => rfl, fun _ => ⟨rfl, rfl⟩⟩
  refine ⟨hloads.trans hmoved, hagree, ?_, ?_, ?_, hreports.trans hlink, ?_⟩
  all_goals
    rw [hgov]
    assumption

/-- A part that acts in LIVE alone. -/
theorem BeforeTrip.of_live {s x y : State} (h : BeforeTrip s x) (hidle : x.ss.station ≠ .live → y = x)
    (hlive : x.da.spacingTimer.isSome = true → Loads True x y ∧ Agree [] y ∧ y.sequencer = x.sequencer ∧ y.cu.calendar = x.cu.calendar ∧ ReportsOnly x y) :
    BeforeTrip s y := by
  obtain ⟨hne, _⟩ | hspacing := h.grants
  · rw [hidle hne]
    exact h
  · obtain ⟨hloads, hagree, hss, hcalendar, hlink⟩ := hlive hspacing
    exact ⟨h.loads.trans hloads, (consistent_iff _).mpr hagree, (congrArg Sequencer.station hss).trans h.station, (congrArg Sequencer.capture hss).trans h.capture,
      hcalendar.trans h.calendar, h.link.trans hlink, .inr (hloads.running hspacing)⟩

theorem BeforeTrip.fed {f : Nat} {s x : State} (hspent : ¬s.spent) (h : BeforeTrip s x) : BeforeTrip s (feederStep arbitrate giveSpace f x) := by
  have hcalm := calm_feederStep arbitrate_arbitrates giveSpace_arbitrates f x
  refine h.of_live (feederStep_of_ne_live _ _ f) fun hs => ⟨loads_feederStep f hs (h.loads.unspent fun _ => hspent) fun _ => h.consistent,
    hcalm.agree ((consistent_iff x).mp h.consistent), feederStep_proj State.sequencer (fun _ => rfl) f x,
    feederStep_proj (fun y => y.cu.calendar) (fun _ => rfl) f x, hcalm.reportsOnly⟩

theorem BeforeTrip.held {f : Nat} {s x : State} (h : BeforeTrip s x) : BeforeTrip s (feedHoldStep arbitrate f x) := by
  obtain ⟨b, hcalm⟩ := calm_feedHoldStep arbitrate_arbitrates f x
  have hflag : Agree [] (x.onDs fun d => { d with feedHold := b }) :=
    ((consistent_iff x).mp h.consistent).of_eq rfl rfl (fun _ => rfl) rfl (fun _ => rfl) rfl
  refine h.of_live (feedHoldStep_of_ne_live _ f) fun hs => ⟨loads_feedHoldStep f hs, hcalm.agree hflag,
    feedHoldStep_proj State.sequencer (fun _ => rfl) (fun _ _ => rfl) f x, feedHoldStep_proj (fun y => y.cu.calendar) (fun _ => rfl) (fun _ _ => rfl) f x,
    ReportsOnly.trans (t := x.onDs fun d => { d with feedHold := b }) (.of_sl rfl rfl) hcalm.reportsOnly⟩

theorem Overspeed.governed {f : Nat} {s t : State} (h : Overspeed f s t) : Overspeed f s (governorStep f t) := by
  have hn : t.NoGrant := .inr h.loads.driven.queue
  obtain ⟨timer, hgov⟩ := governorStep_of_no_grant f hn
  have hlink := governorStep_reportsOnly (f := f) hn
  obtain ⟨hstation, hflags, htimers, hcapture, ⟨⟨d1, d2, d3, d4, d5⟩, l2, l3, l4, l5, l6, l7, l8, l9⟩, hchanged, htripped⟩ := h
  have hchanged := hlink.reportsSince hchanged
  have htripped := hlink.reportsSince htripped
  rw [hgov] at hchanged htripped ⊢
  exact ⟨hstation, hflags, htimers, hcapture, ⟨⟨d1, d2, d3, d4, d5⟩, l2, l3, l4, l5, l6, l7, l8, l9⟩, hchanged, htripped⟩

theorem controlStep_overspeed {f : Nat} {s x : State} (hp : s.powered = true) (hf : 55000 ≤ f) (h1 : s.ss.station ≠ .stopped) (h2 : s.ss.station ≠ .tripped)
    (hspent : ¬s.spent) (h : BeforeTrip s x.nextChoice) : Overspeed f s (controlStep f x) := by
  have hne : ∀ y, Overspeed f s y → y.ss.station ≠ .live := fun y hy => by
    rw [hy.station]
    decide
  refine foldl_order4_second (P := BeforeTrip s) (Q := Overspeed f s) (fun y hy => hy.trips hp hf h1 h2) (fun y hy => hy.governed)
    (fun y hy => hy.fed hspent) (fun y hy => hy.held) (fun y hy => hy.governed) (fun y hy => ?_) (fun y hy => ?_) _ h
  · rw [feederStep_of_ne_live _ _ f (hne y hy)]
    exact hy
  · rw [feedHoldStep_of_ne_live _ f (hne y hy)]
    exact hy

end Sys2Proof.Machine

/-! PROOFS. What a control step does in the Station Sequencer (R13, R25, R26, R30 to R32; logs 3, 31). -/

namespace Sys2Proof.Machine

/-- R14, R25: a step of STARTING that does not come to speed. -/
theorem controlStep_starting {f : Nat} {s : State} (hn : s.NoGrant) (h : s.ss.station = .starting) (hf : f < 45000) :
    (controlStep f s).ss = s.ss ∧ (controlStep f s).gc.gateOut = s.gc.fixedGate .starting ∧ (controlStep f s).gc.integrator = s.gc.integrator := by
  obtain ⟨timer, hgov⟩ := governorStep_of_no_grant f (s := s.nextChoice) hn
  have hstation : s.nextChoice.ss.station = .starting := h
  rw [controlStep_idle hn (.inl ⟨h, hf⟩), hgov, hstation]
  exact ⟨rfl, rfl, rfl⟩

/-- R31: in LIVE the sequencer moves its underspeed timer, and the relay may follow another block. -/
theorem controlStep_live {f : Nat} {s : State} (h : s.ss.station = .live) (hf : f < 55000) :
    (controlStep f s).ss = { s.ss.slowing f with alarmRelay := (controlStep f s).ss.alarmRelay } := by
  have hss := congrArg (fun q : Sequencer => { q with alarmRelay := (controlStep f s).ss.alarmRelay }) (controlStep_live_ss h hf)
  exact hss

/-- The states in which a control step finds the part, before any of its four blocks has acted. -/
theorem beforeTrip_measured {s : State} (u : SpeedUnit) (hs : s.Consistent) (hcapture : s.ss.capture = none)
    (hgrants : s.ss.station ≠ .live ∧ s.da.queue = [] ∨ s.da.spacingTimer.isSome = true) : BeforeTrip s (s.onSmu fun _ => u).nextChoice := by
  refine ⟨⟨rfl, fun _ => .inl rfl, fun _ _ => rfl, fun _ => ⟨rfl, rfl⟩⟩, (consistent_iff _).mpr ?_, rfl, hcapture, rfl, .of_sl rfl rfl, hgrants⟩
  exact ((consistent_iff s).mp hs).of_eq rfl rfl (fun _ => rfl) rfl (fun _ => rfl) rfl

/-- Settles O8: the sequencer's tests state by state, with the governor's step on either side of them, and the trip among all four parts. -/
theorem stationTestsAtControlStep : Obligations.StationTestsAtControlStep := by
  intro c f s hp hc hgrant p target moved
  obtain ⟨u, _, hexec⟩ := exec_of_isControlStep hp hc
  have hn : (s.onSmu fun _ => u).NoGrant := hgrant.symm
  have hmoved : s.gc.fixedGate .starting = moved := s.gc.fixedGate_starting
  refine ⟨_, hexec, fun hst hf => ?_, fun hst hlow hhigh => ?_, fun hst hf => controlStep_runUp hn hst hf, fun hst hf => controlStep_live hst hf,
    fun hst hf => ?_, fun hst => ?_, fun hf h1 h2 hs hcapture hspent hlive => ?_⟩
  · rw [← hmoved]
    exact controlStep_starting hn hst hf
  · obtain ⟨hss, hreport, hspeed⟩ := controlStep_speed (s := s.onSmu fun _ => u) hp hn hst hlow hhigh
    refine ⟨hss, hreport, ?_⟩
    rw [← hmoved]
    cases hspeed with
    | before h => exact .inl h
    | after h =>
      obtain ⟨hsame, hgate⟩ := piStep_eq { s.gc with integrator := 1000 * s.gc.gateOut } s.cu.offset f
      have h : (controlStep f (s.onSmu fun _ => u)).gc =
          { ({ s.gc with integrator := 1000 * s.gc.gateOut } : GateController).piStep (50000 + s.cu.offset) f with
            capacity := (controlStep f (s.onSmu fun _ => u)).gc.capacity } := h
      refine .inr ⟨?_, ?_⟩
      · rw [h]
        exact congrArg (fun g : GateController => { g with capacity := (controlStep f (s.onSmu fun _ => u)).gc.capacity }) hsame
      · rw [h]
        exact hgate
  · obtain ⟨hends, hstays, heither⟩ := controlStep_stopping (s := s.onSmu fun _ => u) hp hn hst hf
    exact ⟨hends, hstays, fun _ _ => heither⟩
  · rw [controlStep_idle hn (.inr hst)]
    exact governorStep_ss (s := (s.onSmu fun _ => u).nextChoice) hn
  · have hbefore := beforeTrip_measured u hs hcapture (hlive.elim (fun hne => hgrant.imp_left (⟨hne, ·⟩)) .inr)
    obtain ⟨hstation, ⟨hstanding, hmark⟩, ⟨ht1, ht2, ht3, ht4⟩, hrecord, hloads, hchanged, htripped⟩ := controlStep_overspeed hp hf h1 h2 hspent hbefore
    exact ⟨hstation, hstanding, hmark, ht1, ht2, ht3, ht4, hrecord, hloads, hchanged, htripped⟩

end Sys2Proof.Machine

/-! PROOFS. The tests of the stages at a control step while the spacing timer keeps grants back (R128, R129). -/

namespace Sys2Proof.Machine

/-- R128: a stage after its test. -/
def Stage.tested (f threshold delay : Nat) (g : Stage) : Stage :=
  if f < threshold then
    if g.state = .armed then if delay = 0 then { state := .fired, timer := none } else { state := .timing, timer := some delay } else g
  else if g.state = .armed then g else { state := .armed, timer := none }

/-- R128: the stage is armed and the frequency lies below its threshold, so that its test takes the restore permit away. -/
def State.reaches (s : State) (f : Nat) (k : Fin 3) : Bool := decide ((s.stage k).state = .armed) && decide (f < s.fu.params.threshold k)

/-- R128, R129: the test of the stage fires it. -/
def State.fires (s : State) (f : Nat) (k : Fin 3) : Prop := (s.stage k).state = .armed ∧ f < s.fu.params.threshold k ∧ s.fu.params.delay k = 0

/-! ### A stage that fires -/

/-- R129: what follows the STAGE_FIRED report. -/
theorem calm_stageFired (k : Fin 3) (f : Nat) (s : State) : Calm [] (stageFired k f s) (fireStage arbitrate giveSpace k f s) := by
  have hwithdraw := calm_stageWithdraw arbitrate_arbitrates giveSpace_arbitrates k (stageFired k f s)
  have hfeeders := hwithdraw.trans (calm_foldl (g := stageFeeder k) (fun x i => by
    unfold stageFeeder
    split
    · next h => exact calm_shedOnFeeder arbitrate_arbitrates k i h.1
    · exact .refl _ _) allFeeders _)
  exact hfeeders.trans (calm_forcedOutAll arbitrate_arbitrates feedersOnly_nil (cause := .shed) (by decide) (fun d => reachedBy k d.profile.shedStage) _)

theorem fireStage_reports (k : Fin 3) (f : Nat) {s : State} (hp : s.powered = true) :
    s.reportsSince (fireStage arbitrate giveSpace k f s) (.stageFired k f) :=
  reportsSince_of_post (t := stageSet k s) hp (.of_sl rfl rfl) (calm_stageFired k f s).reportsOnly

/-- R129: an ON feeder that the stage reaches is shed. -/
theorem stageFeeder_not_on (k : Fin 3) (i : Fin 12) {s : State} (hr : reachedBy k (s.feeder i).profile.shedStage = true) :
    ((stageFeeder k s i).feeder i).state ≠ .on := by
  by_cases hon : (s.feeder i).state = .on
  · rw [stageFeeder_on hon hr, shedOnFeeder_eq, postShedFeeder, post_feeder, setFeederState_feeder, if_pos rfl]
    exact FeederState.noConfusion
  · rwa [stageFeeder, if_neg fun hk => hon hk.1]

theorem fireStage_none_on (k : Fin 3) (f : Nat) {s : State} (hs : s.da.spacingTimer.isSome = true) {i : Fin 12}
    (hr : reachedBy k (s.feeder i).profile.shedStage = true) : ((fireStage arbitrate giveSpace k f s).feeder i).state ≠ .on := by
  obtain ⟨hda, _, _, hfeeder, _⟩ := stageFired_frame k f s
  have hfired : (stageFired k f s).da.spacingTimer.isSome = true := by rw [hda]; exact hs
  have hwithdraw : Drift False (stageFired k f s) (stageWithdrawal k f s) := drift_stageWithdraw k _ .shed hfired False.elim False.elim
  have hprofile : ((stageWithdrawal k f s).feeder i).profile = (s.feeder i).profile := by
    rw [hwithdraw.profile, hfeeder]
  have hrunning := hwithdraw.running hfired
  rw [fireStage_eq]
  generalize stageWithdrawal k f s = w at hprofile hrunning ⊢
  obtain ⟨x, hx, hafter⟩ := foldl_at (R := fun s t : State => s.da.spacingTimer.isSome = true → Drift False s t) (f := stageFeeder k)
    (fun s _ => .refl False s) (fun h h' hs => (h hs).trans (h' ((h hs).running hs))) (j := i) (fun s j _ hs => drift_stageFeeder k j hs)
    allFeeders_nodup (mem_allFeeders i) w
  have hx := hx hrunning
  have hown : Drift False x (stageFeeder k x i) := drift_stageFeeder k i (hx.running hrunning)
  have hafter := hafter (hown.running (hx.running hrunning))
  have hnot := hafter.not_on (stageFeeder_not_on k i (s := x) (by rw [hx.profile, hprofile]; exact hr))
  have hslots : Drift False (allFeeders.foldl (stageFeeder k) w) (allSlots.foldl (stageSlot k) (allFeeders.foldl (stageFeeder k) w)) :=
    drift_foldl fun y hy j _ => drift_stageSlot k j (hy.running (((hx.trans hown).trans hafter).running hrunning))
  exact hslots.not_on hnot

/-! ### The test of one stage -/

/-- What the test of a stage leaves of the stages, the permit and the feeders. -/
structure StageTest (f : Nat) (k : Fin 3) (s t : State) : Prop where
  own : t.stage k = (s.stage k).tested f (s.fu.params.threshold k) (s.fu.params.delay k)
  others : ∀ j, j ≠ k → t.stage j = s.stage j
  permit : t.fu.permit = (s.fu.permit && !s.reaches f k)
  fired : s.fires f k → s.reportsSince t (.stageFired k f) ∧ ∀ i, reachedBy k (s.feeder i).profile.shedStage = true → (t.feeder i).state ≠ .on

theorem stage_fired_other {k j : Fin 3} (hj : j ≠ k) (f : Nat) (s : State) : (stageFired k f s).stage j = s.stage j := by
  unfold stageFired State.stage
  rw [post_fu]
  have hstage := State.onStage_stage s k j fun _ => { state := .fired, timer := none }
  rw [if_neg fun hk => hj hk.symm] at hstage
  exact hstage

theorem testStage_fires {f : Nat} {k : Fin 3} {s : State} (h : s.fires f k) : testStage arbitrate giveSpace f s k = fireStage arbitrate giveSpace k f s := by
  obtain ⟨harmed, hlow, hdelay⟩ := h
  unfold testStage
  rw [if_pos hlow, harmed]
  exact if_pos hdelay

/-- R128: the test of a stage that it does not fire. -/
def stageQuiet (f : Nat) (s : State) (k : Fin 3) : State :=
  (s.onStage k fun _ => (s.stage k).tested f (s.fu.params.threshold k) (s.fu.params.delay k)).onFu fun u => { u with permit := s.fu.permit && !s.reaches f k }

theorem stageQuiet_same {f : Nat} {s : State} {k : Fin 3} (hstage : (s.stage k).tested f (s.fu.params.threshold k) (s.fu.params.delay k) = s.stage k)
    (hreach : s.reaches f k = false) : stageQuiet f s k = s := by
  have hself : (s.onStage k fun _ => s.stage k) = s := by simp [State.onStage, State.onFu, State.stage]
  unfold stageQuiet
  rw [hstage, hself, hreach, Bool.not_false, Bool.and_true]
  rfl

theorem testStage_quiet {f : Nat} {k : Fin 3} {s : State} (h : ¬s.fires f k) : testStage arbitrate giveSpace f s k = stageQuiet f s k := by
  by_cases hlow : f < s.fu.params.threshold k <;> by_cases harmed : (s.stage k).state = .armed
  · have hdelay : ¬s.fu.params.delay k = 0 := fun hk => h ⟨harmed, hlow, hk⟩
    have hreach : s.reaches f k = true := by simp [State.reaches, harmed, hlow]
    have htested : (s.stage k).tested f (s.fu.params.threshold k) (s.fu.params.delay k) = { state := .timing, timer := some (s.fu.params.delay k) } := by
      rw [Stage.tested, if_pos hlow, if_pos harmed, if_neg hdelay]
    unfold testStage stageQuiet
    rw [if_pos hlow, harmed, htested, hreach, Bool.not_true, Bool.and_false]
    exact if_neg hdelay
  · rw [stageQuiet_same (by rw [Stage.tested, if_pos hlow, if_neg harmed]) (by simp [State.reaches, harmed])]
    unfold testStage
    rw [if_pos hlow]
    split
    · next hk => exact absurd hk harmed
    · rfl
    · rfl
  · rw [stageQuiet_same (by rw [Stage.tested, if_neg hlow, if_pos harmed]) (by simp [State.reaches, hlow])]
    unfold testStage
    rw [if_neg hlow, harmed]
  · have hreach : s.reaches f k = false := by simp [State.reaches, hlow]
    have htested : (s.stage k).tested f (s.fu.params.threshold k) (s.fu.params.delay k) = { state := .armed, timer := none } := by
      rw [Stage.tested, if_neg hlow, if_neg harmed]
    unfold testStage stageQuiet
    rw [if_neg hlow, htested, hreach, Bool.not_false, Bool.and_true]
    split
    · rfl
    · rfl
    · next hk => exact absurd hk harmed

theorem testStage_tested {f : Nat} {k : Fin 3} {s : State} (hp : s.powered = true) (hs : s.da.spacingTimer.isSome = true) :
    StageTest f k s (testStage arbitrate giveSpace f s k) := by
  by_cases hfires : s.fires f k
  · have hdrift : Drift False (stageFired k f s) (fireStage arbitrate giveSpace k f s) := drift_fireStage k f hs False.elim False.elim
    obtain ⟨_, _, _, _, _, hpermit, hstage, _⟩ := stageFired_frame k f s
    have hkept : ∀ j, (fireStage arbitrate giveSpace k f s).stage j = (stageFired k f s).stage j := fun j =>
      congrArg (fun v : Vector Stage 3 => v[j]) hdrift.stages
    rw [testStage_fires hfires]
    obtain ⟨harmed, hlow, hdelay⟩ := hfires
    refine ⟨?_, fun j hj => (hkept j).trans (stage_fired_other hj f s), ?_, fun _ => ⟨fireStage_reports k f hp, fun i hr => fireStage_none_on k f hs hr⟩⟩
    · rw [hkept, hstage, Stage.tested, if_pos hlow, if_pos harmed, if_pos hdelay]
    · have hreach : s.reaches f k = true := by simp [State.reaches, harmed, hlow]
      rw [hreach]
      refine (Bool.eq_false_iff.mpr fun hk => ?_).trans (Bool.and_false _).symm
      exact Bool.false_ne_true (hpermit.symm.trans (hdrift.permit hk))
  · have hstage : ∀ j, (stageQuiet f s k).stage j = if k = j then (s.stage k).tested f (s.fu.params.threshold k) (s.fu.params.delay k) else s.stage j :=
      fun j => State.onStage_stage s k j fun _ => (s.stage k).tested f (s.fu.params.threshold k) (s.fu.params.delay k)
    rw [testStage_quiet hfires]
    exact ⟨(hstage k).trans (if_pos rfl), fun j hj => (hstage j).trans (if_neg fun hk => hj hk.symm), rfl, fun hk => absurd hk hfires⟩

/-! ### The tests of all stages -/

/-- What the tests of the stages of `l` leave. -/
structure StagePass (f : Nat) (l : List (Fin 3)) (s t : State) : Prop where
  stages : ∀ k ∈ l, t.stage k = (s.stage k).tested f (s.fu.params.threshold k) (s.fu.params.delay k)
  others : ∀ k, k ∉ l → t.stage k = s.stage k
  permit : t.fu.permit = (s.fu.permit && l.all fun k => !s.reaches f k)
  fired : ∀ k ∈ l, s.fires f k → s.reportsSince t (.stageFired k f)
    ∧ ∀ i, reachedBy k (s.feeder i).profile.shedStage = true → (t.feeder i).state ≠ .on
  loads : Loads False s t
  calm : Calm [] s t

theorem stagePass_foldl {f : Nat} {l : List (Fin 3)} (hl : l.Nodup) {s : State} (hp : s.powered = true) (hs : s.da.spacingTimer.isSome = true) :
    StagePass f l s (l.foldl (testStage arbitrate giveSpace f) s) := by
  induction l generalizing s with
  | nil => exact ⟨fun _ h => absurd h List.not_mem_nil, fun _ _ => rfl, (Bool.and_true _).symm, fun _ h => absurd h List.not_mem_nil, .refl _ s, .refl _ s⟩
  | cons k rest ih =>
    obtain ⟨hk, hrest⟩ := List.nodup_cons.mp hl
    obtain ⟨hown, hothers, hpermit, hfired⟩ := testStage_tested (f := f) (k := k) hp hs
    have hloads : Loads False s (testStage arbitrate giveSpace f s k) := loads_testStage f k hs False.elim False.elim
    have hcalm := calm_testStage arbitrate_arbitrates giveSpace_arbitrates f s k
    have hkept := SettingsKept.of_still hcalm.still
    have hpx := hcalm.reportsOnly.power.trans hp
    rw [List.foldl_cons]
    generalize testStage arbitrate giveSpace f s k = x at *
    have hne : ∀ j ∈ rest, j ≠ k := fun j hj hjk => hk (hjk ▸ hj)
    have hreaches : ∀ j ∈ rest, x.reaches f j = s.reaches f j := fun j hj => by
      unfold State.reaches
      rw [hothers j (hne j hj), hkept.shedding]
    obtain ⟨rstages, rothers, rpermit, rfired, rloads, rcalm⟩ := ih hrest hpx (hloads.running hs)
    refine ⟨fun j hj => ?_, fun j hj => ?_, ?_, fun j hj hf => ?_, hloads.trans rloads, hcalm.trans rcalm⟩
    · obtain rfl | hj := List.mem_cons.mp hj
      · rw [rothers j hk, hown]
      · rw [rstages j hj, hothers j (hne j hj), hkept.shedding]
    · obtain ⟨h1, h2⟩ := not_or.mp (mt List.mem_cons.mpr hj)
      rw [rothers j h2, hothers j h1]
    · have hall : (rest.all fun j => !x.reaches f j) = rest.all fun j => !s.reaches f j := by
        rw [Bool.eq_iff_iff, List.all_eq_true, List.all_eq_true]
        exact forall₂_congr fun j hj => by rw [hreaches j hj]
      rw [rpermit, hall, hpermit, List.all_cons, Bool.and_assoc]
    · obtain rfl | hj := List.mem_cons.mp hj
      · obtain ⟨hreport, hnone⟩ := hfired hf
        exact ⟨rcalm.reportsOnly.reportsSince hreport, fun i hr => rloads.not_on (hnone i hr)⟩
      · have hfx : x.fires f j := by
          unfold State.fires
          rw [hothers j (hne j hj), hkept.shedding]
          exact hf
        obtain ⟨hreport, hnone⟩ := rfired j hj hfx
        exact ⟨hcalm.reportsOnly.since rcalm.reportsOnly hreport, fun i hr => hnone i (by rw [hkept.feeder i]; exact hr)⟩

/-- R128: tests that fire no stage move the stages and the permit alone. -/
theorem stagePass_quiet {f : Nat} {l : List (Fin 3)} (hl : l.Nodup) {s : State} (hp : s.powered = true) (hs : s.da.spacingTimer.isSome = true)
    (h : ∀ k ∈ l, ¬s.fires f k) : ∃ (v : Vector Stage 3) (b : Bool), l.foldl (testStage arbitrate giveSpace f) s =
      { s with fu := { s.fu with stages := v, permit := b } } := by
  induction l generalizing s with
  | nil => exact ⟨s.fu.stages, s.fu.permit, rfl⟩
  | cons k rest ih =>
    obtain ⟨hk, hrest⟩ := List.nodup_cons.mp hl
    have hothers := (testStage_tested (f := f) (k := k) hp hs).others
    rw [List.foldl_cons]
    rw [testStage_quiet (h k List.mem_cons_self)] at hothers ⊢
    obtain ⟨v, b, hfold⟩ := ih hrest (s := stageQuiet f s k) hp hs fun j hj => by
      unfold State.fires
      rw [hothers j fun hjk => hk (hjk ▸ hj)]
      exact h j (List.mem_cons_of_mem _ hj)
    exact ⟨v, b, hfold⟩

end Sys2Proof.Machine

/-! PROOFS. A control step in LIVE: what every part keeps, and what the Feeder Unit's part leaves (R128, R131; log 3). -/

namespace Sys2Proof.Machine

/-! ### What every part of a control step keeps in LIVE -/

/-- What every part of a control step keeps in LIVE, below 55,000 mHz and while the spacing timer keeps grants back. -/
structure StaysLive (s x : State) : Prop where
  station : x.ss.station = .live
  spacing : x.da.spacingTimer.isSome = true
  params : x.fu.params = s.fu.params
  link : ReportsOnly s x

section
variable {f : Nat} {s x : State}

theorem StaysLive.governed (h : StaysLive s x) : StaysLive s (governorStep f x) := by
  have hlink := governorStep_reportsOnly (f := f) (s := x) (.inl h.spacing)
  obtain ⟨timer, hgov⟩ := governorStep_of_no_grant f (s := x) (.inl h.spacing)
  obtain ⟨h1, h2, h3, h4⟩ := h
  have hlink := h4.trans hlink
  rw [hgov] at hlink ⊢
  exact ⟨h1, h2, h3, hlink⟩

theorem StaysLive.tested (hf : f < 55000) (h : StaysLive s x) : StaysLive s (stationStep f x) := by
  rw [stationStep_live h.station hf]
  exact ⟨h.station, h.spacing, h.params, h.link.trans (.of_sl rfl rfl)⟩

theorem StaysLive.fed (h : StaysLive s x) : StaysLive s (feederStep arbitrate giveSpace f x) := by
  have hcalm := calm_feederStep arbitrate_arbitrates giveSpace_arbitrates f x
  have hloads : Loads False x (feederStep arbitrate giveSpace f x) := loads_feederStep f h.spacing False.elim False.elim
  exact ⟨hcalm.station.trans h.station, hloads.running h.spacing, (SettingsKept.of_still hcalm.still).shedding.trans h.params, h.link.trans hcalm.reportsOnly⟩

theorem StaysLive.held (h : StaysLive s x) : StaysLive s (feedHoldStep arbitrate f x) := by
  obtain ⟨b, hcalm⟩ := calm_feedHoldStep arbitrate_arbitrates f x
  have hloads : Loads False x (feedHoldStep arbitrate f x) := loads_feedHoldStep f h.spacing
  refine ⟨hcalm.station.trans h.station, hloads.running h.spacing, ?_, h.link.trans ?_⟩
  · exact (feedHoldStep_proj (fun y => y.fu.params) (fun _ => rfl) (fun _ _ => rfl) f x).trans h.params
  · exact ReportsOnly.trans (t := x.onDs fun d => { d with feedHold := b }) (.of_sl rfl rfl) hcalm.reportsOnly

end

/-- R96, R97: one slot at a change of the feed hold. -/
theorem onlySlot_holdSlot (i : Fin 4) {s : State} (hs : s.da.spacingTimer.isSome = true) : OnlySlot i s (holdSlot arbitrate i s) := by
  unfold holdSlot
  repeat' split
  · exact onlySlot_forcedOut (by decide) i hs
  · exact (onlySlot_onSlot i _ s).thenPost _
  · exact .refl i s

theorem onlySlot_resumeSlot (i : Fin 4) (s : State) : OnlySlot i s (resumeSlot i s) := by
  unfold resumeSlot
  split
  · exact (onlySlot_onSlot i _ s).thenPost _
  · exact .refl i s

/-- R96, R97: the feed hold leaves the feeders alone while no grant can be made. -/
theorem feedHoldStep_fu (f : Nat) {s : State} (hs : s.da.spacingTimer.isSome = true) : (feedHoldStep arbitrate f s).fu = s.fu := by
  have hpass : ∀ (g : State → Fin 4 → State), (∀ x i, x.da.spacingTimer.isSome = true → OnlySlot i x (g x i)) → ∀ x : State,
      x.da.spacingTimer.isSome = true → (allSlots.foldl g x).fu = x.fu := fun g hg x hx => by
    have hall := List.foldlRecOn (motive := fun t : State => t.da.spacingTimer = x.da.spacingTimer ∧ t.fu = x.fu) allSlots g ⟨rfl, rfl⟩ fun t ht i _ => by
      obtain ⟨hspacing, hfu⟩ := ht
      have h := hg t i (hspacing ▸ hx)
      obtain ⟨table, timer, hda, _⟩ := h.arbiter
      exact ⟨by rw [hda]; exact hspacing, h.feeders.trans hfu⟩
    exact hall.2
  unfold feedHoldStep
  repeat' split
  · rfl
  · exact hpass _ (fun x i hx => onlySlot_holdSlot i hx) (s.onDs fun d => { d with feedHold := true }) hs
  · exact hpass _ (fun x i _ => onlySlot_resumeSlot i x) (s.onDs fun d => { d with feedHold := false }) hs
  · rfl
  · rfl

/-! ### The Feeder Unit's part -/

/-- What the third of four parts leaves where the other three keep `P` before it and `Q` after it. -/
theorem foldl_order4_third {P Q : State → Prop} {a b c d : State → State} (hc : ∀ s, P s → Q (c s)) (ha : ∀ s, P s → P (a s))
    (hb : ∀ s, P s → P (b s)) (hd : ∀ s, P s → P (d s)) (ha' : ∀ s, Q s → Q (a s)) (hb' : ∀ s, Q s → Q (b s)) (hd' : ∀ s, Q s → Q (d s))
    (n : Fin 24) {s : State} (hs : P s) : Q ((order4 a b c d n).foldl (fun s part => part s) s) := by
  fin_cases n
  all_goals
    simp only [order4, List.foldl_cons, List.foldl_nil]
    apply_rules [ha, hb, hc, hd, ha', hb', hd']

/-- The Feeder Unit's part of a control step: the tests of the stages bring `x` to `w`, and the test of the restore timer follows. -/
structure FeederPart (f : Nat) (s x w t : State) : Prop where
  before : StaysLive s x
  same : x.fu = s.fu
  stages : StagePass f allStages x w
  fold : w = allStages.foldl (testStage arbitrate giveSpace f) x
  after : t.fu = (testRestore arbitrate f w).fu
  link : ReportsOnly (testRestore arbitrate f w) t

theorem controlStep_feederPart {f : Nat} {s : State} (hp : s.powered = true) (hst : s.ss.station = .live) (hf : f < 55000)
    (hs : s.da.spacingTimer.isSome = true) : ∃ x w, FeederPart f s x w (controlStep f s) := by
  have hpart : StaysLive s (controlStep f s) ∧ ∃ x w, FeederPart f s x w (controlStep f s) := by
    have hkeep : ∀ {y z : State}, (StaysLive s y ∧ ∃ x w, FeederPart f s x w y) → StaysLive s z → z.fu = y.fu → ReportsOnly y z →
        StaysLive s z ∧ ∃ x w, FeederPart f s x w z := fun hy hz hfu hlink => by
      obtain ⟨_, x, w, h1, h2, h3, h4, h5, h6⟩ := hy
      exact ⟨hz, x, w, h1, h2, h3, h4, hfu.trans h5, h6.trans hlink⟩
    have hgovfu : ∀ y : State, y.da.spacingTimer.isSome = true → (governorStep f y).fu = y.fu := fun y hy => by
      obtain ⟨timer, hgov⟩ := governorStep_of_no_grant f (s := y) (.inl hy)
      rw [hgov]
    have hstationfu : ∀ y : State, y.ss.station = .live → (stationStep f y).fu = y.fu ∧ ReportsOnly y (stationStep f y) := fun y hy => by
      rw [stationStep_live hy hf]
      exact ⟨rfl, .of_sl rfl rfl⟩
    have hholdlink : ∀ y : State, ReportsOnly y (feedHoldStep arbitrate f y) := fun y => by
      obtain ⟨b, hcalm⟩ := calm_feedHoldStep arbitrate_arbitrates f y
      exact ReportsOnly.trans (t := y.onDs fun d => { d with feedHold := b }) (.of_sl rfl rfl) hcalm.reportsOnly
    refine foldl_order4_third (P := fun x => StaysLive s x ∧ x.fu = s.fu) (Q := fun y => StaysLive s y ∧ ∃ x w, FeederPart f s x w y)
      (fun x hx => ?_) (fun x hx => ⟨hx.1.governed, (hgovfu x hx.1.spacing).trans hx.2⟩) (fun x hx => ⟨hx.1.tested hf, (hstationfu x hx.1.station).1.trans hx.2⟩)
      (fun x hx => ⟨hx.1.held, (feedHoldStep_fu f hx.1.spacing).trans hx.2⟩)
      (fun y hy => hkeep hy hy.1.governed (hgovfu y hy.1.spacing) (governorStep_reportsOnly (.inl hy.1.spacing)))
      (fun y hy => hkeep hy (hy.1.tested hf) (hstationfu y hy.1.station).1 (hstationfu y hy.1.station).2)
      (fun y hy => hkeep hy hy.1.held (feedHoldStep_fu f hy.1.spacing) (hholdlink y)) _
      (s := s.nextChoice) ⟨⟨hst, hs, rfl, .of_sl rfl rfl⟩, rfl⟩
    obtain ⟨hlive, hfu⟩ := hx
    have hpass : StagePass f allStages x (allStages.foldl (testStage arbitrate giveSpace f) x) :=
      stagePass_foldl (by decide) (hlive.link.power.trans hp) hlive.spacing
    have hfed : feederStep arbitrate giveSpace f x = testRestore arbitrate f (allStages.foldl (testStage arbitrate giveSpace f) x) := if_pos hlive.station
    refine ⟨hlive.fed, x, _, hlive, hfu, hpass, rfl, by rw [hfed], ?_⟩
    rw [hfed]
    exact .refl _
  exact hpart.2

/-! ### The stages, the permit and the restore timer -/

theorem testRestore_low {f : Nat} {w : State} (h : f < w.fu.params.restoreThreshold) :
    testRestore arbitrate f w = w.onFu fun u => { u with restoreTimer := none } := if_neg (Nat.not_le.mpr h)

/-- R131: the test of the restore timer leaves the stages. -/
theorem testRestore_stages (f : Nat) {w : State} (hs : w.da.spacingTimer.isSome = true) : (testRestore arbitrate f w).fu.stages = w.fu.stages := by
  unfold testRestore
  repeat' split
  · have hoffer : Drift False w.permitted (feederOffer arbitrate w.permitted) := drift_feederOffer (s := w.permitted) hs
    exact hoffer.stages
  · rfl
  · rfl
  · rfl

section
variable {f : Nat} {s x w t : State}

theorem FeederPart.stage (h : FeederPart f s x w t) (k : Fin 3) :
    t.stage k = (s.stage k).tested f (s.fu.params.threshold k) (s.fu.params.delay k) := by
  have hk := h.stages.stages k (by fin_cases k <;> decide)
  have hrestore := testRestore_stages f (w := w) (h.stages.loads.running h.before.spacing)
  have hx : x.stage k = s.stage k := by
    unfold State.stage
    rw [h.same]
  unfold State.stage at hk hx ⊢
  rw [h.after, hrestore, hk, hx, h.same]

theorem FeederPart.fired (h : FeederPart f s x w t) {k : Fin 3} (hk : s.fires f k) : s.reportsSince t (.stageFired k f)
    ∧ ∀ i, reachedBy k (s.feeder i).profile.shedStage = true → (t.feeder i).state ≠ .on := by
  have hfires : x.fires f k := by
    unfold State.fires State.stage
    rw [h.same]
    exact hk
  obtain ⟨hreport, hnone⟩ := h.stages.fired k (by fin_cases k <;> decide) hfires
  have hrunning := h.stages.loads.running h.before.spacing
  have hrestore : Loads False w (testRestore arbitrate f w) := loads_testRestore f hrunning
  refine ⟨?_, fun i hr => ?_⟩
  · have hlink := (calm_testRestore arbitrate_arbitrates f w).reportsOnly.trans h.link
    exact (h.before.link).since (h.stages.calm.reportsOnly.trans hlink) (hlink.reportsSince hreport)
  · have hfeeder : t.feeder i = (testRestore arbitrate f w).feeder i := by
      unfold State.feeder
      rw [h.after]
    rw [hfeeder]
    refine hrestore.not_on (hnone i ?_)
    unfold State.feeder
    rw [h.same]
    exact hr

theorem FeederPart.settings (h : FeederPart f s x w t) : w.fu.params = s.fu.params :=
  (SettingsKept.of_still h.stages.calm.still).shedding.trans h.before.params

theorem FeederPart.low (h : FeederPart f s x w t) (hf : f < s.fu.params.restoreThreshold) : t.fu.restoreTimer = none
    ∧ t.fu.permit = (s.fu.permit && allStages.all fun k => !s.reaches f k) := by
  have htest := testRestore_low (f := f) (w := w) (by rw [h.settings]; exact hf)
  have hpermit := h.stages.permit
  have hreaches : x.reaches f = s.reaches f := by
    funext k
    unfold State.reaches State.stage
    rw [h.same]
  rw [hreaches, h.same] at hpermit
  rw [h.after, htest]
  exact ⟨rfl, hpermit⟩

/-- R131: the offers leave the permit set, or no feeder in SHED. -/
def State.Permitted (s : State) : Prop := (s.fu.permit = true ∨ s.anyShed = false) ∧ s.fu.restoreTimer = none

theorem permitted_setFeederState (i : Fin 12) {s : State} (h : s.Permitted) : (setFeederState i .queued s).Permitted := by
  obtain ⟨hpermit, htimer⟩ := h
  refine ⟨?_, setFeederState_untimed i .queued htimer⟩
  have hhand : ∀ (b : Bool) (x : State), (handShed b (alarmChanged .shed x)).fu = x.fu := by
    intro b x
    unfold handShed
    rw [evaluateCorrection_fu]
    simp
  have hshed : ∀ x : State, (setFeederState i .queued x).anyShed = (x.onFeeder i fun d => d.enter .queued).anyShed := fun x => by
    unfold State.anyShed
    refine congrArg (fun p => allFeeders.any p) (funext fun j => ?_)
    rw [setFeederState_feeder, State.onFeeder_feeder]
  rw [hshed]
  unfold setFeederState shedChanged
  have hkept : s.anyShed = false → (s.onFeeder i fun d => d.enter .queued).anyShed = false := fun hno => by
    have hnone := List.any_eq_false.mp hno
    refine List.any_eq_false.mpr fun j hj => ?_
    rw [State.onFeeder_feeder]
    split
    · simp [Feeder.enter]
    · exact hnone j hj
  split
  · exact hpermit.imp_right hkept
  · simp only []
    rw [hhand]
    by_cases hany : (s.onFeeder i fun d => d.enter .queued).anyShed = true
    · rw [if_pos hany]
      exact hpermit.imp_right hkept
    · exact .inr (Bool.eq_false_iff.mpr hany)

theorem permitted_of_fu {s t : State} (h : s.Permitted) (hfu : t.fu = s.fu) : t.Permitted := by
  unfold State.Permitted State.anyShed State.feeder at *
  rw [hfu]
  exact h

theorem permitted_offerList (l : List (Fin 12)) {s : State} (hs : s.da.spacingTimer.isSome = true) (h : s.Permitted) :
    (offerList arbitrate l s).Permitted := by
  induction l generalizing s with
  | nil => exact h
  | cons i rest ih =>
    unfold offerList
    split
    · next hshed =>
      simp only []
      obtain ⟨_, hsame⟩ | ⟨_, _, _, hsame⟩ | ⟨_, _, _, e, _, _, _, _, _, _, _, htaken⟩ :=
        enqueue_cases arbitrate (restoreRequest s i)
          (fun x => setFeederState i .queued (post (.restore i (s.feeder i).profile.cls (s.feeder i).profile.booking) x)) s
      · rw [hsame]
        exact ih hs h
      · rw [hsame]
        exact h
      · rw [htaken]
        have hposted : (post (.restore i (s.feeder i).profile.cls (s.feeder i).profile.booking) (insertRequest e s)).Permitted :=
          permitted_of_fu (s := insertRequest e s) h (post_fu _ _)
        have hset := permitted_setFeederState i hposted
        have hrunning : (setFeederState i .queued (post (.restore i (s.feeder i).profile.cls (s.feeder i).profile.booking) (insertRequest e s))).da.spacingTimer.isSome
            = true := by
          rw [setFeederState_da, post_da]
          exact hs
        have harb := arbitrate_of_spacing hrunning
        simp only []
        refine ih (s := arbitrate _) ?_ ?_
        · exact (congrArg (fun x : State => x.da.spacingTimer.isSome) harb).trans hrunning
        · exact harb.symm ▸ hset
    · exact ih hs h

/-- R131: where no stage is reached, what the restore timer's test finds and leaves. -/
theorem FeederPart.high (h : FeederPart f s x w t) (hp : s.powered = true) (hf : s.fu.params.restoreThreshold ≤ f)
    (hk : ∀ k : Fin 3, s.fu.params.threshold k ≤ f) :
    (s.anyShed = true → s.fu.permit = false → s.fu.restoreTimer = none →
      (s.fu.params.restoreDelay ≠ 0 → t.fu.restoreTimer = some s.fu.params.restoreDelay ∧ t.fu.permit = false)
      ∧ (s.fu.params.restoreDelay = 0 → (t.fu.permit = true ∨ t.anyShed = false) ∧ t.fu.restoreTimer = none))
    ∧ ((s.anyShed = false ∨ s.fu.permit = true ∨ s.fu.restoreTimer.isSome = true) →
      t.fu.restoreTimer = s.fu.restoreTimer ∧ t.fu.permit = s.fu.permit) := by
  obtain ⟨v, b, hquiet⟩ := stagePass_quiet (f := f) (l := allStages) (by decide) (h.before.link.power.trans hp) h.before.spacing fun k _ hfires =>
    Nat.not_lt.mpr (hk k) (by rw [← h.before.params]; exact hfires.2.1)
  rw [← h.fold] at hquiet
  have hreach : ∀ k, s.reaches f k = false := fun k => by simp [State.reaches, hk k]
  have hpermit : w.fu.permit = s.fu.permit := by
    have hpass := h.stages.permit
    have hall : (allStages.all fun k => !x.reaches f k) = true := List.all_eq_true.mpr fun k _ => by
      have hx : x.reaches f k = s.reaches f k := by
        unfold State.reaches State.stage
        rw [h.same]
      rw [hx, hreach k]
      rfl
    rw [hall, Bool.and_true, h.same] at hpass
    exact hpass
  have htimer : w.fu.restoreTimer = s.fu.restoreTimer := by
    rw [hquiet, ← h.same]
  have hshed : w.anyShed = s.anyShed := by
    unfold State.anyShed State.feeder
    rw [hquiet, ← h.same]
  have hrunning := h.stages.loads.running h.before.spacing
  have htest : testRestore arbitrate f w = if w.anyShed = true ∧ w.fu.permit = false ∧ w.fu.restoreTimer = none then
      if w.fu.params.restoreDelay = 0 then setPermit arbitrate w else w.onFu fun u => { u with restoreTimer := some u.params.restoreDelay } else w :=
    if_pos (by rw [h.settings]; exact hf)
  rw [hshed, hpermit, htimer, h.settings] at htest
  refine ⟨fun h1 h2 h3 => ⟨fun hd => ?_, fun hd => ?_⟩, fun hno => ?_⟩
  · rw [if_pos ⟨h1, h2, h3⟩, if_neg hd] at htest
    rw [h.after, htest]
    exact ⟨congrArg (fun p : SheddingParams => some p.restoreDelay) h.settings, hpermit.trans h2⟩
  · rw [if_pos ⟨h1, h2, h3⟩, if_pos hd] at htest
    have hset : (setPermit arbitrate w).Permitted := by
      have hbase : w.permitted.Permitted := ⟨.inl rfl, rfl⟩
      unfold setPermit feederOffer
      split
      · exact permitted_offerList _ (s := w.permitted) hrunning hbase
      · exact hbase
    rw [← htest] at hset
    exact permitted_of_fu hset h.after
  · rw [if_neg fun hk => ?_] at htest
    · rw [h.after, htest]
      exact ⟨htimer, hpermit⟩
    · obtain ⟨h1, h2, h3⟩ := hk
      obtain hno | hno | hno := hno
      · rw [h1] at hno
        cases hno
      · rw [h2] at hno
        cases hno
      · rw [h3] at hno
        cases hno

end

end Sys2Proof.Machine

/-! PROOFS. The feed hold among the parts of a control step in LIVE (R96, R97). -/

namespace Sys2Proof.Machine

/-! ### A Feeder Unit's part that fires no stage -/

/-- R128: the test of no stage fires it. -/
def State.NoFires (f : Nat) (s : State) : Prop := ∀ k, ¬s.fires f k

theorem noFires_of_fu {f : Nat} {s t : State} (h : s.NoFires f) (hfu : t.fu = s.fu) : t.NoFires f := fun k hk => h k (by
  unfold State.fires State.stage at *
  rw [hfu] at hk
  exact hk)

/-- What an offer leaves of the gate, the drives and the table. -/
structure Offered (s t : State) : Prop where
  ds : t.ds = s.ds
  gc : t.gc = s.gc
  table : t.da.table = s.da.table

theorem Offered.trans {s t u : State} (h : Offered s t) (k : Offered t u) : Offered s u :=
  ⟨k.ds.trans h.ds, k.gc.trans h.gc, k.table.trans h.table⟩

theorem offered_offerList (l : List (Fin 12)) {s : State} (hs : s.da.spacingTimer.isSome = true) : Offered s (offerList arbitrate l s) := by
  induction l generalizing s with
  | nil => exact ⟨rfl, rfl, rfl⟩
  | cons i rest ih =>
    unfold offerList
    split
    · simp only []
      obtain ⟨_, hsame⟩ | ⟨_, _, _, hsame⟩ | ⟨_, _, _, e, _, _, _, _, _, _, _, htaken⟩ :=
        enqueue_cases arbitrate (restoreRequest s i)
          (fun x => setFeederState i .queued (post (.restore i (s.feeder i).profile.cls (s.feeder i).profile.booking) x)) s
      · rw [hsame]
        exact ih hs
      · rw [hsame]
        exact ⟨rfl, rfl, rfl⟩
      · rw [htaken]
        simp only []
        have hda := (setFeederState_da i .queued (post (.restore i (s.feeder i).profile.cls (s.feeder i).profile.booking) (insertRequest e s))).trans (post_da _ _)
        have hone : Offered s (setFeederState i .queued (post (.restore i (s.feeder i).profile.cls (s.feeder i).profile.booking) (insertRequest e s))) :=
          ⟨(setFeederState_ds _ _ _).trans (post_ds _ _), (setFeederState_gc _ _ _).trans (post_gc _ _), by rw [hda]; rfl⟩
        have hrunning : (setFeederState i .queued (post (.restore i (s.feeder i).profile.cls (s.feeder i).profile.booking) (insertRequest e s))).da.spacingTimer.isSome
            = true := by
          rw [hda]
          exact hs
        have harb := arbitrate_of_spacing hrunning
        refine (harb.symm ▸ hone : Offered s (arbitrate _)).trans (ih ?_)
        exact (congrArg (fun x : State => x.da.spacingTimer.isSome) harb).trans hrunning
    · exact ih hs

/-- What the Feeder Unit's part leaves where it fires no stage. -/
structure QuietFeed (f : Nat) (s t : State) : Prop extends Offered s t where
  still : t.NoFires f
  calendar : (f < s.fu.params.restoreThreshold ∨ s.fu.params.restoreDelay ≠ 0) → t.cu = s.cu

theorem tested_not_fires {f threshold delay : Nat} {g : Stage} (h : ¬(g.state = .armed ∧ f < threshold ∧ delay = 0)) :
    ¬((g.tested f threshold delay).state = .armed ∧ f < threshold ∧ delay = 0) := by
  rintro ⟨harmed, hlow, hdelay⟩
  unfold Stage.tested at harmed
  rw [if_pos hlow] at harmed
  split at harmed
  · next hk => exact h ⟨hk, hlow, hdelay⟩
  · exact h ⟨harmed, hlow, hdelay⟩

theorem feederStep_quiet {f : Nat} {s : State} (hp : s.powered = true) (hst : s.ss.station = .live) (hs : s.da.spacingTimer.isSome = true)
    (h : s.NoFires f) : QuietFeed f s (feederStep arbitrate giveSpace f s) := by
  have hpass : StagePass f allStages s (allStages.foldl (testStage arbitrate giveSpace f) s) := stagePass_foldl (by decide) hp hs
  obtain ⟨v, b, hquiet⟩ := stagePass_quiet (f := f) (l := allStages) (by decide) hp hs fun k _ => h k
  have hfed : feederStep arbitrate giveSpace f s = testRestore arbitrate f (allStages.foldl (testStage arbitrate giveSpace f) s) := if_pos hst
  have hstages := testRestore_stages f (w := allStages.foldl (testStage arbitrate giveSpace f) s) (hpass.loads.running hs)
  have hparams : (feederStep arbitrate giveSpace f s).fu.params = s.fu.params :=
    (SettingsKept.of_still (calm_feederStep arbitrate_arbitrates giveSpace_arbitrates f s).still).shedding
  have hnone : (feederStep arbitrate giveSpace f s).NoFires f := fun k hk => by
    have hk' := hpass.stages k (by fin_cases k <;> decide)
    unfold State.fires State.stage at hk
    rw [hparams, hfed, hstages] at hk
    unfold State.stage at hk'
    rw [hk'] at hk
    exact tested_not_fires (h k) hk
  refine ⟨?_, hnone, ?_⟩
  · rw [hfed, hquiet]
    unfold testRestore
    repeat' split
    · unfold setPermit feederOffer
      split
      · obtain ⟨h1, h2, h3⟩ := offered_offerList (feedersByClass (State.permitted { s with fu := { s.fu with stages := v, permit := b } }))
          (s := State.permitted { s with fu := { s.fu with stages := v, permit := b } }) hs
        exact ⟨h1, h2, h3⟩
      · exact ⟨rfl, rfl, rfl⟩
    all_goals exact ⟨rfl, rfl, rfl⟩
  · intro hr
    rw [hfed, hquiet]
    unfold testRestore
    repeat' split
    · next hhigh _ hdelay => exact absurd hdelay (hr.resolve_left (Nat.not_lt.mpr hhigh))
    all_goals rfl

/-! ### The slots at a change of the feed hold -/

/-- R96: the feed hold begins. -/
def State.holds (f : Nat) (s : State) : Prop := f < s.fu.params.holdThreshold ∧ s.ds.feedHold = false

/-- R97: the feed hold ends. -/
def State.resumes (f : Nat) (s : State) : Prop := s.fu.params.holdThreshold ≤ f ∧ s.fu.params.holdRelease ≤ f ∧ s.ds.feedHold = true

theorem feedHoldStep_holds {f : Nat} {s : State} (hst : s.ss.station = .live) (h : s.holds f) :
    feedHoldStep arbitrate f s = allSlots.foldl (fun s i => holdSlot arbitrate i s) (s.onDs fun d => { d with feedHold := true }) := by
  unfold feedHoldStep
  rw [if_pos hst, if_pos h.1]
  exact if_neg (by rw [h.2]; exact Bool.false_ne_true)

theorem feedHoldStep_resumes {f : Nat} {s : State} (hst : s.ss.station = .live) (h : s.resumes f) :
    feedHoldStep arbitrate f s = allSlots.foldl (fun s i => resumeSlot i s) (s.onDs fun d => { d with feedHold := false }) := by
  unfold feedHoldStep
  rw [if_pos hst, if_neg (Nat.not_lt.mpr h.1)]
  exact if_pos h.2

theorem feedHoldStep_stays {f : Nat} {s : State} (hst : s.ss.station = .live) (h1 : ¬s.holds f) (h2 : ¬s.resumes f) : feedHoldStep arbitrate f s = s := by
  unfold feedHoldStep
  rw [if_pos hst]
  by_cases hlow : f < s.fu.params.holdThreshold
  · rw [if_pos hlow]
    exact if_pos (by by_contra hk; exact h1 ⟨hlow, Bool.eq_false_iff.mpr hk⟩)
  · rw [if_neg hlow]
    exact if_neg fun hk => h2 ⟨Nat.le_of_not_lt hlow, hk.1, hk.2⟩

/-- A pass over the slots, seen from one of them. -/
theorem pass_at (i : Fin 4) {g : State → Fin 4 → State} (hg : ∀ x j, x.da.spacingTimer.isSome = true → OnlySlot j x (g x j)) {s : State}
    (hs : s.da.spacingTimer.isSome = true) : ∃ x, Beside i s x ∧ Beside i (g x i) (allSlots.foldl g s) := by
  obtain ⟨x, hbefore, hafter⟩ := foldl_at (R := fun s t : State => s.da.spacingTimer.isSome = true → Beside i s t) (f := g)
    (fun s _ => .refl i s) (fun h k hs => (h hs).trans (k ((h hs).spacing ▸ hs))) (j := i) (fun s j hij hs => (hg s j hs).beside hij)
    allSlots_nodup (mem_allSlots i) s
  have hx := hbefore hs
  have hspacing : x.da.spacingTimer.isSome = true := hx.spacing ▸ hs
  obtain ⟨table, timer, hda, _⟩ := (hg x i hspacing).arbiter
  exact ⟨x, hx, hafter (by rw [hda]; exact hspacing)⟩

/-- What a change of the feed hold leaves of one slot. -/
structure SlotHeld (f : Nat) (i : Fin 4) (s t : State) : Prop where
  held : s.holds f → (s.slot i).state = .cutting → (s.slot i).rakeHalt = false →
    t.slot i = { s.slot i with state := .held } ∧ s.reportsSince t (.drive i .held .cutting .hold (s.slot i).remaining (s.slot i).strokes)
  out : s.holds f → (s.slot i).state = .cutting → (s.slot i).rakeHalt = true → s.queueHas (.drive i) = false → s.TakenOut t i .rake
  resumed : s.resumes f → (s.slot i).state = .held →
    t.slot i = { s.slot i with state := .cutting } ∧ s.reportsSince t (.drive i .cutting .held .resume (s.slot i).remaining (s.slot i).strokes)
  stays : ¬(s.holds f ∧ (s.slot i).state = .cutting) → ¬(s.resumes f ∧ (s.slot i).state = .held) → t.slot i = s.slot i

theorem holds_not_resumes {f : Nat} {s : State} (h : s.holds f) : ¬s.resumes f := fun hk => Nat.not_lt.mpr hk.1 h.1

/-- R96: a slot that leaves CUTTING for HELD, or HELD for CUTTING, with its report. -/
theorem slotMoves_report {i : Fin 4} {st : SlotState} {cause : DriveCause} {s x t : State} (hp : s.powered = true) (hbefore : Beside i s x)
    (hafter : Beside i (postDrive i (x.slot i).state cause (x.onSlot i fun d => { d with state := st })) t) :
    t.slot i = { s.slot i with state := st } ∧ s.reportsSince t (.drive i st (s.slot i).state cause (s.slot i).remaining (s.slot i).strokes) := by
  rw [postDrive_onSlot] at hafter
  refine ⟨?_, ?_⟩
  · rw [hafter.slot, post_slot, onSlot_self, hbefore.slot]
  · have hreport := reportsSince_of_post (t := x.onSlot i fun d => { d with state := st }) (hbefore.link.power.trans hp) (.of_sl rfl rfl) hafter.link
    have hlink : ReportsOnly x t := (ReportsOnly.trans (s := x) (t := x.onSlot i fun d => { d with state := st }) (.of_sl rfl rfl) (post_reportsOnly _ _)).trans hafter.link
    rw [hbefore.slot] at hreport
    exact hbefore.link.since hlink hreport

theorem feedHoldStep_slot {f : Nat} (i : Fin 4) {s : State} (hp : s.powered = true) (hst : s.ss.station = .live) (hs : s.da.spacingTimer.isSome = true) :
    SlotHeld f i s (feedHoldStep arbitrate f s) := by
  have hflag : ∀ b : Bool, Beside i s (s.onDs fun d => { d with feedHold := b }) := fun b => ⟨rfl, rfl, rfl, id, rfl, .of_sl rfl rfl⟩
  by_cases hholds : s.holds f
  · have hnot := holds_not_resumes hholds
    rw [feedHoldStep_holds hst hholds]
    obtain ⟨x, hx, hafter⟩ := pass_at i (g := fun s i => holdSlot arbitrate i s) (fun x j hx => onlySlot_holdSlot j hx)
      (s := s.onDs fun d => { d with feedHold := true }) hs
    have hx := (hflag true).trans hx
    refine ⟨fun _ hcut hhalt => ?_, fun _ hcut hhalt hq => ?_, fun hk => absurd hk hnot, fun hk _ => ?_⟩
    · have hold : holdSlot arbitrate i x = postDrive i (x.slot i).state .hold (x.onSlot i fun d => { d with state := .held }) := by
        unfold holdSlot
        rw [hx.slot, hcut, hhalt]
        exact (if_pos rfl).trans (if_neg Bool.false_ne_true)
      rw [hold] at hafter
      have hmoves := slotMoves_report hp hx hafter
      rw [hcut] at hmoves
      exact hmoves
    · have heng : (x.slot i).state.engaged = true := by
        rw [hx.slot, hcut]
        rfl
      have hold : holdSlot arbitrate i x = forcedOut arbitrate .rake i x := by
        unfold holdSlot
        rw [hx.slot, hcut, hhalt]
        exact (if_pos rfl).trans (if_pos rfl)
      rw [hold, forcedOut_of_engaged (by decide) heng] at hafter
      have hout := takeOut_release (cause := .rake) (hx.link.power.trans hp) heng ((hx.queueHas _).trans hq)
      exact hout.takenOut.beside hx hafter hout.reports
    · have hold : holdSlot arbitrate i x = x := if_neg fun hcut => hk ⟨hholds, (congrArg Slot.state hx.slot).symm.trans hcut⟩
      rw [hold] at hafter
      exact hafter.slot.trans hx.slot
  · by_cases hresumes : s.resumes f
    · rw [feedHoldStep_resumes hst hresumes]
      obtain ⟨x, hx, hafter⟩ := pass_at i (g := fun s i => resumeSlot i s) (fun x j _ => onlySlot_resumeSlot j x)
        (s := s.onDs fun d => { d with feedHold := false }) hs
      have hx := (hflag false).trans hx
      refine ⟨fun hk => absurd hk hholds, fun hk => absurd hk hholds, fun _ hheld => ?_, fun _ hk => ?_⟩
      · have hresume : resumeSlot i x = postDrive i (x.slot i).state .resume (x.onSlot i fun d => { d with state := .cutting }) := by
          unfold resumeSlot
          rw [hx.slot, hheld]
          exact if_pos rfl
        rw [hresume] at hafter
        have hmoves := slotMoves_report hp hx hafter
        rw [hheld] at hmoves
        exact hmoves
      · have hresume : resumeSlot i x = x := if_neg fun hheld => hk ⟨hresumes, (congrArg Slot.state hx.slot).symm.trans hheld⟩
        rw [hresume] at hafter
        exact hafter.slot.trans hx.slot
    · rw [feedHoldStep_stays hst hholds hresumes]
      exact ⟨fun hk => absurd hk hholds, fun hk => absurd hk hholds, fun hk => absurd hk hresumes, fun _ _ => rfl⟩

end Sys2Proof.Machine

/-! PROOFS. A control step in LIVE: the feed hold's flag and slots, and the governor's step (R10 to R12, R96, R97, R128, R131; log 3). -/

namespace Sys2Proof.Machine

/-- What the last of four parts leaves where the other three keep `P` before it and `Q` after it. -/
theorem foldl_order4_fourth {P Q : State → Prop} {a b c d : State → State} (hd : ∀ s, P s → Q (d s)) (ha : ∀ s, P s → P (a s))
    (hb : ∀ s, P s → P (b s)) (hc : ∀ s, P s → P (c s)) (ha' : ∀ s, Q s → Q (a s)) (hb' : ∀ s, Q s → Q (b s)) (hc' : ∀ s, Q s → Q (c s))
    (n : Fin 24) {s : State} (hs : P s) : Q ((order4 a b c d n).foldl (fun s part => part s) s) := by
  fin_cases n
  all_goals
    simp only [order4, List.foldl_cons, List.foldl_nil]
    apply_rules [ha, hb, hc, hd, ha', hb', hc']

/-- What the governor's step and the sequencer's tests leave of the drives, the feeders and the table in LIVE. -/
theorem governorStep_loads (f : Nat) {x : State} (hs : x.da.spacingTimer.isSome = true) : (governorStep f x).ds = x.ds ∧ (governorStep f x).fu = x.fu
    ∧ (governorStep f x).cu = x.cu ∧ (governorStep f x).da.table = x.da.table ∧ ReportsOnly x (governorStep f x) := by
  have hlink := governorStep_reportsOnly (f := f) (s := x) (.inl hs)
  obtain ⟨timer, hgov⟩ := governorStep_of_no_grant f (s := x) (.inl hs)
  rw [hgov] at hlink ⊢
  exact ⟨rfl, rfl, rfl, rfl, hlink⟩

/-! ### The flag of the feed hold -/

/-- R96, R97: the feed hold after a control step. -/
def holdAfter (q : SheddingParams) (f : Nat) (held : Bool) : Bool := if f < q.holdThreshold then true else if q.holdRelease ≤ f then false else held

theorem feedHoldStep_flag {f : Nat} {s : State} (hst : s.ss.station = .live) : (feedHoldStep arbitrate f s).ds.feedHold = holdAfter s.fu.params f s.ds.feedHold := by
  have hflag : ∀ (g : State → Fin 4 → State), (∀ x i, Calm [] x (g x i)) → ∀ x : State, (allSlots.foldl g x).ds.feedHold = x.ds.feedHold := fun g hg x =>
    (calm_foldl (g := g) hg allSlots x).proj (fun y => y.ds.feedHold) fun _ => rfl
  unfold holdAfter
  by_cases hholds : s.holds f
  · rw [feedHoldStep_holds hst hholds, hflag _ (fun x i => calm_holdSlot arbitrate_arbitrates feedersOnly_nil i x), if_pos hholds.1]
    rfl
  · by_cases hresumes : s.resumes f
    · rw [feedHoldStep_resumes hst hresumes, hflag _ (fun x i => calm_resumeSlot i x), if_neg (Nat.not_lt.mpr hresumes.1), if_pos hresumes.2.1]
      rfl
    · rw [feedHoldStep_stays hst hholds hresumes]
      split
      · next hlow => exact Bool.of_not_eq_false fun hk => hholds ⟨hlow, hk⟩
      · next hlow =>
        split
        · next hrelease => exact Bool.eq_false_iff.mpr fun hk => hresumes ⟨Nat.le_of_not_lt hlow, hrelease, hk⟩
        · rfl

section
variable {f : Nat} {s : State}

theorem controlStep_feedHold (hst : s.ss.station = .live) (hf : f < 55000) (hs : s.da.spacingTimer.isSome = true) :
    (controlStep f s).ds.feedHold = holdAfter s.fu.params f s.ds.feedHold := by
  have hfed : ∀ x : State, (feederStep arbitrate giveSpace f x).ds.feedHold = x.ds.feedHold := feederStep_proj (fun y => y.ds.feedHold) (fun _ => rfl) f
  have htest : ∀ x : State, x.ss.station = .live → (stationStep f x).ds.feedHold = x.ds.feedHold := fun x hx => by
    rw [stationStep_live hx hf]
    rfl
  have hgov : ∀ x : State, x.da.spacingTimer.isSome = true → (governorStep f x).ds.feedHold = x.ds.feedHold := fun x hx =>
    congrArg DriveScheduler.feedHold (governorStep_loads f hx).1
  have hpart : StaysLive s (controlStep f s) ∧ (controlStep f s).ds.feedHold = holdAfter s.fu.params f s.ds.feedHold :=
    foldl_order4_fourth (P := fun x => StaysLive s x ∧ x.ds.feedHold = s.ds.feedHold)
      (Q := fun y => StaysLive s y ∧ y.ds.feedHold = holdAfter s.fu.params f s.ds.feedHold)
      (fun x hx => ⟨hx.1.held, by rw [feedHoldStep_flag hx.1.station, hx.1.params, hx.2]⟩)
      (fun x hx => ⟨hx.1.governed, (hgov x hx.1.spacing).trans hx.2⟩) (fun x hx => ⟨hx.1.tested hf, (htest x hx.1.station).trans hx.2⟩)
      (fun x hx => ⟨hx.1.fed, (hfed x).trans hx.2⟩) (fun x hx => ⟨hx.1.governed, (hgov x hx.1.spacing).trans hx.2⟩)
      (fun x hx => ⟨hx.1.tested hf, (htest x hx.1.station).trans hx.2⟩) (fun x hx => ⟨hx.1.fed, (hfed x).trans hx.2⟩) _
      (s := s.nextChoice) ⟨⟨hst, hs, rfl, .of_sl rfl rfl⟩, rfl⟩
  exact hpart.2

/-! ### The slots -/

/-- Before the feed hold's part, where no stage fires. -/
structure BeforeHold (f : Nat) (s x : State) : Prop where
  live : StaysLive s x
  quiet : x.NoFires f
  drives : x.ds = s.ds
  consistent : s.Consistent → x.Consistent

/-- After the feed hold's part, taken from `x`. -/
structure AfterHold (f : Nat) (s x y : State) : Prop where
  live : StaysLive s y
  quiet : y.NoFires f
  before : BeforeHold f s x
  drives : y.ds = (feedHoldStep arbitrate f x).ds
  table : y.da.table = (feedHoldStep arbitrate f x).da.table
  link : ReportsOnly (feedHoldStep arbitrate f x) y

theorem AfterHold.step {x y z : State} (h : AfterHold f s x y) (hlive : StaysLive s z) (hquiet : z.NoFires f) (hds : z.ds = y.ds)
    (htable : z.da.table = y.da.table) (hlink : ReportsOnly y z) : AfterHold f s x z :=
  ⟨hlive, hquiet, h.before, hds.trans h.drives, htable.trans h.table, h.link.trans hlink⟩

theorem controlStep_afterHold (hp : s.powered = true) (hst : s.ss.station = .live) (hf : f < 55000) (hs : s.da.spacingTimer.isSome = true)
    (hquiet : s.NoFires f) : ∃ x, AfterHold f s x (controlStep f s) := by
  have hfed : ∀ x : State, StaysLive s x → x.NoFires f → QuietFeed f x (feederStep arbitrate giveSpace f x) := fun x hx =>
    feederStep_quiet (hx.link.power.trans hp) hx.station hx.spacing
  refine foldl_order4_fourth (P := BeforeHold f s) (Q := fun y => ∃ x, AfterHold f s x y) (fun x hx => ⟨x, hx.live.held, ?_, hx, rfl, rfl, .refl _⟩)
    (fun x hx => ?_) (fun x hx => ?_) (fun x hx => ?_) (fun y hy => ?_) (fun y hy => ?_) (fun y hy => ?_) _
    (s := s.nextChoice) ⟨⟨hst, hs, rfl, .of_sl rfl rfl⟩, hquiet, rfl, fun hcons =>
      (consistent_iff _).mpr (((consistent_iff s).mp hcons).of_eq rfl rfl (fun _ => rfl) rfl (fun _ => rfl) rfl)⟩
  · exact noFires_of_fu hx.quiet (feedHoldStep_fu f hx.live.spacing)
  · obtain ⟨hds, hfu, _⟩ := governorStep_loads f hx.live.spacing
    exact ⟨hx.live.governed, noFires_of_fu hx.quiet hfu, hds.trans hx.drives, fun hcons => consistent_governorStep f (.inl hx.live.spacing) (hx.consistent hcons)⟩
  · have hlive := hx.live.tested hf
    rw [stationStep_live hx.live.station hf] at hlive ⊢
    exact ⟨hlive, noFires_of_fu hx.quiet rfl, hx.drives, fun hcons => consistent_onSs (hx.consistent hcons) _⟩
  · have hquiet := hfed x hx.live hx.quiet
    refine ⟨hx.live.fed, hquiet.still, hquiet.ds.trans hx.drives, fun hcons => (consistent_iff _).mpr ?_⟩
    exact (calm_feederStep arbitrate_arbitrates giveSpace_arbitrates f x).agree ((consistent_iff x).mp (hx.consistent hcons))
  · obtain ⟨x, h⟩ := hy
    obtain ⟨hds, hfu, _, htable, hlink⟩ := governorStep_loads f h.live.spacing
    exact ⟨x, h.step h.live.governed (noFires_of_fu h.quiet hfu) hds htable hlink⟩
  · obtain ⟨x, h⟩ := hy
    have hlive := h.live.tested hf
    rw [stationStep_live h.live.station hf] at hlive ⊢
    exact ⟨x, h.step hlive (noFires_of_fu h.quiet rfl) rfl rfl (.of_sl rfl rfl)⟩
  · obtain ⟨x, h⟩ := hy
    have hquiet := hfed y h.live h.quiet
    exact ⟨x, h.step h.live.fed hquiet.still hquiet.ds hquiet.table (calm_feederStep arbitrate_arbitrates giveSpace_arbitrates f y).reportsOnly⟩

/-- R96, R97: what the step leaves of a slot. -/
theorem AfterHold.slot {x t : State} (h : AfterHold f s x t) (hp : s.powered = true) (i : Fin 4) :
    (s.holds f → (s.slot i).state = .cutting → (s.slot i).rakeHalt = false →
      t.slot i = { s.slot i with state := .held } ∧ s.reportsSince t (.drive i .held .cutting .hold (s.slot i).remaining (s.slot i).strokes))
    ∧ (s.holds f → (s.slot i).state = .cutting → (s.slot i).rakeHalt = true → s.Consistent → s.TakenOut t i .rake)
    ∧ (s.resumes f → (s.slot i).state = .held →
      t.slot i = { s.slot i with state := .cutting } ∧ s.reportsSince t (.drive i .cutting .held .resume (s.slot i).remaining (s.slot i).strokes))
    ∧ (¬(s.holds f ∧ (s.slot i).state = .cutting) → ¬(s.resumes f ∧ (s.slot i).state = .held) → t.slot i = s.slot i) := by
  have hbefore := h.before
  have hxs : x.slot i = s.slot i := by
    unfold State.slot
    rw [hbefore.drives]
  have hts : t.slot i = (feedHoldStep arbitrate f x).slot i := by
    unfold State.slot
    rw [h.drives]
  have hholds : x.holds f ↔ s.holds f := by
    unfold State.holds
    rw [hbefore.drives, hbefore.live.params]
  have hresumes : x.resumes f ↔ s.resumes f := by
    unfold State.resumes
    rw [hbefore.drives, hbefore.live.params]
  have hlink := hbefore.live.link
  have hpart : ReportsOnly x (feedHoldStep arbitrate f x) := by
    obtain ⟨b, hcalm⟩ := calm_feedHoldStep arbitrate_arbitrates f x
    exact ReportsOnly.trans (t := x.onDs fun d => { d with feedHold := b }) (.of_sl rfl rfl) hcalm.reportsOnly
  have hreports : ∀ r, x.reportsSince (feedHoldStep arbitrate f x) r → s.reportsSince t r := fun r hr =>
    hlink.since (hpart.trans h.link) (h.link.reportsSince hr)
  obtain ⟨hheld, hout, hresumed, hstays⟩ := feedHoldStep_slot (f := f) i (hlink.power.trans hp) hbefore.live.station hbefore.live.spacing
  rw [hxs, hholds] at hheld hout
  rw [hxs, hresumes] at hresumed
  rw [hxs, hholds, hresumes] at hstays
  rw [hts]
  refine ⟨fun h1 h2 h3 => ?_, fun h1 h2 h3 hcons => ?_, fun h1 h2 => ?_, hstays⟩
  · obtain ⟨hslot, hreport⟩ := hheld h1 h2 h3
    exact ⟨hslot, hreports _ hreport⟩
  · obtain ⟨hslot, htable, hreport⟩ := hout h1 h2 h3 (consistent_engaged (hbefore.consistent hcons) (by rw [hxs, h2]; rfl))
    rw [hxs] at hslot hreport
    refine ⟨hts.trans hslot, ?_, hreports _ hreport⟩
    unfold State.tableHas at htable ⊢
    rw [h.table]
    exact htable
  · obtain ⟨hslot, hreport⟩ := hresumed h1 h2
    exact ⟨hslot, hreports _ hreport⟩

/-! ### The governor's step -/

/-- No cut that the feed hold would reach is ending for the rake. -/
def State.NoHalt (f : Nat) (s : State) : Prop := s.holds f → ∀ i, (s.slot i).state = .cutting → (s.slot i).rakeHalt = false

theorem noHalt_of_ds {s t : State} (h : s.NoHalt f) (hds : t.ds = s.ds) (hfu : t.fu = s.fu ∨ t.fu.params = s.fu.params) : t.NoHalt f := fun hk i => by
  have hparams : t.fu.params = s.fu.params := hfu.elim (congrArg FeederUnit.params) id
  unfold State.slot
  rw [hds]
  unfold State.holds at hk
  rw [hds, hparams] at hk
  exact h hk i

/-- R96, R97: where no slot is forced out, the feed hold leaves the gate and the calendar. -/
theorem feedHoldStep_gate {x : State} (hst : x.ss.station = .live) (hhalt : x.NoHalt f) :
    (feedHoldStep arbitrate f x).gc = x.gc ∧ (feedHoldStep arbitrate f x).cu = x.cu := by
  by_cases hholds : x.holds f
  · rw [feedHoldStep_holds hst hholds]
    have hpass := List.foldlRecOn (motive := fun t : State => t.gc = x.gc ∧ t.cu = x.cu ∧ ∀ i, (t.slot i).state = .cutting → (t.slot i).rakeHalt = false)
      allSlots (fun s i => holdSlot arbitrate i s) (b := x.onDs fun d => { d with feedHold := true }) ⟨rfl, rfl, hhalt hholds⟩ fun t ht i _ => by
        obtain ⟨hgc, hcu, hnone⟩ := ht
        by_cases hcut : (t.slot i).state = .cutting
        · have hold : holdSlot arbitrate i t = postDrive i .cutting .hold (t.onSlot i fun d => { d with state := .held }) := by
            unfold holdSlot
            rw [if_pos hcut, hnone i hcut]
            exact if_neg Bool.false_ne_true
          rw [hold]
          refine ⟨(post_gc _ _).trans hgc, (post_cu _ _).trans hcu, fun j => ?_⟩
          unfold postDrive
          rw [post_slot, State.onSlot_slot]
          split
          · exact fun hk => SlotState.noConfusion hk
          · exact hnone j
        · rw [show holdSlot arbitrate i t = t from if_neg hcut]
          exact ⟨hgc, hcu, hnone⟩
    exact ⟨hpass.1, hpass.2.1⟩
  · by_cases hresumes : x.resumes f
    · rw [feedHoldStep_resumes hst hresumes]
      exact List.foldlRecOn (motive := fun t : State => t.gc = x.gc ∧ t.cu = x.cu) allSlots (fun s i => resumeSlot i s)
        (b := x.onDs fun d => { d with feedHold := false }) ⟨rfl, rfl⟩ fun t ht i _ => by
          unfold resumeSlot
          split
          · exact ⟨(post_gc _ _).trans ht.1, (post_cu _ _).trans ht.2⟩
          · exact ht
    · rw [feedHoldStep_stays hst hholds hresumes]
      exact ⟨rfl, rfl⟩

/-- What every part keeps where no stage fires and no slot is forced out. -/
structure Undisturbed (f : Nat) (s x : State) : Prop where
  live : StaysLive s x
  quiet : x.NoFires f
  halt : x.NoHalt f

theorem Undisturbed.governed {x : State} (h : Undisturbed f s x) : Undisturbed f s (governorStep f x) := by
  obtain ⟨hds, hfu, _⟩ := governorStep_loads f h.live.spacing
  exact ⟨h.live.governed, noFires_of_fu h.quiet hfu, noHalt_of_ds h.halt hds (.inl hfu)⟩

theorem Undisturbed.tested {x : State} (hf : f < 55000) (h : Undisturbed f s x) : Undisturbed f s (stationStep f x) := by
  have hlive := h.live.tested hf
  rw [stationStep_live h.live.station hf] at hlive ⊢
  exact ⟨hlive, noFires_of_fu h.quiet rfl, noHalt_of_ds h.halt rfl (.inl rfl)⟩

theorem Undisturbed.fed {x : State} (hp : s.powered = true) (h : Undisturbed f s x) : Undisturbed f s (feederStep arbitrate giveSpace f x)
    ∧ QuietFeed f x (feederStep arbitrate giveSpace f x) := by
  have hquiet : QuietFeed f x _ := feederStep_quiet (h.live.link.power.trans hp) h.live.station h.live.spacing h.quiet
  have hlive : StaysLive s (feederStep arbitrate giveSpace f x) := h.live.fed
  exact ⟨⟨hlive, hquiet.still, noHalt_of_ds h.halt hquiet.ds (.inr (hlive.params.trans h.live.params.symm))⟩, hquiet⟩

theorem Undisturbed.held {x : State} (h : Undisturbed f s x) : Undisturbed f s (feedHoldStep arbitrate f x) := by
  refine ⟨h.live.held, noFires_of_fu h.quiet (feedHoldStep_fu f h.live.spacing), fun hk => ?_⟩
  obtain ⟨hlow, hflag⟩ := hk
  rw [feedHoldStep_flag h.live.station, holdAfter] at hflag
  rw [feedHoldStep_fu f h.live.spacing] at hlow
  rw [if_pos hlow] at hflag
  cases hflag

/-- R10 to R12: the gate of a PI step, with the capacity that R9 publishes. -/
def State.piGoverned (f : Nat) (s : State) : GateController := { s.gc.piStep s.fRef f with capacity := s.gc.capacityNow }

theorem controlStep_governed (hp : s.powered = true) (hst : s.ss.station = .live) (hf : f < 55000) (hs : s.da.spacingTimer.isSome = true)
    (hquiet : s.NoFires f) (hhalt : s.NoHalt f) (hrestore : f < s.fu.params.restoreThreshold ∨ s.fu.params.restoreDelay ≠ 0) :
    (controlStep f s).gc = s.piGoverned f := by
  have hstation : ∀ x : State, x.ss.station = .live → (stationStep f x).gc = x.gc ∧ (stationStep f x).cu = x.cu := fun x hx => by
    rw [stationStep_live hx hf]
    exact ⟨rfl, rfl⟩
  have hpart : Undisturbed f s (controlStep f s) ∧ (controlStep f s).gc = s.piGoverned f :=
    foldl_order4_around (P := fun x => Undisturbed f s x ∧ x.gc = s.gc ∧ x.cu = s.cu) (Q := fun y => Undisturbed f s y ∧ y.gc = s.piGoverned f)
      (fun x hx => by
        obtain ⟨h, hgc, hcu⟩ := hx
        refine ⟨h.governed, ?_⟩
        obtain ⟨timer, hgov⟩ := governorStep_of_no_grant f (s := x) (.inl h.live.spacing)
        have href : x.fRef = s.fRef := by
          unfold State.fRef
          rw [hcu]
        rw [hgov, h.live.station, hgc, href]
        rfl)
      (fun x hx => ⟨hx.1.tested hf, (hstation x hx.1.live.station).1.trans hx.2.1, (hstation x hx.1.live.station).2.trans hx.2.2⟩)
      (fun x hx => by
        obtain ⟨h, hgc, hcu⟩ := hx
        obtain ⟨h', hfed⟩ := h.fed hp
        exact ⟨h', hfed.gc.trans hgc, (hfed.calendar (by rw [h.live.params]; exact hrestore)).trans hcu⟩)
      (fun x hx => by
        obtain ⟨h, hgc, hcu⟩ := hx
        obtain ⟨hgate, hcalendar⟩ := feedHoldStep_gate h.live.station h.halt
        exact ⟨h.held, hgate.trans hgc, hcalendar.trans hcu⟩)
      (fun x hx => ⟨hx.1.tested hf, (hstation x hx.1.live.station).1.trans hx.2⟩)
      (fun x hx => ⟨(hx.1.fed hp).1, (hx.1.fed hp).2.gc.trans hx.2⟩)
      (fun x hx => ⟨hx.1.held, (feedHoldStep_gate hx.1.live.station hx.1.halt).1.trans hx.2⟩) _
      (s := s.nextChoice) ⟨⟨⟨hst, hs, rfl, .of_sl rfl rfl⟩, hquiet, hhalt⟩, rfl, rfl⟩
  exact hpart.2

end

/-! ### The obligation -/

theorem Stage.tested_low {f threshold delay : Nat} {g : Stage} (h : f < threshold) :
    (g.state = .armed → delay = 0 → g.tested f threshold delay = { state := .fired, timer := none })
    ∧ (g.state = .armed → delay ≠ 0 → g.tested f threshold delay = { state := .timing, timer := some delay })
    ∧ (g.state ≠ .armed → g.tested f threshold delay = g) := by
  unfold Stage.tested
  rw [if_pos h]
  exact ⟨fun h1 h2 => (if_pos h1).trans (if_pos h2), fun h1 h2 => (if_pos h1).trans (if_neg h2), fun h1 => if_neg h1⟩

/-- Settles O9: each of the four parts among the others, whichever comes first. -/
theorem liveControlStep : Obligations.LiveControlStep := by
  intro c f s hp hc hst hf hspacing p q fires holds resumes
  obtain ⟨u, _, hexec⟩ := exec_of_isControlStep hp hc
  obtain ⟨x, w, hpart⟩ := controlStep_feederPart (f := f) (s := s.onSmu fun _ => u) hp hst hf hspacing
  refine ⟨_, hexec, controlStep_feedHold (s := s.onSmu fun _ => u) hst hf hspacing, fun k => ⟨fun hlow => ⟨fun hk => ?_, fun harmed hno => ?_, fun hno => ?_⟩,
    fun hhigh => ?_⟩, hpart.low, fun hhigh hall => hpart.high hp hhigh hall, fun hquiet hhalt => ?_, fun i hholds hcut hrake hquiet hs => ?_⟩
  · obtain ⟨harmed, _, hdelay⟩ := hk
    obtain ⟨hreport, hnone⟩ := hpart.fired (k := k) ⟨harmed, hlow, hdelay⟩
    exact ⟨(hpart.stage k).trans ((Stage.tested_low hlow).1 harmed hdelay), hreport, fun i _ h1 h2 => hnone i (reachedBy_iff.mpr ⟨h1, h2⟩)⟩
  · exact (hpart.stage k).trans ((Stage.tested_low hlow).2.1 harmed fun hdelay => hno ⟨harmed, hlow, hdelay⟩)
  · exact (hpart.stage k).trans ((Stage.tested_low hlow).2.2 hno)
  · exact (hpart.stage k).trans (if_neg (Nat.not_lt.mpr hhigh))
  · obtain ⟨y, hhold⟩ := controlStep_afterHold (f := f) (s := s.onSmu fun _ => u) hp hst hf hspacing hquiet
    refine ⟨fun i => ?_, fun i => ⟨fun hholds hcut => ?_, fun hresumes hheld => ?_⟩, fun hrestore => ?_⟩
    · obtain ⟨hheld, _, hresumed, hstays⟩ := hhold.slot hp i
      split
      · next hk => exact (hheld hk.1 hk.2 (hhalt i hk.2)).1
      · next hk =>
        split
        · next hk' => exact (hresumed hk'.1 hk'.2).1
        · next hk' => exact hstays hk hk'
    · exact ((hhold.slot hp i).1 hholds hcut (hhalt i hcut)).2
    · exact ((hhold.slot hp i).2.2.1 hresumes hheld).2
    · have hgov := controlStep_governed (f := f) (s := s.onSmu fun _ => u) hp hst hf hspacing hquiet (fun _ => hhalt) hrestore
      obtain ⟨hsame, hgate⟩ := piStep_eq s.gc s.cu.offset f
      rw [hgov]
      exact ⟨congrArg (fun g : GateController => { g with capacity := s.gc.capacityNow }) hsame, hgate⟩
  · obtain ⟨y, hhold⟩ := controlStep_afterHold (f := f) (s := s.onSmu fun _ => u) hp hst hf hspacing hquiet
    have hs' : (s.onSmu fun _ => u).Consistent := (consistent_iff _).mpr (((consistent_iff s).mp hs).of_eq rfl rfl (fun _ => rfl) rfl (fun _ => rfl) rfl)
    obtain ⟨hslot, htable, hreport⟩ := (hhold.slot hp i).2.1 hholds hcut hrake hs'
    exact ⟨hslot, htable, hreport⟩

end Sys2Proof.Machine
